-- ==== Sys2Proof/Word.lean ====
section
/-! DEFINITION. The plain data types that the command syntax and the state are written with: bytes, byte strings,
sparse tables, and the small enumerations that the manual names. -/
namespace Sys2Proof

/-- One byte of the host window, of a payload or of a frame. -/
abbrev Byte := BitVec 8

/-- A byte string in ascending address order; multi-byte fields are little-endian (R2). -/
abbrev Bytes := List Byte

/-- A host window register (R385). -/
abbrev Word32 := BitVec 32

/-- A sparse table: keys strictly rising, no entry equal to what an unlisted key reads as. -/
abbrev Tab (α : Type) := List (Nat × α)

/-- A Spindle time (R4) held exactly: a count of units of 1 / (441 * 2^16 * 10^9) s, of which one MCLK cycle, one
frame and 2^-16 ns are whole numbers in both rate families. -/
abbrev Spindle := Nat

/-- The four synthesisers (R88). -/
inductive Syn where
  | msyn | vsyn | nsyn | ssyn
deriving DecidableEq, Repr

/-- The two root inputs (R80). -/
inductive RootId where
  | a | b
deriving DecidableEq, Repr

/-- The three synthesiser groups (R124). -/
inductive Group where
  | media | video | network
deriving DecidableEq, Repr

/-- The two ordering classes of a command (R399). -/
inductive OrdClass where
  | zero | one
deriving DecidableEq, Repr

/-- The reset scopes of HW_RESET (R391). -/
inductive Scope where
  | session | control | full
deriving DecidableEq, Repr

/-- A transition of a pin. -/
inductive Edge where
  | rise | fall
deriving DecidableEq, Repr

/-- The eight modes of Table AH-7 (R25). -/
inductive Mode where
  | boot | configure | freerun | acquire | locked | holdover | safe | hush
deriving DecidableEq, Repr

/-- The four roles of Table AH-9 (R30). -/
inductive Role where
  | solo | active | standby | fenced
deriving DecidableEq, Repr

/-- The three Tailstock paths of Table TW-2 (R356). -/
inductive TwinPath where
  | tsl0 | tsl1 | witness
deriving DecidableEq, Repr

/-- The supply rails of Table PW-1 (R53). -/
inductive Rail where
  | vddCore | vddAon | avdd18 | vddt09 | vddt12 | avdd33 | vddio1 | vddio2 | vddio3 | vddio4 | vddioAon
deriving DecidableEq, Repr

/-- The two Calipers sequences (R204). -/
inductive SeqId where
  | regular | injected
deriving DecidableEq, Repr

/-- The sources of a Calipers trigger that are pins (Table AD-5). -/
inductive TrigPin where
  | pwm (n : Nat) | trigIn (n : Nat)
deriving DecidableEq, Repr

end Sys2Proof
end

