-- ==== Sys2Proof/Syntax.lean ====
section
/-! DEFINITION. The commands of the block: one constructor of `Instr` for each row of the table of operations and events,
and the contents of the frames, packets and measurements that they carry. -/
namespace Sys2Proof

/-- The levels of the four straps at the instant the internal reset releases (R42). -/
structure Straps where
  /-- SLOT_SEL in millivolts (R43). -/
  slotMv : Nat
  /-- VDDIO4 in millivolts (R43). -/
  vddio4Mv : Nat
  bootSel : Bool
  ringEnd : Bool
  panelKey : Bool
deriving DecidableEq, Repr

/-- What an AES3 receiver decoded: parity and biphase errors, frames with the validity bit set, CRCC failures, and channel
status bytes 0-5 of subframe A (R349). -/
structure RxBlock where
  parity : Nat
  vframes : Nat
  crc : Nat
  cs : Bytes
deriving DecidableEq, Repr

/-- The samples that the converters' decimators hand to the crossbar in one frame, as (source slot, Q1.31 value): the
filters' responses are not in the manual (R198, R321), so the environment gives their outputs. -/
structure FrameInput where
  adc : Tab Int
  pdm : Tab Int
  /-- The audio words that the AES3 receivers decoded in this frame, oldest first and aligned to Q1.31, keyed by
  2 * receiver + subframe (R287). -/
  asrc : Tab (List Int)
  /-- What the running AES3 receivers decoded in this frame (R349). -/
  rx : List (Nat × RxBlock)
  /-- Bit n: a sample of ADCn was saturated in this frame (R211). -/
  adcOver : Nat
  /-- The codes of the eight ADCs as the direct paths receive them, cycle by cycle of MCLK (R199, R295): runs of cycles with
  the same codes, with the length of each run. -/
  codes : List (Nat × List Int)
  /-- Uncorrectable RS-FEC codewords of this frame on each network port (R188). -/
  fec : List Nat
deriving DecidableEq, Repr

/-- One sixteenth-second window of the video reference (R129). -/
structure VideoWindow where
  /-- The window of the Spindle second, 0 the coarse one. -/
  j : Nat
  /-- CLIPPED or UNSETTLED: the window is discarded. -/
  bad : Bool
  template : Bool
  /-- Window 0: how many ps after Spindle time the alignment period that the window has located begins. -/
  late : Int
  /-- The correlations of a fine window against the cosine and the sine of DDS7. -/
  icorr : Int
  qcorr : Int
deriving DecidableEq, Repr

/-- One received RTP packet over UDP/IPv4 (R174). -/
structure RtpPacket where
  dst : Nat
  src : Nat
  udp : Nat
  /-- RTP version, padding, extension, CSRC count and marker bit (R167). -/
  version : Nat
  padding : Bool
  ext : Bool
  cc : Nat
  marker : Bool
  pt : Nat
  ssrc : Nat
  seq : Nat
  ts : Nat
  payload : Bytes
deriving DecidableEq, Repr

/-- What a received frame carries, by the rows of Table NW-2. -/
inductive FrameBody where
  | arp
  | icmpEcho
  /-- IGMP query. -/
  | igmpQuery
  /-- UDP to port 319 or 320: whether its destination is 224.0.1.129, and its messageType (R156). -/
  | ptp (group : Bool) (typ : Nat)
  /-- RTP to a configured flow. -/
  | rtp (p : RtpPacket)
  /-- TCP, other UDP, other IPv4. -/
  | otherIp
  | ipv6
  /-- IEEE 802.3 pause and PFC. -/
  | pause
  | other
deriving DecidableEq, Repr

/-- A level of PANEL_KEY, and for how many ms it has stood (R46). -/
structure KeyLevel where
  level : Bool
  ms : Nat
deriving DecidableEq, Repr

/-- A candidate, and whether its signal shows a loss that no row of its own would show (R117, Table TK-1). -/
structure RefLoss where
  idx : Nat
  dark : Bool
deriving DecidableEq, Repr

/-- Block lock of a port, continuous for `ms` ms (R152). -/
structure BlockLock where
  port : Nat
  ms : Nat
deriving DecidableEq, Repr

/-- What ends a link (R152): SFPn_LOS is asserted, or block lock has been lost for `us` us. -/
structure LinkFail where
  port : Nat
  los : Bool
  us : Nat
deriving DecidableEq, Repr

/-- IPv4 source and destination. -/
structure IpPair where
  src : Nat
  dst : Nat
deriving DecidableEq, Repr

/-- An IGMP query of version 1, 2 or 3; group 0: a general query (R155). -/
structure IgmpQuery where
  version : Nat
  group : Nat
deriving DecidableEq, Repr

/-- The blocks in a row with every preamble and parity bit correct, and the frame rate in mHz (R349). -/
structure RxGood where
  milliHz : Nat
  blocks : Nat
deriving DecidableEq, Repr

/-- Frame periods without a valid preamble, and the parity and biphase errors of a block (R349). -/
structure RxBad where
  rx : Nat
  silent : Nat
  errors : Nat
deriving DecidableEq, Repr

/-- Time in ns since the management plane saw liveness of the control plane and of the data plane (R364). -/
structure Liveness where
  ctl : Nat
  data : Nat
deriving DecidableEq, Repr

/-- A received frame (Table NW-2): the VIDs of its tags, its length in bytes, and of an IPv4 packet whether it has
options, is a fragment, or fails its header checksum. -/
structure NetFrame where
  tags : List Nat
  len : Nat
  options : Bool
  fragment : Bool
  badSum : Bool
  body : FrameBody
deriving DecidableEq, Repr

/-- A frame that a port receives. -/
structure PortFrame where
  port : Nat
  frame : NetFrame
deriving DecidableEq, Repr

/-- A PTP port identity: clockIdentity and portNumber. -/
structure PortId where
  clock : Nat
  port : Nat
deriving DecidableEq, Repr

/-- The header fields of a received PTP message that the device uses (R156, R163). -/
structure PtpHeader where
  source : PortId
  domain : Nat
  seq : Nat
  /-- correctionField in ps. -/
  correction : Int
  logInterval : Int
deriving DecidableEq, Repr

/-- The fields of an Announce (R161). -/
structure Announce where
  gmId : Nat
  prio1 : Nat
  cls : Nat
  accuracy : Nat
  variance : Nat
  prio2 : Nat
  steps : Nat
  utcOffset : Int
  utcValid : Bool
  leap61 : Bool
  leap59 : Bool
  timeTraceable : Bool
  freqTraceable : Bool
  timeSource : Nat
deriving DecidableEq, Repr

/-- What one ADC converted in a slot (R191, R200). -/
structure AdcSamples where
  adc : Nat
  /-- V_REF of the pair in pV, where its reference is EXT or SUP (Table AD-3). -/
  vref : Nat
  /-- Cycles of a recovery interval left at the slot's start edge, after a saturated sample before it (R212). -/
  recov : Nat
  /-- The S + L voltages in pV: at the selected input balls, at the microphone, at the monitor node; for the diagnostic
  DAC its deviation from V_diag, and for the shorted input the ADC's own offset. -/
  values : List Int
deriving DecidableEq, Repr

/-- What a 10 ms block of the sentinel shows (R324). -/
structure SentinelBlock where
  /-- False: the audio of this block was lost (R328). -/
  audio : Bool
  /-- Level of the largest peak between 400 Hz and 3,600 Hz, dBFS. -/
  peakDb : Int
  /-- Mean level of that band, dBFS. -/
  bandDb : Int
  peakHz : Nat
  /-- An onset with energy rising by at least 20 dB within 5 ms, mostly below 500 Hz, in this block. -/
  onset : Bool
  /-- Level of the energy between 3 kHz and 7 kHz, dBFS. -/
  highDb : Int
deriving DecidableEq, Repr

/-- The fields of a valid lease frame (Table TW-3, R358). -/
structure LeaseBits where
  h : Bool
  e : Bool
  slotB : Bool
  seq : Nat
deriving DecidableEq, Repr

/-- The content of a STATE message (Table TW-5). -/
structure PeerState where
  role : Role
  mode : Mode
  hot : Bool
  leaseUs : Nat
  gen : Nat
  digest : Nat
  pendGen : Nat
  pendDigest : Nat
  pendTime : Spindle
deriving DecidableEq, Repr

/-- The content of a MIRROR message (Table TW-5). -/
structure MirrorMsg where
  /-- MSYN, VSYN and NSYN words in force, each as N * 2^48 + F. -/
  mWord : Nat
  vWord : Nat
  nWord : Nat
  /-- Tap phase of each group against the holder's own Spindle time, ps. -/
  tapMedia : Int
  tapVideo : Int
  tapNetwork : Int
  /-- Kept offsets, ps. -/
  kMedia : Int
  kVideo : Int
  kNetwork : Int
  /-- Owed moves, ps. -/
  owedMedia : Int
  owedVideo : Int
  owedNetwork : Int
  /-- Mean path delay of each port, ps (R164). -/
  mpd0 : Int
  mpd1 : Int
  /-- What the receiver measures of its own taps against its own Spindle time, ps (R360). -/
  ownMedia : Int
  ownVideo : Int
  ownNetwork : Int
deriving DecidableEq, Repr

/-- The content of a RELAY message (Table TW-5): the partner's reference with its frequency, or an FP_ACC. -/
structure RelayMsg where
  /-- Delta of the partner's selected reference (ps), with theta of the media group added, and its frequency (1e-12). -/
  ref : Option (Int × Int)
  /-- The period of that reference, ps as a fraction; none: full time. Both units hold it in the configuration they share. -/
  period : Option (Nat × Nat)
  facc : Option Nat
deriving DecidableEq, Repr

/-- What a RESYNC_DATA message carries (Table TW-5). -/
inductive ResyncBody where
  /-- A segment of the SNAPSHOT image of the committed configuration: position, whole length, bytes. -/
  | committed (pos total : Nat) (data : Bytes)
  /-- A segment of the DELTA image of the pending commit. -/
  | pending (pos total : Nat) (data : Bytes)
  /-- Ledger entries of the holder, 32 bytes each; `last` with the newest one. -/
  | ledger (entries : List Bytes) (last : Bool)
deriving DecidableEq, Repr

/-- A received ring frame (Table IG-1). The reserved header bits are those of bytes 0, 1 and 3. -/
structure RingFrame where
  rsv : Nat × Nat × Nat
  dst : Nat
  src : Nat
  typ : Nat
  hops : Nat
  len : Nat
  fseq : Nat
  payload : Bytes
  crcOk : Bool
deriving DecidableEq, Repr


/-- The 292 commands and events of spec/opcode_table.json, one constructor a row: the rows with operands in the
table's order, then those without. A row that is an
opcode of the mailbox (R420) carries the ordering class whose next waiting command starts (R399): its opcode and its
payload are those of the command slot that the device has consumed (R392, R397). -/
inductive Instr where
  /-- HOST_WINDOW_WRITE (R385). -/
  | hostWindowWrite (addr : Nat) (data : Bytes)
  /-- HW_DOORBELL (R394). -/
  | hwDoorbell (value : Word32)
  /-- HW_RSP_TAIL (R395). -/
  | hwRspTail (value : Word32)
  /-- HW_IRQ_STATUS (R390). -/
  | hwIrqStatus (value : Word32)
  /-- HW_IRQ_ENABLE (R390). -/
  | hwIrqEnable (value : Word32)
  /-- RESET_KEY_FIRST (R391). -/
  | resetKeyFirst (value : Word32)
  /-- SESSION_RESET (R67). -/
  | sessionReset (value : Word32)
  /-- CONTROL_RESET (R67). -/
  | controlReset (value : Word32)
  /-- FULL_RESET (R69). -/
  | fullReset (value : Word32)
  /-- POWER_UP (R54). -/
  | powerUp (bankHigh : List Bool)
  /-- POWER_ON_RESET_ASSERT (R55). -/
  | powerOnResetAssert (aonInRange : Bool)
  /-- SUPPLY_MONITOR_TRIP (R57). -/
  | supplyMonitorTrip (rail : Rail)
  /-- RST_N_LOW (R60). -/
  | rstNLow (ns : Nat)
  /-- INTERNAL_RESET_RELEASE (R59). -/
  | internalResetRelease (straps : Straps)
  /-- SLOT_VERIFY_COMPLETE (R469). -/
  | slotVerifyComplete (slotB : Bool) (ok : Bool)
  /-- BOOT_COMPLETE (R62). -/
  | bootComplete (selfTestOk : Bool)
  /-- PANEL_KEY_CHANGE (R46). -/
  | panelKeyChange (key : KeyLevel)
  /-- FRAME_BOUNDARY (R6). -/
  | frameBoundary (input : FrameInput)
  /-- ECC_ERROR (R14). -/
  | eccError (uncorrectable : Bool)
  /-- DIE_TEMP_SAMPLE (R486). -/
  | dieTempSample (centi : Int)
  /-- DIE_TEMPERATURE_TRIP (R486). -/
  | dieTemperatureTrip (centi : Int)
  /-- PW_HUSH (R71). -/
  | pwHush (k : OrdClass)
  /-- HUSH_EXIT_RESTART (R75). -/
  | hushExitRestart (scrubOk : Bool)
  /-- PW_DOMAIN (R77). -/
  | pwDomain (k : OrdClass)
  /-- DOMAIN_STARTUP_COMPLETE (R78). -/
  | domainStartupComplete (d : Nat)
  /-- DOMAIN_SHUTDOWN_COMPLETE (R78). -/
  | domainShutdownComplete (d : Nat)
  /-- HS_ROOT_CFG (R106). -/
  | hsRootCfg (k : OrdClass)
  /-- HS_ROOT_SELECT (R107). -/
  | hsRootSelect (k : OrdClass)
  /-- HS_SET_FRAC (R108). -/
  | hsSetFrac (k : OrdClass)
  /-- HS_SYNTH_CFG (R109). -/
  | hsSynthCfg (k : OrdClass)
  /-- HS_FREQ_OFFSET (R110). -/
  | hsFreqOffset (k : OrdClass)
  /-- HS_PHASE_MOVE (R99). -/
  | hsPhaseMove (k : OrdClass)
  /-- HS_PHASE_RAW (R111). -/
  | hsPhaseRaw (k : OrdClass)
  /-- HS_SLEW (R98). -/
  | hsSlew (k : OrdClass)
  /-- HS_SPREAD (R100). -/
  | hsSpread (k : OrdClass)
  /-- HS_TOOLREST (R113). -/
  | hsToolrest (k : OrdClass)
  /-- HS_RELOCK (R114). -/
  | hsRelock (k : OrdClass)
  /-- HS_STATUS (R115). -/
  | hsStatus (k : OrdClass)
  /-- SYNTH_LOCK_DECLARED (R90). -/
  | synthLockDeclared (syn : Syn)
  /-- SYNTH_LOCK_TIMEOUT (R91). -/
  | synthLockTimeout (syn : Syn)
  /-- SYNTH_LOSS_OF_LOCK (R91). -/
  | synthLossOfLock (syn : Syn)
  /-- PHASE_MOVE_COMPLETE (R97). -/
  | phaseMoveComplete (syn : Syn)
  /-- ROOT_DISQUALIFIED (R81). -/
  | rootDisqualified (root : RootId)
  /-- ROOT_CONDITION_CLEAR (R81). -/
  | rootConditionClear (root : RootId)
  /-- ROOT_QUALIFIED (R81). -/
  | rootQualified (root : RootId)
  /-- ROOT_RATIO_UPDATE (R82). -/
  | rootRatioUpdate (ratioDev devA devB : Int)
  /-- TOOLREST_WINDOW (R103). -/
  | toolrestWindow (out : Nat) (count : Nat)
  /-- TOOLREST_GATE_OPEN (R104). -/
  | toolrestGateOpen (out : Nat)
  /-- TK_CFG (R142). -/
  | tkCfg (k : OrdClass)
  /-- TK_CAND (R143). -/
  | tkCand (k : OrdClass)
  /-- TK_POLICY (R144). -/
  | tkPolicy (k : OrdClass)
  /-- TK_ROOT_CHAR (R145). -/
  | tkRootChar (k : OrdClass)
  /-- TK_SET_TIME (R138). -/
  | tkSetTime (k : OrdClass)
  /-- TK_LEAP (R147). -/
  | tkLeap (k : OrdClass)
  /-- TK_REF_SELECT (R148). -/
  | tkRefSelect (k : OrdClass)
  /-- TK_REALIGN (R135). -/
  | tkRealign (k : OrdClass)
  /-- TK_STATUS (R149). -/
  | tkStatus (k : OrdClass)
  /-- TK_OFFSETS (R149). -/
  | tkOffsets (k : OrdClass)
  /-- TK_CAND_STATUS (R149). -/
  | tkCandStatus (k : OrdClass)
  /-- CANDIDATE_SIGNAL_APPEAR (R120). -/
  | candidateSignalAppear (idx : Nat)
  /-- CANDIDATE_INTERVAL_EVAL (R120). -/
  | candidateIntervalEval (idx : Nat) (freq delta : Int)
  /-- CANDIDATE_QUALIFIED (R120). -/
  | candidateQualified (idx : Nat) (delta : Int)
  /-- REFERENCE_LOSS (R117). -/
  | referenceLoss (loss : RefLoss)
  /-- LOOP_UPDATE (R511). -/
  | loopUpdate (delta : Int)
  /-- HOLDOVER_UPDATE (R131). -/
  | holdoverUpdate (centi : Int)
  /-- PPS_IN_EDGE (R117). -/
  | ppsInEdge (fraction : Int)
  /-- WCLK_IN_EDGE (R350). -/
  | wclkInEdge (at_ps : Nat)
  /-- VIDEO_REF_WINDOW (R129). -/
  | videoRefWindow (w : VideoWindow)
  /-- NW_PORT_CFG (R181). -/
  | nwPortCfg (k : OrdClass)
  /-- NW_PTP_CFG (R182). -/
  | nwPtpCfg (k : OrdClass)
  /-- NW_PTP_PORT (R183). -/
  | nwPtpPort (k : OrdClass)
  /-- NW_RX_FLOW (R184). -/
  | nwRxFlow (k : OrdClass)
  /-- NW_TX_FLOW (R185). -/
  | nwTxFlow (k : OrdClass)
  /-- NW_FLOW_ENABLE (R186). -/
  | nwFlowEnable (k : OrdClass)
  /-- NW_SFP_READ (R187). -/
  | nwSfpRead (k : OrdClass)
  /-- NW_PORT_STATUS (R188). -/
  | nwPortStatus (k : OrdClass)
  /-- NW_PTP_STATUS (R188). -/
  | nwPtpStatus (k : OrdClass)
  /-- NW_FLOW_STATUS (R188). -/
  | nwFlowStatus (k : OrdClass)
  /-- SFP_MODULE_INSERTED (R152). -/
  | sfpModuleInserted (port : Nat) (identity : Bytes)
  /-- SFP_MODULE_REMOVED (R152). -/
  | sfpModuleRemoved (port : Nat)
  /-- LINK_TRAINING_ALTERNATE (R151). -/
  | linkTrainingAlternate (port : Nat)
  /-- LINK_UP (R152). -/
  | linkUp (lock : BlockLock)
  /-- LINK_DOWN (R152). -/
  | linkDown (fail : LinkFail)
  /-- MEDIA_PACKET_RECEIVED (R174). -/
  | mediaPacketReceived (port : Nat) (p : RtpPacket)
  /-- FRAME_DISCARDED (R153). -/
  | frameDiscarded (f : PortFrame)
  /-- ARP_REQUEST_RECEIVED (R154). -/
  | arpRequestReceived (port target sender senderMac : Nat)
  /-- ARP_REPLY_RECEIVED (R153). -/
  | arpReplyReceived (port ip mac : Nat)
  /-- ARP_ENTRY_AGE (R153). -/
  | arpEntryAge (port ip : Nat)
  /-- ARP_RETRY (R172). -/
  | arpRetry (port ip : Nat)
  /-- ICMP_ECHO_RECEIVED (R153). -/
  | icmpEchoReceived (port : Nat) (path : IpPair) (payload : Bytes)
  /-- IGMP_QUERY_RECEIVED (R155). -/
  | igmpQueryReceived (port : Nat) (query : IgmpQuery)
  /-- IGMP_REPORT (R155). -/
  | igmpReport (port : Nat)
  /-- PTP_SYNC_RECEIVED (R159). -/
  | ptpSyncReceived (port : Nat) (h : PtpHeader) (twoStep : Bool) (origin arrival : Int)
  /-- PTP_FOLLOW_UP_RECEIVED (R159). -/
  | ptpFollowUpReceived (port : Nat) (h : PtpHeader) (origin : Int)
  /-- PTP_ANNOUNCE_RECEIVED (R159). -/
  | ptpAnnounceReceived (port : Nat) (h : PtpHeader) (a : Announce)
  /-- PTP_DELAY_REQ_RECEIVED (R166). -/
  | ptpDelayReqReceived (port : Nat) (h : PtpHeader) (arrival : Int)
  /-- PTP_DELAY_RESP_RECEIVED (R164). -/
  | ptpDelayRespReceived (port : Nat) (h : PtpHeader) (requester : PortId) (receipt : Int)
  /-- PTP_ANNOUNCE_TIMEOUT (R117). -/
  | ptpAnnounceTimeout (port : Nat)
  /-- PTP_SYNC_DUE (R165). -/
  | ptpSyncDue (port : Nat)
  /-- PTP_ANNOUNCE_DUE (R165). -/
  | ptpAnnounceDue (port : Nat)
  /-- PTP_DELAY_REQ_DUE (R164). -/
  | ptpDelayReqDue (port : Nat) (departure : Int)
  /-- FLOW_LOST (R176). -/
  | flowLost (flow : Nat)
  /-- FLOW_PATH_LOST (R175). -/
  | flowPathLost (flow : Nat) (pathB : Bool)
  /-- AD_CFG (R217). -/
  | adCfg (k : OrdClass)
  /-- AD_PAIR_CFG (R218). -/
  | adPairCfg (k : OrdClass)
  /-- AD_SEQ_CFG (R219). -/
  | adSeqCfg (k : OrdClass)
  /-- AD_SLOT (R220). -/
  | adSlot (k : OrdClass)
  /-- AD_PRESET (R221). -/
  | adPreset (k : OrdClass)
  /-- AD_TIMER (R222). -/
  | adTimer (k : OrdClass)
  /-- AD_ALARM (R208). -/
  | adAlarm (k : OrdClass)
  /-- AD_TRIGGER (R223). -/
  | adTrigger (k : OrdClass)
  /-- AD_DIAG (R193). -/
  | adDiag (k : OrdClass)
  /-- AD_MIC_GAIN (R223). -/
  | adMicGain (k : OrdClass)
  /-- AD_CLEAR (R223). -/
  | adClear (k : OrdClass)
  /-- AD_STATUS (R224). -/
  | adStatus (k : OrdClass)
  /-- AD_RESULT (R225). -/
  | adResult (k : OrdClass)
  /-- TRIGGER_PIN_EDGE (R206). -/
  | triggerPinEdge (pin : TrigPin) (edge : Edge)
  /-- MEASUREMENT_TIMER_FIRE (R207). -/
  | measurementTimerFire (n : Nat)
  /-- SPINDLE_ALARM_FIRE (R208). -/
  | spindleAlarmFire (n : Nat)
  /-- SLOT_START (R205). -/
  | slotStart (q : SeqId)
  /-- WINDOW_PUBLISH (R202). -/
  | windowPublish (q : SeqId) (samples : List AdcSamples)
  /-- DA_OUT_CFG (R258). -/
  | daOutCfg (k : OrdClass)
  /-- DA_BANK_CFG (R259). -/
  | daBankCfg (k : OrdClass)
  /-- DA_DDS_CFG (R260). -/
  | daDdsCfg (k : OrdClass)
  /-- DA_HOLD (R235). -/
  | daHold (k : OrdClass)
  /-- DA_LOAD (R233). -/
  | daLoad (k : OrdClass)
  /-- DA_FAULT_VALUES (R262). -/
  | daFaultValues (k : OrdClass)
  /-- PS_CFG (R263). -/
  | psCfg (k : OrdClass)
  /-- PS_SEG (R264). -/
  | psSeg (k : OrdClass)
  /-- PS_SEG_WRITE (R251). -/
  | psSegWrite (k : OrdClass)
  /-- PS_SHAPE (R264). -/
  | psShape (k : OrdClass)
  /-- PS_PRESET (R252). -/
  | psPreset (k : OrdClass)
  /-- PS_LTC_ZONE (R266). -/
  | psLtcZone (k : OrdClass)
  /-- DA_STATUS (R267). -/
  | daStatus (k : OrdClass)
  /-- PS_STATUS (R267). -/
  | psStatus (k : OrdClass)
  /-- LOAD_IN_EDGE (R233). -/
  | loadInEdge (edge : Edge)
  /-- RANGE_CHANGE_END (R237). -/
  | rangeChangeEnd (dac : Nat)
  /-- SEQUENCER_START (R249). -/
  | sequencerStart (n : Nat)
  /-- SEGMENT_ENTRY (R247). -/
  | segmentEntry (n : Nat)
  /-- LTC_FRAME_WRITE (R255). -/
  | ltcFrameWrite (n : Nat)
  /-- DG_CLK_CFG (R336). -/
  | dgClkCfg (k : OrdClass)
  /-- DG_PPS_CFG (R341). -/
  | dgPpsCfg (k : OrdClass)
  /-- DG_TX_CFG (R344). -/
  | dgTxCfg (k : OrdClass)
  /-- DG_CS_RAW (R353). -/
  | dgCsRaw (k : OrdClass)
  /-- DG_RX_CFG (R349). -/
  | dgRxCfg (k : OrdClass)
  /-- DG_CLK_STATUS (R354). -/
  | dgClkStatus (k : OrdClass)
  /-- DG_RX_STATUS (R354). -/
  | dgRxStatus (k : OrdClass)
  /-- CLOCK_OUTPUT_REPHASE (R340). -/
  | clockOutputRephase (out : Nat)
  /-- PPS_OUT_PULSE (R341). -/
  | ppsOutPulse (edge : Edge)
  /-- AES3_RX_LOCK (R349). -/
  | aes3RxLock (rx : Nat) (good : RxGood)
  /-- AES3_RX_LOSS (R349). -/
  | aes3RxLoss (bad : RxBad)
  /-- XB_ROUTE (R301). -/
  | xbRoute (k : OrdClass)
  /-- XB_DP_CFG (R295). -/
  | xbDpCfg (k : OrdClass)
  /-- XB_DP_SET (R302). -/
  | xbDpSet (k : OrdClass)
  /-- TE_CFG (R303). -/
  | teCfg (k : OrdClass)
  /-- TE_OPS (R304). -/
  | teOps (k : OrdClass)
  /-- TE_OPERANDS (R304). -/
  | teOperands (k : OrdClass)
  /-- TE_COEF_INIT (R304). -/
  | teCoefInit (k : OrdClass)
  /-- TE_COEF (R294). -/
  | teCoef (k : OrdClass)
  /-- TE_ENABLE (R305). -/
  | teEnable (k : OrdClass)
  /-- TE_GAIN_DB (R305). -/
  | teGainDb (k : OrdClass)
  /-- TE_EQ_BAND (R306). -/
  | teEqBand (k : OrdClass)
  /-- TE_DELAY_SET (R305). -/
  | teDelaySet (k : OrdClass)
  /-- TE_PRESET (R307). -/
  | tePreset (k : OrdClass)
  /-- TE_STATUS (R308). -/
  | teStatus (k : OrdClass)
  /-- TE_METER_READ (R309). -/
  | teMeterRead (k : OrdClass)
  /-- ENGINE_FRAME_OVERRUN (R291). -/
  | engineFrameOverrun (eng : Nat) (doneOps : Nat)
  /-- ASRC_LOCK (R287). -/
  | asrcLock (rx : Nat) (ratio : Nat)
  /-- FP_HP_CFG (R331). -/
  | fpHpCfg (k : OrdClass)
  /-- FP_HP_ENABLE (R312). -/
  | fpHpEnable (k : OrdClass)
  /-- FP_HP_ATTEN_SET (R311). -/
  | fpHpAttenSet (k : OrdClass)
  /-- FP_JACK_CFG (R332). -/
  | fpJackCfg (k : OrdClass)
  /-- FP_IDENTIFY (R318). -/
  | fpIdentify (k : OrdClass)
  /-- FP_PDM_CFG (R333). -/
  | fpPdmCfg (k : OrdClass)
  /-- SN_CFG (R334). -/
  | snCfg (k : OrdClass)
  /-- SN_ACK (R326). -/
  | snAck (k : OrdClass)
  /-- FP_STATUS (R335). -/
  | fpStatus (k : OrdClass)
  /-- SN_STATUS (R335). -/
  | snStatus (k : OrdClass)
  /-- JACK_DET_CHANGE (R314). -/
  | jackDetChange (level : Bool)
  /-- IDENTIFICATION_COMPLETE (R317). -/
  | identificationComplete (biasA biasB : Nat) (loadOhm : Nat)
  /-- BUTTON_WINDOW (R319). -/
  | buttonWindow (minUa maxUa : Nat)
  /-- SENTINEL_BLOCK (R324). -/
  | sentinelBlock (b : SentinelBlock)
  /-- TW_CFG (R380). -/
  | twCfg (k : OrdClass)
  /-- TW_SWAP (R381). -/
  | twSwap (k : OrdClass)
  /-- TW_FORCE_SOLO (R382). -/
  | twForceSolo (k : OrdClass)
  /-- TW_RESYNC (R382). -/
  | twResync (k : OrdClass)
  /-- TW_STATUS (R383). -/
  | twStatus (k : OrdClass)
  /-- RENEW_DUE (R364). -/
  | renewDue (live : Liveness)
  /-- RENEW (R365). -/
  | leaseRenew (path : TwinPath) (f : LeaseBits)
  /-- ACK (R366). -/
  | leaseAck (path : TwinPath) (f : LeaseBits)
  /-- RELEASE (R367). -/
  | leaseRelease (path : TwinPath) (f : LeaseBits)
  /-- WAIVE (R368). -/
  | leaseWaive (path : TwinPath) (f : LeaseBits)
  /-- NULL (R370). -/
  | leaseNull (path : TwinPath) (f : LeaseBits)
  /-- PATH_SERVICE_CHANGE (R357). -/
  | pathServiceChange (path : TwinPath) (delay : Nat)
  /-- TIME (R360). -/
  | twTime (lane : Nat) (level : Nat) (t1 t2 t3 t4 : Int)
  /-- STATE (R362). -/
  | twState (lane : Nat) (level : Nat) (m : PeerState)
  /-- MIRROR (R135). -/
  | twMirror (lane : Nat) (level : Nat) (m : MirrorMsg)
  /-- RELAY (R118). -/
  | twRelay (lane : Nat) (level : Nat) (m : RelayMsg)
  /-- LEDGER (R466). -/
  | twLedger (lane : Nat) (level : Nat) (entry : Bytes)
  /-- SWAP_REQ (R381). -/
  | twSwapReq (lane : Nat) (level : Nat) (at_time : Nat)
  /-- SWAP_ACK (R381). -/
  | twSwapAck (lane : Nat) (level : Nat) (at_time : Nat) (accept : Bool)
  /-- RESYNC_REQ (R376). -/
  | resyncReq (lane : Nat) (level : Nat) (gen : Nat) (digest : Nat) (lastWserial : Nat)
  /-- RESYNC_DATA (R376). -/
  | resyncData (lane : Nat) (level : Nat) (d : ResyncBody)
  /-- IG_CFG (R436). -/
  | igCfg (k : OrdClass)
  /-- IG_EVT_SET (R435). -/
  | igEvtSet (k : OrdClass)
  /-- IG_DELAY_SET (R438). -/
  | igDelaySet (k : OrdClass)
  /-- IG_STATUS (R448). -/
  | igStatus (k : OrdClass)
  /-- IG_SNAP_READ (R448). -/
  | igSnapRead (k : OrdClass)
  /-- RING_FRAME_FORWARD (R426). -/
  | ringFrameForward (f : RingFrame)
  /-- ENUMERATE (R428). -/
  | ringEnumerate (f : RingFrame)
  /-- RING_RESET (R431). -/
  | ringReset (f : RingFrame)
  /-- COMMAND (R432). -/
  | ringCommand (f : RingFrame)
  /-- WREAD (R433). -/
  | ringWread (f : RingFrame)
  /-- WWRITE (R433). -/
  | ringWwrite (f : RingFrame)
  /-- DOORBELL (R434). -/
  | ringDoorbell (f : RingFrame)
  /-- RESET (R434). -/
  | ringResetFrame (f : RingFrame)
  /-- BARRIER (R439). -/
  | ringBarrier (f : RingFrame)
  /-- SNAPSHOT (R440). -/
  | ringSnapshot (f : RingFrame)
  /-- RING_TIME (R437). -/
  | ringTime (f : RingFrame) (arrival departure : Nat)
  /-- MB_HELLO (R419). -/
  | mbHello (k : OrdClass)
  /-- MB_DRAIN (R419). -/
  | mbDrain (k : OrdClass)
  /-- MB_STAGE_BEGIN (R402). -/
  | mbStageBegin (k : OrdClass)
  /-- MB_STAGE_ABORT (R419). -/
  | mbStageAbort (k : OrdClass)
  /-- MB_COMMIT (R403). -/
  | mbCommit (k : OrdClass)
  /-- MB_CANCEL (R407). -/
  | mbCancel (k : OrdClass)
  /-- MB_IMAGE_LOAD (R408). -/
  | mbImageLoad (k : OrdClass)
  /-- MB_SUMMARY (R419). -/
  | mbSummary (k : OrdClass)
  /-- MB_CONFIG_STATUS (R419). -/
  | mbConfigStatus (k : OrdClass)
  /-- PT_PROPOSE (R458). -/
  | ptPropose (k : OrdClass)
  /-- PT_CONFIRM (R458). -/
  | ptConfirm (k : OrdClass)
  /-- PT_WITHDRAW (R458). -/
  | ptWithdraw (k : OrdClass)
  /-- CREDENTIAL_SLOT_UNLOCK (R454). -/
  | credentialSlotUnlock (slot : Nat)
  /-- LG_EXPORT (R465). -/
  | lgExport (k : OrdClass)
  /-- LG_FLUSH (R478). -/
  | lgFlush (k : OrdClass)
  /-- PT_FW_WRITE (R470). -/
  | ptFwWrite (k : OrdClass)
  /-- PT_FW_ACTIVATE (R470). -/
  | ptFwActivate (k : OrdClass)
  /-- PT_ZEROISE (R474). -/
  | ptZeroise (k : OrdClass)
  /-- PT_STATUS (R480). -/
  | ptStatus (k : OrdClass)
  /-- LG_STATUS (R480). -/
  | lgStatus (k : OrdClass)
  /-- REF_SETTLED (R195). -/
  | refSettled (pair : Nat)
  /-- VREF_IN_RANGE_CHANGE (R195). -/
  | vrefInRangeChange (inRange : Bool)
  /-- HP_CURRENT_LIMIT (R310). -/
  | hpCurrentLimit (right : Bool)
  /-- BOOT_ROOT_ACTIVITY (R62). -/
  | bootRootActivity (a b : Bool)
  /-- MB_RESET_DONE (R414). -/
  | mbResetDone
  /-- COMMIT_LIVE (R10). -/
  | commitLive
  /-- FAULT_CODE_LOAD (R238). -/
  | faultCodeLoad
  /-- LOCKSTEP_MISMATCH (R14). -/
  | lockstepMismatch
  /-- WATCHDOG_EXPIRY (R14). -/
  | watchdogExpiry
  /-- SCRUB_CRC_FAILURE (R14). -/
  | scrubCrcFailure
  /-- HUSH_ENTRY_COMPLETE (R72). -/
  | hushEntryComplete
  /-- HUSH_WAKE (R74). -/
  | hushWake
  /-- DATA_PLANE_RESTART (R92). -/
  | dataPlaneRestart
  /-- ROOT_REVERT (R83). -/
  | rootRevert
  /-- ACQUISITION_COMPLETE (R128). -/
  | acquisitionComplete
  /-- HOLDOVER_AGED (R132). -/
  | holdoverAged
  /-- LEAP_APPLIED (R139). -/
  | leapApplied
  /-- GRATUITOUS_ARP (R154). -/
  | gratuitousArp
  /-- MEDIA_PACKET_DUE (R172). -/
  | mediaPacketDue
  /-- FAULT_VALUES_FLASH_WRITE (R238). -/
  | faultValuesFlashWrite
  /-- METER_WINDOW_END (R286). -/
  | meterWindowEnd
  /-- HP_ENABLE_COMPLETE (R312). -/
  | hpEnableComplete
  /-- HP_DISABLE_COMPLETE (R312). -/
  | hpDisableComplete
  /-- HP_SAFE_OFF (R313). -/
  | hpSafeOff
  /-- JACK_CONFIRMED (R314). -/
  | jackConfirmed
  /-- HP_CLAMP_RELEASE (R314). -/
  | hpClampRelease
  /-- MICBIAS_FENCE_OFF (R316). -/
  | micbiasFenceOff
  /-- MICBIAS_FENCE_ON (R316). -/
  | micbiasFenceOn
  /-- BUTTON_DECLARED (R319). -/
  | buttonDeclared
  /-- ALARM_OUT_HOLD_EXPIRY (R326). -/
  | alarmOutHoldExpiry
  /-- LEASE_END (R366). -/
  | leaseEnd
  /-- EXPIRY_TAKEOVER (R367). -/
  | expiryTakeover
  /-- ARBITRATION_CLAIM (R367). -/
  | arbitrationClaim
  /-- PARTING_TOOL_TRIP (R371). -/
  | partingToolTrip
  /-- TWIN_MS_TICK (R359). -/
  | twinMsTick
  /-- SWAP_INSTANT (R381). -/
  | swapInstant
  /-- SWAP_TAKE_TIMEOUT (R377). -/
  | swapTakeTimeout
  /-- RESYNC_COMMIT (R376). -/
  | resyncCommit
  /-- TW_HOT_TIMEOUT (R360). -/
  | twHotTimeout
  /-- RING_RESET_COMPLETE (R431). -/
  | ringResetComplete
  /-- BARRIER_RELEASE (R439). -/
  | ringBarrierRelease
  /-- BARRIER_TIMEOUT (R439). -/
  | ringBarrierTimeout
  /-- SNAPSHOT_CAPTURE (R440). -/
  | snapshotCapture
  /-- RING_TIME_DUE (R436). -/
  | ringTimeDue
  /-- EVENT (R435). -/
  | ringEvent
  /-- JOIN (R429). -/
  | ringJoin
  /-- IGR_IN_UP (R422). -/
  | igrInUp
  /-- IGR_IN_DOWN (R422). -/
  | igrInDown
  /-- BREAK (R435). -/
  | ringBreak
  /-- PROPOSAL_EXPIRY (R458). -/
  | proposalExpiry
  /-- LEDGER_ENTRY_CLOSE (R462). -/
  | ledgerEntryClose
  /-- LEDGER_FLASH_WRITE (R463). -/
  | ledgerFlashWrite
  /-- LEDGER_SECTOR_ERASE (R465). -/
  | ledgerSectorErase
deriving DecidableEq, Repr

end Sys2Proof
end

