-- ==== Sys2Proof/Machine/Bytes.lean ====
section
/-! DEFINITION. Byte strings and bit fields: little-endian fields (R2) read from payloads and written to results, signed
fields, saturation and clamping, CRCs. -/
namespace Sys2Proof.Machine

/-- Byte `i` of a string as a number, 0 past its end. -/
def u8 : Bytes → Nat → Nat
  | [], _ => 0
  | b :: _, 0 => b.toNat
  | _ :: bs, i + 1 => u8 bs i

/-- The little-endian number of `n` bytes from byte `i` (R2). -/
def uN (p : Bytes) (i : Nat) : Nat → Nat
  | 0 => 0
  | n + 1 => u8 p i + 256 * uN p (i + 1) n

def u16 (p : Bytes) (i : Nat) : Nat := uN p i 2
def u32 (p : Bytes) (i : Nat) : Nat := uN p i 4
def u48 (p : Bytes) (i : Nat) : Nat := uN p i 6
def u64 (p : Bytes) (i : Nat) : Nat := uN p i 8

/-- The two's complement value of the low `w` bits of `n`. -/
def toSigned (w n : Nat) : Int :=
  let m := n % 2 ^ w
  if 2 * m < 2 ^ w then (m : Int) else (m : Int) - (2 ^ w : Nat)

def i8 (p : Bytes) (i : Nat) : Int := toSigned 8 (u8 p i)
def i16 (p : Bytes) (i : Nat) : Int := toSigned 16 (u16 p i)
def i32 (p : Bytes) (i : Nat) : Int := toSigned 32 (u32 p i)
def i64 (p : Bytes) (i : Nat) : Int := toSigned 64 (u64 p i)

/-- Bits `hi` down to `lo` of payload byte `i`, written `i[hi:lo]` in the field maps (R105). -/
def fld (p : Bytes) (i hi lo : Nat) : Nat := u8 p i / 2 ^ lo % 2 ^ (hi + 1 - lo)

/-- Bit `b` of payload byte `i`. -/
def bit (p : Bytes) (i b : Nat) : Bool := u8 p i / 2 ^ b % 2 == 1

/-- Bit `b` of a number. -/
def nbit (n b : Nat) : Bool := n / 2 ^ b % 2 == 1

/-- `n` bytes, little-endian, of a number taken modulo their range. -/
def le : Nat → Nat → Bytes
  | 0, _ => []
  | n + 1, v => BitVec.ofNat 8 v :: le n (v / 256)

/-- `n` bytes, big-endian. -/
def be (n v : Nat) : Bytes := (le n v).reverse

/-- `n` bytes, little-endian, of a signed number in two's complement. -/
def leInt (n : Nat) (v : Int) : Bytes := le n (v % (2 ^ (8 * n) : Nat)).toNat

/-- The big-endian number of a byte string. -/
def ofBe (p : Bytes) : Nat := p.foldl (fun a b => 256 * a + b.toNat) 0

/-- `n` zero bytes. -/
def zeros (n : Nat) : Bytes := List.replicate n 0

/-- The first `n` bytes, with zeros after the end. -/
def padTo (n : Nat) (p : Bytes) : Bytes := (p ++ zeros (n - p.length)).take n

/-- The `n` bytes from byte `i`. -/
def slice (p : Bytes) (i n : Nat) : Bytes := (p.drop i).take n

def b2n (b : Bool) : Nat := if b then 1 else 0

/-- A saturating counter of `w` bits. -/
def satInc (w n : Nat) : Nat := if n + 1 < 2 ^ w then n + 1 else 2 ^ w - 1

/-- `v` limited to the range of a signed number of `w` bits (R231, R281). -/
def satInt (w : Nat) (v : Int) : Int :=
  if v < -(2 ^ (w - 1) : Nat) then -(2 ^ (w - 1) : Nat)
  else if v ≥ (2 ^ (w - 1) : Nat) then (2 ^ (w - 1) : Nat) - 1 else v

/-- `v` limited to `lo .. hi`. -/
def clampInt (lo hi v : Int) : Int := if v < lo then lo else if v > hi then hi else v

/-- `a / b` rounded to nearest, ties away from zero, for `b > 0`. -/
def roundDiv (a : Int) (b : Nat) : Int :=
  if a ≥ 0 then (2 * a + b) / (2 * b) else -((2 * (-a) + b) / (2 * b))

/-- Bits of a list of Booleans, the first the least significant. -/
def packBits : List Bool → Nat
  | [] => 0
  | b :: bs => b2n b + 2 * packBits bs

/-- One step of the Ethernet CRC-32 in reflected form. -/
def crc32Bit (c : Nat) : Nat := if c % 2 = 1 then Nat.xor (c / 2) 0xEDB88320 else c / 2

/-- Eight steps, for one byte. -/
def crc32Byte (c : Nat) (b : Byte) : Nat :=
  crc32Bit (crc32Bit (crc32Bit (crc32Bit (crc32Bit (crc32Bit (crc32Bit (crc32Bit (Nat.xor c b.toNat))))))))

/-- CRC-32 with the Ethernet polynomial (R359, R424, R468). -/
def crc32 (p : Bytes) : Nat := Nat.xor (p.foldl crc32Byte 0xFFFFFFFF) 0xFFFFFFFF

/-- One step of a CRC-8 of polynomial `poly`, most significant bit first. -/
def crc8Bit (poly c : Nat) : Nat := if c ≥ 128 then Nat.xor (2 * c % 256) poly else 2 * c

/-- CRC-8 over the `n` low bits of `v`, most significant first, from `c`. -/
def crc8 (poly v : Nat) : Nat → Nat → Nat
  | 0, c => c
  | n + 1, c => crc8 poly v n (crc8Bit poly (Nat.xor c (if nbit v n then 128 else 0)))

end Sys2Proof.Machine
end

