-- ==== Sys2Proof/Machine/Fixed.lean ====
section
/-! DEFINITION. Exact and fixed-point arithmetic for the few places where the manual names a root, a power of ten or a
trigonometric function (R242, R252, R283, R305, R306): integer roots are exact, series carry 128 fraction bits. -/
namespace Sys2Proof.Machine

/-- The largest `r + 2^i - 1`-bounded root: bit by bit, the largest number whose square is at most `n`. -/
def isqrtGo (n : Nat) : Nat → Nat → Nat
  | 0, r => r
  | i + 1, r => if (r + 2 ^ i) * (r + 2 ^ i) ≤ n then isqrtGo n i (r + 2 ^ i) else isqrtGo n i r

/-- floor of the square root of `n`, for `n` below 2^512. Log entry 37 (DESIGN CHOICE). -/
def isqrt (n : Nat) : Nat := isqrtGo n 256 0

/-- The largest `r` below 2^`i` more than the start with `(2r - 1)^k * den <= num`: the root rounded to nearest. -/
def rootGo (k num den : Nat) : Nat → Nat → Nat
  | 0, r => r
  | i + 1, r =>
    let c := r + 2 ^ i
    if (2 * c - 1) ^ k * den ≤ num then rootGo k num den i c else rootGo k num den i r

/-- round(2^29 * 10^(cdb / 2000)) for a gain in 0.01 dB (R305). Log entry 37 (DESIGN CHOICE). -/
def gainWord (cdb : Int) : Nat :=
  if cdb ≥ 0 then rootGo 2000 (2 ^ (30 * 2000) * 10 ^ cdb.toNat) 1 32 0
  else rootGo 2000 (2 ^ (30 * 2000)) (10 ^ (-cdb).toNat) 32 0

/-- round(32767 * 10^(-lvl / 200)) (Table DA-6). -/
def tonePeak (lvl : Nat) : Nat := rootGo 200 (65534 ^ 200) (10 ^ lvl) 16 0

/-- One, pi and ln 10 with 128 fraction bits. -/
def fxOne : Int := (2 ^ 128 : Nat)
def fxPi : Int := 1069028584064966747859680373161870783300
def fxLn10 : Int := 783529105480883066805338482703447369891

def fxMul (a b : Int) : Int := a * b / fxOne
def fxDiv (a b : Int) : Int := if b = 0 then 0 else a * fxOne / b

/-- The sum of a power series whose next term is the last one times `q` over the product of the next `step` counts. -/
def fxSeries (q : Int) (step : Nat) : Nat → Nat → Int → Int → Int
  | 0, _, _, acc => acc
  | k + 1, n, term, acc =>
    let d : Nat := if step = 1 then n + 1 else (n + 1) * (n + 2)
    let t := fxMul term q / (d : Int)
    fxSeries q step k (n + step) t (acc + t)

/-- Log entry 37 (DESIGN CHOICE). -/
def fxSin (x : Int) : Int := fxSeries (-(fxMul x x)) 2 40 1 x x
/-- Log entry 37 (DESIGN CHOICE). -/
def fxCos (x : Int) : Int := fxSeries (-(fxMul x x)) 2 40 0 fxOne fxOne
/-- Log entry 37 (DESIGN CHOICE). -/
def fxExp (x : Int) : Int := fxSeries x 1 80 0 fxOne fxOne
def fxSqrt (x : Int) : Int := (isqrt (x.toNat * 2 ^ 128) : Nat)

/-- A vector scaled down until both parts lie below 2^129. -/
def scaleDown (x y : Int) : Int × Int :=
  let n := Nat.log2 (Nat.max x.natAbs y.natAbs) - 128
  (x / (2 ^ n : Nat), y / (2 ^ n : Nat))

/-- `n` bits of the angle of a vector in turns: the top bit says whether it lies in the lower half plane; squaring the
complex number doubles the angle. -/
def turnBits : Nat → Nat → Int → Int → Nat
  | 0, acc, _, _ => acc
  | n + 1, acc, x, y =>
    let low := decide (y < 0) || (decide (y = 0) && decide (x < 0))
    let z := scaleDown (x * x - y * y) (2 * x * y)
    turnBits n (2 * acc + b2n low) z.1 z.2

/-- atan2(y, x) in turns, as a fraction of 2^48 (R129). Log entry 37 (DESIGN CHOICE). -/
def turnOf (y x : Int) : Nat := turnBits 48 0 (x * fxOne) (y * fxOne)

/-- A fixed-point number times a power of two, rounded to the nearest integer, ties to even. -/
def fxRound (m : Nat) (x : Int) : Int :=
  let v := x * (m : Int)
  let q := v / fxOne
  let r := v % fxOne
  if 2 * r < fxOne then q else if 2 * r > fxOne then q + 1 else if q % 2 = 0 then q else q + 1

end Sys2Proof.Machine
end

