-- ==== Sys2Proof/Config.lean ====
section
/-! DEFINITION. What one implementation fixes and the manual leaves open: constants without a body, so that no proof can
see their values. -/
namespace Sys2Proof.Config

/-- The free values: the n-th value drawn where the manual gives no value (log entry 3). -/
opaque freeNat : Nat → Nat

/-- The fuses: unit MAC address (R154) and unit identity (R162), 64 bits each at most. Log entry 80 (DESIGN CHOICE). -/
opaque unitMac : Nat
/-- Log entry 80 (DESIGN CHOICE). -/
opaque unitIdentity : Nat

/-- The silicon revision that HW_ID reports: letter and digit (R52, Table MB-4). Log entry 80 (DESIGN CHOICE). -/
opaque revLetter : Byte
/-- Log entry 80 (DESIGN CHOICE). -/
opaque revDigit : Byte

/-- The SHA-384 digests of the firmware public keys held in fuses (R469). Log entry 80 (DESIGN CHOICE). -/
opaque fuseKeyDigest : Nat → Bytes

/-- The frequency responses of the decimators, interpolators and ASRCs are not in the manual (R198, R230, R287): what an
interpolator gives in one MCLK cycle of a frame, in codes, from its samples per frame, the cycle, and the samples that it
holds. Log entry 3 (DESIGN CHOICE). Log entry 36 (DESIGN CHOICE). -/
opaque filterValue : Nat → Nat → List Int → Int

/-- What an ASRC gives for one sample, before saturation, from its ratio, the sample's number in the frame, and the samples
of the ring that its buffer and its filter span (R287). Log entry 3 (DESIGN CHOICE). Log entry 36 (DESIGN CHOICE). -/
opaque asrcValue : Nat → Nat → List Int → Int

/-- What Tables DA-5 to DA-7 do not give of the video presets 0x01-0x0F, by preset and segment: the length of a level whose
time is in no table, in ps; how often a line group repeats in a field; and the vertical pulse whose leading edge begins
line 1 of field 1 of a black burst. Log entry 80 (DESIGN CHOICE). -/
opaque videoTime : Nat → Nat → Nat
opaque videoRepeat : Nat → Nat → Nat
opaque videoLineOne : Nat → Nat

/-- Whether a tap is high at a place of its cycle, in 2^-16 cycle: the manual gives no duty cycle of the taps (R336).
Log entry 112 (DESIGN CHOICE). -/
opaque tapHigh : Nat → Nat → Bool

/-- The command-set level, as 16 * major + minor, at which an opcode or one of the field values of its payload was introduced:
the manual names no such level (R445). Log entry 13 (DESIGN CHOICE). -/
opaque introLevel : Nat → Bytes → Nat

end Sys2Proof.Config
end

