-- ==== Sys2Proof/Machine/Crypto.lean ====
section
/-! DEFINITION. SHA-256 and SHA-384 (FIPS 180-4), HMAC-SHA-256 and ECDSA P-384 verification: the algorithms that R410,
R452, R458, R459, R469 and R472 name. Words are numbers below 2^32 or 2^64. -/
namespace Sys2Proof.Machine

/-- Round constants of SHA-256. -/
def shaK256 : List Nat :=
  [0x428a2f98, 0x71374491, 0xb5c0fbcf, 0xe9b5dba5, 0x3956c25b, 0x59f111f1, 0x923f82a4, 0xab1c5ed5] ++
  [0xd807aa98, 0x12835b01, 0x243185be, 0x550c7dc3, 0x72be5d74, 0x80deb1fe, 0x9bdc06a7, 0xc19bf174] ++
  [0xe49b69c1, 0xefbe4786, 0x0fc19dc6, 0x240ca1cc, 0x2de92c6f, 0x4a7484aa, 0x5cb0a9dc, 0x76f988da] ++
  [0x983e5152, 0xa831c66d, 0xb00327c8, 0xbf597fc7, 0xc6e00bf3, 0xd5a79147, 0x06ca6351, 0x14292967] ++
  [0x27b70a85, 0x2e1b2138, 0x4d2c6dfc, 0x53380d13, 0x650a7354, 0x766a0abb, 0x81c2c92e, 0x92722c85] ++
  [0xa2bfe8a1, 0xa81a664b, 0xc24b8b70, 0xc76c51a3, 0xd192e819, 0xd6990624, 0xf40e3585, 0x106aa070] ++
  [0x19a4c116, 0x1e376c08, 0x2748774c, 0x34b0bcb5, 0x391c0cb3, 0x4ed8aa4a, 0x5b9cca4f, 0x682e6ff3] ++
  [0x748f82ee, 0x78a5636f, 0x84c87814, 0x8cc70208, 0x90befffa, 0xa4506ceb, 0xbef9a3f7, 0xc67178f2]

/-- Round constants of SHA-384. -/
def shaK512 : List Nat :=
  [0x428a2f98d728ae22, 0x7137449123ef65cd, 0xb5c0fbcfec4d3b2f, 0xe9b5dba58189dbbc, 0x3956c25bf348b538, 0x59f111f1b605d019, 0x923f82a4af194f9b, 0xab1c5ed5da6d8118] ++
  [0xd807aa98a3030242, 0x12835b0145706fbe, 0x243185be4ee4b28c, 0x550c7dc3d5ffb4e2, 0x72be5d74f27b896f, 0x80deb1fe3b1696b1, 0x9bdc06a725c71235, 0xc19bf174cf692694] ++
  [0xe49b69c19ef14ad2, 0xefbe4786384f25e3, 0x0fc19dc68b8cd5b5, 0x240ca1cc77ac9c65, 0x2de92c6f592b0275, 0x4a7484aa6ea6e483, 0x5cb0a9dcbd41fbd4, 0x76f988da831153b5] ++
  [0x983e5152ee66dfab, 0xa831c66d2db43210, 0xb00327c898fb213f, 0xbf597fc7beef0ee4, 0xc6e00bf33da88fc2, 0xd5a79147930aa725, 0x06ca6351e003826f, 0x142929670a0e6e70] ++
  [0x27b70a8546d22ffc, 0x2e1b21385c26c926, 0x4d2c6dfc5ac42aed, 0x53380d139d95b3df, 0x650a73548baf63de, 0x766a0abb3c77b2a8, 0x81c2c92e47edaee6, 0x92722c851482353b] ++
  [0xa2bfe8a14cf10364, 0xa81a664bbc423001, 0xc24b8b70d0f89791, 0xc76c51a30654be30, 0xd192e819d6ef5218, 0xd69906245565a910, 0xf40e35855771202a, 0x106aa07032bbd1b8] ++
  [0x19a4c116b8d2d0c8, 0x1e376c085141ab53, 0x2748774cdf8eeb99, 0x34b0bcb5e19b48a8, 0x391c0cb3c5c95a63, 0x4ed8aa4ae3418acb, 0x5b9cca4f7763e373, 0x682e6ff3d6b2b8a3] ++
  [0x748f82ee5defb2fc, 0x78a5636f43172f60, 0x84c87814a1f0ab72, 0x8cc702081a6439ec, 0x90befffa23631e28, 0xa4506cebde82bde9, 0xbef9a3f7b2c67915, 0xc67178f2e372532b] ++
  [0xca273eceea26619c, 0xd186b8c721c0c207, 0xeada7dd6cde0eb1e, 0xf57d4f7fee6ed178, 0x06f067aa72176fba, 0x0a637dc5a2c898a6, 0x113f9804bef90dae, 0x1b710b35131c471b] ++
  [0x28db77f523047d84, 0x32caab7b40c72493, 0x3c9ebe0a15c9bebc, 0x431d67c49c100d4c, 0x4cc5d4becb3e42b6, 0x597f299cfc657e2a, 0x5fcb6fab3ad6faec, 0x6c44198c4a475817]

/-- Initial hash value of SHA-256. -/
def shaH256 : List Nat :=
  [0x6a09e667, 0xbb67ae85, 0x3c6ef372, 0xa54ff53a, 0x510e527f, 0x9b05688c, 0x1f83d9ab, 0x5be0cd19]

/-- Initial hash value of SHA-384. -/
def shaH384 : List Nat :=
  [0xcbbb9d5dc1059ed8, 0x629a292a367cd507, 0x9159015a3070dd17, 0x152fecd8f70e5939, 0x67332667ffc00b31, 0x8eb44a8768581511, 0xdb0c2e0d64f98fa7, 0x47b5481dbefa4fa4]

/-- The parameters in which SHA-256 and SHA-384 differ: word bits and the rotation amounts. -/
structure ShaParams where
  w : Nat
  s0 : Nat × Nat × Nat
  s1 : Nat × Nat × Nat
  e0 : Nat × Nat × Nat
  e1 : Nat × Nat × Nat

def sha256Params : ShaParams := ⟨32, (7, 18, 3), (17, 19, 10), (2, 13, 22), (6, 11, 25)⟩
def sha384Params : ShaParams := ⟨64, (1, 8, 7), (19, 61, 6), (28, 34, 39), (14, 18, 41)⟩

/-- Rotation of a `w`-bit word to the right. -/
def rotr (w n x : Nat) : Nat := x / 2 ^ n + x % 2 ^ n * 2 ^ (w - n)

/-- The small sigma functions: two rotations and a shift. -/
def smallSigma (w : Nat) (r : Nat × Nat × Nat) (x : Nat) : Nat :=
  Nat.xor (Nat.xor (rotr w r.1 x) (rotr w r.2.1 x)) (x / 2 ^ r.2.2)

/-- The large sigma functions: three rotations. -/
def largeSigma (w : Nat) (r : Nat × Nat × Nat) (x : Nat) : Nat :=
  Nat.xor (Nat.xor (rotr w r.1 x) (rotr w r.2.1 x)) (rotr w r.2.2 x)

def shaCh (w x y z : Nat) : Nat := Nat.xor (Nat.land x y) (Nat.land (2 ^ w - 1 - x) z)
def shaMaj (x y z : Nat) : Nat := Nat.xor (Nat.xor (Nat.land x y) (Nat.land x z)) (Nat.land y z)

/-- One round on the eight working words with the round constant `k` and message word `m`. -/
def shaRound (q : ShaParams) (v : List Nat) (k m : Nat) : List Nat :=
  match v with
  | [a, b, c, d, e, f, g, h] =>
    let t1 := h + largeSigma q.w q.e1 e + shaCh q.w e f g + k + m
    let t2 := largeSigma q.w q.e0 a + shaMaj a b c
    [(t1 + t2) % 2 ^ q.w, a, b, c, (d + t1) % 2 ^ q.w, e, f, g]
  | _ => v

/-- The rounds over the constants, with the sliding window of the last sixteen message words. -/
def shaRounds (q : ShaParams) : List Nat → List Nat → List Nat → List Nat
  | [], _, v => v
  | k :: ks, win, v =>
    let m := win.headD 0
    let nw := (smallSigma q.w q.s1 (win.getD 14 0) + win.getD 9 0 + smallSigma q.w q.s0 (win.getD 1 0) + m) % 2 ^ q.w
    shaRounds q ks (win.tail ++ [nw]) (shaRound q v k m)

/-- The big-endian words of a block. -/
def shaWords (bytes : Nat) : Nat → Bytes → List Nat
  | 0, _ => []
  | n + 1, p => ofBe (p.take bytes) :: shaWords bytes n (p.drop bytes)

/-- The hash of `n` blocks. -/
def shaBlocks (q : ShaParams) (ks : List Nat) : Nat → Bytes → List Nat → List Nat
  | 0, _, h => h
  | n + 1, p, h =>
    let v := shaRounds q ks (shaWords (q.w / 8) 16 p) h
    shaBlocks q ks n (p.drop (2 * q.w)) (List.zipWith (fun a b => (a + b) % 2 ^ q.w) h v)

/-- The padded message: 0x80, zeros, and the length in bits. -/
def shaPad (q : ShaParams) (p : Bytes) : Bytes :=
  let blk := 2 * q.w
  let lenBytes := q.w / 4
  let z := (blk - (p.length + 1 + lenBytes) % blk) % blk
  p ++ [0x80] ++ zeros z ++ be lenBytes (8 * p.length)

/-- SHA-256, 32 bytes. -/
def sha256 (p : Bytes) : Bytes :=
  let m := shaPad sha256Params p
  (shaBlocks sha256Params shaK256 (m.length / 64) m shaH256).flatMap (be 4)

/-- SHA-384, 48 bytes. Log entry 81 (DEDUCED). -/
def sha384 (p : Bytes) : Bytes :=
  let m := shaPad sha384Params p
  ((shaBlocks sha384Params shaK512 (m.length / 128) m shaH384).flatMap (be 8)).take 48

/-- The first 8 bytes of SHA-256 read as a little-endian value (R410, R458, R461). -/
def digest64 (p : Bytes) : Nat := u64 (sha256 p) 0

def xorBytes (a b : Bytes) : Bytes := List.zipWith (fun x y => x ^^^ y) a b

/-- HMAC-SHA-256. -/
def hmacSha256 (key msg : Bytes) : Bytes :=
  let k := padTo 64 (if key.length > 64 then sha256 key else key)
  let pad (b : Byte) := List.replicate 64 b
  sha256 (xorBytes k (pad 0x5C) ++ sha256 (xorBytes k (pad 0x36) ++ msg))

/-- The field prime, the group order, the coefficient b and the base point of P-384. -/
def p384P : Nat := 2 ^ 384 - 2 ^ 128 - 2 ^ 96 + 2 ^ 32 - 1
def p384N : Nat := 0xffffffffffffffffffffffffffffffffffffffffffffffffc7634d81f4372ddf581a0db248b0a77aecec196accc52973
def p384B : Nat := 0xb3312fa7e23ee7e4988e056be3f82d19181d9c6efe8141120314088f5013875ac656398d8a2ed19d2a85c8edd3ec2aef
def p384G : Nat × Nat :=
  (0xaa87ca22be8b05378eb1c71ef320ad746e1d3b628ba79b9859f741e082542a385502f25dbf55296c3a545e3872760ab7,
   0x3617de4a96262c6f5d9e98bf9292dc29f8f41dbd289a147ce9da3113b5f0b8c00a60b1ce1d7e819d7a431d7c90ea0e5f)

/-- `b ^ e` modulo `m`, over `n` bits of `e`. -/
def powMod (m b e : Nat) : Nat → Nat
  | 0 => 1
  | n + 1 => let h := powMod m b (e / 2) n; if e % 2 = 1 then h * h % m * b % m else h * h % m

/-- The inverse modulo a prime below 2^384. -/
def invMod (m a : Nat) : Nat := powMod m a (m - 2) 384

/-- `a - b` in the field. -/
def fsub (a b : Nat) : Nat := (a + (p384P - b % p384P)) % p384P

/-- The chord or tangent of slope `l` through two points. -/
def ecLine (l x1 y1 x2 : Nat) : Nat × Nat :=
  let x := fsub (fsub (l * l) x1) x2
  (x, fsub (l * fsub x1 x) y1)

/-- Addition of points, `none` the point at infinity. -/
def ecAdd : Option (Nat × Nat) → Option (Nat × Nat) → Option (Nat × Nat)
  | none, q => q
  | r, none => r
  | some (x1, y1), some (x2, y2) =>
    if x1 = x2 then
      if (y1 + y2) % p384P = 0 then none
      else some (ecLine (fsub (3 * x1 * x1) 3 * invMod p384P (2 * y1) % p384P) x1 y1 x2)
    else some (ecLine (fsub y2 y1 * invMod p384P (fsub x2 x1) % p384P) x1 y1 x2)

/-- Scalar multiplication over `n` bits of the scalar. -/
def ecMul (k : Nat) (pt : Option (Nat × Nat)) : Nat → Option (Nat × Nat)
  | 0 => none
  | n + 1 =>
    let h := ecMul (k / 2) pt n
    let d := ecAdd h h
    if k % 2 = 1 then ecAdd d pt else d

/-- A public key of 96 bytes, X then Y, big-endian, that lies on the curve. -/
def ecKey (key : Bytes) : Option (Nat × Nat) :=
  let x := ofBe (key.take 48)
  let y := ofBe (slice key 48 48)
  if x < p384P ∧ y < p384P ∧ y * y % p384P = (x * x * x + p384B + 3 * (p384P - x)) % p384P then some (x, y) else none

/-- ECDSA P-384 with SHA-384 over `msg`: key 96 bytes, signature r then s, 48 bytes each, big-endian (Table MB-13,
R469). The manual names no hash for the signature; SHA-384 is the hash of the curve's suite and of R469 (DEDUCED).
Log entry 81 (DEDUCED). -/
def ecdsaVerify (key msg sig : Bytes) : Bool :=
  match ecKey key with
  | none => false
  | some q =>
    let r := ofBe (sig.take 48)
    let s := ofBe (slice sig 48 48)
    if r = 0 ∨ p384N ≤ r ∨ s = 0 ∨ p384N ≤ s then false else
      let w := invMod p384N s
      let z := ofBe (sha384 msg)
      match ecAdd (ecMul (z * w % p384N) (some p384G) 384) (ecMul (r * w % p384N) (some q) 384) with
      | none => false
      | some (x, _) => x % p384N == r

end Sys2Proof.Machine
end

