-- ==== Sys2Proof/Machine/Tab.lean ====
section
/-! DEFINITION. Sparse tables in canonical form: reading, writing, and the form itself. The byte memory of the host window
and every configuration table of the model are held this way. -/
namespace Sys2Proof.Machine

/-- The value of key `k`: the listed one, or the default `d` that an unlisted key reads as. -/
def tabGet {α : Type} (d : α) : Tab α → Nat → α
  | [], _ => d
  | (j, v) :: t, k => if k = j then v else tabGet d t k

/-- The table without key `k`. -/
def tabErase {α : Type} : Tab α → Nat → Tab α
  | [], _ => []
  | (j, v) :: t, k => if k = j then t else if k < j then (j, v) :: t else (j, v) :: tabErase t k

/-- The table with `v` at key `k`, keys kept rising. -/
def tabInsert {α : Type} : Tab α → Nat → α → Tab α
  | [], k, v => [(k, v)]
  | (j, w) :: t, k, v =>
    if k = j then (k, v) :: t else if k < j then (k, v) :: (j, w) :: t else (j, w) :: tabInsert t k v

/-- A write that keeps the canonical form: writing the default removes the entry. -/
def tabSet {α : Type} [DecidableEq α] (d : α) (t : Tab α) (k : Nat) (v : α) : Tab α :=
  if v = d then tabErase t k else tabInsert t k v

/-- Applies `f` to the value of key `k`. -/
def tabMod {α : Type} [DecidableEq α] (d : α) (t : Tab α) (k : Nat) (f : α → α) : Tab α :=
  tabSet d t k (f (tabGet d t k))

/-- Writes the values `vs` at the keys from `k` on. -/
def tabSetList {α : Type} [DecidableEq α] (d : α) (t : Tab α) (k : Nat) : List α → Tab α
  | [] => t
  | v :: vs => tabSetList d (tabSet d t k v) (k + 1) vs

/-- The `n` values at the keys from `k` on. -/
def tabRead {α : Type} (d : α) (t : Tab α) (k : Nat) : Nat → List α
  | 0 => []
  | n + 1 => tabGet d t k :: tabRead d t (k + 1) n

/-- Every key is at least `lo`, keys rise strictly, and no listed value is the default. -/
def tabWfFrom {α : Type} [DecidableEq α] (d : α) : Nat → Tab α → Bool
  | _, [] => true
  | lo, (k, v) :: t => decide (lo ≤ k) && decide (v ≠ d) && tabWfFrom d (k + 1) t

/-- The canonical form. -/
def tabWf {α : Type} [DecidableEq α] (d : α) (t : Tab α) : Bool := tabWfFrom d 0 t

/-- The `i`-th element of a list, or `d` past its end. Log entry 85 (DESIGN CHOICE). -/
def nth {α : Type} (d : α) : List α → Nat → α
  | [], _ => d
  | x :: _, 0 => x
  | _ :: xs, n + 1 => nth d xs n

/-- The list with its `i`-th element replaced by `f` of it. Log entry 85 (DESIGN CHOICE). -/
def modNth {α : Type} (f : α → α) : List α → Nat → List α
  | [], _ => []
  | x :: xs, 0 => f x :: xs
  | x :: xs, n + 1 => x :: modNth f xs n

end Sys2Proof.Machine
end

