-- ==== Sys2Proof/Machine/Tables.lean ====
section
/-! DEFINITION. The configuration: the tables that a commit carries (R10), one structure per staged payload with the
defaults that the chapters give, and `Tables`, the whole of one configuration. A table with many entries is a sparse table
whose unlisted entries hold the default. -/
namespace Sys2Proof.Machine

/-- HS_ROOT_CFG (Table HS-9). -/
structure RootCfg where
  aFit : Bool := true
  bFit : Bool := false
  prefB : Bool := false
  revert : Bool := false
  tol : Nat := 500
deriving DecidableEq, Repr

/-- HS_SYNTH_CFG (Table HS-12); a steering field is true for MANUAL. -/
structure SynthCfg where
  f441 : Bool := false
  vrate : Bool := false
  manM : Bool := false
  manV : Bool := false
  manN : Bool := false
deriving DecidableEq, Repr

/-- TK_CFG (Table TK-9). -/
structure TkCfg where
  fast : Bool := false
  revertive : Bool := true
  qualS : Nat := 10
  lockPhase : Nat := 100
  stepLimit : Nat := 1000
  agree : Nat := 1000
  hoAge : Nat := 24
deriving DecidableEq, Repr

/-- TK_CAND (Table TK-10); type 0 is an empty entry. -/
structure CandCfg where
  typ : Nat := 0
  align : Bool := true
  lockout : Bool := false
  vfmt : Nat := 0
  bw : Nat := 0
  pull : Nat := 1000
  cal : Int := 0
deriving DecidableEq, Repr

/-- TK_POLICY (Table TK-11). -/
structure TkPolicy where
  media : Nat := 0
  video : Nat := 0
  network : Nat := 0
deriving DecidableEq, Repr

/-- TK_ROOT_CHAR (Table TK-12). -/
structure RootChar where
  t0 : Int := 0
  c1 : Int := 0
  c2 : Int := 0
  age : Int := 0
deriving DecidableEq, Repr

/-- TW_CFG (Table TW-12). -/
structure TwCfg where
  leaseUs : Nat := 16
  laneEn : Nat := 3
  asym0 : Int := 0
  asym1 : Int := 0
deriving DecidableEq, Repr

/-- DG_CLK_CFG (Table DG-6); `div` is DG_DIV, D - 1. -/
structure ClkCfg where
  mode : Nat := 0
  drive : Nat := 1
  tap : Nat := 0
  div : Nat := 0
  phase : Nat := 0
deriving DecidableEq, Repr

/-- DG_PPS_CFG (Table DG-7). -/
structure PpsCfg where
  valid : Bool := false
  width : Nat := 100
deriving DecidableEq, Repr

/-- DG_TX_CFG (Table DG-8). -/
structure TxCfg where
  en : Bool := false
  rate : Nat := 0
  word20 : Bool := false
  vb : Bool := false
  va : Bool := false
  preset : Nat := 1
  origin : Bytes := [0, 0, 0, 0]
  acc : Nat := 1000
deriving DecidableEq, Repr

/-- The raw channel status of one subframe (Table DG-9): zero until written. -/
structure CsRaw where
  bytes : Bytes := List.replicate 24 0
  crc : Bool := true
deriving DecidableEq, Repr

/-- AD_CFG of one ADC (Table AD-9). -/
structure AdcCfg where
  /-- 0 OFF, 1 STREAM, 2 MEASURE. -/
  mode : Nat := 0
  input : Nat := 0
  srate : Nat := 0
  mic : Nat := 0
deriving DecidableEq, Repr

/-- AD_SEQ_CFG of one sequence (Table AD-11). -/
structure SeqCfg where
  len : Nat := 0
  src : Nat := 0
  edge : Nat := 0
  trigBit : Nat := 0
  delay : Nat := 0
deriving DecidableEq, Repr

/-- One slot entry (Table AD-12); `win` is AD_WIN, L - 1. -/
structure SlotCfg where
  codes : Nat := 0xFFFFFF
  bank : Nat := 0
  win : Nat := 4095
  settle : Nat := 32
  mon : Nat := 0
  diagSet : Bool := false
  diag : Nat := 0
  corr : Bool := false
  dds : Nat := 0
deriving DecidableEq, Repr

/-- One measurement timer (Table AD-15). -/
structure TimerCfg where
  en : Bool := false
  period : Nat := 245760
  phase : Nat := 0
deriving DecidableEq, Repr

/-- DA_OUT_CFG of one DAC (Table DA-11). -/
structure OutCfg where
  src : Nat := 0
  srate : Nat := 0
  psSel : Bool := false
  ifs : Nat := 16
  holdInit : Int := 0
deriving DecidableEq, Repr

/-- DA_BANK_CFG (Table DA-12). -/
structure BankCfg where
  vclk : Bool := false
  lg0 : Nat := 0
  lg1 : Nat := 0
deriving DecidableEq, Repr

/-- One DDS (Table DA-13); `host`: configured by DA_DDS_CFG. -/
structure DdsCfg where
  vclk : Bool := false
  num : Nat := 0
  den : Nat := 1
  phase : Nat := 0
  host : Bool := false
deriving DecidableEq, Repr

/-- PS_PRESET of one sequencer (Table DA-20). -/
structure PsPreset where
  id : Nat
  base : Nat
  blank : Int
  code1V : Int
  dds : Nat
  rate : Nat
  edge : Nat
  hz : Nat
  lvl : Nat
  zone : Int
  jam : Nat
  ub : Nat
deriving DecidableEq, Repr

/-- PS_CFG of one sequencer (Table DA-17), with the preset that builds its profile, if one does. -/
structure PsCfg where
  en : Bool := false
  first : Nat := 0
  last : Nat := 0
  loop : Nat := 0
  period : Nat := 0
  frac : Nat := 0
  phase : Nat := 0
  idle : Int := 0
  pre : Option PsPreset := none
deriving DecidableEq, Repr

/-- One profile segment (Table DA-4). -/
structure Seg where
  dur : Nat := 0
  frac : Nat := 0
  /-- 0 LEVEL, 1 SINE, 2 SHAPE, 3 HOLD. -/
  kind : Nat := 0
  shape : Nat := 0
  dds : Nat := 0
  amp : Int := 0
  offset : Int := 0
  rep : Nat := 0
  env : Bool := false
  back : Nat := 0
  event : Nat := 0
deriving DecidableEq, Repr

/-- The direct path of one DAC (Table XE-13). -/
structure DpCfg where
  sqrtScale : Bool := false
  en : Nat := 0
  adc : List Nat := [255, 255, 255, 255]
  gain : List Int := [16384, 16384, 16384, 16384]
deriving DecidableEq, Repr

/-- TE_CFG of one engine (Table XE-15). -/
structure TeCfg where
  en : Bool := false
  len : Nat := 0
  seed : Nat := 0
deriving DecidableEq, Repr

/-- One turning-list entry (Table XE-4). -/
structure TeOp where
  kind : Nat := 0
  rate : Nat := 0
  flags : Nat := 0
  dst : Nat := 0x8000
  src : Nat := 0x8000
  n : Nat := 0
  cbase : Nat := 0
  sbase : Nat := 0
  arg : Nat := 0
deriving DecidableEq, Repr

/-- One operand-table entry (Table XE-6). -/
structure Operand where
  addr : Nat := 0x8000
  en : Bool := false
  coef : Nat := 0
deriving DecidableEq, Repr

/-- FP_HP_CFG (Table FP-5). -/
structure HpCfg where
  automute : Bool := true
  en : Bool := false
  atten : Nat := 20
deriving DecidableEq, Repr

/-- FP_JACK_CFG (Table FP-8). -/
structure JackCfg where
  pol : Bool := false
  acc : Bool := false
  btn : Bool := false
  deb : Nat := 50
  biasV : Nat := 1
  biasR : Nat := 220
  btnDeb : Nat := 20
  thr0 : Nat := 120
  thr1 : Nat := 340
  thr2 : Nat := 560
  thr3 : Nat := 900
deriving DecidableEq, Repr

/-- One PDM channel (Table FP-9). -/
structure PdmCfg where
  double : Bool := false
  falling : Bool := false
  en : Bool := false
deriving DecidableEq, Repr

/-- SN_CFG (Table FP-10). -/
structure SnCfg where
  glass : Bool := true
  cont : Bool := true
  t3 : Bool := true
  en : Bool := false
  level : Int := -45
  tonality : Nat := 12
  groups : Nat := 2
  contS : Nat := 4
  holdS : Nat := 0
deriving DecidableEq, Repr

/-- NW_PORT_CFG of one port (Table NW-11). -/
structure PortCfg where
  mode : Nat := 1
  vlan : Bool := false
  pcp : Nat := 5
  vid : Nat := 0
  unitIp : Nat := 0
  serviceIp : Nat := 0
  mask : Nat := 0
  gateway : Nat := 0
  mac : Nat := 0
  dscp : Nat := 46
deriving DecidableEq, Repr

/-- NW_PTP_CFG (Table NW-12). -/
structure PtpCfg where
  profile : Nat := 1
  domain : Nat := 127
  prio1 : Nat := 128
  prio2 : Nat := 128
  clockId : Nat := 0
  tlv : Bytes := []
deriving DecidableEq, Repr

/-- NW_PTP_PORT of one port (Table NW-13); the defaults are those of profile 0x1. -/
structure PtpPortCfg where
  role : Nat := 0
  logSync : Int := -3
  logAnn : Int := -2
  tmo : Nat := 3
  logDreq : Int := -3
  asymTx : Int := 0
  asymRx : Int := 0
deriving DecidableEq, Repr

/-- What NW_RX_FLOW and NW_TX_FLOW share (Tables NW-14 and NW-15). -/
structure FlowCfg where
  en : Bool := true
  l24 : Bool := true
  r96 : Bool := false
  ptime : Nat := 3
  ch : Nat := 1
  ext : Bool := false
  slot : Nat := 0
  ports : Nat := 1
  pt : Nat := 0
  dstA : Nat := 0
  udpA : Nat := 5004
  dstB : Nat := 0
  udpB : Nat := 5004
  ssrc : Nat := 0
  /-- Receive only: D, L as given, source filters. -/
  depth : Nat := 1000
  off : Nat := 0
  srcA : Nat := 0
  srcB : Nat := 0
  /-- Transmit only. -/
  dscp : Nat := 34
  ttl : Nat := 64
  udpSrc : Nat := 5004
deriving DecidableEq, Repr

/-- One whole configuration: every table that a commit can change, at its default in the FULL base (R402).
Log entry 1 (DESIGN CHOICE). -/
structure Tables where
  root : RootCfg := {}
  synth : SynthCfg := {}
  /-- HS_CEIL of each clock output (Table HS-18), default 0: automatic. -/
  ceil : Tab Nat := []
  tk : TkCfg := {}
  cand : Tab CandCfg := []
  policy : TkPolicy := {}
  rootChar : Tab RootChar := []
  tw : TwCfg := {}
  /-- IG_TIME_MASTER (Table IG-8). -/
  igMaster : Nat := 1
  clk : Tab ClkCfg := []
  pps : PpsCfg := {}
  tx : Tab TxCfg := []
  /-- Raw channel status, keyed 2 * transmitter + subframe. -/
  csRaw : Tab CsRaw := []
  rxEn : Nat := 0
  adc : Tab AdcCfg := []
  pairRef : Tab Nat := []
  seqReg : SeqCfg := {}
  seqInj : SeqCfg := {}
  /-- Slots, keyed 16 * AD_SEQ + index. -/
  slots : Tab SlotCfg := []
  timers : Tab TimerCfg := []
  outCfg : Tab OutCfg := []
  bank : BankCfg := {}
  dds : Tab DdsCfg := []
  faultCode : Tab Int := []
  ps : Tab PsCfg := []
  /-- Segments, keyed 1024 * PS_SEQ + index. -/
  segs : Tab Seg := []
  shapes : Tab (List Int) := []
  /-- The route of each sink; none: muted (R273). -/
  routes : Tab (Option Nat) := []
  dp : Tab DpCfg := []
  te : Tab TeCfg := []
  /-- Turning lists, keyed 1024 * TE_ENG + index. -/
  ops : Tab TeOp := []
  /-- Operand tables, keyed 2048 * TE_ENG + entry. -/
  opnds : Tab Operand := []
  /-- Coefficient stores, keyed 4096 * TE_ENG + word. -/
  coefs : Tab Nat := []
  hp : HpCfg := {}
  jack : JackCfg := {}
  pdm0 : PdmCfg := {}
  pdm1 : PdmCfg := {}
  sn : SnCfg := {}
  port : Tab (Option PortCfg) := []
  ptp : PtpCfg := {}
  ptpPort : Tab (Option PtpPortCfg) := []
  rx : Tab (Option FlowCfg) := []
  txFlow : Tab (Option FlowCfg) := []
deriving DecidableEq, Repr

end Sys2Proof.Machine
end

