-- ==== Sys2Proof/Machine/Time.lean ====
section
/-! DEFINITION. Spindle times (R4, R5), frames (R6, R11) and MCLK cycles in the exact unit of the model. -/
namespace Sys2Proof.Machine

/-- Units in one second, in a nanosecond, in 2^-16 ns. -/
def uPerFrac : Nat := 441
def uPerNs : Nat := 441 * 65536
def uPerUs : Nat := uPerNs * 1000
def uPerMs : Nat := uPerNs * 1000000
def uPerS : Nat := uPerNs * 1000000000

/-- The base rate Fs of a rate family, Hz: 44.1 kHz when `f441`. -/
def fsHz (f441 : Bool) : Nat := if f441 then 44100 else 48000

/-- The length of a frame: 1 / Fs exactly. -/
def frameLen (f441 : Bool) : Nat := uPerS / fsHz f441

/-- The length of an MCLK cycle: 5,120 in a frame (R24). -/
def mclkLen (f441 : Bool) : Nat := frameLen f441 / 5120

/-- The first multiple of `m` at or after `t`. -/
def ceilTo (m t : Nat) : Nat := (t + (m - 1)) / m * m

/-- The frame boundary that follows the instant `t` (the next frame, R6). -/
def nextFrame (f441 : Bool) (t : Nat) : Nat := (t / frameLen f441 + 1) * frameLen f441

/-- The first frame boundary at or after `t`, found by arithmetic on `t` (R11). -/
def frameAtOrAfter (f441 : Bool) (t : Nat) : Nat := ceilTo (frameLen f441) t

/-- Seconds, nanoseconds and fraction of a Spindle time (R4). -/
def secOf (t : Nat) : Nat := t / uPerS
def nsOf (t : Nat) : Nat := t % uPerS / uPerNs
def fracOf (t : Nat) : Nat := t % uPerNs / uPerFrac

/-- A Spindle time from its parts. -/
def mkTime (sec ns frac : Nat) : Nat := sec * uPerS + ns * uPerNs + frac * uPerFrac

/-- The 12 bytes of the full form (R4). -/
def fullForm (t : Nat) : Bytes := le 2 (fracOf t) ++ le 4 (nsOf t) ++ le 6 (secOf t)

/-- The time of a full form at byte `i`; none when its nanoseconds exceed 999,999,999 (R4). -/
def readFull (p : Bytes) (i : Nat) : Option Nat :=
  if u32 p (i + 2) > 999999999 then none else some (mkTime (u48 p (i + 6)) (u32 p (i + 2)) (u16 p i))

/-- The 8 bytes of the compact form, truncated to the nanosecond (R5). -/
def compactForm (t : Nat) : Bytes := le 4 (nsOf t) ++ le 4 (secOf t)

/-- The instance of a compact time in the window from 2^31 s before `now` to less than 2^31 s after it (R5); none when
its nanoseconds exceed 999,999,999. The second that is first to qualify is counted from `now - 2^31 s`; a Spindle time
below 2^31 s has its window cut at zero from below by counting with 2^32 s added. -/
def expandCompact (now sec ns : Nat) : Option Nat :=
  if ns > 999999999 then none else
    let base := now + (2 ^ 32 - 2 ^ 31) * uPerS
    let low := sec % 2 ^ 32 * uPerS + ns * uPerNs
    let span := 2 ^ 32 * uPerS
    let t := low + (base + (span - 1) - low) / span * span
    some (t - span)

/-- The compact time at byte `i` of a payload, expanded at `now`. -/
def readCompact (now : Nat) (p : Bytes) (i : Nat) : Option Nat := expandCompact now (u32 p (i + 4)) (u32 p i)

/-- Picoseconds, rounded down, of a length of time. -/
def toPs (t : Nat) : Nat := t * 1000 / uPerNs

end Sys2Proof.Machine
end

