-- ==== Sys2Proof/Machine/State.lean ====
section
/-! DEFINITION. The state of the block as plain data, one structure per chapter of the manual, the reasons a step can
stop, and the state after reset. -/
namespace Sys2Proof.Machine

/-- A staged record in the format of Table MB-12. -/
structure Rec where
  opcode : Nat
  expert : Bool
  direct : Bool
  payload : Bytes
deriving DecidableEq, Repr

/-- How far a consumed command is. -/
inductive CmdPhase where
  /-- Consumed, not yet started (R399). -/
  | waiting
  /-- Started; acts at the next frame. `order` counts acceptances (R12, R293). -/
  | frame (order : Nat)
  /-- Started and in progress, without a response yet. -/
  | running
  /-- Has its intermediate response (R396). -/
  | mid
deriving DecidableEq, Repr

/-- A command that the device has consumed and that has no final response: its tag is outstanding (R396). -/
structure Cmd where
  /-- Count order of R399, over both origins (R432). -/
  n : Nat
  /-- MB_ORIGIN of Table PT-1. -/
  origin : Nat
  order : OrdClass
  tag : Nat
  opcode : Nat
  expert : Bool
  auth : Bool
  cred : Nat
  seq : Nat
  /-- MB_SCHED_TIME, seconds and nanoseconds, when MB_SCHED is set. -/
  sched : Option (Nat × Nat)
  payload : Bytes
  phase : CmdPhase
  /-- Position in the order of ring commands received (R439); 0 for a host-port command. -/
  ringNo : Nat
  /-- The response is discarded (R431). -/
  mute : Bool
  /-- SAFE was entered while its enable machine had it: its final response is FAULT (R417). -/
  doomed : Bool
deriving DecidableEq, Repr

/-- One request to an enable machine (R78). -/
structure EnReq where
  target : Bool
  /-- The command, by its count `Cmd.n`; none for an action of the device itself. -/
  cmd : Option Nat
deriving DecidableEq, Repr

/-- An enable machine (R78, R79): the state reached last, the action in progress, the requests answered at its end, and
the deferred requests in order of arrival. -/
structure EnMachine where
  on : Bool := false
  run : Option Bool := none
  /-- When the action in progress started, on the device clock. -/
  since : Nat := 0
  owners : List Nat := []
  queue : List EnReq := []
deriving DecidableEq, Repr

/-- Progress of Sequence PW-1. -/
inductive BootStep where
  /-- The internal reset is asserted. -/
  | held
  /-- Released; the boot ROM looks for a root (step 2). -/
  | released
  /-- A root shows activity and the boot header is read (step 3). -/
  | rooted
  /-- SSYN and MSYN locked; the host window is ready (step 4). -/
  | ready
  /-- An image slot verified (step 6). -/
  | verified
  /-- Boot failed (R64). -/
  | failed
  /-- Recovery boot (R45). -/
  | recovery
  /-- The firmware runs (step 8). -/
  | done
deriving DecidableEq, Repr

/-- HUSH phases (Sequences PW-2 and PW-3). -/
inductive HushPhase where
  | awake
  /-- Conditions passed; the mute clamp is engaged (step 1 of PW-2). The command that asked, by its count. -/
  | entering (cmd : Nat)
  | hushed
  | waking
deriving DecidableEq, Repr

/-- Power, reset, straps and HUSH (chapters 02 and 03). -/
structure PwState where
  railsUp : Bool := true
  inReset : Bool := true
  /-- Device clock before which the internal reset does not release: 0.5 ms after RST_N rises, 100 us after a FULL reset
  (R59). -/
  releaseAt : Nat := 500 * uPerUs
  boot : BootStep := .held
  bootRoot : Option RootId := none
  /-- HW_SLOT_SEL: 0 slot A, 1 slot B, 2 open. -/
  slotSel : Nat := 2
  bootSel : Bool := false
  ringEnd : Bool := false
  panelKey : Bool := false
  panelNow : Bool := false
  /-- HW_RESET_CAUSE. -/
  resetCause : Nat := 0
  /-- HW_BOOT_FAIL. -/
  bootFail : Nat := 0
  /-- Which of VDDIO1-4 were sensed at 3.3 V (R40). -/
  bankHigh : List Bool := [true, true, true, true]
  /-- Enable machines of the domains 0x00-0x0A of Table PW-6. -/
  domains : List EnMachine := List.replicate 11 {}
  hush : HushPhase := .awake
  /-- When HUSH entry or HUSH exit started, on the device clock. -/
  hushAt : Nat := 0
  /-- The headphone mute clamp before it. -/
  hushClamp : Bool := false
  wakeSn : Bool := true
  /-- A wake trigger that arrived during HUSH entry (R76). -/
  wakeHeld : Bool := false
  /-- SAFE waits for the wake of a trip in HUSH (Table AH-8). -/
  safeOnWake : Bool := false
  /-- Which domains were enabled at HUSH entry (R510). -/
  hushDomains : List Bool := []
  /-- The last die-temperature reading, 0.01 C. -/
  temp : Option Int := none
  /-- The temperature ALARM waits for a reading below 103 C (R486). -/
  tempAlarmed : Bool := false
deriving DecidableEq, Repr

/-- Root states (Table HS-1). -/
inductive RootSt where
  | absent | qualified | disqualified | requalifying
deriving DecidableEq, Repr

/-- One root input. -/
structure RootInput where
  st : RootSt := .absent
  /-- When the state was entered, on the device clock. -/
  since : Nat := 0
deriving DecidableEq, Repr

/-- One synthesiser (chapter 04). Words are N * 2^48 + F (R87). A length of phase is in units of 1e-30 s. -/
structure SynState where
  /-- 0 off, 1 in Sequence HS-1 (HS_LOCK then tells its step), 2 lock lost, 4 LOCKED. -/
  lock : Nat := 0
  band : Nat := 0
  /-- Base word B. -/
  word : Nat := 0
  /-- Word at which lock was last declared: the centre of the pull range (R95). -/
  lockWord : Nat := 0
  /-- Steps of F still owed by the move, one cycle each (R97). -/
  owed : Int := 0
  /-- The part of it that belongs to a move of the tracking loop that Table TK-7 cancels, and to a residual move (R127). -/
  loopOwed : Int := 0
  resOwed : Int := 0
  moving : Bool := false
  /-- The move waits for lock (Table HS-5). -/
  suspended : Bool := false
  /-- The move pauses for the coming frame (Table HS-5). -/
  paused : Bool := false
  /-- Amount discarded by the last cancellation, in P units. -/
  discarded : Int := 0
  /-- HS_SLEW, ns/s. -/
  slew : Nat := 1000
  /-- The slew of a move that does not run at HS_SLEW (Tables TK-6, R126, R127), ns/s. -/
  fixedSlew : Option Nat := none
  /-- The slew of the move in the present frame, ns/s (R98, R134). -/
  frameSlew : Nat := 0
  /-- The device clock up to which the move has been counted, and the remainder of phase-detector cycles. -/
  moveAt : Nat := 0
  cyc : Nat := 0
  /-- How far the taps are ahead of their epoch alignment (R124); not known once the host has written a word. -/
  tapOff : Int := 0
  drift : Bool := false
  relocks : Nat := 0
  /-- The HS_RELOCK that waits for lock, by its count. -/
  relockCmd : Option Nat := none
  /-- When the lock was started, on the device clock (R91); whether it has no step 1; how long step 3 takes. -/
  lockFrom : Nat := 0
  cold : Bool := true
  acqLen : Nat := 0
  /-- The lock restores epoch alignment; else the relation held before (R90). -/
  epoch : Bool := true
  /-- When lock was last declared, on the device clock (R104). -/
  lockAt : Nat := 0
deriving DecidableEq, Repr

/-- The Tool rest gate and the divider of one clock output (R103, R104, R339, R340). -/
structure GateState where
  /-- DG_GATE: 0 open, 1 synthesiser outside lock, 2 monitor trip, 3 no commit, reconfiguration or Spindle step. -/
  gate : Nat := 3
  /-- Windows in a row within the limit since a trip, and when the tenth ended, on the device clock. -/
  clean : Nat := 0
  cleanAt : Option Nat := none
  trips : Nat := 0
  lastCount : Nat := 0
  /-- The divider has been loaded to its alignment: when, on the device clock. -/
  aligned : Option Nat := none
deriving DecidableEq, Repr

/-- Headstock (chapter 04). Log entry 15 (DEDUCED). -/
structure HsState where
  rootA : RootInput := {}
  rootB : RootInput := {}
  nowB : Bool := false
  force : Option RootId := none
  /-- A selected root that a commit marked unfitted and that stays in use (R84). -/
  heldUnfit : Bool := false
  /-- Nominal root frequency of the boot header, Hz (R80). -/
  rootHz : Nat := 10000000
  disagree : Bool := false
  /-- Mean ratio f_A / f_B less 1, 1e-12 (R82). -/
  ratioDev : Int := 0
  msyn : SynState := {}
  vsyn : SynState := {}
  nsyn : SynState := {}
  ssyn : SynState := {}
  /-- The spread mode in force, since when its triangle runs, and a mode that is to follow at an instant of the device
  clock (R101). -/
  spreadMode : Nat := 0
  spreadFrom : Nat := 0
  spreadNext : Option (Nat × Nat) := none
  gate : List GateState := List.replicate 12 {}
deriving DecidableEq, Repr

/-- Candidate states (Table TK-2). -/
inductive CandSt where
  | off | noSignal | qualifying | qualified | rejected
deriving DecidableEq, Repr

/-- One candidate (R119, R149). -/
structure CandState where
  st : CandSt := .off
  qualLeft : Nat := 0
  fail : Nat := 0
  /-- The last measurement, reference time minus Spindle time in ps, and what `spAdv` was then. -/
  meas : Int := 0
  measAdv : Int := 0
  /-- Delta, ps. -/
  phase : Int := 0
  /-- Delta as if TK_ALIGN were set, ps. -/
  rawPhase : Int := 0
  /-- Frequency against the disciplined frequency, 1e-12. -/
  freq : Int := 0
  /-- Whether `freq` holds the value of a previous interval. -/
  hasFreq : Bool := false
deriving DecidableEq, Repr

/-- How ACQUIRE was entered (R126, R133). -/
inductive AcqStyle where
  | gentle | fast | return_
deriving DecidableEq, Repr

/-- A Spindle step that a frame boundary will load (R127, R138). -/
structure StepReq where
  /-- The new time, or none for an added amount. -/
  absTime : Option Nat
  /-- The amount to add, ps. -/
  addPs : Int
  setValid : Bool
  /-- The TK_SET_TIME that asked, by its count. -/
  cmd : Option Nat
deriving DecidableEq, Repr

/-- Reference tracking (chapter 05). Frequencies y are in units of 1e-24. -/
structure TkState where
  cand : List CandState := List.replicate 12 {}
  selected : Option Nat := none
  forced : Bool := false
  y : Int := 0
  yi : Int := 0
  kMedia : Int := 0
  kVideo : Int := 0
  kNetwork : Int := 0
  lastDelta : Int := 0
  style : AcqStyle := .gentle
  /-- TK_LOSSES of each reference, by its type (R149). -/
  losses : List Nat := List.replicate 12 0
  /-- How far steps and moves have advanced Spindle time, 1e-30 s. -/
  spAdv : Int := 0
  /-- Device clock of the last computation of the loop (R123), and the fabric cycle of the last selection (Table TK-7). -/
  loopLast : Option Nat := none
  selCycle : Nat := 0
  /-- The period of the partner's reference, ps as a fraction; none: full time (Table TK-1). -/
  twinPeriod : Option (Nat × Nat) := none
  /-- Raw difference when the candidate was selected, ps (R511). -/
  selRaw : Int := 0
  /-- y and die temperature (0.01 C) of each LOCKED second, newest first (R130). -/
  hoList : List (Int × Int) := []
  hoSum : Int := 0
  hoCount : Nat := 0
  /-- When the last LOCKED interval ended, on the device clock. -/
  hoLast : Nat := 0
  hoAged : Bool := false
  /-- HOLDOVER was entered while the announced class was 6 (Table NW-5). -/
  hoFrom6 : Bool := false
  /-- A PTP reference or TK_LEAP has set the UTC offset since the last FULL reset (R161). -/
  utcSet : Bool := false
  /-- y_h(t) in HOLDOVER (R131), and the device clock at entry. -/
  yh : Int := 0
  hoEntry : Nat := 0
  /-- Since when the criteria of R128 have held, on the device clock. -/
  lockSince : Option Nat := none
  /-- Groups whose kept offset a running TK_REALIGN returns to zero. -/
  realign : List Group := []
  step : Option StepReq := none
  /-- TK_SET_TIME commands that are answered when the data plane restarts (R138). -/
  stepCmds : List Nat := []
  /-- The port whose PTP reference gave the leap information in use (R139). -/
  leapPort : Option Nat := none
  /-- Leap information in use (R139). -/
  utcNow : Int := 0
  leapPend : Nat := 0
  leapAt : Nat := 0
  /-- The last TK_LEAP values. -/
  hostUtc : Int := 0
  hostPend : Nat := 0
  hostLeapAt : Nat := 0
  /-- Clock of the last windows of the video reference without the template, and edges of PPS_IN. -/
  videoMisses : Nat := 0
  /-- What the last coarse window of the video reference located (R129). -/
  videoCoarse : Option Int := none
  wclkLast : Option Nat := none
  ppsLast : Option Nat := none
deriving DecidableEq, Repr

/-- Where the data plane stands (R25, R92, R127). -/
inductive DataPlane where
  | dark | running
  /-- Stopped by an MSYN relock: restarts at the first frame boundary after lock. -/
  | relock
  /-- Stopped by a Spindle step or a change of family: restarts at frame 0 of the first whole second after its moves. -/
  | second
deriving DecidableEq, Repr

/-- One AES3 transmitter (R344 to R348). -/
structure TxState where
  /-- It sends, from the block start at this frame count of its grid on; none: no transitions. -/
  running : Option Nat := none
  /-- Channel status in force, subframes A and B. -/
  csA : Bytes := []
  csB : Bytes := []
  /-- The subframes of the last crossbar frame sent: (A, B) as 32-bit words for each sample. -/
  last : List (Nat × Nat) := []
deriving DecidableEq, Repr

/-- One AES3 receiver (R349, Table DG-12). -/
structure RxState where
  lock : Bool := false
  rate : Nat := 7
  parity : Nat := 0
  vframes : Nat := 0
  crc : Nat := 0
  cs : Bytes := []
deriving DecidableEq, Repr

/-- AES3 and clock outputs (chapter 11). -/
structure DgState where
  ppsHigh : Bool := false
  /-- First Spindle time at which 1PPS_OUT may pulse; none before the first commit. -/
  ppsFrom : Option Nat := none
  /-- DG_PPS_WIDTH of the pulse in progress, in microseconds (R341). -/
  ppsWidth : Nat := 0
  tx : List TxState := List.replicate 8 {}
  rx : List RxState := List.replicate 4 {}
  /-- Times of the last edges of WCLK_IN, ps, newest first, at most five. -/
  wclk : List Nat := []
deriving DecidableEq, Repr

/-- The published half of one ADC in one bank (R202, Table AD-23). -/
structure BankHalf where
  sum : Int := 0
  sumsq : Nat := 0
  icorr : Int := 0
  qcorr : Int := 0
  count : Nat := 0
  min : Int := 0
  minIdx : Nat := 0
  max : Int := 0
  maxIdx : Nat := 0
  code : Nat := 0
  clipped : Bool := false
  unsettled : Bool := false
  aborted : Bool := false
  inj : Bool := false
  slot : Nat := 0
  /-- Spindle time of the sampling edge of the last sample. -/
  close : Nat := 0
  win : Nat := 0
  epoch : Nat := 0
deriving DecidableEq, Repr

/-- What a window of Calipers depends on besides its slot: D, the microphone gains, the correlation DDS and the references
of the pairs. -/
structure SlotEnv where
  diag : Nat
  mic6 : Nat
  mic7 : Nat
  dds : DdsCfg
  refs : List Nat
deriving DecidableEq, Repr

/-- A slot that has started (R205). -/
structure SlotRun where
  inj : Bool
  idx : Nat
  cfg : SlotCfg
  /-- ADCs that take part. -/
  adcs : List Nat
  /-- The start edge on the device clock. -/
  start : Nat
  /-- ADCs whose window was ended by a commit. -/
  dead : List Nat
  /-- ADCs whose window carries UNSETTLED for a change during it. -/
  unsettled : List Nat
  /-- Its surroundings from each device clock on, newest first. -/
  env : List (Nat × SlotEnv)
deriving DecidableEq, Repr

/-- Where a sequence stands (R204, R209). -/
structure SeqRun where
  /-- 0 idle, 1 delay, 2 slot, 3 waiting for the injected pass. -/
  phase : Nat := 0
  slot : Nat := 0
  /-- In phases 1 and 3: the edge, on the device clock, before which the slot does not start. -/
  due : Nat := 0
  cur : Option SlotRun := none
  /-- Slots whose window has closed and whose publication is due. -/
  pubs : List SlotRun := []
  lastTrig : Option Nat := none
  /-- The slot in progress or last run (R224). -/
  shown : Nat := 0
  /-- The publication edge that ended the last pass. -/
  endAt : Option Nat := none
deriving DecidableEq, Repr

/-- The reference of one ADC pair (R195). -/
structure PairState where
  settled : Bool := false
  /-- Intervals in which REF_SETTLED was clear, newest first: from, and until (none: still clear). -/
  clears : List (Nat × Option Nat) := [(0, none)]
  /-- End of the settling time of a reference change, on the device clock. -/
  due : Option Nat := none
deriving DecidableEq, Repr

/-- Calipers (chapter 07). -/
structure AdState where
  reg : SeqRun := {}
  inj : SeqRun := {}
  /-- Triggers whose recognition edge is still to come: sequence and edge on the device clock (Table AD-5). -/
  late : List (Bool × Nat) := []
  /-- The edge after the last injected sample, on the device clock. -/
  injEnd : Nat := 0
  /-- Published halves, keyed 8 * bank + ADC. -/
  banks : Tab BankHalf := []
  overruns : Nat := 0
  injDrops : Nat := 0
  aborts : Nat := 0
  /-- Spindle second of the last ALARM of each trigger counter (R210). -/
  overSec : Option Nat := none
  dropSec : Option Nat := none
  ovr : Nat := 0
  diag : Nat := 2048
  /-- Selector code of each ADC in MEASURE. -/
  sel : List Nat := List.replicate 8 5
  pairs : List PairState := List.replicate 4 {}
  /-- VREF_IN lies outside 1.8-2.2 V. -/
  vrefOut : Bool := false
  /-- Armed Spindle alarms. -/
  alarms : List (Option Nat) := List.replicate 4 none
  /-- Frames for which the source slots of a STREAM ADC still carry zero (R198). -/
  mute : List Nat := List.replicate 8 0
deriving DecidableEq, Repr

/-- One DAC (chapter 08). -/
structure DacState where
  active : Int := 0
  staged : Int := 0
  /-- The zero code is held until the next hold strobe of the group (HOLD only). -/
  wait : Bool := true
  /-- The last code of the old source, held until the next hold strobe (HOLD only). -/
  kept : Option Int := none
  ifs : Nat := 16
  /-- End of the 4 us of a range change, on the device clock. -/
  rangeEnd : Option Nat := none
  clamps : Nat := 0
  /-- Frames of zero audio left after the interpolator was cleared (R230). -/
  mute : Nat := 0
  /-- What the interpolator holds: the samples of the last 40 frames, the newest first (R230). -/
  hist : List Int := []
  /-- Interpolated audio and direct-path value at the last cycle of the last frame. -/
  audio : Int := 0
  direct : Int := 0
  /-- SAFE: the fault code that is loaded, if any. -/
  fault : Option Int := none
deriving DecidableEq, Repr

/-- DACs (chapter 08). -/
structure DaState where
  dac : List DacState := List.replicate 8 {}
  strobes0 : Nat := 0
  strobes1 : Nat := 0
  /-- When each group last strobed, on the device clock (R234). -/
  last0 : Option Nat := none
  last1 : Option Nat := none
  /-- 0: no SAFE. 1: SAFE entered with role SOLO. 2: the SAFE strobe has acted. 3: the fault codes are loaded. -/
  safe : Nat := 0
  /-- Device clock of that entry. -/
  safeAt : Nat := 0
  /-- The fault-value table in boot flash (R238). -/
  flash : List Int := List.replicate 8 0
  /-- The fault codes in flash at the SAFE entry, which the firmware loads (R238). -/
  safeCodes : List Int := List.replicate 8 0
  /-- The fault values of a live commit that are not yet in flash. -/
  flashDue : Option (List Int) := none
  /-- The edges of VCLK that its counters are ahead of its timescale since a Spindle step, in 2^-16 cycle (R247, R249). -/
  vOff : Int := 0
deriving DecidableEq, Repr

/-- An LTC label (R255). -/
structure LtcLabel where
  hh : Nat
  mm : Nat
  ss : Nat
  ff : Nat
deriving DecidableEq, Repr

/-- One profile sequencer (R247). -/
structure PsState where
  /-- PS_STATE: 0 disabled, 1 waiting for a start instant, 2 running. -/
  st : Nat := 0
  /-- The Spindle time of the event after which the start instant counts (R250). -/
  since : Nat := 0
  seg : Nat := 0
  /-- The content latched at entry, and the exact start of the segment, in units of 2^-16 cycle of its clock. -/
  cur : Seg := {}
  segStart : Nat := 0
  /-- Runs done of the group that ends at each segment. -/
  reps : Tab Nat := []
  starts : Nat := 0
  /-- Value at the last edge of the previous segment. -/
  prev : Int := 0
  /-- `vOff` at its start: its profile lies on the timescale as it was then (R249). -/
  off : Int := 0
  /-- LTC: the labels written into the two halves, the label last started, and the number of the last frame written. -/
  half0 : Nat := 0
  half1 : Nat := 0
  label : Nat := 0
  wrote : Nat := 0
  /-- LTC: the label of the last frame written, and the zone and the UTC offset that it was formed with (R255). -/
  last : Option LtcLabel := none
  zone : Int := 0
  utc : Int := 0
deriving DecidableEq, Repr

/-- The state of one operation of a turning list (R276, R292). -/
structure OpState where
  /-- BIQUAD histories, four a section. -/
  hist : List Int := []
  /-- DELAY: samples written, and the line keyed by sample number modulo M + 1. -/
  pos : Nat := 0
  line : Tab Int := []
  /-- DITHER generator. -/
  gen : Nat := 0
  /-- METER: window in progress. -/
  mMin : Int := 0
  mMax : Int := 0
  mSum : Nat := 0
  mCount : Nat := 0
  /-- METER: a window that has ended, not yet published: MIN, MAX, SUMSQ, COUNT. -/
  ended : Option (Int × Int × Nat × Nat) := none
  /-- METER: what is published, with its epoch. -/
  pMin : Int := 0
  pMax : Int := 0
  pSum : Nat := 0
  pCount : Nat := 0
  epoch : Nat := 0
deriving DecidableEq, Repr

/-- The sample-rate conversion of one receiver (R287): TE_ASRC_LOCK and TE_ASRC_RATIO, a loss of lock reported in the frame in
progress, and the rings of its two subframes, the newest sample first. -/
structure AsrcState where
  lock : Bool := false
  ratio : Nat := 0
  lost : Bool := false
  ringA : List Int := []
  ringB : List Int := []
deriving DecidableEq, Repr

/-- Crossbar and turning engines (chapter 09). -/
structure XbState where
  /-- The source buffer of the frame that ended last (R272). -/
  buf : Tab Int := []
  /-- Work stores, keyed 1024 * engine + word. -/
  work : Tab Int := []
  /-- Operation states, keyed 1024 * engine + index. -/
  op : Tab OpState := []
  sats : Tab Nat := []
  maxcyc : Tab Nat := []
  /-- Engines whose overrun was seen. -/
  overrun : List Nat := []
  /-- An engine that abandoned the frame in progress, with the number of operations it completed. -/
  abandon : List (Nat × Nat) := []
  asrc : List AsrcState := List.replicate 4 {}
deriving DecidableEq, Repr

/-- Front panel (chapter 10). Log entry 47 (DEDUCED). Log entry 50 (DEDUCED). -/
structure FpState where
  hp : EnMachine := {}
  /-- The clamp of the enable machine, of HUSH entry and of SAFE (R312, R313). -/
  clamp : Bool := false
  /-- The clamp of R314 and of Sequence FP-2: no jack inserted, or an identification since. -/
  hold : Bool := true
  /-- AOUT6 and AOUT7 are high-impedance for the amplifier (Sequence FP-1). -/
  aoutAmp : Bool := false
  /-- SAFE with role SOLO keeps the amplifier off. -/
  hpSafe : Bool := false
  /-- When the clamp may be released (R314), on the device clock. -/
  releaseAt : Option Nat := none
  jackLevel : Bool := true
  jackSince : Nat := 0
  jack : Bool := false
  acc : Nat := 0
  /-- An identification runs since this device clock. -/
  identAt : Option Nat := none
  identCmd : Option Nat := none
  /-- An insertion was confirmed in HUSH. -/
  identWaits : Bool := false
  bias : Bool := false
  /-- Device clocks of the last closing and opening of the fence. -/
  fenceClosed : Nat := 0
  fenceOpened : Nat := 0
  btn : Nat := 0
  /-- The state that the last windows decided, and how many in a row. -/
  btnNew : Nat := 0
  btnRun : Nat := 0
  /-- Device clock of the last window of the mic node. -/
  btnAt : Option Nat := none
  biasUa : Nat := 0
  presses : Nat := 0
  jackEvents : Nat := 0
  ilim : Nat := 0
  /-- Frames for which the slots of each PDM channel still carry zero (R321). -/
  pdmMute : List Nat := [0, 0]
deriving DecidableEq, Repr

/-- Sentinel (chapter 10). Lengths are in milliseconds. -/
structure SnState where
  alarmOut : Bool := false
  /-- When the hold ends, on the device clock. -/
  holdEnd : Option Nat := none
  last : Nat := 0
  detections : Nat := 0
  lastTime : Nat := 0
  /-- A detection came while an SN_ACK was in flight (Table FP-3). -/
  during : Bool := false
  restarts : Nat := 0
  /-- The tone is on; length of the present on or off interval; length of a gap inside an on interval. -/
  tone : Bool := false
  run : Nat := 0
  gap : Nat := 0
  /-- Temporal-three: pulses of the present group, completed groups, time since the last group started. -/
  pulses : Nat := 0
  groups : Nat := 0
  sinceGroup : Nat := 0
  /-- A loss longer than 50 ms ended the attempt: completed groups count only on the 4 s grid. -/
  onGrid : Bool := false
  /-- Continuous tone: length and first peak. -/
  cont : Nat := 0
  contHz : Nat := 0
  /-- Glass-break: time since the onset, length of the high-band interval, its last level. -/
  glassAt : Option Nat := none
  glassRun : Nat := 0
  glassDb : Int := 0
  /-- Length of the loss in progress. -/
  loss : Nat := 0
  /-- Device clock of the last analysis block. -/
  blockAt : Option Nat := none
deriving DecidableEq, Repr

/-- One network port (R150 to R155). -/
structure PortState where
  /-- NW_LINK_NOW. -/
  link : Nat := 0
  modabs : Bool := true
  los : Bool := false
  txdis : Bool := true
  /-- Before the first commit: tries 10GBASE-R, since when (R151). -/
  try10 : Bool := false
  tryAt : Nat := 0
  /-- Management data of the module: address 0x50, then address 0x51. -/
  module : Bytes := []
  rxDrops : Nat := 0
  fecUncorr : Nat := 0
  linkDowns : Nat := 0
  /-- ARP cache: address, MAC, device clock of the reply. -/
  arp : List (Nat × Nat × Nat) := []
  /-- Last ARP request for a blocked address. -/
  arpReq : List (Nat × Nat) := []
  /-- Echo replies in the second counted. -/
  icmpSec : Nat := 0
  icmpCount : Nat := 0
  /-- Device clock until which a querier of IGMP version 1 and of version 2 is present (R153). -/
  igmpV1 : Nat := 0
  igmpV2 : Nat := 0
deriving DecidableEq, Repr

/-- A foreign master (IEEE 1588-2019, R159): announces counted, and when the last one came. -/
structure Foreign where
  id : PortId
  ann : Announce
  count : Nat
  at_ : Nat
deriving DecidableEq, Repr

/-- PTP of one port (R156 to R166). -/
structure PtpState where
  /-- portState of Table NW-19. -/
  st : Nat := 3
  foreign : List Foreign := []
  parent : Option PortId := none
  better : Bool := false
  borrowed : Bool := false
  mpd : Int := 0
  hasMpd : Bool := false
  offset : Int := 0
  /-- A two-step Sync that waits for its Follow_Up: sequenceId, arrival less correction. -/
  sync : Option (Nat × Int) := none
  /-- t2 - t1 of the last Sync. -/
  t21 : Option Int := none
  /-- The Delay_Req that waits for its response: sequenceId, departure. -/
  dreq : Option (Nat × Int) := none
  dreqSeq : Nat := 0
  dreqAt : Option Nat := none
  dreqDrops : Nat := 0
  ownDiscards : Nat := 0
  dreqSec : Nat := 0
  dreqCount : Nat := 0
  lastSync : Option Nat := none
  lastAnn : Option Nat := none
  listenFrom : Nat := 0
  /-- As master: numbers of the last Sync and Announce sent (R165). -/
  syncNo : Option Nat := none
  annNo : Option Nat := none
  /-- A Sync whose Follow_Up is still unsent: sequenceId and origin timestamp (R165). -/
  followUp : Option (Nat × Nat) := none
  /-- In PRE_MASTER: device clock at which the qualification ends. -/
  qualAt : Nat := 0
deriving DecidableEq, Repr

/-- One flow (R170 to R176). -/
structure FlowState where
  late : Nat := 0
  early : Nat := 0
  missing : Nat := 0
  pkts : Nat := 0
  lastTs : Nat := 0
  lost : Bool := false
  aOk : Bool := false
  bOk : Bool := false
  /-- Device clock of the last packet accepted on each path, or of the enable. -/
  aLast : Nat := 0
  bLast : Nat := 0
  /-- Receive: accepted packets by their first media count, with the samples as sent. -/
  buf : List (Nat × Bytes) := []
  /-- Receive: first media counts of the accepted packets of the last second that have left the buffer (R175). -/
  played : List Nat := []
  /-- Receive: missing samples since the last packet counted. -/
  missRun : Nat := 0
  /-- Transmit: samples read, newest first, as (media count, channels). -/
  hist : List (Nat × List Int) := []
deriving DecidableEq, Repr

/-- A packet of a transmit flow that is due (R171, R172). -/
structure RtpOut where
  flow : Nat
  ports : Nat
  dstA : Nat
  udpA : Nat
  dstB : Nat
  udpB : Nat
  udpSrc : Nat
  dscp : Nat
  ttl : Nat
  pt : Nat
  ssrc : Nat
  seq : Nat
  ts : Nat
  payload : Bytes
deriving DecidableEq, Repr

/-- What every frame of a port carries: source MAC, tag as (NW_PCP, NW_VID), IPv4 source and destination (0: none), DSCP
and UDP destination port (0: none) (R154, R171, R181). -/
structure NetHdr where
  mac : Nat
  tag : Option (Nat × Nat)
  src : Nat
  dst : Nat
  dscp : Nat
  udp : Nat
deriving DecidableEq, Repr

/-- What a network port sends. -/
inductive NetMsg where
  /-- The packet, and the whole IPv4 datagram of this path. -/
  | rtp (p : RtpOut) (datagram : Bytes)
  | arpRequest (sender mac target : Nat)
  | arpReply (sender mac target targetMac : Nat)
  | gratuitousArp (ip mac : Nat)
  | icmpReply (payload : Bytes)
  /-- IGMP version, group, source filter (0: none), join or leave. -/
  | igmp (version group src : Nat) (join : Bool)
  | sync (h : PtpHeader) (at_ : Nat)
  | followUp (h : PtpHeader) (origin : Nat)
  | announce (h : PtpHeader) (a : Announce) (tlv : Bytes)
  | delayReq (h : PtpHeader)
  | delayResp (h : PtpHeader) (requester : PortId) (receipt : Int)
deriving DecidableEq, Repr

/-- A membership report that is still to be sent. -/
structure IgmpDue where
  port : Nat
  group : Nat
  src : Nat
  join : Bool
  left : Nat
  due : Nat
deriving DecidableEq, Repr

/-- Network ports (chapter 06). -/
structure NwState where
  port0 : PortState := {}
  port1 : PortState := {}
  ptp0 : PtpState := {}
  ptp1 : PtpState := {}
  rx : Tab FlowState := []
  tx : Tab FlowState := []
  due : List RtpOut := []
  dueAt : Nat := 0
  igmp : List IgmpDue := []
  /-- The fence was open at the last frame boundary; a gratuitous ARP is due. -/
  fenceSeen : Bool := false
  garp : Bool := false
deriving DecidableEq, Repr

/-- A lease frame as sent (Table TW-3). -/
structure LeaseFrame where
  typ : Nat
  h : Bool
  e : Bool
  slotB : Bool
  seq : Nat
  /-- TW_F_CRC over bits 19 to 8. -/
  crc : Nat
deriving DecidableEq, Repr

/-- A lane message as sent (Tables TW-4, TW-5): type, level, sequence and content. -/
structure LaneMsg where
  typ : Nat
  level : Nat
  seq : Nat
  content : Bytes
deriving DecidableEq, Repr

/-- What the device has sent on its links: the model's own record, newest first. -/
inductive OutMsg where
  | ring (f : RingFrame)
  | lease (path : TwinPath) (f : LeaseFrame)
  | lane (lane : Nat) (m : LaneMsg)
  | net (port : Nat) (h : NetHdr) (m : NetMsg)
deriving DecidableEq, Repr

/-- A swap in progress (R381). -/
structure SwapState where
  at_ : Nat
  cmd : Nat
  acked : Bool
  /-- The RELEASE has gone out; the partner has not yet renewed. -/
  released : Bool
  releasedAt : Nat
deriving DecidableEq, Repr

/-- Twin redundancy (chapter 12). -/
structure TwState where
  tsl0 : Bool := false
  tsl1 : Bool := false
  witness : Bool := false
  /-- Since when the link has been healthy, on the device clock. -/
  healthySince : Option Nat := none
  peerRole : Option Role := none
  peerMode : Option Mode := none
  peerHot : Bool := false
  /-- L of the partner's last STATE since it became reachable. -/
  peerLease : Option Nat := none
  /-- Device clock of the last valid frame on TSL0, TSL1 and the witness pair (R357). -/
  heard : List Nat := [0, 0, 0]
  /-- The last frame acted on, its type before it, and the paths on which it has come (R357). -/
  lastFrame : Option (Nat × LeaseBits × List TwinPath) := none
  /-- Device clock of the last RENEW or NULL sent (R358). -/
  sentAt : Option Nat := none
  /-- Spindle millisecond of the last TWIN_MS_TICK, and the generations as held at its start (R359, R362). -/
  msAt : Option Nat := none
  msHeld : (Nat × Nat) × (Nat × Nat × Nat) := ((0, 0), (0, 0, 0))
  peerH : Bool := false
  peerE : Bool := false
  /-- Device clock of the last frame of the partner with TW_F_H or of type RENEW. -/
  peerHoldAt : Nat := 0
  slotClash : Bool := false
  clashAt : Nat := 0
  /-- Sequence number of the next RENEW. -/
  seq : Nat := 0
  /-- Whether this unit holds the Chuck. -/
  holds : Bool := false
  /-- Lease end on the device clock; none: the lease has no end. -/
  leaseEnd : Option Nat := none
  /-- Device clock of the latest ACK sent since it last became STANDBY. -/
  ackSent : Option Nat := none
  lastRenew : Nat := 0
  /-- RENEWs sent whose ACK is missing: device clock of the oldest. -/
  unacked : Option Nat := none
  claiming : Bool := false
  hot : Bool := false
  /-- Since when every group has been within 20 ps, on the device clock. -/
  alignSince : Option Nat := none
  genMatch : Bool := false
  genAlarmed : Bool := false
  pendAlarmed : Bool := false
  takeFailed : Bool := false
  takeFailedAt : Nat := 0
  lastCause : Nat := 0
  alignPs : Int := 0
  alignVideo : Int := 0
  alignNetwork : Int := 0
  stepPs : Int := 0
  takeovers : Nat := 0
  lastGap : Nat := 0
  ackMissed : Nat := 0
  swaps : Nat := 0
  swap : Option SwapState := none
  /-- The instant of a commanded swap in which this unit has accepted to take. -/
  swapTake : Option Nat := none
  partingTool : Bool := false
  /-- Level in use (R444), as 16 * major + minor. -/
  level : Option Nat := none
  /-- The partner's major level differs by more than one. -/
  levelBad : Bool := false
  msgSeq : Nat := 0
  /-- Send and receive times of the last TIME received on each lane, ps. -/
  timeStamps : List (Int × Int) := [(0, 0), (0, 0)]
  /-- Offset of this unit's Spindle time from the holder's, ps (R360). -/
  theta : Int := 0
  /-- Spindle time has been loaded from the holder since the unit became STANDBY (R137). -/
  timeLoaded : Bool := false
  laneLostAt : Nat := 0
  /-- Partner's pending commit: generation, digest, boundary time. -/
  peerPend : Nat × Nat × Nat := (0, 0, 0)
  peerGen : Nat × Nat := (0, 0)
  /-- A resynchronisation runs (R376): whether its comparison has been made and RESYNC_REQ sent, the holder's committed
  generation and digest at that comparison, what is to be pulled, and the images pulled so far. -/
  resync : Bool := false
  asked : Bool := false
  askedGen : Nat × Nat := (0, 0)
  needImage : Bool := false
  needPend : Bool := false
  pullImage : Bytes := []
  pullPend : Bytes := []
  pulled : Bool := false
  pulledPend : Bool := false
  /-- The frame boundary at which a pulled image commits. -/
  resyncAt : Option Nat := none
  ledgerInStep : Bool := false
  resyncCmds : List Nat := []
  /-- Last LG_WSERIAL of the partner held. -/
  peerWserial : Nat := 0
  /-- FP_ACC of the partner (R318). -/
  peerAcc : Option Nat := none
  /-- Mean path delays and moves mirrored by the holder (R135, R164). -/
  mirror : Option MirrorMsg := none
deriving DecidableEq, Repr

/-- A barrier (R439): its identifier, the number of ring commands received before phase 1, and the held phase 2. -/
structure BarrierState where
  id : Nat
  mark : Nat
  held : Option RingFrame
  heldAt : Nat
deriving DecidableEq, Repr

/-- The ring interface (chapter 14). -/
structure IgState where
  addr : Nat := 63
  pos : Nat := 0
  inUp : Bool := false
  /-- IGR_OUT forwards: from step 4 of Sequence PW-1. -/
  forwarding : Bool := false
  /-- Ring queue: the order number of each slot and the slot (R432). -/
  queue : List (Nat × Bytes) := []
  rcvd : Nat := 0
  /-- Own frames waiting for IGR_OUT, at most 16 (R427); with each the order number of the command it answers, or 0. -/
  own : List (Nat × RingFrame) := []
  fseq : Nat := 0
  crcErrs : Nat := 0
  drops : Nat := 0
  unknown : Nat := 0
  bypassed : Nat := 0
  overflow : Bool := false
  timeHops : Nat := 0
  timeOffset : Int := 0
  /-- Device clock of the last accepted TIME frame. -/
  lastTime : Option Nat := none
  inDelay : Nat := 0
  evtMask : Nat := 0
  evtBits : Nat := 0
  evtLast : Option Nat := none
  breakLast : Option Nat := none
  joinLast : Option Nat := none
  /-- Spindle millisecond of the last TIME frame sent, or of the commit that named a new master (R436). -/
  timeMs : Option Nat := none
  barrier : Option BarrierState := none
  snapId : Nat := 0
  /-- IG_SNAP_STATE. -/
  snapState : Nat := 0
  snapAt : Nat := 0
  snapTime : Nat := 0
  snapParts : List Bytes := []
  /-- Device clock of the RING_RESET whose 2 ms run (R431). -/
  resetting : Option Nat := none
  /-- A reset scope requested over the ring also answers on the ring (R434). -/
  resetOverRing : Bool := false
deriving DecidableEq, Repr

/-- A commit that is pending (R405). -/
structure PendCommit where
  tables : Tables
  gen : Nat
  digest : Nat
  boundary : Nat
  cmd : Option Nat
  recs : List Rec
  full : Bool
deriving DecidableEq, Repr

/-- The staging area (R401): its base and its records, newest first. -/
structure Staging where
  full : Bool
  recs : List Rec
deriving DecidableEq, Repr

/-- The host window, the rings and commits (chapter 13). -/
structure MbState where
  cmdHead : Nat := 0
  cmdTail : Nat := 0
  rspHead : Nat := 0
  rspTail : Nat := 0
  overflows : Nat := 0
  /-- A post was dropped and HW_CMD_TAIL has not advanced since (HW_IRQ_SPACE). -/
  dropped : Bool := false
  held : List Bytes := []
  irqStatus : Nat := 0
  irqEnable : Nat := 0
  /-- Scope of the open key sequence and the device clock of its first key (R391). -/
  resetKey : Option (Nat × Nat) := none
  resetBusy : Option Scope := none
  cmds : List Cmd := []
  nextN : Nat := 1
  accepts : Nat := 0
  /-- Which queue was consumed last (R432). -/
  lastRing : Bool := true
  /-- Last sequence numbers of the origins 0, 1 and 3 (R398). -/
  seqHost : Option Nat := none
  seqRing : Option Nat := none
  seqPins : Option Nat := none
  staging : Option Staging := none
  stageBytes : Nat := 0
  /-- Partial image: total length and bytes so far (R419). -/
  image : Option (Nat × Bytes) := none
  pend : Option PendCommit := none
  gen : Nat := 0
  digest : Nat := 0
  /-- The configuration as it was committed, without later direct writes (R412). -/
  committed : Tables := {}
  /-- Direct writes since the commit, oldest first (R412). -/
  direct : List Rec := []
  alarmBlocks : Nat := 0
deriving DecidableEq, Repr

/-- A credential slot (R450 to R454). -/
structure CredSlot where
  /-- 0 empty, 1 OPERATOR, 2 ENGINEER, 3 OFFICER. -/
  cls : Nat := 0
  secret : Bytes := []
  seq : Option Nat := none
  /-- Device clock of the recent authentication failures. -/
  fails : List Nat := []
  lockedAt : Option Nat := none
deriving DecidableEq, Repr

/-- A held proposal (R458). -/
structure Proposal where
  id : Nat
  digest : Nat
  recs : List Rec
  slot : Nat
  origin : Nat
  seq : Nat
  /-- End of the window on the device clock, and as the Spindle time reported. -/
  until_ : Nat
deriving DecidableEq, Repr

/-- A firmware slot (R469): what its header says, whether it verifies, and the image when it was written here.
Log entry 77 (DEDUCED). Log entry 13 (DESIGN CHOICE). -/
structure FwSlot where
  levelMaj : Nat := 1
  levelMin : Nat := 0
  build : Nat := 0
  verifies : Bool := true
  image : Option Bytes := none
deriving DecidableEq, Repr

/-- Protection and firmware (chapter 15). -/
structure PtState where
  cred : List CredSlot := List.replicate 8 {}
  /-- PT_ALLOW of each class, default 0x0111 (R456). -/
  allow : Tab Nat := []
  retain : Bool := false
  signedCfg : Bool := false
  splitOrigin : Bool := false
  /-- Configuration signing keys; an empty string is an empty slot. -/
  keys : List Bytes := List.replicate 4 []
  proposal : Option Proposal := none
  nextProp : Nat := 1
  /-- The proposal that expired last: a late PT_CONFIRM of it is answered WINDOW_EXPIRED (Table PT-4). -/
  expired : Option Nat := none
  authFails : Nat := 0
  runB : Bool := false
  hdr0 : Bytes := []
  hdr1 : Bytes := []
  slotA : FwSlot := {}
  slotB : FwSlot := {}
  rolledBack : Option Nat := none
  /-- A firmware write in progress: slot B, whole length, bytes so far. -/
  writing : Option (Bool × Nat × Bytes) := none
deriving DecidableEq, Repr

/-- A ledger entry (Table PT-5). -/
structure LgEntry where
  sec : Nat
  ns : Nat
  lastMs : Nat := 0
  kind : Nat
  mirror : Bool := false
  origin : Nat
  timeValid : Bool
  auth : Bool := false
  cred : Nat := 0
  opcode : Nat
  outcome : Nat
  count : Nat := 1
  gen : Nat
  digest : Nat
  wserial : Nat := 0
deriving DecidableEq, Repr

/-- An open entry that direct writes may join (R462): the key bytes and the device clock of the first write. -/
structure OpenEntry where
  e : LgEntry
  key : Bytes
  first : Nat
deriving DecidableEq, Repr

/-- The ledger (chapter 15). -/
structure LgState where
  open_ : List OpenEntry := []
  /-- Closed entries waiting for flash, oldest first. -/
  queue : List LgEntry := []
  /-- Entries in flash with their serials, newest first. -/
  flash : List (Nat × LgEntry) := []
  next : Nat := 0
  oldest : Nat := 0
  exported : Nat := 0
  released : Nat := 0
  lost : Nat := 0
  wserial : Nat := 0
  alarmed : Bool := false
  /-- LG_FLUSH commands: the command and the number of entries that must still reach flash. -/
  flush : List (Nat × Nat) := []
deriving DecidableEq, Repr

/-- The whole state of the block. -/
structure State where
  pw : PwState := {}
  mode : Mode := .boot
  role : Role := .fenced
  acquireFenced : Bool := false
  fenceOpen : Bool := false
  firstLive : Bool := false
  safeCause : Nat := 0
  faultCount : Nat := 0
  /-- Fabric cycle of the last event that can lead to a mode, its rank in the order of R29, and the fabric cycle of the
  SAFE entry (R15). -/
  evtAt : Nat := 0
  evtRank : Nat := 0
  safeAt : Nat := 0
  /-- The one Spindle time counter (R18). -/
  spindle : Nat := 0
  timeValid : Bool := false
  /-- The device clock: time on the selected root since power-up, which no Spindle step moves (R363, R458). -/
  clock : Nat := 0
  dataPlane : DataPlane := .dark
  live : Tables := {}
  hs : HsState := {}
  tk : TkState := {}
  dg : DgState := {}
  ad : AdState := {}
  da : DaState := {}
  ps : List PsState := List.replicate 4 {}
  xb : XbState := {}
  fp : FpState := {}
  sn : SnState := {}
  nw : NwState := {}
  tw : TwState := {}
  ig : IgState := {}
  mb : MbState := {}
  pt : PtState := {}
  lg : LgState := {}
  /-- Bytes of the rings and of the bulk buffer, by window address; an unlisted byte reads zero (R387). -/
  mem : List Host.Cell := []
  /-- The model's own field: how many free values have been drawn. -/
  freeCount : Nat := 0
  /-- The model's own record of what was sent, newest first. -/
  out : List OutMsg := []
  /-- The commands and events that wait, first in first out. -/
  pending : List Instr := []
deriving DecidableEq, Repr

/-- Why a step stops with a fault. The block has no behaviour that the manual calls a stop of the machine: health events
of class FAULT lead to SAFE, a next state (R15). -/
inductive Fault where
  /-- Raised by no row of this model; safe, because nothing is proved of it. -/
  | none_
deriving DecidableEq, Repr

/-- Why a step is refused. -/
inductive Refusal where
  /-- Raised by an arm of `exec` whose row has no meaning yet; safe, because the step then answers no next state. -/
  | notModelled (mnemonic : String)
deriving DecidableEq, Repr

/-- The boot header copy that a new part holds in this model: root 10 MHz, slot A preferred, update count 0, and its
CRC-32 (Table PT-9). DESIGN CHOICE: the manual gives no contents of the flash of a new board.
Log entry 13 (DESIGN CHOICE). -/
def factoryHeader : Bytes :=
  [0x56, 0x44, 0x42, 0x48, 1, 0, 0, 0, 0, 0, 0, 0, 0, 0, 0, 0, 0, 0, 0, 0, 0, 0, 0, 0, 0, 0, 0, 0,
   0x42, 0x6e, 0x9d, 0xf7]

/-- The state right after power-on reset has done its work and before the internal reset releases: the rails are within
range, the internal reset is asserted (R57, R59), every register is at the default of its table. -/
def State.reset : State := { pt := { hdr0 := factoryHeader } }

end Sys2Proof.Machine
end

