-- ==== Sys2Proof/Machine/Ops.lean ====
section
/-! DEFINITION. The shared operations: status bits, the ledger, responses, ring and lease frames, mode, role and fence. -/
namespace Sys2Proof.Machine

/-! ### Small views of the state -/

/-- The rate family in force: 44.1 kHz when true (R23). -/
def f441 (s : State) : Bool := s.live.synth.f441

/-- The unit is strapped as slot A or slot B (R43). -/
def twinPos (s : State) : Bool := s.pw.slotSel != 2

/-- Eligible to take the Chuck (R32). -/
def eligible (s : State) : Bool :=
  match s.mode with
  | .freerun | .acquire | .locked | .holdover => true
  | _ => false

def modeCode : Mode → Nat
  | .boot => 0 | .configure => 1 | .freerun => 2 | .acquire => 3
  | .locked => 4 | .holdover => 5 | .safe => 6 | .hush => 7

def roleCode : Role → Nat
  | .solo => 0 | .active => 1 | .standby => 2 | .fenced => 3

/-- A number with bit `b` set. -/
def setBit (n b : Nat) : Nat := if nbit n b then n else n + 2 ^ b

/-- The command-set level of the running firmware, as 16 * major + minor (R442). -/
def unitLevel (s : State) : Nat :=
  let f := if s.pt.runB then s.pt.slotB else s.pt.slotA
  16 * f.levelMaj + f.levelMin

/-- One cycle of the fabric clock FCLK, 400 MHz (Table AH-5), and the number of the present one. -/
def fabricLen : Nat := uPerNs * 5 / 2
def fabricCycle (s : State) : Nat := s.clock / fabricLen

/-- Ranks of R29 in one fabric cycle: reset, FAULT, reference loss, reference qualification, host request. -/
def rankReset : Nat := 1
def rankFault : Nat := 2
def rankLoss : Nat := 3
def rankQual : Nat := 4
def rankHost : Nat := 5

/-- The fabric cycle in which the next event acts: the present one, or the one in which the last event acted. -/
def eventCycle (s : State) : Nat := if fabricCycle s < s.evtAt then s.evtAt else fabricCycle s

/-- An event that can lead to another mode takes its place in the order of R29: an event that comes after one of a higher
rank acts in the fabric cycle after it. Log entry 88 (DESIGN CHOICE). -/
def inOrder (rank : Nat) (s : State) : State :=
  if eventCycle s = s.evtAt ∧ rank < s.evtRank then { s with evtAt := eventCycle s + 1, evtRank := rank }
  else { s with evtAt := eventCycle s, evtRank := rank }

/-- A free value (log entry 3): it is drawn, and the next draw is another one. -/
def drawFree (s : State) : Nat × State := (Config.freeNat s.freeCount, { s with freeCount := s.freeCount + 1 })

/-! ### Interrupt status and alarms -/

/-- An event sets bit `b` of HW_IRQ_STATUS (R390); a bit selected by IG_EVT_MASK that goes from 0 to 1 will be carried by
an EVENT (R435). -/
def raiseIrq (b : Nat) (s : State) : State :=
  if nbit s.mb.irqStatus b then s
  else { s with mb := { s.mb with irqStatus := s.mb.irqStatus + 2 ^ b },
                ig := { s.ig with evtBits := if nbit s.ig.evtMask b then setBit s.ig.evtBits b else s.ig.evtBits } }

/-- Blocks of MB_ALARM_BLOCKS (Table MB-19). -/
def blkHS : Nat := 0
def blkTK : Nat := 1
def blkNW : Nat := 2
def blkAD : Nat := 3
def blkDA : Nat := 4
def blkXB : Nat := 5
def blkFP : Nat := 6
def blkSN : Nat := 7
def blkDG : Nat := 8
def blkTW : Nat := 9
def blkIG : Nat := 10
def blkPT : Nat := 11
def blkLG : Nat := 12
/-- Log entry 16 (DESIGN CHOICE). -/
def blkPW : Nat := 13

/-- An ALARM of a block: its bit in MB_ALARM_BLOCKS and HW_IRQ_ALARM (R14, R390, Table MB-19). -/
def raiseAlarm (blk : Nat) (s : State) : State :=
  raiseIrq 2 { s with mb := { s.mb with alarmBlocks := setBit s.mb.alarmBlocks blk } }

/-! ### The ledger -/

def lgCapacity : Nat := 1048576

/-- Entries from the start of the oldest sector held to the write position. -/
def lgSpan (s : State) : Nat := s.lg.next - s.lg.oldest / 2048 * 2048

/-- LG_FULL: with LG_RETAIN, the write position is in the last erased sector (R464). -/
def lgFull (s : State) : Bool := s.pt.retain && decide (lgSpan s ≥ lgCapacity - 2048)

/-- LG_RESERVE_OUT: that sector is full as well (R464). -/
def lgReserveOut (s : State) : Bool := s.pt.retain && decide (lgSpan s + s.lg.queue.length ≥ lgCapacity)

/-- An entry stamped with the present time (Table PT-5). -/
def lgStamp (kind origin opcode outcome gen digest : Nat) (s : State) : LgEntry :=
  { sec := secOf s.spindle % 2 ^ 40, ns := nsOf s.spindle, kind, origin, timeValid := s.timeValid, opcode, outcome,
    gen, digest }

/-- An entry of the unit's own takes its count and a place in the queue. -/
def lgOwn (e : LgEntry) (s : State) : State :=
  { s with lg := { s.lg with queue := s.lg.queue ++ [{ e with wserial := s.lg.wserial + 1 }],
                             wserial := (s.lg.wserial + 1) % 2 ^ 32 } }

/-- The last place of the reserve takes the event 0xFF0A that it is exhausted (R464, Table PT-6).
Log entry 60 (DEDUCED). -/
def lgLastPlace (s : State) : State :=
  if s.pt.retain && lgSpan s + s.lg.queue.length + 1 == lgCapacity then lgOwn (lgStamp 4 4 0xFF0A 0 s.mb.gen 1 s) s else s

/-- A closed entry joins the queue for flash, or is counted in LG_LOST (R463, R464). -/
def lgPut (e : LgEntry) (s : State) : State :=
  if s.lg.queue.length < 4096 ∧ lgReserveOut s = false then lgLastPlace (lgOwn e s)
  else { s with lg := { s.lg with lost := satInc 16 s.lg.lost } }

/-- A mirrored entry keeps the writer's own count (R466). -/
def lgPutMirror (e : LgEntry) (s : State) : State :=
  if s.lg.queue.length < 4096 ∧ lgReserveOut s = false then
    lgLastPlace { s with lg := { s.lg with queue := s.lg.queue ++ [{ e with mirror := true }] } }
  else { s with lg := { s.lg with lost := satInc 16 s.lg.lost } }

/-- A device event of Table PT-6. -/
def lgEvent (code digest : Nat) (s : State) : State := lgPut (lgStamp 4 4 code 0 s.mb.gen digest s) s

/-- Closes every open entry, oldest first (R462: SAFE entry, HUSH entry, FULL reset, LG_FLUSH). -/
def lgCloseAll (s : State) : State :=
  let o := s.lg.open_
  o.foldl (fun t x => lgPut x.e t) { s with lg := { s.lg with open_ := [] } }

/-- The key bytes of a coalescing direct write (Table PT-7); none for every other opcode. -/
def lgKey (op : Nat) (p : Bytes) : Option Bytes :=
  match op with
  | 0x0311 | 0x0325 | 0x0326 | 0x0418 | 0x0812 | 0x0A11 | 0x0A12 => some []
  | 0x0312 | 0x0314 | 0x0317 | 0x0318 | 0x0416 | 0x0419 | 0x0525 => some (p.take 1)
  | 0x0612 => some (slice p 0 1 ++ slice p 3 1)
  | 0x0513 => some (p.take 2)
  | 0x0715 => some (p.take 2 ++ [BitVec.ofNat 8 (fld p 2 1 1)])
  | 0x0522 | 0x0627 | 0x0628 => some (p.take 4)
  | 0x0624 | 0x0625 | 0x0626 => some (p.take 6)
  | _ => none

/-- Whether an open entry takes this write (R462). -/
def lgJoins (s : State) (e : LgEntry) (key : Bytes) (o : OpenEntry) : Bool :=
  o.e.opcode == e.opcode && o.key == key && o.e.origin == e.origin && o.e.auth == e.auth && o.e.cred == e.cred &&
    decide (s.clock < o.first + 100 * uPerMs)

/-- The open entry with one more write merged into it. -/
def lgMerge (s : State) (e : LgEntry) (o : OpenEntry) : OpenEntry :=
  { o with e := { o.e with lastMs := (s.clock - o.first) / uPerMs, count := o.e.count + 1, gen := e.gen,
                           digest := e.digest } }

/-- Merges a write into the first open entry that takes it; an entry at its 255th write closes. Answers the entries that
stay open, those that close, and whether one took it. -/
def lgJoin (s : State) (e : LgEntry) (key : Bytes) : List OpenEntry → List OpenEntry × List LgEntry × Bool
  | [] => ([], [], false)
  | o :: os =>
    if lgJoins s e key o then
      let o' := lgMerge s e o
      if o'.e.count ≥ 255 then (os, [o'.e], true) else (o' :: os, [], true)
    else
      let r := lgJoin s e key os
      (o :: r.1, r.2.1, r.2.2)

/-- The entry of a DONE direct write: it joins an open entry, or opens one, of at most 64 (R462). -/
def lgDirect (e : LgEntry) (key : Bytes) (s : State) : State :=
  let r := lgJoin s e key s.lg.open_
  if r.2.2 then r.2.1.foldl (fun t x => lgPut x t) { s with lg := { s.lg with open_ := r.1 } }
  else
    let s1 := match s.lg.open_ with
      | o :: os => if s.lg.open_.length ≥ 64 then lgPut o.e { s with lg := { s.lg with open_ := os } } else s
      | [] => s
    { s1 with lg := { s1.lg with open_ := s1.lg.open_ ++ [{ e, key, first := s.clock }] } }

/-- Opcode classes that leave a ledger entry (R461). -/
def lgLogged (op status : Nat) : Bool :=
  let c := op / 256
  if status = 0x10 then true
  else if c < 2 ∨ c > 0x0D then false
  else if op = 0x0210 ∨ op = 0x0211 then false
  else !(status == 0x01 && op != 0x0212)

/-- The entry of an answered command (R461), or of the ACCEPTED of MB_COMMIT. Log entry 78 (DEDUCED). -/
def lgCommand (c : Cmd) (status : Nat) (s : State) : State :=
  if lgLogged c.opcode status = false then s else
    let kind := if c.opcode = 0x0212 then (if c.phase = .mid then 1 else 0)
      else if c.opcode = 0x0B10 ∨ c.opcode = 0x0B11 ∨ c.opcode = 0x0B12 then 3 else 2
    let gen := if kind = 0 then (match s.mb.pend with | some p => p.gen | none => s.mb.gen) else s.mb.gen
    let dig := if c.opcode = 0x0212 then
        (match s.mb.pend with | some p => p.digest | none => if kind = 1 then s.mb.digest else 0)
      else digest64 c.payload
    let e := { lgStamp kind c.origin c.opcode status gen dig s with auth := c.auth, cred := if c.auth then c.cred else 0 }
    match status, lgKey c.opcode c.payload with
    | 0, some key => lgDirect e key s
    | _, _ => lgPut e s

/-- R463, R464: whether a command that would be logged must be answered RESOURCE. `exempt`: PT_PROPOSE, PT_CONFIRM,
PT_WITHDRAW and LG_EXPORT, which may use the reserve. -/
def lgBlocked (op : Nat) (s : State) : Bool :=
  let exempt := op == 0x0B10 || op == 0x0B11 || op == 0x0B12 || op == 0x0C10
  decide (s.lg.queue.length ≥ 4096) || lgReserveOut s || (lgFull s && !exempt)

/-! ### Frames of the unit's own -/

/-- A frame of the unit's own towards the head: at most 16 wait for IGR_OUT; one more is counted in IG_DROPS (R427). -/
def ringSend (answers typ : Nat) (payload : Bytes) (s : State) : State :=
  if s.ig.own.length < 16 then
    let f : RingFrame := { rsv := (0, 0, 0), dst := 0, src := s.ig.addr, typ, hops := 0, len := payload.length,
                           fseq := s.ig.fseq, payload, crcOk := true }
    { s with ig := { s.ig with own := s.ig.own ++ [(answers, f)], fseq := (s.ig.fseq + 1) % 65536 } }
  else { s with ig := { s.ig with drops := satInc 16 s.ig.drops } }

/-- Sends the own frames that wait, oldest first. -/
def ringFlush (s : State) : State :=
  { s with out := s.ig.own.foldl (fun o f => .ring f.2 :: o) s.out, ig := { s.ig with own := [] } }

/-- The paths in service (R357). -/
def pathUp (s : State) : TwinPath → Bool
  | .tsl0 => s.tw.tsl0
  | .tsl1 => s.tw.tsl1
  | .witness => s.tw.witness

def pathsUp (s : State) : List TwinPath := [TwinPath.tsl0, .tsl1, .witness].filter (pathUp s)

/-- Bits 19 to 8 of a lease frame (Table TW-3), also the content of LEASE (Table TW-5). -/
def leaseBits (f : LeaseFrame) : Nat := 512 * f.typ + 256 * b2n f.h + 128 * b2n f.e + 64 * b2n f.slotB + f.seq

/-- TW_F_CRC: over bits 19 to 8, from 0x00. -/
def leaseCrc (w : Nat) : Nat := crc8 7 w 12 0

/-- A lease frame of this unit (Table TW-3). -/
def leaseFrame (typ seq : Nat) (s : State) : LeaseFrame :=
  let f : LeaseFrame := { typ, h := s.tw.holds, e := eligible s, slotB := s.pw.slotSel == 1, seq, crc := 0 }
  { f with crc := leaseCrc (leaseBits f) }

/-- A lease frame on one path: the frame itself on the witness pair, message LEASE on a lane (Table TW-5). -/
def leaseOut (typ seq : Nat) (s : State) (p : TwinPath) : OutMsg :=
  let f := leaseFrame typ seq s
  let m : LaneMsg := { typ := 1, level := s.tw.level.getD (unitLevel s), seq := s.tw.msgSeq, content := le 2 (leaseBits f) }
  match p with
  | .witness => .lease p f
  | .tsl0 => .lane 0 m
  | .tsl1 => .lane 1 m

/-- A lease frame on the paths named (R358, R359). Log entry 84 (DESIGN CHOICE). -/
def leaseSend (paths : List TwinPath) (typ seq : Nat) (s : State) : State :=
  { s with out := paths.foldl (fun o p => leaseOut typ seq s p :: o) s.out,
           tw := { s.tw with msgSeq := if paths.all (fun p => p == .witness) then s.tw.msgSeq else (s.tw.msgSeq + 1) % 2 ^ 32 } }

/-- The lanes in service. -/
def lanesUp (s : State) : List Nat := (if s.tw.tsl0 then [0] else []) ++ (if s.tw.tsl1 then [1] else [])

/-- A message on every lane in service (R359). Log entry 84 (DESIGN CHOICE). -/
def laneSend (typ : Nat) (content : Bytes) (s : State) : State :=
  let m : LaneMsg := { typ, level := s.tw.level.getD (unitLevel s), seq := s.tw.msgSeq, content }
  { s with out := (lanesUp s).foldl (fun o l => .lane l m :: o) s.out,
           tw := { s.tw with msgSeq := (s.tw.msgSeq + 1) % 2 ^ 32 } }

/-! ### Memory of the host window -/

/-- Byte at a window address of the rings and of the bulk buffer; an unlisted byte reads zero (R387).
Log entry 82 (DEDUCED). -/
def memRead (s : State) (a : Nat) : Byte := tabGet 0 s.mem a

/-- Log entry 82 (DEDUCED). -/
def memWrite (a : Nat) (b : Byte) (s : State) : State := { s with mem := tabSet 0 s.mem a b }

/-- Writes bytes in ascending address order. -/
def memWriteList (a : Nat) (bs : Bytes) (s : State) : State := { s with mem := tabSetList 0 s.mem a bs }

def memReadList (s : State) (a n : Nat) : Bytes := tabRead 0 s.mem a n

/-! ### Responses -/

/-- Response statuses (Table MB-9). -/
def stDone : Nat := 0x00
def stAccepted : Nat := 0x01
def stDeferred : Nat := 0x02
def stAccess : Nat := 0x10
def stState : Nat := 0x11
def stBad : Nat := 0x12
def stLevel : Nat := 0x13
def stResource : Nat := 0x14
def stWindow : Nat := 0x15
def stFault : Nat := 0x20

/-- A response slot (Table MB-8). -/
def rspSlot (s : State) (tag status opcode : Nat) (final dup more : Bool) (res : Bytes) : Bytes :=
  le 1 tag ++ le 1 status ++ le 2 opcode ++ le 4 s.mb.gen ++
    le 1 (4 * b2n final + 2 * b2n dup + b2n more) ++ zeros 3 ++ padTo 20 res

/-- Responses that the host has not read. -/
def rspUnread (s : State) : Nat := (s.mb.rspHead + 65536 - s.mb.rspTail) % 65536

/-- Writes a whole response slot, then advances HW_RSP_HEAD (R395). -/
def rspWrite (slot : Bytes) (s : State) : State :=
  let s1 := memWriteList (0x5000 + 32 * (s.mb.rspHead % 256)) slot s
  raiseIrq 0 { s1 with mb := { s1.mb with rspHead := (s1.mb.rspHead + 1) % 65536 } }

/-- A response to the host port: written, or held in order while 256 are unread (R395). -/
def rspHost (slot : Bytes) (s : State) : State :=
  if s.mb.held.isEmpty && decide (rspUnread s < 256) then rspWrite slot s
  else { s with mb := { s.mb with held := s.mb.held ++ [slot] } }

/-- A response by its origin: a RESPONSE frame for the ring, else the response ring (R432). -/
def rspSend (c : Cmd) (slot : Bytes) (s : State) : State :=
  if c.mute then s else if c.origin = 1 then ringSend c.ringNo 0x04 slot s else rspHost slot s

/-- The command list without command `n`. -/
def dropCmd (n : Nat) (s : State) : State := { s with mb := { s.mb with cmds := s.mb.cmds.filter (fun c => c.n != n) } }

def setPhase (n : Nat) (ph : CmdPhase) (s : State) : State :=
  { s with mb := { s.mb with cmds := s.mb.cmds.map (fun c => if c.n = n then { c with phase := ph } else c) } }

/-- A final response: its slot, its ledger entry, its tag no longer outstanding. -/
def respondFinal (c : Cmd) (status : Nat) (res : Bytes) (s : State) : State :=
  let status := if c.doomed then stFault else status
  dropCmd c.n (lgCommand c status (rspSend c (rspSlot s c.tag status c.opcode true false false res) s))

/-- The first MB_DRAIN whose earlier commands all have their final response (R419). -/
def drainReady (s : State) : Option Cmd :=
  s.mb.cmds.find? fun c => c.opcode == 0x0111 && c.phase == .running && s.mb.cmds.all (fun d => decide (c.n ≤ d.n))

/-- Answers the MB_DRAINs that are due. -/
def settleDrains : Nat → State → State
  | 0, s => s
  | k + 1, s =>
    match drainReady s with
    | none => s
    | some c => settleDrains k (respondFinal c stDone [] s)

/-- The final response of a command, and of the drains that waited for it. -/
def respond (c : Cmd) (status : Nat) (res : Bytes) (s : State) : State :=
  let s1 := respondFinal c status res s
  settleDrains s1.mb.cmds.length s1

/-- The final response of the command of count `n`, if it is outstanding. -/
def respondTo (n status : Nat) (res : Bytes) (s : State) : State :=
  match s.mb.cmds.find? (fun c => c.n == n) with
  | some c => respond c status res s
  | none => s

/-- An intermediate response (R396): DEFERRED, or ACCEPTED of MB_COMMIT. -/
def respondMid (c : Cmd) (status : Nat) (res : Bytes) (s : State) : State :=
  let s1 := rspSend c (rspSlot s c.tag status c.opcode false false false res) s
  let s2 := if c.opcode = 0x0212 then lgCommand { c with phase := .running } status s1 else s1
  setPhase c.n .mid s2

/-- The same response to each of a list of commands, by their counts. -/
def respondAll (ns : List Nat) (status : Nat) (res : Bytes) (s : State) : State :=
  ns.foldl (fun t n => respondTo n status res t) s

/-! ### Mode, role and fence -/

/-- What R17 asks of the fence; the parting tool (R371) and the internal reset (Table PW-2) hold it closed. -/
def fenceWanted (s : State) : Bool :=
  (s.role == .active || s.role == .solo) && s.mode != .hush && !(s.mode == .acquire && s.acquireFenced) &&
    !s.tw.partingTool && !s.pw.inReset

/-- The identification is abandoned because the fence has closed (Table FP-3): the result of the unit that now has the
open fence is adopted. Log entry 48 (DEDUCED). -/
def identAbandon (s : State) : State :=
  if s.fp.identAt = none then s else
    let c := s.fp.identCmd
    let s1 := { s with fp := { s.fp with acc := s.tw.peerAcc.getD 0, identAt := none, identCmd := none } }
    match c with
    | some n => respondTo n stState [] s1
    | none => s1

/-- A Sync whose Follow_Up is unsent when the fence closes has none (R165). -/
def noFollowUp (n : NwState) : NwState :=
  { n with ptp0 := { n.ptp0 with followUp := none }, ptp1 := { n.ptp1 with followUp := none } }

/-- FENCE_EVALUATE: the pins follow the result (R16, R17); MICBIAS is timed from the change (R316), and an identification
ends when the fence closes. -/
def fenceEval (s : State) : State :=
  let w := fenceWanted s
  if w = s.fenceOpen then s
  else if w then { s with fenceOpen := true, fp := { s.fp with fenceOpened := s.clock } }
  else identAbandon { s with fenceOpen := false, fp := { s.fp with fenceClosed := s.clock }, nw := noFollowUp s.nw }

/-- MODE_CHANGE (R26): HW_MODE, HW_IRQ_MODE, ledger event 0xFF02, and the fence. Log entry 88 (DESIGN CHOICE). -/
def setMode (m : Mode) (s : State) : State :=
  if s.mode = m then s
  else fenceEval (raiseIrq 4 (lgEvent 0xFF02 (modeCode s.mode + 256 * modeCode m) { s with mode := m }))

/-- A STANDBY makes no phase move of its own (R509). -/
def noMove (y : SynState) : SynState :=
  { y with owed := 0, loopOwed := 0, resOwed := 0, moving := false, suspended := false, paused := false,
           discarded := if y.moving then y.owed / 2 ^ 32 else y.discarded }

/-- The twin entry has no signal outside role ACTIVE (R118). -/
def noTwinCand (t : Tables) (i : Nat) (c : CandState) : CandState :=
  if (tabGet {} t.cand i).typ = 0x0A ∧ c.st ≠ .off then { c with st := .noSignal, hasFreq := false } else c

/-- ROLE_CHANGE (R31): HW_ROLE, HW_IRQ_ROLE, ledger event 0xFF04, and the fence. A unit that becomes STANDBY starts its
resynchronisation (R376) and counts no acknowledgement yet (R367); a unit that leaves STANDBY keeps the words in use, and
its loop starts from their y (R93, R509). The moves and the step of a unit that becomes STANDBY end (R509); the twin
entry of a unit that is no longer ACTIVE has no signal (R118). -/
def setRole (r : Role) (s : State) : State :=
  if s.role = r then fenceEval s else
    let s1 := lgEvent 0xFF04 (roleCode s.role + 256 * roleCode r + 65536 * s.tw.lastCause) { s with role := r }
    let s2 := raiseIrq 5 s1
    let s3 := if r = .standby then
        { s2 with tw := { s2.tw with ackSent := none, hot := false, alignSince := none, timeLoaded := false, resync := true,
                                     asked := false, needImage := false, needPend := false, pullImage := [],
                                     pullPend := [], pulled := false, pulledPend := false, resyncAt := none,
                                     ledgerInStep := false },
                  hs := { s2.hs with msyn := noMove s2.hs.msyn, vsyn := noMove s2.hs.vsyn, nsyn := noMove s2.hs.nsyn },
                  tk := { s2.tk with step := none, realign := [] } }
      else if s.role = .standby then
        { s2 with tw := { s2.tw with hot := false, resync := false, resyncAt := none, swapTake := none },
                  tk := { s2.tk with yi := s2.tk.y } }
      else s2
    let s4 : State := if s.role = .active then
        { s3 with tk := { s3.tk with cand := s3.tk.cand.mapIdx (noTwinCand s3.live) } } else s3
    fenceEval s4

/-- R390: HOST_IRQ is asserted while a bit is set in both registers. -/
def hostIrq (s : State) : Bool := Nat.land s.mb.irqStatus s.mb.irqEnable != 0

end Sys2Proof.Machine
end

