-- ==== Sys2Proof/Machine/LedgerFlash.lean ====
section
/-! DEFINITION. The ledger on its way into flash (R460, R463, R464, R466): the entry as bytes, and storing. -/
namespace Sys2Proof.Machine

/-! ### Entries (Table PT-5) -/

/-- The 32 bytes of an entry. -/
def lgBytes (e : LgEntry) : Bytes :=
  le 5 e.sec ++ le 4 e.ns ++ le 1 e.lastMs ++ le 1 (16 * e.kind + 8 * b2n e.mirror + e.origin) ++
    le 1 (128 * b2n e.timeValid + 64 * b2n e.auth + e.cred) ++ le 2 e.opcode ++ le 1 e.outcome ++ le 1 e.count ++
    le 4 e.gen ++ le 8 e.digest ++ le 4 e.wserial

/-! ### Storing (R460, R463, R464) -/

/-- Unreleased entries (LG_FILL, the ALARM of R464). -/
def lgUnreleased (s : State) : Nat := s.lg.next - (if s.lg.oldest < s.lg.released then s.lg.released else s.lg.oldest)

/-- The flash keeps the entries from a serial on. -/
def lgEraseTo (n : Nat) (s : State) : State :=
  if n ≤ s.lg.oldest then s
  else { s with lg := { s.lg with oldest := n, flash := s.lg.flash.filter (fun e => decide (n ≤ e.1)) } }

/-- With LG_RETAIN clear, a sector that fills has the one ahead erased: the oldest goes (R464). -/
def lgWrap (s : State) : State :=
  if s.lg.next % 2048 = 0 ∧ s.pt.retain = false then lgEraseTo (s.lg.next - 511 * 2048) s else s

/-- LG_FLUSH commands count the entries that still have to reach flash; those that wait for none are answered. -/
def lgFlushStep (s : State) : State :=
  let fs := s.lg.flush.map (fun f => (f.1, f.2 - 1))
  respondAll ((fs.filter (fun f => f.2 == 0)).map (fun f => f.1)) stDone []
    { s with lg := { s.lg with flush := fs.filter (fun f => f.2 != 0) } }

/-- The ALARM at 90 % of the region, once until the ledger is below it again. -/
def lgAlarm (s : State) : State :=
  let high := decide (lgCapacity * 9 ≤ lgUnreleased s * 10)
  let s1 : State := { s with lg := { s.lg with alarmed := high } }
  if high && !s.lg.alarmed then raiseAlarm blkLG s1 else s1

/-- The event 0xFF0A when the ledger becomes full (Table PT-6). Log entry 60 (DEDUCED). -/
def lgFullEvent (was : Bool) (s : State) : State := if lgFull s && !was then lgEvent 0xFF0A 0 s else s

/-- LEDGER_FLASH_WRITE: the entry that waits longest takes the next serial; an entry of the unit's own is sent to the
partner (R466). -/
def lgStore (s : State) : State :=
  match s.pw.inReset, s.lg.queue with
  | true, _ => s
  | false, [] => s
  | false, e :: q =>
    let s1 : State := { s with lg := { s.lg with queue := q, flash := (s.lg.next, e) :: s.lg.flash, next := s.lg.next + 1 } }
    let s2 := if twinPos s1 = true ∧ e.mirror = false then laneSend 6 (lgBytes e) s1 else s1
    lgFlushStep (lgFullEvent (lgFull s) (lgAlarm (lgWrap s2)))

/-- Entries are stored one after the other until none waits, at most `n` of them. -/
def lgStoreAll : Nat → State → State
  | 0, s => s
  | n + 1, s => if s.lg.queue.isEmpty then s else lgStoreAll n (lgStore s)

/-- Every closed entry reaches flash: what R69 and step 3 of Sequence PW-2 wait for. The storing of an entry adds at most
the two entries of Table PT-6 that say the ledger is full. -/
def lgDrain (s : State) : State := lgStoreAll (s.lg.queue.length + 2) s

/-- A cause joins the newest entry 0xFF03 of the unit's own that still waits for flash. -/
def lgAddCause (causes : Nat) (s : State) : State :=
  let rec join : List LgEntry → List LgEntry
    | [] => []
    | e :: es => if e.opcode = 0xFF03 ∧ e.mirror = false then { e with digest := Nat.lor e.digest causes } :: es else e :: join es
  { s with lg := { s.lg with queue := (join s.lg.queue.reverse).reverse } }

end Sys2Proof.Machine
end

