-- ==== Sys2Proof/Machine/Operands.lean ====
section
/-! DEFINITION. The opcode table of the mailbox (Table MB-21 and the tables it names): level, kind and payload length of
every opcode, and the groups of opcodes that Tables MB-11 and MB-23 name. -/
namespace Sys2Proof.Machine

/-- The payload length that an opcode's table gives. -/
inductive LenRule where
  | fixed (n : Nat)
  /-- 24 + NW_TLV_LEN, whose bytes are 14 and 15. -/
  | tlv
  /-- 8 + size * count, the count in bytes 4 and 5. -/
  | counted (size : Nat)
  /-- 8 + PT_BODY_LEN, whose bytes are 4 to 7. -/
  | body
  /-- 8 + a segment. -/
  | segment
deriving DecidableEq, Repr

/-- One row of an opcode table: level expert, kind staged, length. -/
structure OpRow where
  op : Nat
  expert : Bool
  staged : Bool
  len : LenRule
deriving DecidableEq, Repr

/-- Class 0x01: MB_HELLO, MB_DRAIN. -/
def opRows01 : List OpRow := [
  ⟨0x0110, false, false, .fixed 4⟩,
  ⟨0x0111, false, false, .fixed 4⟩]

/-- Class 0x02: MB_STAGE_BEGIN, MB_STAGE_ABORT, MB_COMMIT, MB_CANCEL, MB_IMAGE_LOAD. -/
def opRows02 : List OpRow := [
  ⟨0x0210, false, false, .fixed 4⟩,
  ⟨0x0211, false, false, .fixed 4⟩,
  ⟨0x0212, false, false, .fixed 8⟩,
  ⟨0x0213, false, false, .fixed 4⟩,
  ⟨0x0214, false, true, .segment⟩]

/-- Class 0x03: HS_ROOT_CFG, HS_ROOT_SELECT, HS_SET_FRAC, HS_SYNTH_CFG, HS_FREQ_OFFSET, HS_PHASE_MOVE, HS_PHASE_RAW, HS_SLEW, HS_SPREAD, HS_TOOLREST, HS_RELOCK, TK_CFG, TK_CAND, TK_POLICY, TK_ROOT_CHAR, TK_SET_TIME, TK_LEAP, TK_REF_SELECT, TK_REALIGN. -/
def opRows03 : List OpRow := [
  ⟨0x0310, false, true, .fixed 8⟩,
  ⟨0x0311, false, false, .fixed 4⟩,
  ⟨0x0312, true, false, .fixed 12⟩,
  ⟨0x0313, false, true, .fixed 4⟩,
  ⟨0x0314, false, false, .fixed 8⟩,
  ⟨0x0315, false, false, .fixed 12⟩,
  ⟨0x0316, true, false, .fixed 12⟩,
  ⟨0x0317, false, false, .fixed 4⟩,
  ⟨0x0318, false, false, .fixed 4⟩,
  ⟨0x0319, false, true, .fixed 8⟩,
  ⟨0x031A, true, false, .fixed 4⟩,
  ⟨0x0320, false, true, .fixed 12⟩,
  ⟨0x0321, false, true, .fixed 16⟩,
  ⟨0x0322, false, true, .fixed 4⟩,
  ⟨0x0323, true, true, .fixed 20⟩,
  ⟨0x0324, false, false, .fixed 16⟩,
  ⟨0x0325, false, false, .fixed 12⟩,
  ⟨0x0326, false, false, .fixed 4⟩,
  ⟨0x0327, false, false, .fixed 4⟩]

/-- Class 0x04: AD_CFG, AD_PAIR_CFG, AD_SEQ_CFG, AD_SLOT, AD_PRESET, AD_TIMER, AD_ALARM, AD_TRIGGER, AD_DIAG, AD_MIC_GAIN, AD_CLEAR. -/
def opRows04 : List OpRow := [
  ⟨0x0410, false, true, .fixed 8⟩,
  ⟨0x0411, false, true, .fixed 4⟩,
  ⟨0x0412, false, true, .fixed 8⟩,
  ⟨0x0413, true, true, .fixed 16⟩,
  ⟨0x0414, false, true, .fixed 4⟩,
  ⟨0x0415, false, true, .fixed 12⟩,
  ⟨0x0416, false, false, .fixed 12⟩,
  ⟨0x0417, false, false, .fixed 4⟩,
  ⟨0x0418, false, false, .fixed 4⟩,
  ⟨0x0419, false, false, .fixed 4⟩,
  ⟨0x041A, false, false, .fixed 4⟩]

/-- Class 0x05: DA_OUT_CFG, DA_BANK_CFG, DA_DDS_CFG, DA_HOLD, DA_LOAD, DA_FAULT_VALUES, PS_CFG, PS_SEG, PS_SEG_WRITE, PS_SHAPE, PS_PRESET, PS_LTC_ZONE, DG_CLK_CFG, DG_PPS_CFG, DG_TX_CFG, DG_CS_RAW, DG_RX_CFG. -/
def opRows05 : List OpRow := [
  ⟨0x0510, false, true, .fixed 12⟩,
  ⟨0x0511, false, true, .fixed 4⟩,
  ⟨0x0512, false, true, .fixed 24⟩,
  ⟨0x0513, false, false, .fixed 12⟩,
  ⟨0x0514, false, false, .fixed 4⟩,
  ⟨0x0515, false, true, .fixed 20⟩,
  ⟨0x0520, true, true, .fixed 24⟩,
  ⟨0x0521, true, true, .fixed 20⟩,
  ⟨0x0522, true, false, .fixed 20⟩,
  ⟨0x0523, true, true, .fixed 516⟩,
  ⟨0x0524, false, true, .fixed 32⟩,
  ⟨0x0525, false, false, .fixed 4⟩,
  ⟨0x0530, false, true, .fixed 12⟩,
  ⟨0x0531, false, true, .fixed 8⟩,
  ⟨0x0532, false, true, .fixed 16⟩,
  ⟨0x0533, true, true, .fixed 32⟩,
  ⟨0x0534, false, true, .fixed 4⟩]

/-- Class 0x06: XB_ROUTE, XB_DP_CFG, XB_DP_SET, TE_CFG, TE_OPS, TE_OPERANDS, TE_COEF_INIT, TE_COEF, TE_ENABLE, TE_GAIN_DB, TE_EQ_BAND, TE_DELAY_SET, TE_PRESET. -/
def opRows06 : List OpRow := [
  ⟨0x0610, false, true, .fixed 8⟩,
  ⟨0x0611, false, true, .fixed 16⟩,
  ⟨0x0612, false, false, .fixed 12⟩,
  ⟨0x0620, true, true, .fixed 8⟩,
  ⟨0x0621, true, true, .counted 16⟩,
  ⟨0x0622, true, true, .counted 4⟩,
  ⟨0x0623, true, true, .counted 4⟩,
  ⟨0x0624, true, false, .counted 4⟩,
  ⟨0x0625, false, false, .fixed 12⟩,
  ⟨0x0626, false, false, .fixed 12⟩,
  ⟨0x0627, false, false, .fixed 16⟩,
  ⟨0x0628, false, false, .fixed 8⟩,
  ⟨0x0630, false, true, .fixed 16⟩]

/-- Class 0x07: NW_PORT_CFG, NW_PTP_CFG, NW_PTP_PORT, NW_RX_FLOW, NW_TX_FLOW, NW_FLOW_ENABLE, NW_SFP_READ. -/
def opRows07 : List OpRow := [
  ⟨0x0710, false, true, .fixed 32⟩,
  ⟨0x0711, false, true, .tlv⟩,
  ⟨0x0712, false, true, .fixed 16⟩,
  ⟨0x0713, false, true, .fixed 48⟩,
  ⟨0x0714, false, true, .fixed 48⟩,
  ⟨0x0715, false, false, .fixed 4⟩,
  ⟨0x0716, false, false, .fixed 8⟩]

/-- Class 0x08: FP_HP_CFG, FP_HP_ENABLE, FP_HP_ATTEN_SET, FP_JACK_CFG, FP_IDENTIFY, FP_PDM_CFG, SN_CFG, SN_ACK. -/
def opRows08 : List OpRow := [
  ⟨0x0810, false, true, .fixed 4⟩,
  ⟨0x0811, false, false, .fixed 4⟩,
  ⟨0x0812, false, false, .fixed 4⟩,
  ⟨0x0813, false, true, .fixed 16⟩,
  ⟨0x0814, false, false, .fixed 4⟩,
  ⟨0x0815, false, true, .fixed 4⟩,
  ⟨0x0816, false, true, .fixed 12⟩,
  ⟨0x0817, false, false, .fixed 4⟩]

/-- Class 0x09: TW_CFG, TW_SWAP, TW_FORCE_SOLO, TW_RESYNC. -/
def opRows09 : List OpRow := [
  ⟨0x0910, false, true, .fixed 8⟩,
  ⟨0x0911, false, false, .fixed 12⟩,
  ⟨0x0912, false, false, .fixed 4⟩,
  ⟨0x0913, false, false, .fixed 4⟩]

/-- Class 0x0A: IG_CFG, IG_EVT_SET, IG_DELAY_SET. -/
def opRows0A : List OpRow := [
  ⟨0x0A10, false, true, .fixed 4⟩,
  ⟨0x0A11, false, false, .fixed 4⟩,
  ⟨0x0A12, false, false, .fixed 8⟩]

/-- Class 0x0B: PT_PROPOSE, PT_CONFIRM, PT_WITHDRAW. -/
def opRows0B : List OpRow := [
  ⟨0x0B10, false, false, .body⟩,
  ⟨0x0B11, false, false, .fixed 16⟩,
  ⟨0x0B12, false, false, .fixed 4⟩]

/-- Class 0x0C: LG_EXPORT, LG_FLUSH. -/
def opRows0C : List OpRow := [
  ⟨0x0C10, false, false, .fixed 12⟩,
  ⟨0x0C11, false, false, .fixed 4⟩]

/-- Class 0x0D: PT_FW_WRITE, PT_FW_ACTIVATE, PT_ZEROISE, PW_HUSH, PW_DOMAIN. -/
def opRows0D : List OpRow := [
  ⟨0x0D10, false, false, .segment⟩,
  ⟨0x0D11, false, false, .fixed 4⟩,
  ⟨0x0D12, false, false, .fixed 4⟩,
  ⟨0x0D20, false, false, .fixed 4⟩,
  ⟨0x0D21, false, false, .fixed 4⟩]

/-- Class 0x0E: MB_SUMMARY, MB_CONFIG_STATUS, HS_STATUS, TK_STATUS, TK_OFFSETS, TK_CAND_STATUS, NW_PORT_STATUS, NW_PTP_STATUS, NW_FLOW_STATUS, AD_STATUS, AD_RESULT, DA_STATUS, PS_STATUS, TE_STATUS, TE_METER_READ, FP_STATUS, SN_STATUS, DG_CLK_STATUS, DG_RX_STATUS, TW_STATUS, IG_STATUS, IG_SNAP_READ, PT_STATUS, LG_STATUS. -/
def opRows0E : List OpRow := [
  ⟨0x0E00, false, false, .fixed 4⟩,
  ⟨0x0E01, false, false, .fixed 4⟩,
  ⟨0x0E10, false, false, .fixed 4⟩,
  ⟨0x0E11, false, false, .fixed 4⟩,
  ⟨0x0E12, false, false, .fixed 4⟩,
  ⟨0x0E13, false, false, .fixed 4⟩,
  ⟨0x0E20, false, false, .fixed 4⟩,
  ⟨0x0E21, false, false, .fixed 4⟩,
  ⟨0x0E22, false, false, .fixed 4⟩,
  ⟨0x0E30, false, false, .fixed 4⟩,
  ⟨0x0E31, false, false, .fixed 4⟩,
  ⟨0x0E40, false, false, .fixed 4⟩,
  ⟨0x0E41, false, false, .fixed 4⟩,
  ⟨0x0E50, false, false, .fixed 4⟩,
  ⟨0x0E51, false, false, .fixed 4⟩,
  ⟨0x0E60, false, false, .fixed 4⟩,
  ⟨0x0E61, false, false, .fixed 4⟩,
  ⟨0x0E70, false, false, .fixed 4⟩,
  ⟨0x0E71, false, false, .fixed 4⟩,
  ⟨0x0E80, false, false, .fixed 4⟩,
  ⟨0x0E90, false, false, .fixed 4⟩,
  ⟨0x0E91, false, false, .fixed 4⟩,
  ⟨0x0EA0, false, false, .fixed 4⟩,
  ⟨0x0EB0, false, false, .fixed 4⟩]

/-- Every opcode of the device (R420). -/
def opRows : List OpRow :=
  opRows01 ++ opRows02 ++ opRows03 ++ opRows04 ++ opRows05 ++ opRows06 ++ opRows07 ++ opRows08 ++ opRows09 ++ opRows0A ++ opRows0B ++ opRows0C ++ opRows0D ++ opRows0E

/-- The row of an opcode; none for a reserved opcode and for 0x01FF, which exists only as a response (R420). -/
def opRow (op : Nat) : Option OpRow := opRows.find? (fun r => r.op == op)

/-- Change records exist only inside PT_PROPOSE (R457). -/
def isChangeRecord (op : Nat) : Bool := decide (0x0B20 ≤ op) && decide (op ≤ 0x0B24)

/-- The length rule holds for a payload. -/
def lenOk (r : LenRule) (p : Bytes) : Bool :=
  match r with
  | .fixed n => p.length == n
  | .tlv => decide (24 ≤ p.length) && p.length == 24 + u16 p 14
  | .counted k => decide (8 ≤ p.length) && p.length == 8 + k * u16 p 4
  | .body => decide (8 ≤ p.length) && p.length == 8 + u32 p 4
  | .segment => decide (8 ≤ p.length)

/-- Served in recovery boot (R474, Table MB-11). -/
def recoveryOps : List Nat := [0x0110, 0x0E00, 0x0D10, 0x0D11, 0x0D12, 0x0EA0, 0x0C10, 0x0EB0]

/-- Direct commands answered REFUSED_STATE until the first commit is live (Table MB-23, R506). -/
def needsLive : List Nat :=
  [0x0312, 0x0314, 0x0315, 0x0316, 0x0326, 0x0327, 0x0417, 0x0419, 0x0513, 0x0514, 0x0522, 0x0525, 0x0612,
   0x0624, 0x0625, 0x0626, 0x0627, 0x0628, 0x0715, 0x0811, 0x0812, 0x0814]

/-- Served in SAFE (Table MB-11). -/
def servedInSafe (op : Nat) : Bool :=
  let c := op / 256
  c == 1 || (decide (9 ≤ c) && decide (c ≤ 0x0E)) || op == 0x0211

/-- Check 6 of R397: the answer of Tables MB-11 and MB-23, none when the command may go on. -/
def modeGate (s : State) (op : Nat) : Option Nat :=
  if s.mode = .boot ∧ recoveryOps.contains op = false then some stState
  else if s.mode = .safe ∧ servedInSafe op = false then some stFault
  else if s.firstLive = false ∧ needsLive.contains op = true then some stState
  else none

end Sys2Proof.Machine
end

