-- ==== Sys2Proof/Machine/Start.lean ====
section
/-! DEFINITION. Starting a consumed command (R399, R397 checks 6 and 7): which command of an ordering class starts next,
and the three ways in which commands go on: staged, at the next frame, at once. -/
namespace Sys2Proof.Machine

/-- The command of class `k` that starts next: the first that waits, when every earlier one of its class has a final or
an intermediate response (R399). Log entry 4 (DESIGN CHOICE). Log entry 7 (DESIGN CHOICE). -/
def frontOf (k : OrdClass) : List Cmd → Option Cmd
  | [] => none
  | c :: cs =>
    if c.order = k then
      match c.phase with
      | .waiting => some c
      | .mid => frontOf k cs
      | _ => none
    else frontOf k cs

/-- The control plane runs: it starts no command in HUSH, in a reset, or before the firmware (R73, Table MB-11). -/
def serving (s : State) : Bool := s.mode != .hush && !s.pw.inReset && s.mb.resetBusy.isNone

/-- The command of class `k` that starts now, if it is of opcode `op`. Log entry 4 (DESIGN CHOICE). -/
def starting (k : OrdClass) (op : Nat) (s : State) : Option Cmd :=
  if serving s then
    match frontOf k s.mb.cmds with
    | some c => if c.opcode = op then some c else none
    | none => none
  else none

/-- The answer that keeps a command from its own rules: RESOURCE of a full ledger (R463, R464), check 6 of R397. -/
def startGate (s : State) (op : Nat) : Option Nat :=
  if lgLogged op 0 = true ∧ lgBlocked op s = true then some stResource else modeGate s op

/-- A command that acts at once when it starts. Log entry 7 (DESIGN CHOICE). -/
def startNow (k : OrdClass) (op : Nat) (run : Cmd → State → State) (s : State) : State :=
  match starting k op s with
  | none => s
  | some c =>
    match startGate s op with
    | some st => respond c st [] s
    | none => run c s

/-- A status command: its fields are checked, then it is answered DONE with its result (R413). -/
def startStatus (k : OrdClass) (op : Nat) (ok : Bytes → Bool) (result : Bytes → State → Bytes) (s : State) : State :=
  startNow k op (fun c t => if ok c.payload then respond c stDone (result c.payload t) t else respond c stBad [] t) s

/-- A direct command: check 7 of R397 decides its answer, or it is accepted and acts at the next frame (R105).
Log entry 7 (DESIGN CHOICE). -/
def startDirect (k : OrdClass) (op : Nat) (check : Bytes → State → Option Nat) (s : State) : State :=
  startNow k op (fun c t =>
    match check c.payload t with
    | some st => respond c st [] t
    | none => setPhase c.n (.frame t.mb.accepts) { t with mb := { t.mb with accepts := t.mb.accepts + 1 } }) s

/-- The size of a record in the staging area (Table MB-12). -/
def recSize (len : Nat) : Nat := 8 + (len + 3) / 4 * 4

/-- The staging area with one record more; a record that finds none open opens DELTA staging (R401, R409). -/
def stageRec (r : Rec) (s : State) : State :=
  let st := s.mb.staging.getD { full := false, recs := [] }
  { s with mb := { s.mb with staging := some { st with recs := r :: st.recs },
                             stageBytes := s.mb.stageBytes + recSize r.payload.length } }

/-- A staging command (R401): refused while only signed images are taken (R472), checked in its own fields, refused when
the staging area is full, or staged and answered ACCEPTED. -/
def runStaged (ok : Bytes → Bool) (c : Cmd) (s : State) : State :=
  if s.pt.signedCfg then respond c stAccess [] s
  else if ok c.payload = false then respond c stBad [] s
  else if s.mb.stageBytes + recSize c.payload.length > 4194304 then respond c stResource [] s
  else respond c stAccepted [] (stageRec { opcode := c.opcode, expert := c.expert, direct := false, payload := c.payload } s)

/-- A staging command of class `k` and opcode `op`. Log entry 7 (DESIGN CHOICE). -/
def startStaged (k : OrdClass) (op : Nat) (ok : Bytes → Bool) (s : State) : State :=
  match starting k op s with
  | none => s
  | some c =>
    match modeGate s op with
    | some st => respond c st [] s
    | none => runStaged ok c s

/-- A direct write is remembered for a SNAPSHOT image (R411, R412). Log entry 62 (DESIGN CHOICE). -/
def noteDirect (c : Cmd) (s : State) : State :=
  { s with mb := { s.mb with direct := s.mb.direct ++
      [{ opcode := c.opcode, expert := c.expert, direct := true, payload := c.payload }] } }

/-- A parameter exists in the pending tables of a commit: every one of the base of a DELTA commit; of a FULL one, those that
its records give. Log entry 109 (DEDUCED). -/
def pendHas (has : Rec → Bool) (p : PendCommit) : Bool := !p.full || p.recs.any has

/-- A direct parameter write: `live` acts on the live tables, and `pend` copies the values that the write changes into the
pending tables, where the same parameter exists there (R12); `has` knows the records that give it. -/
def writeParam (has : Rec → Bool) (live pend : Tables → Tables) (s : State) : State :=
  { s with live := live s.live,
           mb := { s.mb with pend := s.mb.pend.map (fun p => if pendHas has p then { p with tables := pend p.tables } else p) } }

/-- A parameter that every set of tables holds: the same write acts on both. -/
def writeTables (f : Tables → Tables) (s : State) : State := writeParam (fun _ => true) f f s

end Sys2Proof.Machine
end

