-- ==== Sys2Proof/Machine/Plane.lean ====
section
/-! DEFINITION. The data plane stopping (R92, R127) and what stops with it. -/
namespace Sys2Proof.Machine

/-- The AES3 transmitters stop, with no transitions (R348). -/
def txStop (s : State) : State :=
  { s with dg := { s.dg with tx := s.dg.tx.map (fun t => { t with running := none }) } }

/-- The edge after the last sample of a slot, on the device clock (R205). -/
def slotEnd (s : State) (r : SlotRun) : Nat := r.start + (r.cfg.settle + r.cfg.win + 1) * mclkLen (f441 s)

/-- A slot in progress is marked ABORTED for every ADC that takes part, and counted (Table AD-6). -/
def abortSlot (r : SlotRun) (s : State) : State :=
  let mark : Tab BankHalf → Nat → Tab BankHalf := fun b i => tabMod {} b (8 * r.cfg.bank + i) (fun h => { h with aborted := true })
  { s with ad := { s.ad with aborts := satInc 16 s.ad.aborts, banks := r.adcs.foldl mark s.ad.banks } }

def getSeq (inj : Bool) (s : State) : SeqRun := if inj then s.ad.inj else s.ad.reg

def modSeq (inj : Bool) (f : SeqRun → SeqRun) (s : State) : State :=
  if inj then { s with ad := { s.ad with inj := f s.ad.inj } } else { s with ad := { s.ad with reg := f s.ad.reg } }

/-- A pass ends: a slot in progress is marked ABORTED; a window that has closed is still published (R209). A regular slot
that an injected pass had stopped restarts at the edge after this one (Table AD-6). -/
def endPass (inj : Bool) (s : State) : State :=
  let q := getSeq inj s
  let s1 := match q.cur with
    | none => s
    | some r =>
      if s.clock < slotEnd s r then abortSlot r s else modSeq inj (fun v => { v with pubs := v.pubs ++ [r] }) s
  let s2 := modSeq inj (fun v => { v with phase := 0, cur := none }) s1
  let next := s.clock + mclkLen (f441 s)
  if inj then { s2 with ad := { s2.ad with injEnd := if next < s2.ad.injEnd then next else s2.ad.injEnd } } else s2

/-- HUSH entry: every pass ends without publication, and no abort is counted (Table AD-6). -/
def passesOff (s : State) : State :=
  let off : SeqRun → SeqRun := fun v => { v with phase := 0, cur := none, pubs := [] }
  let s1 := modSeq true off (modSeq false off s)
  { s1 with ad := { s1.ad with injEnd := 0, late := [] } }

/-- The clock of a DAC and of a sequencer is VCLK (R226, R244). -/
def dacV (s : State) (d : Nat) : Bool := decide (4 ≤ d) && s.live.bank.vclk
def psV (t : Tables) (q : Nat) : Bool := decide (2 ≤ q) && t.bank.vclk

/-- The sequencers of one clock wait for their next start instant after now (R250). -/
def psWait (v : Bool) (s : State) : State :=
  let one : Nat → PsState → PsState := fun q p =>
    if psV s.live q = v ∧ p.st ≠ 0 then { p with st := 1, since := s.spindle, prev := 0 } else p
  { s with ps := s.ps.mapIdx one }

/-- The HOLD DACs of one clock show the zero code until their next hold strobe (Table DA-3). -/
def holdWait (v : Bool) (s : State) : State :=
  { s with da := { s.da with dac := s.da.dac.mapIdx (fun d x => if dacV s d = v then { x with wait := true } else x) } }

/-- What stops with VCLK (Table DA-9): the sequencers and hold outputs of a bank 1 that runs on it. Its edges are counted on
its timescale again when it starts (R241). -/
def stopVclk (s : State) : State :=
  let s1 := holdWait true (psWait true s)
  { s1 with da := { s1.da with vOff := 0 } }

/-- What stops with MCLK (Tables AD-6, DA-9, XE-9, NW-9): the passes, the sequencers, the hold outputs; the source buffer
and the receive buffers are empty at the restart. -/
def stopMclk (s : State) : State :=
  let s1 := holdWait false (psWait false (endPass false (endPass true s)))
  { s1 with ad := { s1.ad with late := [] }, xb := { s1.xb with buf := [], abandon := [] },
            nw := { s1.nw with rx := s1.nw.rx.map (fun f => (f.1, { f.2 with buf := [] })),
                               tx := s1.nw.tx.map (fun f => (f.1, { f.2 with hist := [] })) } }

/-- Of two reasons to stand still, the one that restarts later: a Spindle step or a change of family restarts at a whole
second (R23, R127), an MSYN relock at the next frame (R92). -/
def laterStop (old k : DataPlane) : DataPlane := if old = .second then .second else k

/-- The data plane stops: no samples, MCLK-clocked DACs at the zero code, transmitters idle, sequences aborted. A dark
data plane stays dark. -/
def stopPlane (k : DataPlane) (s : State) : State :=
  if s.dataPlane = .dark then s
  else stopMclk (txStop { s with dataPlane := laterStop s.dataPlane k, dg := { s.dg with ppsHigh := false } })

end Sys2Proof.Machine
end

