-- ==== Sys2Proof/Machine/Faults.lean ====
section
/-! DEFINITION. Health events of class FAULT and SAFE_ENTRY (R14, R15, R35, R417). -/
namespace Sys2Proof.Machine

/-- Bits of MB_SAFE_CAUSE: the FAULT events in the order of Table AH-3 (Table MB-19). -/
def fLockstep : Nat := 1
def fEcc : Nat := 2
def fScrub : Nat := 4
def fUnlock : Nat := 8
def fRoots : Nat := 16
def fSupply : Nat := 32
def fTemp : Nat := 64
def fOverrun : Nat := 128
def fWatchdog : Nat := 256

/-- The commands that an enable machine has in progress or deferred. -/
def machineCmds (m : EnMachine) : List Nat := m.owners ++ m.queue.filterMap (fun r => r.cmd)

/-- Those of every machine: the power domains and the headphone amplifier. Log entry 21 (DESIGN CHOICE). -/
def allMachineCmds (s : State) : List Nat := machineCmds s.fp.hp ++ s.pw.domains.flatMap machineCmds

/-- Classes whose outstanding commands receive FAULT at SAFE entry (R417). -/
def faultedClass (op : Nat) : Bool := decide (2 ≤ op / 256) && decide (op / 256 ≤ 8)

/-- R417: outstanding commands of classes 0x02-0x08 receive FAULT; those of running enable machines receive it when their
machine is done; a PW_HUSH cut short receives it too (log entry 21). -/
def safeAnswers (s : State) : State :=
  let ms := allMachineCmds s
  let s1 : State :=
    { s with mb := { s.mb with cmds := s.mb.cmds.map (fun (c : Cmd) => if ms.contains c.n then { c with doomed := true } else c) } }
  let hit : List Cmd := s1.mb.cmds.filter (fun c => !ms.contains c.n && (faultedClass c.opcode || c.opcode == 0x0D20))
  hit.foldl (fun (t : State) (c : Cmd) => respondTo c.n stFault (if c.opcode = 0x0212 ∧ c.phase = .mid then zeros 16 ++ [2] else []) t) s1

/-- The swap in progress ends with the result named (R375, R381). Log entry 67 (DEDUCED). -/
def swapEnd (result : Nat) (s : State) : State :=
  match s.tw.swap with
  | none => s
  | some w => respondTo w.cmd stDone (le 1 result) { s with tw := { s.tw with swap := none } }

/-- A holder closes its fence, gives up the Chuck and sends an explicit RELEASE (R14, R60, R69): its role becomes FENCED
with the cause named. -/
def releaseChuck (cause : Nat) (s : State) : State :=
  let s1 := { s with tw := { s.tw with holds := false, claiming := false, leaseEnd := none, lastCause := cause } }
  let s2 := setRole .fenced s1
  leaseSend (pathsUp s2) 3 0 s2

/-- What a FAULT does to a unit in a twin position (R14, Tables AH-3, AH-10, TW-9). Log entry 22 (DEDUCED). -/
def twinFault (s : State) : State :=
  if twinPos s = false then s
  else if s.tw.holds then swapEnd 2 (releaseChuck 1 s)
  else
    let s1 : State := { s with tw := { s.tw with claiming := false } }
    if s.role = .standby then setRole .fenced s1 else s1

/-- What the outputs do at SAFE entry: the MICBIAS goes off and an identification ends (R316, R317); with role SOLO every
DAC takes the zero code at its next load strobe, the clock outputs and 1PPS_OUT are held low, the transmitters idle and
the headphone amplifier mutes and goes off (R35, R313). -/
def safeOutputs (s : State) : State :=
  let s1 : State := { s with fp := { s.fp with bias := false, identAt := none, identCmd := none, identWaits := false,
                                               acc := if s.fp.acc = 1 then 0 else s.fp.acc } }
  if s1.role = .solo then
    txStop { s1 with da := { s1.da with safe := 1, safeAt := s1.clock, safeCodes := s1.da.flash },
                     fp := { s1.fp with clamp := true, hpSafe := true, releaseAt := none },
                     dg := { s1.dg with ppsHigh := false } }
  else s1

/-- SAFE_ENTRY (R15, R35, R417): the mode, the interrupt, the ledger entry with all causes, the open entries closed, the
staging area, the pending commit and the commands ended, and the Chuck released. A HUSH exit in progress goes on to the
restart of the data plane, unless its tables have failed (R75). Log entry 21 (DESIGN CHOICE). Log entry 22 (DEDUCED). -/
def enterSafe (causes : Nat) (s : State) : State :=
  let goesOn := s.pw.hush == .waking && Nat.land causes fScrub == 0
  let s1 := { s with safeCause := causes, safeAt := eventCycle s,
                     pw := { s.pw with hush := if goesOn then .waking else .awake, wakeHeld := false, safeOnWake := false } }
  let s2 := lgCloseAll (lgEvent 0xFF03 causes (raiseIrq 3 (setMode .safe s1)))
  let s3 := safeAnswers s2
  let s4 := { s3 with mb := { s3.mb with staging := none, stageBytes := 0, image := none, pend := none } }
  safeOutputs (twinFault s4)

/-- A PW_HUSH of the fabric cycle in which an event of a lower rank changes the mode is judged in the new mode (R29): in
ACQUIRE it is refused, and the clamp is as it was. -/
def hushRecheck (s : State) : State :=
  match s.pw.hush with
  | .entering n =>
    if s.pw.hushAt / fabricLen = fabricCycle s ∧ s.mode = .acquire then
      respondTo n stState [] { s with pw := { s.pw with hush := .awake }, fp := { s.fp with clamp := s.pw.hushClamp } }
    else s
  | _ => s

/-- A wake trigger (R73, R74, R76): HUSH exit starts with HUSH_WAKE, after the entry where that still runs.
Log entry 18 (DESIGN CHOICE). -/
def wakeTrigger (s : State) : State :=
  match s.pw.hush with
  | .hushed | .entering _ => { s with pw := { s.pw with wakeHeld := true } }
  | _ => s

/-- A FAULT in SAFE (R15). One of the fabric cycle in which the device entered SAFE is a cause of that entry; one of a
later cycle is counted and logged, and the entry of one cycle records all of its causes. -/
def safeFault (causes : Nat) (s : State) : State :=
  let again := s.evtRank == rankFault && s.evtAt == eventCycle s
  let s1 := inOrder rankFault s
  if again && s.safeAt == s1.evtAt then lgAddCause causes { s1 with safeCause := Nat.lor s1.safeCause causes }
  else
    let s2 : State := { s1 with faultCount := s1.faultCount + 1 }
    if again then lgAddCause causes s2 else lgEvent 0xFF03 causes s2

/-- A FAULT while HUSH is fully entered: a supply or temperature trip wakes the device, which enters SAFE at the end of
the exit with the causes of every trip until then (Table AH-8, R76). Another FAULT is neither counted nor logged: the
control plane that would do it has powered down, and the manual gives such a FAULT no effect.
Log entry 91 (DESIGN CHOICE). -/
def hushFault (causes : Nat) (s : State) : State :=
  if Nat.land causes (fSupply + fTemp) = 0 then s
  else
    let w := wakeTrigger s
    { w with safeCause := if s.pw.safeOnWake then Nat.lor s.safeCause causes else causes, pw := { w.pw with safeOnWake := true } }

/-- A FAULT event (R15, R26, R29, R64, R76). In BOOT the device does not enter SAFE. In HUSH a supply or temperature trip
wakes the device first; a FAULT during HUSH entry or exit takes effect at once. Log entry 88 (DESIGN CHOICE). -/
def raiseFault (causes : Nat) (s : State) : State :=
  match s.mode with
  | .boot => s
  | .safe => safeFault causes s
  | .hush =>
    match s.pw.hush with
    | .hushed => hushFault causes s
    | _ => enterSafe (if s.pw.safeOnWake then Nat.lor s.safeCause causes else causes) (inOrder rankFault s)
  | _ => enterSafe causes (inOrder rankFault s)

end Sys2Proof.Machine
end

