-- ==== Sys2Proof/Machine/Headstock.lean ====
section
/-! DEFINITION. Headstock (chapter 04): roots, synthesisers, words, relocks, phase moves, spread, Tool rest, and the
commands and events of that chapter. -/
namespace Sys2Proof.Machine

/-! ### Words and frequencies -/

/-- The synthesiser that a code of HS_SYN names (R105). -/
def synOf : Nat → Syn
  | 0 => .msyn | 1 => .vsyn | 2 => .nsyn | _ => .ssyn

def synCode : Syn → Nat
  | .msyn => 0 | .vsyn => 1 | .nsyn => 2 | .ssyn => 3

def getSyn (s : State) : Syn → SynState
  | .msyn => s.hs.msyn | .vsyn => s.hs.vsyn | .nsyn => s.hs.nsyn | .ssyn => s.hs.ssyn

def modSyn (x : Syn) (f : SynState → SynState) (s : State) : State :=
  match x with
  | .msyn => { s with hs := { s.hs with msyn := f s.hs.msyn } }
  | .vsyn => { s with hs := { s.hs with vsyn := f s.hs.vsyn } }
  | .nsyn => { s with hs := { s.hs with nsyn := f s.hs.nsyn } }
  | .ssyn => { s with hs := { s.hs with ssyn := f s.hs.ssyn } }

def allSyn : List Syn := [.msyn, .vsyn, .nsyn, .ssyn]

/-- Nominal VCO frequency in Hz as a fraction (Table HS-3). -/
def vcoNum (t : Tables) : Syn → Nat
  | .msyn => if t.synth.f441 then 4515840000 else 4915200000
  | .vsyn => if t.synth.vrate then 5940000000000 else 5940000000
  | .nsyn => 5000000000
  | .ssyn => 4800000000

def vcoDen (t : Tables) : Syn → Nat
  | .vsyn => if t.synth.vrate then 1001 else 1
  | _ => 1

/-- `a / b` rounded to nearest, ties to even (R87). -/
def divEven (a b : Nat) : Nat :=
  let q := a / b
  let r := a % b
  if 2 * r < b then q else if 2 * r > b then q + 1 else if q % 2 = 0 then q else q + 1

/-- The nominal word N * 2^48 + F of a configuration (R87, Table HS-4). -/
def nominalWord (t : Tables) (rootHz : Nat) (x : Syn) : Nat :=
  divEven (vcoNum t x * 2 ^ 48) (vcoDen t x * rootHz)

/-- The word of nominal * (1 - y), y in 1e-24 (R123). -/
def disciplinedWord (t : Tables) (rootHz : Nat) (x : Syn) (y : Int) : Nat :=
  divEven (vcoNum t x * 2 ^ 48 * (10 ^ 24 - y).toNat) (vcoDen t x * rootHz * 10 ^ 24)

/-- The word of nominal * (1 + off * 1e-12) (R110). -/
def offsetWord (t : Tables) (rootHz : Nat) (x : Syn) (off : Int) : Nat :=
  divEven (vcoNum t x * 2 ^ 48 * (10 ^ 12 + off).toNat) (vcoDen t x * rootHz * 10 ^ 12)

/-- The offset of a word from nominal, 1e-12, rounded (HS_OFFSET_NOW). -/
def wordOffset (t : Tables) (rootHz : Nat) (x : Syn) (w : Int) : Int :=
  roundDiv ((w * (vcoDen t x * rootHz : Nat) - (vcoNum t x * 2 ^ 48 : Nat)) * 10 ^ 12) (vcoNum t x * 2 ^ 48)

def absDiff (a b : Nat) : Nat := if a ≤ b then b - a else a - b

/-- A step from `b` to `w` of at most `ppm` parts per million, measured as |new - current| / current (R95). -/
def withinPpm (ppm w b : Nat) : Bool := decide (absDiff w b * 1000000 ≤ ppm * b)

/-- HS_STEER_NOW: 0 DISCIPLINED, 1 MANUAL, 2 TWIN, 3 fixed (R93, Table HS-20). Log entry 27 (DEDUCED). -/
def steerNow (s : State) (x : Syn) : Nat :=
  match x with
  | .ssyn => 3
  | .msyn => if s.role = .standby then 2 else b2n s.live.synth.manM
  | .vsyn => if s.role = .standby then 2 else b2n s.live.synth.manV
  | .nsyn => if s.role = .standby then 2 else b2n s.live.synth.manN

/-- F steps that the move adds in each cycle: the slew in ns/s of the word, rounded to nearest, ties to even (R87, R97). -/
def moveStep (slew word : Nat) : Nat := divEven (slew * word) 1000000000

/-- A move runs: it is neither suspended nor waiting for lock, and something is owed. -/
def moveRuns (y : SynState) : Bool := y.moving && !y.suspended && y.lock == 4 && y.owed != 0

/-- The offset d of the running move in this frame, signed (R95, R97). -/
def moveOffset (y : SynState) : Int :=
  if moveRuns y then
    (if y.owed < 0 then -(moveStep y.frameSlew y.word : Int) else (moveStep y.frameSlew y.word : Int))
  else 0

/-- The word that the VCO runs at: base word and move offset (R95). -/
def runWord (y : SynState) : Nat := ((y.word : Int) + moveOffset y).toNat

/-- The slew at which a move runs: HS_SLEW, or the one that its rule fixes (R98). -/
def moveSlew (y : SynState) : Nat := y.fixedSlew.getD y.slew

/-- P units of an amount in femtoseconds at the current VCO frequency (R99). -/
def fsToUnits (rootHz word : Nat) (fs : Int) : Int := roundDiv (fs * (word * rootHz * 65536 : Nat)) (10 ^ 15 * 2 ^ 48)

/-- P units of an amount in picoseconds. -/
def psToUnits (rootHz word : Nat) (ps : Int) : Int := fsToUnits rootHz word (1000 * ps)

/-- Picoseconds of F steps still owed. -/
def owedPs (rootHz word : Nat) (owed : Int) : Int :=
  if word * rootHz = 0 then 0 else roundDiv (owed * 10 ^ 12) (word * rootHz)

/-- The phase that F steps add, in 1e-30 s. -/
def stepPhase (rootHz word : Nat) (k : Int) : Int :=
  if word * rootHz = 0 then 0 else roundDiv (k * 10 ^ 30) (word * rootHz)

/-- The y of a word in use, 1e-24: 1 - word / nominal. -/
def yOfWord (s : State) (x : Syn) : Int :=
  let n := vcoNum s.live x * 2 ^ 48
  if n = 0 then 0 else 10 ^ 24 - roundDiv ((getSyn s x).word * (vcoDen s.live x * s.hs.rootHz : Nat) * 10 ^ 24 : Nat) n

/-! ### Tool rest -/

/-- The synthesiser of a tap (Table HS-7). -/
def tapSyn : Nat → Syn
  | 0 => .msyn | 1 => .vsyn | 2 => .vsyn | _ => .nsyn

/-- Tap frequency in Hz as a fraction (Table HS-7). -/
def tapNum (t : Tables) : Nat → Nat
  | 0 => if t.synth.f441 then 225792000 else 245760000
  | 1 => if t.synth.vrate then 148500000000 else 148500000
  | 2 => if t.synth.vrate then 27000000000 else 27000000
  | 3 => 10000000
  | _ => 156250000

def tapDen (t : Tables) : Nat → Nat
  | 1 => if t.synth.vrate then 1001 else 1
  | 2 => if t.synth.vrate then 1001 else 1
  | _ => 1

def clkOf (t : Tables) (o : Nat) : ClkCfg := tabGet {} t.clk o

/-- The automatic ceiling: f_out * 1.001 rounded up to the next whole hertz (R102). -/
def autoCeil (t : Tables) (o : Nat) : Nat :=
  let c := clkOf t o
  let q := tapDen t c.tap * (c.div + 1) * 1000
  (tapNum t c.tap * 1001 + (q - 1)) / q

/-- The ceiling in force (DG_CEIL_NOW). -/
def ceilNow (t : Tables) (o : Nat) : Nat :=
  let c := tabGet 0 t.ceil o
  if c = 0 then autoCeil t o else c

/-- The largest count of a 100 us window that does not trip (R103). -/
def windowLimit (t : Tables) (o : Nat) : Nat := (ceilNow t o + 9999) / 10000 + 1

def modGate (o : Nat) (f : GateState → GateState) (s : State) : State :=
  { s with hs := { s.hs with gate := modNth f s.hs.gate o } }

/-- Applies a function to the gate of each output whose tap is of the synthesiser `x`. -/
def mapGates (p : ClkCfg → Bool) (f : GateState → GateState) (t : Tables) : Nat → List GateState → List GateState
  | _, [] => []
  | o, g :: gs => (if p (clkOf t o) then f g else g) :: mapGates p f t (o + 1) gs

/-- Every gate of a synthesiser closes: DG_GATE reads 1, but for a gate closed by its monitor (R104). -/
def closeGates (x : Syn) (s : State) : State :=
  if s.firstLive = false then s
  else
    let shut : GateState → GateState := fun g => { g with gate := if g.gate = 2 then 2 else 1, aligned := none }
    let gs := mapGates (fun c => tapSyn c.tap == x) shut s.live 0 s.hs.gate
    { s with hs := { s.hs with gate := gs } }

/-! ### Lock and relock -/

/-- BAND_SEARCH (R89): the band is a free value, since the layout of each part is its own. Log entry 25 (DESIGN CHOICE). -/
def bandSearch (x : Syn) (s : State) : State :=
  let d := drawFree s
  modSyn x (fun y => { y with band := d.1 % 64 }) d.2

/-- A lock starts at step 2 of Sequence HS-1: cold, or on a new root. How long frequency acquisition takes is a free value
within its 140 us (Sequence HS-1). Log entry 25 (DESIGN CHOICE). -/
def startLock (x : Syn) (s : State) : State :=
  let s1 := bandSearch x s
  let d := drawFree s1
  modSyn x (fun y => { y with lock := 1, lockFrom := s.clock, cold := true, acqLen := d.1 % (140 * uPerUs) }) d.2

/-- A synthesiser that was off locks again, at HUSH exit or at the enable of domain 0x08: a relock without step 1
(Table HS-3). -/
def relockOff (x : Syn) (s : State) : State :=
  modSyn x (fun y => { y with relocks := satInc 16 y.relocks }) (startLock x s)

/-- SYNTH_RELOCK (R90, R92, R95): the gates close, a running move is suspended, the band search starts at the word `w`;
without MCLK the data plane stops. A new word is restored to epoch alignment, the present one to the relation it held. -/
def startRelock (x : Syn) (w : Nat) (k : DataPlane) (s : State) : State :=
  let s1 := startLock x (closeGates x s)
  let s2 := modSyn x (fun y => { y with word := w, relocks := satInc 16 y.relocks, suspended := y.moving, cold := false,
                                        epoch := y.epoch || w != y.word }) s1
  if x = .msyn then stopPlane k s2 else if x = .vsyn then stopVclk s2 else s2

/-- A lock restores a phase relation (R90): not that of SSYN, and not a cold start of MSYN. -/
def lockRestores (x : Syn) (y : SynState) : Bool :=
  match x with
  | .ssyn => false
  | .msyn => !y.cold
  | _ => true

/-- HS_LOCK (Table HS-20), from the step of Sequence HS-1 in which a lock is. -/
def lockStage (s : State) (x : Syn) : Nat :=
  let y := getSyn s x
  if y.lock ≠ 1 then y.lock
  else
    let searched := y.lockFrom + (if y.cold then 60 else 61) * uPerUs
    if s.clock < searched then 1
    else if lockRestores x y = true ∧ searched + y.acqLen ≤ s.clock then 3
    else 2

/-- A new base word `w` (R95, Table HS-5). A synthesiser that is off takes the word and stays off. -/
def applyWord (x : Syn) (w : Nat) (s : State) : State :=
  let y := getSyn s x
  let s1 := modSyn x (fun y => { y with drift := true }) s
  if y.lock = 0 then modSyn x (fun y => { y with word := w, epoch := y.epoch || w != y.word }) s1
  else if (withinPpm 50 w y.word && withinPpm 500 w y.lockWord) = false then startRelock x w .relock s1
  else if withinPpm 50 (w + moveOffset y).toNat y.word then modSyn x (fun y => { y with word := w }) s1
  else modSyn x (fun y => { y with word := w, paused := y.moving }) s1

/-! ### Phase moves -/

/-- Whose move it is: the host's, or a realign or carried move that nothing cancels; a move of the tracking loop that
Table TK-7 cancels; a residual move of a Spindle step. -/
inductive MoveKind where
  | kept | loop | residual
deriving DecidableEq, Repr

/-- A move of `p` units starts, or adds to the amount still owed (R97, R99). `fixed`: none runs at HS_SLEW. -/
def startMove (x : Syn) (p : Int) (fixed : Option Nat) (kind : MoveKind) (s : State) : State :=
  let k := p * 2 ^ 32
  modSyn x (fun y =>
    { y with owed := y.owed + k, loopOwed := if kind = .loop then y.loopOwed + k else y.loopOwed,
             resOwed := if kind = .residual then y.resOwed + k else y.resOwed,
             moving := true, suspended := y.lock != 4, fixedSlew := fixed,
             frameSlew := if y.moving then y.frameSlew else 0, moveAt := if y.moving then y.moveAt else s.clock,
             cyc := if y.moving then y.cyc else 0 }) s

/-- A running move is cancelled: HS_STATUS reports the amount discarded (Table HS-5). -/
def cancelMove (x : Syn) (s : State) : State :=
  modSyn x (fun y => if y.moving then
    { y with discarded := y.owed / 2 ^ 32, owed := 0, loopOwed := 0, resOwed := 0, moving := false, suspended := false,
             paused := false } else y) s

/-- The moves of the tracking loop on one synthesiser are cancelled; a realign and a residual move go on (Table TK-7). -/
def cancelLoop (x : Syn) (s : State) : State :=
  modSyn x (fun y => if y.moving && y.loopOwed != 0 then
    { y with discarded := y.loopOwed / 2 ^ 32, owed := y.owed - y.loopOwed, loopOwed := 0,
             moving := y.owed != y.loopOwed } else y) s

/-- The amount of a host move that is accepted but not started, in P units, at the frequency of the VCO (R99). -/
def hostMoveUnits (s : State) (c : Cmd) : Int :=
  let y := getSyn s (synOf (u8 c.payload 0))
  if c.opcode = 0x0315 then fsToUnits s.hs.rootHz (runWord y) (i64 c.payload 4) else toSigned 48 (u48 c.payload 4)

/-- The host moves of a synthesiser that are accepted and not yet started. -/
def waitingMoves (x : Syn) (s : State) : List Cmd :=
  s.mb.cmds.filter fun (c : Cmd) =>
    (c.opcode == 0x0315 || c.opcode == 0x0316) && u8 c.payload 0 == synCode x &&
      (match c.phase with | .frame _ => true | _ => false)

/-- Cancels the host moves of a synthesiser, running or accepted and not yet started (R99, Table HS-5): HS_STATUS reports
all that this discards. -/
def cancelHostMoves (x : Syn) (s : State) : State :=
  let waits := waitingMoves x s
  if (getSyn s x).moving = false ∧ waits = [] then s
  else
    let runs := if (getSyn s x).moving then (getSyn s x).owed / 2 ^ 32 else 0
    let total := waits.foldl (fun (a : Int) c => a + hostMoveUnits s c) runs
    let s1 := modSyn x (fun y => { y with discarded := total }) (cancelMove x s)
    waits.foldl (fun (t : State) (c : Cmd) => respondTo c.n stState [] t) s1

/-- Slew of a move in a frame: R134 lowers a move of the tracking loop so that base and move offset stay within 50 ppm. -/
def slewNow (s : State) (x : Syn) (y : SynState) : Nat :=
  if steerNow s x = 0 then
    let off := wordOffset s.live s.hs.rootHz x y.word
    let same := decide (0 ≤ off * (if y.owed < 0 then -1 else 1))
    let room := (50000000 - (off.natAbs : Int)) / 1000
    if same && decide (room < (moveSlew y : Int)) then room.toNat else moveSlew y
  else moveSlew y

/-- The slew of every move is fixed for the coming frame (R98, R134); a paused move rests for it (Table HS-5). -/
def setFrameSlew (x : Syn) (s : State) : State :=
  let y := getSyn s x
  if y.moving then modSyn x (fun y => { y with frameSlew := if y.paused then 0 else slewNow s x y, paused := false }) s else s

/-- What of an amount `a` a part of the amount owed takes. -/
def takePart (part a : Int) : Int :=
  if 0 ≤ a then (if part ≤ 0 then 0 else if part < a then part else a)
  else (if 0 ≤ part then 0 else if a < part then part else a)

/-- F steps that `n` phase-detector cycles take off the amount owed (R97). -/
def moveTaken (y : SynState) (n : Nat) : Int :=
  let step : Int := (moveStep y.frameSlew y.word * n : Nat)
  if y.owed < 0 then (if y.owed < -step then -step else y.owed) else (if step < y.owed then step else y.owed)

/-- A tap phase moves on by `a` (1e-30 s) on one synthesiser, of which `res` is a residual move: the taps of MSYN carry
Spindle time with them, so the other groups fall behind (R124). -/
def advanceTaps (x : Syn) (a res : Int) (s : State) : State :=
  match x with
  | .msyn =>
    { s with hs := { s.hs with msyn := { s.hs.msyn with tapOff := s.hs.msyn.tapOff + res },
                               vsyn := { s.hs.vsyn with tapOff := s.hs.vsyn.tapOff - (a - res) },
                               nsyn := { s.hs.nsyn with tapOff := s.hs.nsyn.tapOff - (a - res) } },
             tk := { s.tk with spAdv := s.tk.spAdv + (a - res) } }
  | x => modSyn x (fun y => { y with tapOff := y.tapOff + a }) s

/-- A move runs up to the present instant (R97): the amount owed falls by the step of each phase-detector cycle, the
residual part first and the part of a cancellable move last. Log entry 96 (DESIGN CHOICE). -/
def progressMove (x : Syn) (s : State) : State :=
  let y := getSyn s x
  if moveRuns y then
    let total := y.cyc + s.hs.rootHz * (s.clock - y.moveAt)
    let a := moveTaken y (total / uPerS)
    let r := takePart y.resOwed a
    let k := takePart (y.owed - y.resOwed - y.loopOwed) (a - r)
    let s1 := advanceTaps x (stepPhase s.hs.rootHz y.word a) (stepPhase s.hs.rootHz y.word r) s
    modSyn x (fun y => { y with owed := y.owed - a, resOwed := y.resOwed - r, loopOwed := y.loopOwed - (a - r - k),
                                cyc := total % uPerS, moveAt := s.clock }) s1
  else modSyn x (fun y => { y with moveAt := s.clock }) s

/-! ### Roots -/

def getRoot (s : State) : RootId → RootInput
  | .a => s.hs.rootA | .b => s.hs.rootB

def setRoot (r : RootId) (st : RootSt) (s : State) : State :=
  match r with
  | .a => { s with hs := { s.hs with rootA := { st, since := s.clock } } }
  | .b => { s with hs := { s.hs with rootB := { st, since := s.clock } } }

def otherRoot : RootId → RootId
  | .a => .b | .b => .a

def rootNow (s : State) : RootId := if s.hs.nowB then .b else .a
def rootPref (t : Tables) : RootId := if t.root.prefB then .b else .a
def rootFit (t : Tables) : RootId → Bool
  | .a => t.root.aFit | .b => t.root.bFit
def rootQualified (s : State) (r : RootId) : Bool := (getRoot s r).st == .qualified
def rootStCode : RootSt → Nat
  | .absent => 0 | .qualified => 1 | .disqualified => 2 | .requalifying => 3

/-- Numerator and denominator of f_old / f_new when the root selected changes to `r`. -/
def ratioNum (s : State) (r : RootId) : Nat := if r = .b then (10 ^ 12 + s.hs.ratioDev).toNat else 10 ^ 12
def ratioDen (s : State) (r : RootId) : Nat := if r = .b then 10 ^ 12 else (10 ^ 12 + s.hs.ratioDev).toNat

def scaleWord (s : State) (r : RootId) (w : Nat) : Nat :=
  if ratioDen s r = 0 then w else divEven (w * ratioNum s r) (ratioDen s r)

/-- A fractional correction y (1e-24) such that 1 - y is multiplied by the ratio. -/
def scaleY (s : State) (r : RootId) (y : Int) : Int :=
  if ratioDen s r = 0 then y else 10 ^ 24 - roundDiv ((10 ^ 24 - y) * ratioNum s r) (ratioDen s r)

/-- A synthesiser moves to the new root at one phase-detector edge: its words are rescaled (R85); a band search or a
frequency acquisition restarts (Table HS-5). -/
def switchSyn (r : RootId) (x : Syn) (s : State) : State :=
  let s1 := modSyn x (fun y => { y with word := scaleWord s r y.word, lockWord := scaleWord s r y.lockWord }) s
  if lockStage s1 x = 1 ∨ ((getSyn s1 x).lock = 1 ∧ lockStage s1 x = 2) then startLock x s1 else s1

/-- ROOT_SWITCH (R85): no relock, no gating; every word and the holdover estimate are rescaled by f_old / f_new. -/
def rootSwitch (r : RootId) (s : State) : State :=
  if rootNow s = r then s else
    let s1 := allSyn.foldl (fun (t : State) x => switchSyn r x t) s
    { s1 with hs := { s1.hs with nowB := r == .b, heldUnfit := false },
              tk := { s1.tk with y := scaleY s r s.tk.y, yi := scaleY s r s.tk.yi, yh := scaleY s r s.tk.yh,
                                 hoSum := if s.tk.hoCount = 0 then 0 else s.tk.hoCount * scaleY s r (s.tk.hoSum / s.tk.hoCount),
                                 hoList := s.tk.hoList.map (fun p => (scaleY s r p.1, p.2)) } }

/-- A fitted root becomes DISQUALIFIED (R81, R83, R86): the switch to the other root, which ends a force; or the failure
of both roots. -/
def rootFail (r : RootId) (s : State) : State :=
  let s1 := setRoot r .disqualified s
  if rootQualified s1 (otherRoot r) then
    let s2 := raiseAlarm blkHS s1
    if rootNow s1 = r then
      rootSwitch (otherRoot r) { s2 with hs := { s2.hs with force := none } }
    else s2
  else if rootNow s1 = r then raiseFault fRoots s1
  else s1

/-- A selected root that a commit marked unfitted is left as soon as the other root is QUALIFIED (R84). -/
def leaveUnfit (s : State) : State :=
  if s.hs.heldUnfit && rootQualified s (otherRoot (rootNow s)) then
    let r := rootNow s
    let s1 : State := { s with hs := { s.hs with force := if s.hs.force = some r then none else s.hs.force } }
    setRoot r .absent (rootSwitch (otherRoot r) s1)
  else s

/-- Automatic selection runs on the other root, once that is QUALIFIED, while the root in use is not (R83).
Log entry 90 (DEDUCED). -/
def autoSelect (s : State) : State :=
  if s.hs.force.isNone && !rootQualified s (rootNow s) && rootQualified s (otherRoot (rootNow s)) then
    rootSwitch (otherRoot (rootNow s)) s
  else s

/-- Automatic selection runs on the preferred root while that is QUALIFIED (R83): at the end of a force that the host takes
back, and at a commit that changes the preference. Log entry 90 (DEDUCED). -/
def preferRoot (s : State) : State :=
  if s.hs.force.isNone && !s.hs.heldUnfit && rootQualified s (rootPref s.live) then rootSwitch (rootPref s.live) s
  else autoSelect s

/-- What a commit does to one root (R84), from its new mark. -/
def rootCommitOne (old new : Tables) (r : RootId) (s : State) : State :=
  if rootFit new r then
    if rootFit old r && (getRoot s r).st != .absent then s else setRoot r .requalifying s
  else if rootNow s = r then s
  else setRoot r .absent s

/-- R83 and R84 at the commit's frame boundary. -/
def rootCommit (old new : Tables) (s : State) : State :=
  let s1 := rootCommitOne old new .b (rootCommitOne old new .a s)
  if rootFit new (rootNow s1) then
    let s2 : State := { s1 with hs := { s1.hs with heldUnfit := false } }
    if old.root.prefB = new.root.prefB then s2 else preferRoot s2
  else
    let s2 : State := { s1 with hs := { s1.hs with heldUnfit := true } }
    if rootQualified s2 (otherRoot (rootNow s2)) then leaveUnfit s2 else raiseAlarm blkHS s2

/-- R84 at validation: a commit may mark the selected root unfitted only while the other root is QUALIFIED and fitted. -/
def rootCommitOk (s : State) (new : Tables) : Bool :=
  rootFit new (rootNow s) || (rootFit new (otherRoot (rootNow s)) && rootQualified s (otherRoot (rootNow s)))

/-! ### Steering and rates at a commit -/

/-- The word of a synthesiser whose nominal frequency changes (R109): in MANUAL, and under TWIN with the words of the active
unit, it keeps its offset. -/
def newNominal (old new : Tables) (s : State) (x : Syn) : Nat :=
  match steerNow s x with
  | 0 => disciplinedWord new s.hs.rootHz x s.tk.y
  | _ => divEven (nominalWord new s.hs.rootHz x * (getSyn s x).word) (nominalWord old s.hs.rootHz x)

/-- The loop starts from the word in use of MSYN, whose group carries Spindle time (R94), within Table TK-3. -/
def loopFrom (s : State) : State :=
  let y := clampInt (-50000000000000000000) 50000000000000000000 (yOfWord s .msyn)
  { s with tk := { s.tk with y, yi := y } }

/-- A change of steering source at a commit (R94, Table HS-5): the word in use stays. -/
def steerCommit (x : Syn) (oldMan newMan : Bool) (s : State) : State :=
  if oldMan && !newMan then
    let s1 := cancelHostMoves x s
    if x = .msyn then loopFrom s1 else s1
  else s

/-- The relock of a change of rate; a synthesiser that is off takes its word. -/
def rateCommit (x : Syn) (w : Nat) (k : DataPlane) (s : State) : State :=
  if (getSyn s x).lock = 0 then modSyn x (fun y => { y with word := w, epoch := true }) s else startRelock x w k s

/-- HS_SYNTH_CFG at the commit's frame boundary; `s.live` holds the new tables (R23, R94, R109). -/
def synthCommit (old new : Tables) (s : State) : State :=
  let s1 := steerCommit .nsyn old.synth.manN new.synth.manN
    (steerCommit .vsyn old.synth.manV new.synth.manV (steerCommit .msyn old.synth.manM new.synth.manM s))
  let s2 := if old.synth.f441 = new.synth.f441 then s1
            else rateCommit .msyn (newNominal old new s1 .msyn) .second s1
  if old.synth.vrate = new.synth.vrate then s2 else rateCommit .vsyn (newNominal old new s2 .vsyn) .relock s2

/-- What a commit does to the gate of one output (R104, R339): the divider loads to its alignment at the boundary, and
the gate stays closed for 16 output cycles. A gate that its monitor has tripped stays tripped. -/
def gateCommitOne (first : Bool) (s : State) (old new : ClkCfg) (g : GateState) : GateState :=
  if first || old.tap != new.tap || old.div != new.div || old.phase != new.phase || old.mode != new.mode then
    let why := if (getSyn s (tapSyn new.tap)).lock = 4 ∨ first = true then 3 else 1
    { g with gate := if g.gate = 2 then 2 else why,
             aligned := if (getSyn s (tapSyn new.tap)).lock = 4 then some s.clock else none }
  else g

def gateCommitGo (first : Bool) (s : State) (old new : Tables) : Nat → List GateState → List GateState
  | _, [] => []
  | o, g :: gs => gateCommitOne first s (clkOf old o) (clkOf new o) g :: gateCommitGo first s old new (o + 1) gs

def gateCommit (first : Bool) (old new : Tables) (s : State) : State :=
  { s with hs := { s.hs with gate := gateCommitGo first s old new 0 s.hs.gate } }

/-- A Spindle step closes the gate of every clock output for its re-phase (R340). -/
def gateStep (s : State) : State :=
  let shut : GateState → GateState := fun g => { g with gate := if g.gate = 2 then 2 else 3, aligned := none }
  { s with hs := { s.hs with gate := s.hs.gate.map shut } }

/-! ### Spread spectrum on SSYN (R100, R101) -/

/-- The largest deviation of a mode in ppm, and whether it goes both ways (Table HS-6). -/
def spreadDepth : Nat → Nat × Bool
  | 1 => (2500, false) | 2 => (5000, false) | 3 => (10000, false)
  | 4 => (1250, true) | 5 => (2500, true) | 6 => (5000, true)
  | _ => (0, false)

/-- The period of the triangle, 31.25 kHz. -/
def spreadPeriod : Nat := 32 * uPerUs

/-- The spread mode in force now, and since when its triangle runs. -/
def spreadView (s : State) : Nat × Nat :=
  match s.hs.spreadNext with
  | some (m, t) => if t ≤ s.clock then (m, t) else (s.hs.spreadMode, s.hs.spreadFrom)
  | none => (s.hs.spreadMode, s.hs.spreadFrom)

/-- Neither a spread mode in force nor one that is to follow. -/
def spreadOff (s : State) : Bool :=
  (spreadView s).1 == 0 && (match s.hs.spreadNext with | some (m, _) => m == 0 | none => true)

/-- When a change of mode takes effect: at the first turning point of the running triangle after the boundary, and, where
that is not at the nominal frequency, when the triangle is there next, since modulation stops at nominal (R101).
Log entry 94 (DEDUCED). -/
def spreadTurn (mode from_ now : Nat) : Nat :=
  let half := spreadPeriod / 2
  if mode = 0 then now
  else if (spreadDepth mode).2 then
    let turn := from_ + half / 2 + ((now + half / 2 - from_) / half) * half
    from_ + ceilTo half (turn - from_)
  else
    let turn := from_ + ((now - from_) / half + 1) * half
    from_ + ceilTo spreadPeriod (turn - from_)

/-- The triangle after `q` of `n` phase-detector cycles, in units of 1/n of its depth: from nominal to the far end and back,
or, about the centre, up, down and back (Table HS-6). -/
def triangle (both : Bool) (q n : Nat) : Int :=
  if both then
    (if 4 * q ≤ n then (4 * q : Int) else if 4 * q ≤ 3 * n then (2 * n : Int) - 4 * q else (4 * q : Int) - 4 * n)
  else (if 2 * q ≤ n then -(2 * q : Int) else (2 * q : Int) - 2 * n)

/-- The deviation of a mode, in ppm times 2^32, `p` after the start of its triangle: a new value in each phase-detector
cycle. -/
def spreadDev (rootHz mode p : Nat) : Int :=
  let n := spreadPeriod * rootHz / uPerS
  let d := spreadDepth mode
  roundDiv (d.1 * triangle d.2 (p % spreadPeriod * rootHz / uPerS) n * 2 ^ 32) n

/-- Modulation runs: a mode is in force and SSYN is locked (R101). -/
def spreadOn (s : State) : Bool := (spreadView s).1 != 0 && s.hs.ssyn.lock == 4

/-- The word that a synthesiser runs at: base word and move offset, and for SSYN the modulation (R95, R101). -/
def wordNow (s : State) (x : Syn) : Int :=
  let y := getSyn s x
  let w := (y.word : Int) + moveOffset y
  if x = .ssyn ∧ spreadOn s = true then
    let v := spreadView s
    w + roundDiv (w * spreadDev s.hs.rootHz v.1 (s.clock - v.2)) (1000000 * 2 ^ 32)
  else w

/-! ### Payload checks and table changes of the staged commands -/

/-- HS_ROOT_CFG (R106, Table HS-9). -/
def okRootCfg (p : Bytes) : Bool :=
  (bit p 0 0 || bit p 0 1) && decide (10 ≤ u16 p 4) && decide (u16 p 4 ≤ 50000)

def putRootCfg (p : Bytes) (t : Tables) : Tables :=
  { t with root := { aFit := bit p 0 0, bFit := bit p 0 1, prefB := bit p 1 0, revert := bit p 2 0, tol := u16 p 4 } }

/-- HS_SYNTH_CFG (R109, Table HS-12). -/
def okSynthCfg (p : Bytes) : Bool := decide (fld p 2 1 0 ≤ 1) && decide (fld p 2 3 2 ≤ 1) && decide (fld p 2 5 4 ≤ 1)

def putSynthCfg (p : Bytes) (t : Tables) : Tables :=
  { t with synth := { f441 := bit p 0 0, vrate := bit p 1 0, manM := bit p 2 0, manV := bit p 2 2, manN := bit p 2 4 } }

/-- HS_TOOLREST (R113, Table HS-18). -/
def okToolrest (p : Bytes) : Bool := decide (u8 p 0 < 12)

def putToolrest (p : Bytes) (t : Tables) : Tables := { t with ceil := tabSet 0 t.ceil (u8 p 0) (u32 p 4) }

/-! ### Checks of the direct commands (check 7 of R397) -/

/-- HS_ROOT_SELECT (R107). -/
def chkRootSelect (p : Bytes) (s : State) : Option Nat :=
  match u8 p 0 with
  | 0 => none
  | 1 => if rootQualified s .a then none else some stState
  | 2 => if rootQualified s .b then none else some stState
  | _ => some stBad

/-- The manual range of a synthesiser in ppm (Table HS-3). -/
def manualPpm : Syn → Nat
  | .nsyn => 100
  | _ => 2000

/-- A word command is refused unless its synthesiser is in MANUAL (R93); a step of NSYN is at most 50 ppm (R95). -/
def chkWord (x : Syn) (w : Nat) (s : State) : Option Nat :=
  if steerNow s x ≠ 1 then some stState
  else if x = .nsyn ∧ withinPpm 50 w s.hs.nsyn.word = false then some stBad
  else none

/-- HS_SET_FRAC (R108): the word of the payload. -/
def fracWord (p : Bytes) : Nat := u16 p 2 % 1024 * 2 ^ 48 + u48 p 4

/-- Log entry 27 (DEDUCED). -/
def chkSetFrac (p : Bytes) (s : State) : Option Nat :=
  let x := synOf (u8 p 0)
  let w := fracWord p
  if u8 p 0 > 3 then some stBad
  else if x ≠ .ssyn ∧ (withinPpm (manualPpm x) w (nominalWord s.live s.hs.rootHz x) = false ∨
      w * s.hs.rootHz < 4400000000 * 2 ^ 48 ∨ w * s.hs.rootHz > 6100000000 * 2 ^ 48) then some stBad
  else chkWord x w s

/-- HS_FREQ_OFFSET (R110). Log entry 27 (DEDUCED). -/
def chkFreqOffset (p : Bytes) (s : State) : Option Nat :=
  let x := synOf (u8 p 0)
  if u8 p 0 > 3 then some stBad
  else if x ≠ .ssyn ∧ (i32 p 4).natAbs > manualPpm x * 1000000 then some stBad
  else chkWord x (offsetWord s.live s.hs.rootHz x (i32 p 4)) s

/-- A host move needs MANUAL, or SSYN with spread off (R98, R101). -/
def chkMoveState (x : Syn) (s : State) : Option Nat :=
  if steerNow s x = 1 ∨ (x = .ssyn ∧ spreadOff s = true) then none else some stState

def chkPhaseMove (p : Bytes) (s : State) : Option Nat :=
  if u8 p 0 > 3 ∨ (i64 p 4).natAbs > 10 ^ 12 then some stBad else chkMoveState (synOf (u8 p 0)) s

def chkPhaseRaw (p : Bytes) (s : State) : Option Nat :=
  let x := synOf (u8 p 0)
  if u8 p 0 > 3 ∨ (toSigned 48 (u48 p 4)).natAbs > (fsToUnits s.hs.rootHz (runWord (getSyn s x)) (10 ^ 12)).natAbs then
    some stBad
  else chkMoveState x s

/-- HS_SLEW and HS_SPREAD (R100, R112). -/
def chkSlew (p : Bytes) (_ : State) : Option Nat :=
  if u8 p 0 > 3 ∨ u16 p 2 = 0 ∨ u16 p 2 > 50000 then some stBad else none

def chkSpread (p : Bytes) (_ : State) : Option Nat := if u8 p 0 ≠ 3 ∨ u8 p 1 > 6 then some stBad else none

/-- HS_RELOCK (R114): the role is check 6 of R397, before the fields. A VSYN that is off has no word in use to relock at:
the manual does not name the answer, and the model refuses it like one that is relocking. Log entry 93 (DESIGN CHOICE). -/
def chkRelock (p : Bytes) (s : State) : Option Nat :=
  if s.role = .active ∨ s.role = .standby then some stState
  else if u8 p 0 > 3 then some stBad
  else if u8 p 0 = 3 ∨ (getSyn s (synOf (u8 p 0))).lock ≠ 4 then some stState
  else none

/-! ### What the direct commands do at their frame boundary -/

/-- At the boundary the conditions are looked at again: a command whose state has gone is refused (DEDUCED, entry 8). -/
def atFrame (check : Bytes → State → Option Nat) (run : Cmd → State → State) (c : Cmd) (s : State) : State :=
  match check c.payload s with
  | some st => respond c st [] s
  | none => run c s

/-- Log entry 90 (DEDUCED). -/
def applyRootSelect (c : Cmd) (s : State) : State :=
  match u8 c.payload 0 with
  | 1 => respond c stDone [] (rootSwitch .a { s with hs := { s.hs with force := some .a } })
  | 2 => respond c stDone [] (rootSwitch .b { s with hs := { s.hs with force := some .b } })
  | _ => respond c stDone [] (preferRoot { s with hs := { s.hs with force := none } })

/-- Whether a later word write for the same synthesiser acts at this boundary: then this one is answered DONE and the
last one applies (Table HS-5). -/
def laterWrite (c : Cmd) (s : State) : Bool :=
  s.mb.cmds.any fun d =>
    (d.opcode == 0x0312 || d.opcode == 0x0314) && u8 d.payload 0 == u8 c.payload 0 && d.n != c.n &&
      (match d.phase, c.phase with | .frame i, .frame j => decide (j < i) | _, _ => false)

def applySetFrac (c : Cmd) (s : State) : State :=
  if laterWrite c s then respond c stDone [] s
  else respond c stDone [] (noteDirect c (applyWord (synOf (u8 c.payload 0)) (fracWord c.payload) s))

def applyFreqOffset (c : Cmd) (s : State) : State :=
  if laterWrite c s then respond c stDone [] s
  else
    let x := synOf (u8 c.payload 0)
    respond c stDone [] (noteDirect c (applyWord x (offsetWord s.live s.hs.rootHz x (i32 c.payload 4)) s))

/-- A host move starts at a frame boundary at which its synthesiser is locked; until then it waits (Table HS-5). -/
def applyMove (c : Cmd) (s : State) : State :=
  let x := synOf (u8 c.payload 0)
  let y := getSyn s x
  if y.lock = 4 then respond c stDone [] (startMove x (hostMoveUnits s c) none .kept s) else s

/-- HS_SLEW: a move that runs at it follows from the next frame on (R98). -/
def setSlew (p : Bytes) (s : State) : State := modSyn (synOf (u8 p 0)) (fun y => { y with slew := u16 p 2 }) s

def applySlew (c : Cmd) (s : State) : State := respond c stDone [] (noteDirect c (setSlew c.payload s))

/-- HS_SPREAD at its frame boundary: the mode that ran is settled, and the new one follows at its instant (R101). -/
def setSpread (p : Bytes) (s : State) : State :=
  let v := spreadView s
  { s with hs := { s.hs with spreadMode := v.1, spreadFrom := v.2, spreadNext := some (u8 p 1, spreadTurn v.1 v.2 s.clock) } }

def applySpread (c : Cmd) (s : State) : State := respond c stDone [] (noteDirect c (setSpread c.payload s))

def applyRelock (c : Cmd) (s : State) : State :=
  let x := synOf (u8 c.payload 0)
  let s1 := startRelock x (getSyn s x).word .relock s
  setPhase c.n .running (modSyn x (fun y => { y with relockCmd := some c.n }) s1)

/-! ### Status -/

/-- HS_STATUS (Table HS-20). -/
def hsStatus (x : Syn) (s : State) : Bytes :=
  let y := getSyn s x
  let owed := if y.moving then y.owed / 2 ^ 32 else y.discarded
  le 1 (16 * steerNow s x + lockStage s x) ++ le 1 y.band ++
    le 1 (2 * b2n (x == .ssyn && spreadOn s) + b2n y.moving) ++
    le 1 (32 * rootStCode s.hs.rootB.st + 4 * rootStCode s.hs.rootA.st + 2 * b2n s.hs.force.isSome + b2n s.hs.nowB) ++
    leInt 6 owed ++ le 2 y.relocks ++
    leInt 4 (satInt 32 (wordOffset s.live s.hs.rootHz x (wordNow s x)))

/-! ### The meanings of the command rows -/

def execHsRootCfg (k : OrdClass) (s : State) : Host.Outcome State Fault Refusal := .next (startStaged k 0x0310 okRootCfg s)
def execHsRootSelect (k : OrdClass) (s : State) : Host.Outcome State Fault Refusal :=
  .next (startDirect k 0x0311 chkRootSelect s)
def execHsSetFrac (k : OrdClass) (s : State) : Host.Outcome State Fault Refusal := .next (startDirect k 0x0312 chkSetFrac s)
def execHsSynthCfg (k : OrdClass) (s : State) : Host.Outcome State Fault Refusal :=
  .next (startStaged k 0x0313 okSynthCfg s)
def execHsFreqOffset (k : OrdClass) (s : State) : Host.Outcome State Fault Refusal :=
  .next (startDirect k 0x0314 chkFreqOffset s)
def execHsPhaseMove (k : OrdClass) (s : State) : Host.Outcome State Fault Refusal :=
  .next (startDirect k 0x0315 chkPhaseMove s)
def execHsPhaseRaw (k : OrdClass) (s : State) : Host.Outcome State Fault Refusal := .next (startDirect k 0x0316 chkPhaseRaw s)
def execHsSlew (k : OrdClass) (s : State) : Host.Outcome State Fault Refusal := .next (startDirect k 0x0317 chkSlew s)
def execHsSpread (k : OrdClass) (s : State) : Host.Outcome State Fault Refusal := .next (startDirect k 0x0318 chkSpread s)
def execHsToolrest (k : OrdClass) (s : State) : Host.Outcome State Fault Refusal :=
  .next (startStaged k 0x0319 okToolrest s)
def execHsRelock (k : OrdClass) (s : State) : Host.Outcome State Fault Refusal := .next (startDirect k 0x031A chkRelock s)
def execHsStatus (k : OrdClass) (s : State) : Host.Outcome State Fault Refusal :=
  .next (startStatus k 0x0E10 (fun p => decide (u8 p 0 ≤ 3)) (fun p t => hsStatus (synOf (u8 p 0)) t) s)

/-! ### The events of the synthesisers -/

/-- The host window becomes ready once SSYN and MSYN are locked (step 4 of Sequence PW-1): Spindle time starts at zero,
ring forwarding starts; recovery boot stays in BOOT and loads no image (R45, R62). -/
def bootLocked (s : State) : State :=
  if s.pw.boot = .rooted ∧ s.hs.msyn.lock = 4 ∧ s.hs.ssyn.lock = 4 then
    { s with pw := { s.pw with boot := if s.pw.bootSel then .recovery else .ready },
             spindle := 0, timeValid := false, ig := { s.ig with forwarding := true } }
  else s

/-- What the lock of one synthesiser leaves (R90, R95): the pull range is centred on its word, a suspended move resumes,
its taps are at their relation to Spindle time; SSYN takes its modulation up again at the nominal frequency (R101). -/
def lockDone (x : Syn) (s : State) : State :=
  let s1 := modSyn x (fun y =>
    { y with lock := 4, lockWord := y.word, suspended := false, relockCmd := none, moveAt := s.clock, lockAt := s.clock,
             tapOff := if y.epoch then 0 else y.tapOff, drift := y.drift && !y.epoch, epoch := false }) s
  if x = .ssyn then
    { s1 with hs := { s1.hs with spreadMode := (spreadView s).1, spreadFrom := s.clock,
                                 spreadNext := match s.hs.spreadNext with
                                   | some (m, t) => if t ≤ s.clock then none else some (m, s.clock)
                                   | none => none } }
  else s1

/-- A synthesiser declares lock (R90, R95): HS_RELOCK is answered; the sequencers of VCLK wait for their start. -/
def execSynthLockDeclared (x : Syn) (s : State) : Host.Outcome State Fault Refusal :=
  let y := getSyn s x
  if y.lock = 0 ∨ y.lock = 4 then .next s else
    let s1 := lockDone x s
    let s2 := match y.relockCmd with
      | some n => respondTo n stDone [] s1
      | none => s1
    .next (bootLocked (if x = .vsyn then psWait true s2 else s2))

/-- No lock 1 ms after the trigger (R91): a failed boot step in BOOT, else the unlock FAULT. -/
def execSynthLockTimeout (x : Syn) (s : State) : Host.Outcome State Fault Refusal :=
  let y := getSyn s x
  if y.lock = 0 ∨ y.lock = 4 ∨ s.clock < y.lockFrom + uPerMs then .next s
  else if s.mode = .boot then .next { s with pw := { s.pw with boot := .failed, bootFail := 3 } }
  else .next (raiseFault fUnlock s)

/-- Loss of lock outside a relock (R91): every gate of the synthesiser closes at once and the unlock FAULT follows. The
manual does not give the HS_LOCK that is read then; the model reads 2, the loop being closed and the frequency not yet
acquired. Log entry 95 (DESIGN CHOICE). -/
def execSynthLossOfLock (x : Syn) (s : State) : Host.Outcome State Fault Refusal :=
  if (getSyn s x).lock ≠ 4 then .next s else
    let s1 := modSyn x (fun y => { y with lock := 2 }) (closeGates x s)
    let s2 := if x = .msyn then stopPlane .relock s1 else s1
    .next (raiseFault fUnlock s2)

/-- The synthesiser of a group (R124). -/
def groupSyn : Group → Syn
  | .media => .msyn | .video => .vsyn | .network => .nsyn

/-- The group of a synthesiser. -/
def synGroup : Syn → Option Group
  | .msyn => some .media | .vsyn => some .video | .nsyn => some .network | .ssyn => none

def kOf (s : State) : Group → Int
  | .media => s.tk.kMedia | .video => s.tk.kVideo | .network => s.tk.kNetwork

/-- A kept offset changes by `d` ps, and the timescale of its group with it, or, for the media group, those of the others
(R124). -/
def addK (g : Group) (d : Int) (s : State) : State :=
  let e := d * 10 ^ 18
  match g with
  | .media => { s with tk := { s.tk with kMedia := s.tk.kMedia + d },
                       hs := { s.hs with vsyn := { s.hs.vsyn with tapOff := s.hs.vsyn.tapOff - e },
                                         nsyn := { s.hs.nsyn with tapOff := s.hs.nsyn.tapOff - e } } }
  | .video => { s with tk := { s.tk with kVideo := s.tk.kVideo + d },
                       hs := { s.hs with vsyn := { s.hs.vsyn with tapOff := s.hs.vsyn.tapOff + e } } }
  | .network => { s with tk := { s.tk with kNetwork := s.tk.kNetwork + d },
                         hs := { s.hs with nsyn := { s.hs.nsyn with tapOff := s.hs.nsyn.tapOff + e } } }

/-- The kept offset of a group whose TK_REALIGN completes returns to zero (R135). -/
def realignDone (x : Syn) (s : State) : State :=
  match synGroup x with
  | some g =>
    if s.tk.realign.contains g then
      let s1 := addK g (-(kOf s g)) s
      { s1 with tk := { s1.tk with realign := s1.tk.realign.filter (· != g) } }
    else s
  | none => s

/-- A move has added its whole amount and the word returns to its base value (R97): nothing is owed any more. -/
def execPhaseMoveComplete (x : Syn) (s : State) : Host.Outcome State Fault Refusal :=
  let s1 := progressMove x s
  let y := getSyn s1 x
  if y.moving && !y.suspended && y.owed == 0 then
    .next (realignDone x (modSyn x (fun y => { y with loopOwed := 0, resOwed := 0, moving := false, paused := false }) s1))
  else .next s1

/-! ### The events of the roots -/

/-- A root meets a disqualifying condition (R81, R83, R86). -/
def execRootDisqualified (r : RootId) (s : State) : Host.Outcome State Fault Refusal :=
  match (getRoot s r).st with
  | .qualified => .next (rootFail r s)
  | .requalifying => .next (rootFail r s)
  | _ => .next s

/-- The disqualifying condition has cleared (R81). -/
def execRootConditionClear (r : RootId) (s : State) : Host.Outcome State Fault Refusal :=
  if (getRoot s r).st = .disqualified then .next (setRoot r .requalifying s) else .next s

/-- A root has been clean for 1 s in REQUALIFYING (R81); a root held in use though unfitted is now left (R84), and automatic
selection leaves a root in use that is not QUALIFIED (R83). Log entry 90 (DEDUCED). -/
def execRootQualified (r : RootId) (s : State) : Host.Outcome State Fault Refusal :=
  if (getRoot s r).st = .requalifying ∧ (getRoot s r).since + uPerS ≤ s.clock then
    .next (autoSelect (leaveUnfit (setRoot r .qualified s)))
  else .next s

/-- The preferred root has been QUALIFIED for 10 s with HS_ROOT_REVERT set (R83). -/
def execRootRevert (s : State) : Host.Outcome State Fault Refusal :=
  let r := rootPref s.live
  if s.live.root.revert = true ∧ s.hs.force = none ∧ rootNow s ≠ r ∧ rootQualified s r = true ∧
      (getRoot s r).since + 10 * uPerS ≤ s.clock then
    .next (rootSwitch r s)
  else .next s

/-- A root is fit to be disqualified for disagreement. -/
def rootWatched (s : State) (r : RootId) : Bool := (getRoot s r).st == .qualified || (getRoot s r).st == .requalifying

/-- The 1 ms update of the ratio window (R82): deviation of the mean ratio f_A / f_B from 1 and of each root from the
disciplined estimate, 1e-12. -/
def execRootRatioUpdate (ratioDev devA devB : Int) (s : State) : Host.Outcome State Fault Refusal :=
  let tol := s.live.root.tol * 1000
  let dis := decide (ratioDev.natAbs > tol)
  let s1 : State := { s with hs := { s.hs with ratioDev, disagree := dis } }
  let s2 := if dis && !s.hs.disagree then raiseAlarm blkHS s1 else s1
  if dis = false ∨ s.mode ≠ .locked then .next s2 else
    let dev : RootId → Int := fun r => match r with | .a => devA | .b => devB
    let bad : RootId → State → State := fun r t =>
      if decide ((dev r).natAbs > tol) && rootWatched t r then rootFail r t else t
    .next (bad (rootNow s) (bad (otherRoot (rootNow s)) s2))

/-! ### The events of Tool rest -/

/-- A 100 us window of a clock output ends (R103). -/
def execToolrestWindow (o count : Nat) (s : State) : Host.Outcome State Fault Refusal :=
  if o < 12 ∧ s.firstLive = true ∧ (clkOf s.live o).mode ≠ 0 then
    if count > windowLimit s.live o then
      .next (raiseAlarm blkHS (modGate o (fun g =>
        { g with gate := 2, clean := 0, cleanAt := none, trips := satInc 16 g.trips, lastCount := count }) s))
    else
      .next (modGate o (fun g =>
        { g with clean := g.clean + 1, lastCount := count, cleanAt := if g.clean = 9 then some s.clock else g.cleanAt }) s)
  else .next s

/-- 16 cycles of an output have passed since an instant of the device clock. -/
def cyclesPassed (t : Tables) (o : Nat) (since now : Nat) : Bool :=
  let c := clkOf t o
  decide ((now - since) * tapNum t c.tap ≥ 16 * (c.div + 1) * uPerS * tapDen t c.tap)

/-- In SAFE with role SOLO the clock outputs are held low (R35). -/
def clkHeld (s : State) : Bool := s.mode == .safe && s.role == .solo

/-- When a gate may open (R103, R104, R339): its synthesiser is locked and its divider has been loaded, and 16 cycles of
the output have passed since both; after a trip, ten windows in a row have stayed within the limit and 16 cycles more have
passed. -/
def gateReady (s : State) (o : Nat) : Bool :=
  let g := nth {} s.hs.gate o
  let y := getSyn s (tapSyn (clkOf s.live o).tap)
  y.lock == 4 && cyclesPassed s.live o y.lockAt s.clock &&
    (match g.aligned with | some a => cyclesPassed s.live o a s.clock | none => false) &&
    (g.gate != 2 || (match g.cleanAt with | some a => cyclesPassed s.live o a s.clock | none => false))

/-- A gate opens on a rising edge of its own output. -/
def execToolrestGateOpen (o : Nat) (s : State) : Host.Outcome State Fault Refusal :=
  if o < 12 ∧ s.firstLive = true ∧ (clkOf s.live o).mode ≠ 0 ∧ clkHeld s = false ∧ gateReady s o = true then
    .next (modGate o (fun g => { g with gate := 0 }) s)
  else .next s

end Sys2Proof.Machine
end

