-- ==== Sys2Proof/Machine/Tracking.lean ====
section
/-! DEFINITION. Reference tracking, holdover and Spindle time (chapter 05): candidates, the loop, Spindle steps, leaps,
and the commands and events of that chapter. Frequencies y are in units of 1e-24, phases in picoseconds. -/
namespace Sys2Proof.Machine

/-! ### Candidates -/

def candCfg (t : Tables) (i : Nat) : CandCfg := tabGet {} t.cand i
def candSt (s : State) (i : Nat) : CandState := nth {} s.tk.cand i

def modCand (i : Nat) (f : CandState → CandState) (s : State) : State :=
  { s with tk := { s.tk with cand := modNth f s.tk.cand i } }

/-- References that carry full time (R117): PTP, twin, ring time. -/
def fullTime (typ : Nat) : Bool := typ == 1 || typ == 2 || typ == 0x0A || typ == 0x0B

/-- The rate that TK_VFMT names for word clock and DARS, Hz (Table TK-10). -/
def vfmtRate (f : Nat) : Nat := nth 48000 [32000, 44100, 48000, 88200, 96000, 176400, 192000] f

/-- The alignment period of a video format (Table TK-4) in ps, as a fraction. -/
def videoPeriod (f : Nat) : Nat × Nat :=
  let e := 10 ^ 12
  nth (e, 1)
    [(e * 160, 1000), (e * 2002, 30000), (e, 25), (e * 1001, 30000), (e * 1001, 24000), (e, 24), (e, 25), (e * 1001, 30000),
     (e, 30), (e, 50), (e * 1001, 60000), (e, 60), (e, 50), (e * 1001, 60000), (e, 60)] f

/-- The period of a reference that is known modulo one, in ps as a fraction (Table TK-1). -/
def candPeriod (c : CandCfg) : Option (Nat × Nat) :=
  match c.typ with
  | 3 => some (10 ^ 12, 1)
  | 4 => some (10 ^ 12, vfmtRate c.vfmt)
  | 5 | 6 | 7 | 8 => some (192 * 10 ^ 12, vfmtRate c.vfmt)
  | 9 => some (videoPeriod c.vfmt)
  | _ => none

/-- The period of an entry: that of the twin entry is the period of the partner's reference (Table TK-1). -/
def entryPeriod (s : State) (c : CandCfg) : Option (Nat × Nat) := if c.typ = 0x0A then s.tk.twinPeriod else candPeriod c

/-- A phase wrapped into (-T/2, T/2], T = num / den ps (R125). -/
def wrapPs (num den : Nat) (x : Int) : Int :=
  let r := x * den % (num : Int)
  roundDiv (if 2 * r > (num : Int) then r - num else r) den

/-- The phase difference of R125 from reference time minus Spindle time, as if TK_ALIGN were set. -/
def rawDelta (s : State) (i : Nat) (measured : Int) : Int :=
  let c := candCfg s.live i
  let x := measured - c.cal - s.tk.kMedia
  match entryPeriod s c with
  | some (n, d) => wrapPs n d x
  | none => x

/-- The phase difference of R125: zero for a candidate with TK_ALIGN clear. -/
def deltaOf (s : State) (i : Nat) (measured : Int) : Int :=
  if (candCfg s.live i).align then rawDelta s i measured else 0

/-- A measurement of a candidate (R125): reference time minus Spindle time, and the phase differences formed of it. -/
def setMeas (i : Nat) (measured : Int) (s : State) : State :=
  modCand i (fun c => { c with meas := measured, measAdv := s.tk.spAdv, phase := deltaOf s i measured,
                               rawPhase := rawDelta s i measured }) s

/-- The last measurement of a candidate, against the present Spindle time: moves and steps since then have advanced it. -/
def freshMeas (s : State) (i : Nat) : Int :=
  (candSt s i).meas - roundDiv (s.tk.spAdv - (candSt s i).measAdv) (10 ^ 18)

/-- The phase difference of a candidate now. -/
def freshDelta (s : State) (i : Nat) : Int := deltaOf s i (freshMeas s i)

/-- References whose measurement comes with events of their own; those of the others are measured continuously. -/
def fedRef (typ : Nat) : Bool := !(decide (5 ≤ typ) && decide (typ ≤ 8))

/-- What a periodic evaluation takes for the measurement of a candidate. Log entry 97 (DEDUCED). -/
def measNow (s : State) (i : Nat) (measured : Int) : Int :=
  if fedRef (candCfg s.live i).typ then freshMeas s i else measured

/-- Default loop bandwidths in mHz (Table TK-1). -/
def defaultBw : Nat → Nat
  | 1 => 50 | 2 => 50 | 3 => 10 | 4 => 500 | 5 => 500 | 6 => 500 | 7 => 500 | 8 => 500 | 9 => 100 | _ => 1000

def loopBw (c : CandCfg) : Nat := if c.bw = 0 then defaultBw c.typ else c.bw

/-- The QUALIFIED candidate of lowest index from index `i` on (R121). -/
def lowestQualified : Nat → List CandState → Option Nat
  | _, [] => none
  | i, c :: cs => if c.st = .qualified then some i else lowestQualified (i + 1) cs

/-! ### Groups and moves -/

def allGroups : List Group := [.media, .video, .network]

def groupOf : Nat → Group
  | 0 => .media | 1 => .video | _ => .network

/-- A move of the tracking loop on one group: a group in MANUAL or TWIN takes no part (R124). `slew`: none for the group's
own HS_SLEW; `kind`: whether Table TK-7 cancels it. -/
def groupMove (ps : Int) (fixed : Option Nat) (kind : MoveKind) (g : Group) (s : State) : State :=
  let x := groupSyn g
  if steerNow s x = 0 ∧ ps ≠ 0 then startMove x (psToUnits s.hs.rootHz (getSyn s x).word ps) fixed kind s else s

/-- The same move on every DISCIPLINED group. A STANDBY makes none of its own (R509). -/
def moveGroups (ps : Int) (fixed : Option Nat) (s : State) : State :=
  if s.role = .standby then s else allGroups.foldl (fun (t : State) g => groupMove ps fixed .loop g t) s

/-- The moves of acquisition, of a hitless switch and of a return policy are cancelled; what is done stays, K_g unchanged;
a realign and a residual move go on (Table TK-7). -/
def cancelLoopMoves (s : State) : State :=
  allGroups.foldl (fun (t : State) g => if steerNow t (groupSyn g) = 0 then cancelLoop (groupSyn g) t else t) s

/-- A phase move is owed on some DISCIPLINED group. -/
def movesOwed (s : State) : Bool :=
  allGroups.any fun g => steerNow s (groupSyn g) == 0 && (getSyn s (groupSyn g)).moving

/-! ### Spindle steps (R127) -/

/-- Taps that decide the alignment period of a group: the frequency whose period it is, Hz as a fraction (Table TK-20). -/
def groupGrid (t : Tables) : Group → Nat × Nat
  | .media => (tapNum t 0, 1)
  | .video => if t.synth.vrate then (13500000000, 1001) else (13500000, 1)
  | .network => (1250000, 1)

/-- How far the taps of a group are ahead of their grid (1e-30 s): not known, a free value, where the host has written words.
Log entry 98 (DESIGN CHOICE). -/
def tapOffset (s : State) (g : Group) : Int :=
  let y := getSyn s (groupSyn g)
  if y.drift then (Config.freeNat (s.freeCount + synCode (groupSyn g)) : Int) else y.tapOff

/-- The residual move of a group: the offset of its taps from their grid, wrapped into half the alignment period, in P
units (R127, R508). -/
def residualUnits (s : State) (g : Group) : Int :=
  let f := groupGrid s.live g
  let m : Int := (10 ^ 30 * f.2 : Nat)
  let r := -(tapOffset s g) * f.1 % m
  let r' := if 2 * r > m then r - m else r
  roundDiv (r' * ((getSyn s (groupSyn g)).word * s.hs.rootHz * 65536 : Nat)) (f.1 * 10 ^ 30 * 2 ^ 48)

/-- The residual move of one DISCIPLINED group, at 50 us/s. -/
def residualMove (s : State) (g : Group) : State :=
  let x := groupSyn g
  let p := residualUnits s g
  if steerNow s x = 0 ∧ p ≠ 0 ∧ (getSyn s x).lock = 4 then startMove x p (some 50000) .residual s else s

/-- Every residual move is complete. -/
def residualsDone (s : State) : Bool := allGroups.all fun g => (getSyn s (groupSyn g)).resOwed == 0

/-- The UTC offset changes by the pending leap (R139); the ledger has the new one. Spindle time does not step. -/
def leapNow (s : State) : State :=
  if s.tk.leapPend ≠ 0 ∧ s.tk.leapAt ≤ secOf s.spindle then
    let v := s.tk.utcNow + (if s.tk.leapPend = 1 then 1 else -1)
    let host := decide (s.tk.hostPend ≠ 0 ∧ s.tk.hostLeapAt ≤ secOf s.spindle)
    let s1 : State := { s with tk := { s.tk with utcNow := v, leapPend := 0, leapAt := 0,
                                                 hostUtc := if host then s.tk.hostUtc + (if s.tk.hostPend = 1 then 1 else -1) else s.tk.hostUtc,
                                                 hostPend := if host then 0 else s.tk.hostPend } }
    lgEvent 0xFF06 (v % 65536).toNat s1
  else s

/-- MCLK or VCLK in Hz as a fraction (R23, Table HS-7). -/
def clkNum (t : Tables) (v : Bool) : Nat := if v then tapNum t 1 else tapNum t 0
def clkDen (t : Tables) (v : Bool) : Nat := if v then tapDen t 1 else 1

/-- The timescale of the group that makes a clock (R124), in model units: Spindle time, or the video timescale. -/
def scaleTime (s : State) (v : Bool) (t : Nat) : Int :=
  if v then (t : Int) - (s.tk.kVideo - s.tk.kMedia) * (uPerNs : Nat) / 1000 else (t : Int)

/-- A time of the clock's timescale in units of 2^-16 clock cycle. -/
def scaleUnits (s : State) (v : Bool) (t : Nat) : Nat :=
  (scaleTime s v t).toNat * clkNum s.live v * 65536 / (clkDen s.live v * uPerS)

/-- The edges of a clock at a Spindle time, in units of 2^-16 cycle, as its counters have them: VCLK counts on over a
Spindle step. -/
def clkUnits (s : State) (v : Bool) (t : Nat) : Nat :=
  if v then ((scaleUnits s v t : Nat) + s.da.vOff).toNat else scaleUnits s v t

/-- The clock edge at or before a Spindle time, counted from Spindle time zero (R241). -/
def clkEdge (s : State) (v : Bool) (t : Nat) : Nat := clkUnits s v t / 65536

/-- The Spindle time counter jumps to `t`: VCLK, which goes on, keeps its count of edges, and a sequencer that waits looks
for its start instant from `t` on (R249, R250). -/
def stepVclk (t : Nat) (s : State) : State :=
  let kept : Int := (scaleUnits s true s.spindle : Nat) - (scaleUnits s true t : Nat)
  { s with da := { s.da with vOff := s.da.vOff + kept },
           ps := s.ps.map (fun p => if p.st = 1 then { p with since := t } else p) }

/-- The counter is loaded (R127, R138): every tap keeps its edges, so all of them move against Spindle time; a step past
TK_LEAP_AT takes the new UTC offset with it (Table TK-7). -/
def loadCounter (t : Nat) (setValid : Bool) (s : State) : State :=
  let add := roundDiv (((t : Int) - s.spindle) * 10 ^ 30) uPerS
  let off : SynState → SynState := fun y => { y with tapOff := y.tapOff - add }
  let s := stepVclk t s
  leapNow { s with spindle := t, timeValid := s.timeValid || setValid,
                   hs := { s.hs with msyn := off s.hs.msyn, vsyn := off s.hs.vsyn, nsyn := off s.hs.nsyn },
                   tk := { s.tk with step := none, spAdv := s.tk.spAdv + add } }

/-- The value that a step loads. -/
def stepTarget (q : StepReq) (s : State) : Nat :=
  match q.absTime with
  | some t => t
  | none => ((s.spindle : Int) + roundDiv (q.addPs * uPerNs) 1000).toNat

/-- SPINDLE_STEP (R127, R138): the counter is loaded, the data plane stops, the gates close for their re-phase, residual
moves start. With the fence open it raises an ALARM and leaves a ledger entry. With the data plane dark it is a counter
load alone. -/
def spindleStep (q : StepReq) (s : State) : State :=
  let t := stepTarget q s
  let s1 := if s.fenceOpen then
      raiseAlarm blkTK (lgEvent 0xFF05 (roundDiv ((t : Int) - s.spindle) uPerNs % 2 ^ 64).toNat s) else s
  let s2 := loadCounter t q.setValid s1
  if s2.dataPlane = .dark then
    match q.cmd with
    | none => s2
    | some n => respondTo n stDone [] s2
  else
    let s3 := allGroups.foldl residualMove (gateStep (stopPlane .second s2))
    match q.cmd with
    | none => s3
    | some n => setPhase n .running { s3 with tk := { s3.tk with stepCmds := s3.tk.stepCmds ++ [n] } }

/-- A step from the selected candidate, to be loaded at the next frame boundary; a STANDBY makes none (R509). -/
def askStep (i : Nat) (delta : Int) (s : State) : State :=
  if s.role = .standby then s
  else { s with tk := { s.tk with step := some { absTime := none, addPs := delta, setValid := fullTime (candCfg s.live i).typ, cmd := none } } }

/-! ### Acquisition, selection, loss -/

/-- The selection of a candidate: the integral term starts from the y in use (R511). -/
def selectCand (i : Nat) (s : State) : State :=
  { s with tk := { s.tk with selected := some i, yi := s.tk.y, selRaw := rawDelta s i (freshMeas s i), lockSince := none,
                             selCycle := eventCycle s } }

/-- A group's action on the return from HOLDOVER (Table TK-6). -/
def returnGroup (delta : Int) (pol : Nat) (g : Group) (s : State) : State :=
  if steerNow s (groupSyn g) ≠ 0 then s
  else match pol with
    | 0 => addK g delta s
    | 1 => groupMove delta none .loop g s
    | _ => groupMove delta (some 50000) .loop g s

/-- HOLDOVER_RETURN (R133). -/
def holdoverReturn (delta : Int) (s : State) : State :=
  let s1 : State := { s with tk := { s.tk with lastDelta := delta } }
  if s.role = .standby then s1
  else returnGroup delta s.live.policy.network .network (returnGroup delta s.live.policy.video .video
    (returnGroup delta s.live.policy.media .media s1))

/-- What acquisition does with the phase difference (R126, R133). -/
def acquirePhase (i : Nat) (delta : Int) (s : State) : State :=
  let unset := fullTime (candCfg s.live i).typ && !s.timeValid
  match s.tk.style with
  | .return_ => holdoverReturn delta s
  | .gentle =>
    if unset || decide (delta.natAbs > s.live.tk.stepLimit * 1000000) then askStep i delta s else s
  | .fast =>
    if unset || decide (delta.natAbs > 50000000) then askStep i delta s else moveGroups delta (some 50000) s

/-- ACQUIRE is entered on candidate `i` (R26, R126). -/
def enterAcquire (i : Nat) (s : State) : State :=
  let style : AcqStyle := if s.mode = .holdover then .return_ else if s.live.tk.fast then .fast else .gentle
  let s1 := selectCand i { s with acquireFenced := style == .fast, tk := { s.tk with style } }
  acquirePhase i (freshDelta s1 i) (hushRecheck (setMode .acquire s1))

/-- HITLESS_SWITCH (R122): an earlier move is cancelled, the phase difference of the new candidate against the present
Spindle time is removed at the HS_SLEW of each group, or absorbed with TK_ALIGN clear. -/
def hitlessSwitch (i : Nat) (s : State) : State :=
  let s1 := selectCand i (cancelLoopMoves s)
  moveGroups (freshDelta s1 i) none s1

def hoValid (s : State) : Bool := decide (s.tk.hoList.length ≥ 100)

/-- The holdover estimate: the mean over the intervals (R130). -/
def hoMean (l : List (Int × Int)) : Int := if l.length = 0 then 0 else (l.foldl (fun a p => a + p.1) 0) / l.length
def hoTempMean (l : List (Int × Int)) : Int := if l.length = 0 then 0 else (l.foldl (fun a p => a + p.2) 0) / l.length

/-- The first row of Table NW-5: LOCKED on a candidate that carries full time, or on PPS_IN with time-valid set, with
TK_ALIGN set and K_media = 0. -/
def class6 (s : State) : Bool :=
  match s.mode, s.tk.selected with
  | .locked, some i =>
    let c := candCfg s.live i
    (fullTime c.typ || (c.typ == 3 && s.timeValid)) && c.align && s.tk.kMedia == 0
  | _, _ => false

/-- HOLDOVER_ENTRY (R130, R131, Table AH-8): no QUALIFIED candidate is left; the moves of the loop are cancelled; the
device coasts on the estimate, or enters FREERUN without one. `from6`: the class announced until now was 6 (Table NW-5). -/
def holdoverEntry (from6 : Bool) (s : State) : State :=
  let s1 := cancelLoopMoves { s with tk := { s.tk with selected := none, forced := false, hoSum := 0, hoCount := 0, lockSince := none } }
  if hoValid s1 then
    setMode .holdover { s1 with tk := { s1.tk with hoEntry := s1.clock, yh := s1.tk.y, hoFrom6 := from6 } }
  else setMode .freerun s1

/-- The selected candidate is out of service (R121, R27): a loss declaration drops the intervals of the last 2 s of LOCKED
(R130); another QUALIFIED candidate takes over, or the device enters HOLDOVER or FREERUN. -/
def selectedLost (declared from6 : Bool) (s0 : State) : State :=
  let s := inOrder rankLoss s0
  if s.mode ≠ .acquire ∧ s.mode ≠ .locked then { s with tk := { s.tk with selected := none, forced := false } }
  else
    let drop : List (Int × Int) := if s.mode = .locked ∧ declared = true then s.tk.hoList.drop 2 else s.tk.hoList
    let s1 : State := { s with tk := { s.tk with forced := false, hoList := drop, hoSum := 0, hoCount := 0 } }
    match lowestQualified 0 s1.tk.cand with
    | some j => hitlessSwitch j s1
    | none => holdoverEntry from6 s1

/-- CANDIDATE_REJECTED (R120, R121): the criterion is recorded; a selected candidate goes out of service with an ALARM. -/
def rejectCand (i code : Nat) (s : State) : State :=
  let s1 := modCand i (fun c => { c with st := .rejected, fail := code }) s
  if s.tk.selected = some i then selectedLost false (class6 s) (raiseAlarm blkTK s1) else s1

/-- An entry leaves service at NO_SIGNAL; the windows of the video reference are counted afresh (R129). -/
def toNoSignal (i : Nat) (s : State) : State :=
  let s1 := modCand i (fun c => { c with st := .noSignal, hasFreq := false }) s
  if (candCfg s.live i).typ = 9 then { s1 with tk := { s1.tk with videoMisses := 0, videoCoarse := none } } else s1

/-- A loss declaration (R117, R120): counted, with an ALARM; a selected candidate goes out of service. -/
def loseCand (i : Nat) (s : State) : State :=
  match (candSt s i).st with
  | .off => s
  | .noSignal => s
  | _ =>
    let s1 := toNoSignal i { s with tk := { s.tk with losses := modNth (satInc 16) s.tk.losses (candCfg s.live i).typ } }
    let s2 := raiseAlarm blkTK s1
    if s.tk.selected = some i then selectedLost true (class6 s) s2 else s2

/-- A candidate of lower index takes over from the selected one: with TK_REVERTIVE set, or where the selection was made in
the same fabric cycle (R121, Table TK-7). -/
def takesOver (i j : Nat) (s : State) : Bool :=
  !s.tk.forced && decide (i < j) && (s.live.tk.revertive || s.tk.selCycle == eventCycle s)

/-- A candidate has become QUALIFIED (R121, Table AH-8). -/
def afterQualified (i : Nat) (s0 : State) : State :=
  let s := inOrder rankQual s0
  match s.mode with
  | .freerun | .holdover =>
    match lowestQualified 0 s.tk.cand with
    | some j => enterAcquire j s
    | none => s
  | .acquire | .locked =>
    match s.tk.selected with
    | none => hitlessSwitch i s
    | some j => if takesOver i j s then hitlessSwitch i s else s
  | _ => s

/-! ### The loop (R123, R511) -/

/-- 2 pi / 2.482, in units of 1e-18. -/
def loopRatio : Nat := 2531500929564700434

/-- kp * e and ki * t * e in units of 1e-24, for a phase error in ps and a bandwidth in mHz. -/
def kpTerm (bw : Nat) (e : Int) : Int := roundDiv (e * (2 * bw * loopRatio : Nat)) (10 ^ 9)
def kiTerm (bw : Nat) (e : Int) : Int := roundDiv (e * (bw * bw * loopRatio * loopRatio : Nat)) (10 ^ 33)

/-- The step limit of one write (Table TK-3): 1e-10 with the fence open style, 50 ppm in fast acquisition. -/
def writeLimit (s : State) : Int := if s.mode = .acquire ∧ s.tk.style = .fast then 50000000000000000000 else 100000000000000

/-- y limited by Table TK-3. -/
def limitY (s : State) (y : Int) : Int :=
  clampInt (-50000000000000000000) 50000000000000000000
    (clampInt (s.tk.y - writeLimit s) (s.tk.y + writeLimit s) y)

/-- The word that the loop writes (R94, R95, R123): towards nominal * (1 - y), from the word in use, by at most the step of
the situation (Table TK-3, `lim` in 1e-24 of nominal, and one F step for the rounding of R87), and inside the pull
range. -/
def loopWord (lim : Nat) (y : Int) (s : State) (x : Syn) : Nat :=
  let v := getSyn s x
  let most : Int := nominalWord s.live s.hs.rootHz x * lim / 10 ^ 24 + 1
  let w := clampInt ((v.word : Int) - most) ((v.word : Int) + most) (disciplinedWord s.live s.hs.rootHz x y)
  let pull : Int := v.lockWord * 500 / 1000000
  (clampInt ((v.lockWord : Int) - pull) ((v.lockWord : Int) + pull) w).toNat

/-- Writes the words of y to the DISCIPLINED synthesisers (R123). -/
def writeWords (lim : Nat) (y : Int) (s : State) : State :=
  let one : State → Group → State := fun t g =>
    let x := groupSyn g
    if steerNow t x = 0 then modSyn x (fun v => { v with word := loopWord lim y t x }) t else t
  allGroups.foldl one s

/-- One LOCKED millisecond of the holdover estimate (R130): at 1,000 of them an interval joins the last 1,000. An interval
that ends before any die temperature has been read counts with 25.00 C: the manual gives none. Log entry 99
(DESIGN CHOICE). -/
def holdoverLearn (s : State) : State :=
  if s.mode ≠ .locked then s else
    let sum := s.tk.hoSum + s.tk.y
    let n := s.tk.hoCount + 1
    if n < 1000 then { s with tk := { s.tk with hoSum := sum, hoCount := n } }
    else { s with tk := { s.tk with hoList := ((sum / 1000, s.pw.temp.getD 2500) :: s.tk.hoList).take 1000,
                                    hoSum := 0, hoCount := 0, hoLast := s.clock, hoAged := false } }

/-- Whether the criteria of R128 hold at this instant. -/
def lockCriteria (s : State) (i : Nat) : Bool :=
  let c := candCfg s.live i
  let st := candSt s i
  (!c.align || decide (st.phase.natAbs ≤ s.live.tk.lockPhase * 1000)) && decide (st.freq.natAbs ≤ 10000) &&
    !movesOwed s && s.tk.step.isNone

/-- Keeps the instant since which the criteria of R128 have held. -/
def trackLock (i : Nat) (s : State) : State :=
  let since := if lockCriteria s i then some (s.tk.lockSince.getD s.clock) else none
  { s with tk := { s.tk with lockSince := since } }

/-- One computation of the loop (R511) on candidate `i`, whose phases are up to date. -/
def loopWrite (i : Nat) (s : State) : State :=
  if s.role = .standby then
    { s with tk := { s.tk with y := yOfWord s .msyn, yi := yOfWord s .msyn } }
  else
    let c := candCfg s.live i
    let st := candSt s i
    let owed := if s.hs.msyn.moving then owedPs s.hs.rootHz s.hs.msyn.word s.hs.msyn.owed else 0
    let e := if c.align then st.phase - owed else st.rawPhase - s.tk.selRaw
    let yi := s.tk.yi - kiTerm (loopBw c) e
    let y := yi - kpTerm (loopBw c) e
    let y' := limitY s y
    let yi' := if y' = y then yi else y' + kpTerm (loopBw c) e
    writeWords (writeLimit s).toNat y' { s with tk := { s.tk with y := y', yi := yi' } }

/-! ### Commit rules and effects -/

/-- The rules of R117 on one configuration: no two entries name the same reference. -/
def candDistinct : List (Nat × CandCfg) → Bool
  | [] => true
  | (_, c) :: cs => cs.all (fun d => c.typ == 0 || d.2.typ != c.typ) && candDistinct cs

/-- An entry of the old list that names the same reference, with its state (R507). -/
def findCand (old : Tables) (typ : Nat) : Nat → List CandState → Option (CandCfg × CandState)
  | _, [] => none
  | i, c :: cs => if (candCfg old i).typ = typ then some (candCfg old i, c) else findCand old typ (i + 1) cs

/-- The state of one entry after a commit (R507). -/
def keepCand (old : Tables) (cands : List CandState) (c : CandCfg) : CandState :=
  if c.typ = 0 ∨ c.lockout then {}
  else match findCand old c.typ 0 cands with
    | some (oc, st) => if oc.vfmt = c.vfmt ∧ oc.lockout = false then st else { st := .noSignal }
    | none => { st := .noSignal }

/-- The index at which the new list holds the reference of type `typ`, from index `i` on. -/
def newIndex (new : Tables) (typ : Nat) : Nat → Nat → Option Nat
  | 0, _ => none
  | n + 1, i => if (candCfg new i).typ = typ ∧ typ ≠ 0 then some i else newIndex new typ n (i + 1)

/-- The new TK_CAL_OFFSET and TK_ALIGN apply to what was measured (R507). -/
def remeasure (s : State) : State :=
  (List.range 12).foldl (fun (t : State) i =>
    modCand i (fun c => if c.st = .off ∨ c.st = .noSignal then c
      else { c with phase := freshDelta t i, rawPhase := rawDelta t i (freshMeas t i) }) t) s

/-- An entry may leave NO_SIGNAL (R118, R159): a PTP entry while its port is in SLAVE, the twin entry only in role ACTIVE,
the ring-time entry never on the master. -/
def candUsable (s : State) (i : Nat) : Bool :=
  let t := (candCfg s.live i).typ
  if t = 0x0A then s.role == .active
  else if t = 0x0B then s.ig.addr != s.live.igMaster
  else if t = 1 then s.nw.ptp0.st == 9
  else if t = 2 then s.nw.ptp1.st == 9
  else t != 0

/-- The ring-time entry of the ring time master, and the twin entry outside role ACTIVE, have no signal (R118). -/
def dropUnusable (s : State) : State :=
  (List.range 12).foldl (fun (t : State) i =>
    if ((candCfg t.live i).typ = 0x0A ∨ (candCfg t.live i).typ = 0x0B) ∧ candUsable t i = false then loseCand i t else t) s

/-- R27, R121, R507 at the commit's frame boundary; `s.live` holds the new tables. A commit that changes the list
reselects; one that leaves it as it is does not. -/
def candCommit (old new : Tables) (s : State) : State :=
  let from6 := class6 { s with live := old }
  let cands := (List.range 12).map (fun i => keepCand old s.tk.cand (candCfg new i))
  let sel := match s.tk.selected with
    | some i => newIndex new (candCfg old i).typ 12 0
    | none => none
  let s1 := dropUnusable (remeasure { s with tk := { s.tk with cand := cands, selected := sel } })
  match s.tk.selected, sel with
  | none, _ => s1
  | some _, none => selectedLost false from6 (raiseAlarm blkTK s1)
  | some _, some j =>
    if s1.tk.selected ≠ some j then s1
    else if (candSt s1 j).st ≠ .qualified then selectedLost false from6 (raiseAlarm blkTK s1)
    else if s1.tk.forced ∨ old.cand = new.cand then s1
    else match lowestQualified 0 s1.tk.cand with
      | some l => if l < j then hitlessSwitch l s1 else s1
      | none => s1

/-! ### Payloads -/

/-- TK_CFG (R142, Table TK-9). -/
def okTkCfg (p : Bytes) : Bool :=
  decide (1 ≤ u16 p 2) && decide (u16 p 2 ≤ 600) && decide (1 ≤ u16 p 4) && decide (1 ≤ u16 p 6) && decide (1 ≤ u16 p 8) &&
    decide (1 ≤ u16 p 10) && decide (u16 p 10 ≤ 8760)

def putTkCfg (p : Bytes) (t : Tables) : Tables :=
  { t with tk := { fast := bit p 0 0, revertive := bit p 1 0, qualS := u16 p 2, lockPhase := u16 p 4, stepLimit := u16 p 6,
                   agree := u16 p 8, hoAge := u16 p 10 } }

/-- TK_CAND (R143, Table TK-10): an empty entry is checked in its index only. -/
def okTkCand (p : Bytes) : Bool :=
  decide (u8 p 0 < 12) && (u8 p 1 == 0 ||
    (decide (u8 p 1 ≤ 0x0B) && decide (u16 p 4 ≤ 1000) && decide (1 ≤ u16 p 6) && decide (u16 p 6 ≤ 5000) &&
      (if u8 p 1 = 9 then decide (u8 p 3 ≤ 0x0E) else if 4 ≤ u8 p 1 ∧ u8 p 1 ≤ 8 then decide (u8 p 3 ≤ 6) else true)))

def readCand (p : Bytes) : CandCfg :=
  if u8 p 1 = 0 then {}
  else { typ := u8 p 1, align := bit p 2 1, lockout := bit p 2 0,
         vfmt := if 4 ≤ u8 p 1 ∧ u8 p 1 ≤ 9 then u8 p 3 else 0, bw := u16 p 4, pull := u16 p 6, cal := i32 p 8 }

def putTkCand (p : Bytes) (t : Tables) : Tables := { t with cand := tabSet {} t.cand (u8 p 0) (readCand p) }

/-- TK_POLICY (R144, Table TK-11). -/
def okTkPolicy (p : Bytes) : Bool := decide (fld p 0 1 0 ≤ 2) && decide (fld p 0 3 2 ≤ 2) && decide (fld p 0 5 4 ≤ 2)

def putTkPolicy (p : Bytes) (t : Tables) : Tables :=
  { t with policy := { media := fld p 0 1 0, video := fld p 0 3 2, network := fld p 0 5 4 } }

/-- TK_ROOT_CHAR (R145, Table TK-12). -/
def okRootChar (p : Bytes) : Bool := decide (u8 p 0 ≤ 1)

def putRootChar (p : Bytes) (t : Tables) : Tables :=
  { t with rootChar := tabSet {} t.rootChar (u8 p 0) { t0 := i16 p 2, c1 := i32 p 4, c2 := i32 p 8, age := i32 p 12 } }

/-- TK_SET_TIME (R138, R146): refused while a full-time candidate with TK_ALIGN set is tracked (Table TK-7). -/
def chkSetTime (p : Bytes) (s : State) : Option Nat :=
  match readFull p 0 with
  | none => some stBad
  | some _ =>
    match s.tk.selected with
    | some i =>
      if fullTime (candCfg s.live i).typ = true ∧ (candCfg s.live i).align = true ∧ (s.mode = .acquire ∨ s.mode = .locked) then
        some stState else none
    | none => none

/-- TK_LEAP (R147). -/
def chkLeap (p : Bytes) (s : State) : Option Nat :=
  if fld p 2 1 0 = 3 then some stBad
  else if fld p 2 1 0 ≠ 0 ∧ u48 p 4 ≤ secOf s.spindle then some stBad
  else none

/-- TK_REF_SELECT and TK_REALIGN (R148); a realign outside LOCKED is refused at check 6 of R397, before the fields. -/
def chkRefSelect (p : Bytes) (s : State) : Option Nat :=
  if u8 p 0 = 255 then none
  else if u8 p 0 > 11 then some stBad
  else if (candSt s (u8 p 0)).st = .qualified then none else some stState

def chkRealign (p : Bytes) (s : State) : Option Nat :=
  if s.mode ≠ .locked then some stState else if u8 p 0 > 2 then some stBad else none

/-! ### What the direct commands do at their frame boundary -/

def applySetTime (c : Cmd) (s : State) : State :=
  match readFull c.payload 0 with
  | some t => spindleStep { absTime := some t, addPs := 0, setValid := bit c.payload 12 0, cmd := some c.n } s
  | none => respond c stBad [] s

/-- TK_LEAP: the values are stored, and are in use unless PTP gives the leap information (R139). -/
def applyLeap (c : Cmd) (s : State) : State :=
  let p := c.payload
  let s1 : State := { s with tk := { s.tk with utcSet := true, hostUtc := i16 p 0, hostPend := fld p 2 1 0, hostLeapAt := u48 p 4 } }
  let s2 : State := if s.tk.leapPort.isSome then s1
    else { s1 with tk := { s1.tk with utcNow := i16 p 0, leapPend := fld p 2 1 0, leapAt := u48 p 4 } }
  respond c stDone [] s2

/-- TK_REF_SELECT (R148). Back in automatic selection, a QUALIFIED entry of lower index takes over with TK_REVERTIVE set
alone, as at any other time: the manual lists the return to automatic among no cases of reselection (R121).
Log entry 100 (DESIGN CHOICE). -/
def applyRefSelect (c : Cmd) (s : State) : State :=
  let v := u8 c.payload 0
  if v = 255 then
    let s1 : State := { s with tk := { s.tk with forced := false } }
    let s2 := match lowestQualified 0 s1.tk.cand, s1.tk.selected with
      | some l, some j => if s1.live.tk.revertive && decide (l < j) then hitlessSwitch l s1 else s1
      | _, _ => s1
    respond c stDone [] s2
  else
    let s1 := if s.tk.selected = some v ∨ (s.mode ≠ .acquire ∧ s.mode ≠ .locked) then s else hitlessSwitch v s
    respond c stDone [] { s1 with tk := { s1.tk with forced := true } }

/-- TK_REALIGN (R135): a move of +K_g at the group's HS_SLEW, answered DONE when it starts; until the synthesiser is locked
it waits. Where no move is due, of a group in MANUAL or TWIN steering, with K_g zero, or whose realign runs already, it
is answered DONE at once: the manual names no other answer. Log entry 29 (DESIGN CHOICE). -/
def applyRealign (c : Cmd) (s : State) : State :=
  let g := groupOf (u8 c.payload 0)
  if steerNow s (groupSyn g) = 0 ∧ kOf s g ≠ 0 ∧ s.tk.realign.contains g = false then
    if (getSyn s (groupSyn g)).lock = 4 then
      let s1 := groupMove (kOf s g) none .kept g s
      respond c stDone [] { s1 with tk := { s1.tk with realign := g :: s1.tk.realign } }
    else s
  else respond c stDone [] s

/-! ### Status -/

/-- TK_STATUS (Table TK-17). With nothing selected TK_PHASE_ERR reads zero, and TK_HO_AGE_MIN reads zero while the estimate
holds no interval: the manual gives no other value. Log entry 101 (DESIGN CHOICE). -/
def tkStatus (s : State) : Bytes :=
  let sel := s.tk.selected.getD 255
  let phase := match s.tk.selected with | some i => (candSt s i).phase | none => 0
  let y := if s.mode = .holdover then s.tk.yh else s.tk.y
  let age := if s.tk.hoList.isEmpty then 0 else (s.clock - s.tk.hoLast) / (60 * uPerS)
  le 1 sel ++
    le 1 (16 * b2n s.tk.forced + 8 * b2n s.timeValid + 4 * b2n (hoValid s) + 2 * b2n s.tk.hoAged + b2n (s.tk.leapPend != 0)) ++
    le 2 (packBits (s.tk.cand.map (fun c => c.st == .qualified))) ++
    leInt 4 (satInt 32 phase) ++ leInt 4 (satInt 32 (roundDiv y (10 ^ 12))) ++ leInt 2 (satInt 16 s.tk.utcNow) ++
    le 2 (if age > 65535 then 65535 else age)

/-- TK_OFFSETS (Table TK-18). -/
def tkOffsets (s : State) : Bytes :=
  leInt 4 (satInt 32 s.tk.kMedia) ++ leInt 4 (satInt 32 s.tk.kVideo) ++ leInt 4 (satInt 32 s.tk.kNetwork) ++
    leInt 4 (satInt 32 s.tk.lastDelta)

def candStCode : CandSt → Nat
  | .off => 0 | .noSignal => 1 | .qualifying => 2 | .qualified => 3 | .rejected => 4

/-- TK_CAND_STATUS (Table TK-19). -/
def tkCandStatus (i : Nat) (s : State) : Bytes :=
  let c := candSt s i
  le 1 (candStCode c.st) ++ le 1 c.fail ++ le 2 (nth 0 s.tk.losses (candCfg s.live i).typ) ++ leInt 4 (satInt 32 c.phase) ++ leInt 4 (satInt 32 c.freq) ++
    le 2 (if c.st = .qualifying then c.qualLeft else 0) ++ zeros 2

/-! ### The meanings of the command rows -/

def execTkCfg (k : OrdClass) (s : State) : Host.Outcome State Fault Refusal := .next (startStaged k 0x0320 okTkCfg s)
def execTkCand (k : OrdClass) (s : State) : Host.Outcome State Fault Refusal := .next (startStaged k 0x0321 okTkCand s)
def execTkPolicy (k : OrdClass) (s : State) : Host.Outcome State Fault Refusal := .next (startStaged k 0x0322 okTkPolicy s)
def execTkRootChar (k : OrdClass) (s : State) : Host.Outcome State Fault Refusal :=
  .next (startStaged k 0x0323 okRootChar s)
def execTkSetTime (k : OrdClass) (s : State) : Host.Outcome State Fault Refusal := .next (startDirect k 0x0324 chkSetTime s)
def execTkLeap (k : OrdClass) (s : State) : Host.Outcome State Fault Refusal := .next (startDirect k 0x0325 chkLeap s)
def execTkRefSelect (k : OrdClass) (s : State) : Host.Outcome State Fault Refusal :=
  .next (startDirect k 0x0326 chkRefSelect s)
def execTkRealign (k : OrdClass) (s : State) : Host.Outcome State Fault Refusal := .next (startDirect k 0x0327 chkRealign s)
def execTkStatus (k : OrdClass) (s : State) : Host.Outcome State Fault Refusal :=
  .next (startStatus k 0x0E11 (fun _ => true) (fun _ t => tkStatus t) s)
def execTkOffsets (k : OrdClass) (s : State) : Host.Outcome State Fault Refusal :=
  .next (startStatus k 0x0E12 (fun _ => true) (fun _ t => tkOffsets t) s)
def execTkCandStatus (k : OrdClass) (s : State) : Host.Outcome State Fault Refusal :=
  .next (startStatus k 0x0E13 (fun p => decide (u8 p 0 < 12)) (fun p t => tkCandStatus (u8 p 0) t) s)

/-! ### The events -/

/-- The selected candidate has left QUALIFIED without an event of the loop: the twin entry of a unit that is no longer ACTIVE
(R118). Log entry 89 (DEDUCED). -/
def selectedGone (s : State) : Bool :=
  match s.tk.selected with
  | some i => (candSt s i).st != .qualified
  | none => false

/-- A candidate's signal appears (R120). -/
def execCandidateSignalAppear (i : Nat) (s : State) : Host.Outcome State Fault Refusal :=
  if (candSt s i).st = .noSignal ∧ candUsable s i = true then
    .next (raiseAlarm blkTK (modCand i (fun c => { c with st := .qualifying, qualLeft := s.live.tk.qualS, hasFreq := false })
      (if (candCfg s.live i).typ = 9 then { s with tk := { s.tk with videoMisses := 0, videoCoarse := none } } else s)))
  else .next s

/-- The first criterion of R120 that fails in an interval: 1 frequency window, 2 stability, 3 agreement; 0 none. -/
def failedCriterion (s : State) (i : Nat) (freq delta : Int) : Nat :=
  let c := candCfg s.live i
  let st := candSt s i
  if freq.natAbs > c.pull * 10000 then 1
  else if st.hasFreq = true ∧ (freq - st.freq).natAbs > 50000 then 2
  else if st.st ≠ .qualified ∧ c.align = true ∧ s.mode = .locked ∧ delta.natAbs > s.live.tk.agree * 1000 then 3
  else 0

/-- The 1 s evaluation of a candidate (R120): `freq` against the disciplined frequency, `measured` reference time minus
Spindle time of a reference that is measured continuously. -/
def execCandidateIntervalEval (i : Nat) (freq measured : Int) (s : State) : Host.Outcome State Fault Refusal :=
  let st := candSt s i
  if st.st = .off ∨ st.st = .noSignal then .next s
  else
    let v := measNow s i measured
    let f := failedCriterion s i freq (deltaOf s i v)
    let s1 := modCand i (fun c => { c with freq, hasFreq := true }) (setMeas i v s)
    if f ≠ 0 then .next (if st.st = .rejected then modCand i (fun c => { c with fail := f }) s1 else rejectCand i f s1)
    else match st.st with
      | .qualifying => .next (modCand i (fun c => { c with qualLeft := c.qualLeft - 1 }) s1)
      | .rejected => .next (modCand i (fun c => { c with st := .qualifying, qualLeft := s.live.tk.qualS }) s1)
      | _ => .next s1

/-- The qualification timer has run out (R120, R121). -/
def execCandidateQualified (i : Nat) (measured : Int) (s : State) : Host.Outcome State Fault Refusal :=
  if (candSt s i).st = .qualifying ∧ (candSt s i).qualLeft = 0 then
    .next (afterQualified i (modCand i (fun c => { c with st := .qualified }) (setMeas i (measNow s i measured) s)))
  else .next s

/-- Time since an instant, against a limit; a signal never seen is silent. -/
def silentFor (s : State) (last : Option Nat) (limit : Nat) : Bool :=
  match last with
  | some t => decide (t + limit ≤ s.clock)
  | none => true

/-- The defaults of a profile (Tables NW-4, NW-13). -/
def ptpDefault (profile : Nat) : PtpPortCfg :=
  match profile with
  | 0 => { logSync := 0, logAnn := 1, logDreq := 0 }
  | 1 => { logSync := -3, logAnn := -2, logDreq := -3 }
  | _ => { logSync := -3, logAnn := 1, logDreq := 0 }

def ptpPortCfg (t : Tables) (n : Nat) : PtpPortCfg := (tabGet none t.ptpPort n).getD (ptpDefault t.ptp.profile)

/-- Four Sync intervals of a port, or 250 ms if that is longer (Table TK-1). -/
def syncLimit (log : Int) : Nat :=
  let four := if 0 ≤ log then 4 * 2 ^ log.toNat * uPerS else 4 * uPerS / 2 ^ (-log).toNat
  if four < 250 * uPerMs then 250 * uPerMs else four

/-- The loss condition of Table TK-1 of an entry holds. `dark`: what has no event row of its own is silent: TENM_IN for
400 ns, an AES3 receiver for four frame periods, both lanes for 10 us. -/
def lossDue (s : State) (i : Nat) (dark : Bool) : Bool :=
  let c := candCfg s.live i
  match c.typ with
  | 1 => silentFor s s.nw.ptp0.lastSync (syncLimit (ptpPortCfg s.live 0).logSync)
  | 2 => silentFor s s.nw.ptp1.lastSync (syncLimit (ptpPortCfg s.live 1).logSync)
  | 3 => silentFor s s.tk.ppsLast (1100 * uPerMs) || dark
  | 4 => silentFor s s.tk.wclkLast (4 * uPerS / vfmtRate c.vfmt)
  | 0x0B => silentFor s s.ig.lastTime (10 * uPerMs)
  | 9 => false
  | _ => dark

/-- A loss declaration (R117): the condition of Table TK-1 holds. -/
def execReferenceLoss (x : RefLoss) (s : State) : Host.Outcome State Fault Refusal :=
  .next (if lossDue s x.idx x.dark then loseCand x.idx s else s)

/-- The criteria of R128 have held for 2 s: LOCKED, at a frame boundary. -/
def execAcquisitionComplete (s : State) : Host.Outcome State Fault Refusal :=
  match s.mode, s.tk.lockSince with
  | .acquire, some t =>
    if t + 2 * uPerS ≤ s.clock ∧ s.spindle % frameLen (f441 s) = 0 then .next (setMode .locked { s with acquireFenced := false })
    else .next s
  | _, _ => .next s

/-- The firmware restarts in a CONTROL reset: the words hold their last values (R9). -/
def loopHeld (s : State) : Bool := s.mb.resetBusy == some .control

/-- The loop computes at most once per millisecond (R123). -/
def loopDue (s : State) : Bool := silentFor s s.tk.loopLast uPerMs

/-- One millisecond of the loop (R511). -/
def execLoopUpdate (measured : Int) (s : State) : Host.Outcome State Fault Refusal :=
  if loopHeld s = true ∨ loopDue s = false then .next s else
  match s.tk.selected with
  | none => .next s
  | some i =>
    if s.mode ≠ .acquire ∧ s.mode ≠ .locked then .next s
    else if selectedGone s then .next (selectedLost true (class6 s) (raiseAlarm blkTK s))
    else
      let s1 := setMeas i (measNow s i measured) { s with tk := { s.tk with loopLast := some s.clock } }
      .next (holdoverLearn (trackLock i (loopWrite i s1)))

/-- Root deviation at a die temperature in 0.01 C, units 1e-24 (R131). -/
def rootDev (c : RootChar) (centi : Int) : Int :=
  let d := centi - c.t0
  c.c1 * d * 10000000 + c.c2 * d * d * 100

/-- The estimate y_h(t) of R131. -/
def holdoverY (s : State) (centi : Int) : Int :=
  let c := tabGet {} s.live.rootChar (b2n s.hs.nowB)
  let secs : Int := ((s.clock - s.tk.hoEntry) / uPerS : Nat)
  hoMean s.tk.hoList + (rootDev c centi - rootDev c (hoTempMean s.tk.hoList)) + c.age * secs * 1000000

/-- The 1 s update in HOLDOVER (R131, Table TK-3): each change at most 1e-11, within 50 ppm of nominal. -/
def execHoldoverUpdate (centi : Int) (s : State) : Host.Outcome State Fault Refusal :=
  if s.mode ≠ .holdover ∨ loopHeld s = true then .next s
  else if s.role = .standby then .next { s with tk := { s.tk with y := yOfWord s .msyn, yh := yOfWord s .msyn } }
  else
    let y := clampInt (-50000000000000000000) 50000000000000000000
      (clampInt (s.tk.yh - 10000000000000) (s.tk.yh + 10000000000000) (holdoverY s centi))
    .next (writeWords 10000000000000 y { s with tk := { s.tk with yh := y, y := y } })

/-- The age of the estimate passes TK_HO_AGE (R28, R132). -/
def execHoldoverAged (s : State) : Host.Outcome State Fault Refusal :=
  if s.tk.hoAged = false ∧ s.tk.hoList ≠ [] ∧ s.tk.hoLast + s.live.tk.hoAge * 3600 * uPerS < s.clock then
    .next (raiseAlarm blkTK { s with tk := { s.tk with hoAged := true } })
  else .next s

/-- At TK_LEAP_AT the offset changes by the pending leap (R139). -/
def execLeapApplied (s : State) : Host.Outcome State Fault Refusal := .next (leapNow s)

/-- The index of the entry of a type, when its signal is present. -/
def presentCand (s : State) (typ : Nat) : Option Nat :=
  match newIndex s.live typ 12 0 with
  | some i => (match (candSt s i).st with | .off => none | .noSignal => none | _ => some i)
  | none => none

/-- A PPS_IN edge at `fraction` ps after a whole Spindle second (R117): its phase, known modulo 1 s. -/
def execPpsInEdge (fraction : Int) (s : State) : Host.Outcome State Fault Refusal :=
  let s1 : State := { s with tk := { s.tk with ppsLast := some s.clock } }
  match presentCand s 3 with
  | some i => .next (setMeas i (-fraction) s1)
  | none => .next s1

/-- The mean of the last four periods is more than 1,000 ppm off the period of rate `f` (Table TK-1, R350). -/
def wclkBad (f : Nat) : List Nat → Bool
  | [e0, _, _, _, e4] => decide ((((e0 : Int) - e4) * f - 4 * 10 ^ 12).natAbs > 4 * 10 ^ 9)
  | _ => false

/-- A WCLK_IN edge (R350): timed to 1 ps; the frequency condition is judged at the edge that completes four periods. -/
def execWclkInEdge (atPs : Nat) (s : State) : Host.Outcome State Fault Refusal :=
  let es := (atPs :: s.dg.wclk).take 5
  let s1 : State := { s with dg := { s.dg with wclk := es }, tk := { s.tk with wclkLast := some s.clock } }
  match presentCand s 4 with
  | some i =>
    if wclkBad (vfmtRate (candCfg s.live i).vfmt) es then .next (loseCand i s1)
    else .next (setMeas i (-(atPs : Int)) s1)
  | none => .next s1

/-- The frequency of the fine correlation in Hz as a fraction: the subcarrier, or the line frequency (Table TK-4). -/
def fineFreq (f : Nat) : Nat × Nat :=
  nth (1, 1)
    [(443361875, 100), (315000000, 88), (28125, 1), (33750000, 1001), (27000000, 1001), (27000, 1), (28125, 1), (33750000, 1001),
     (33750, 1), (56250, 1), (67500000, 1001), (67500, 1), (37500, 1), (45000000, 1001), (45000, 1)] f

/-- How late a video reference is, in ps: the fine phase says it modulo the fine period, the coarse window says which period
(R129). -/
def videoLate (f : Nat) (coarse icorr qcorr : Int) : Int :=
  let p := fineFreq f
  let per : Int := (p.2 * 10 ^ 12 : Nat)
  let fine : Int := per * (turnOf qcorr icorr : Nat)
  let k := roundDiv (coarse * p.1 * 2 ^ 48 - fine) (per.toNat * 2 ^ 48)
  roundDiv (k * per * 2 ^ 48 + fine) (p.1 * 2 ^ 48)

/-- A window of the video reference that holds the template: the coarse one locates the alignment period, and each fine one
gives the phase difference with the coarse one before it. Log entry 110 (DESIGN CHOICE). -/
def videoFound (i : Nat) (w : VideoWindow) (s : State) : State :=
  let s1 : State := { s with tk := { s.tk with videoMisses := 0 } }
  if w.j = 0 then { s1 with tk := { s1.tk with videoCoarse := some w.late } }
  else match s.tk.videoCoarse with
    | none => s1
    | some c => setMeas i (-(videoLate (candCfg s.live i).vfmt c w.icorr w.qcorr)) s1

/-- A sixteenth-second window of the video reference (R129): a bad window is discarded; the second of two in a row without
the template declares the loss. -/
def execVideoRefWindow (w : VideoWindow) (s : State) : Host.Outcome State Fault Refusal :=
  match presentCand s 9 with
  | none => .next s
  | some i =>
    if w.bad then .next s
    else if w.template then .next (videoFound i w s)
    else if s.tk.videoMisses + 1 ≥ 2 then .next (loseCand i s)
    else .next { s with tk := { s.tk with videoMisses := s.tk.videoMisses + 1 } }

end Sys2Proof.Machine
end

