-- ==== Sys2Proof/Machine/Dds.lean ====
section
/-! DEFINITION. The DDS units (R241 to R243) and the clocks that their edges are counted on. -/
namespace Sys2Proof.Machine

/-- A / B of R241, before reduction: numerator and denominator of f / f_clk. -/
def ddsA (t : Tables) (c : DdsCfg) : Nat := c.num * clkDen t c.vclk
def ddsB (t : Tables) (c : DdsCfg) : Nat := c.den * clkNum t c.vclk

/-- Greatest common divisor by Euclid, with fuel enough for the widths used here. -/
def gcdGo : Nat → Nat → Nat → Nat
  | 0, a, _ => a
  | k + 1, a, b => if b = 0 then a else gcdGo k b (a % b)

/-- R241: B of the reduced fraction is below 2^32 and A / B is below one half. -/
def ddsOk (t : Tables) (c : DdsCfg) : Bool :=
  let g := gcdGo 200 (ddsB t c) (ddsA t c)
  decide (ddsB t c / g < 2 ^ 32) && decide (2 * ddsA t c < ddsB t c)

/-- theta(k) of R241. -/
def ddsTheta (t : Tables) (c : DdsCfg) (k : Nat) : Nat :=
  (c.phase * 65536 + k * ddsA t c * 2 ^ 48 / ddsB t c) % 2 ^ 48

/-- tq(j) of R242. -/
def tq (j : Nat) : Int := if j ≥ 4096 then 131071 else fxRound 131071 (fxSin (fxPi * (j : Int) / 8192))

/-- The 18-bit sine of a phase (R242). -/
def ddsSine (theta : Nat) : Int :=
  let q := theta / 2 ^ 46 % 4
  let u := theta / 2 ^ 18 % 2 ^ 28
  let v := if q % 2 = 1 then 2 ^ 28 - u else u
  let m := v / 65536
  let g : Int := (v % 65536 : Nat)
  let a := tq m + g * (tq (m + 1) - tq m) / 65536
  if q ≥ 2 then -a else a

def ddsCos (theta : Nat) : Int := ddsSine ((theta + 2 ^ 46) % 2 ^ 48)

/-- The 16-bit value that the Calipers use (R242). -/
def corr16 (a : Int) : Int :=
  let m : Int := (a.natAbs + 2) / 4
  clampInt (-32767) 32767 (if a < 0 then -m else m)

def ddsCfg (t : Tables) (d : Nat) : DdsCfg := tabGet {} t.dds d

/-- A video entry is listed, locked out or not (R118). -/
def videoListed (t : Tables) : Bool := t.cand.any (fun c => c.2.typ == 9)

/-- DA_DDS_CFG (R260, Table DA-13). -/
def okDdsCfg (p : Bytes) : Bool := decide (u8 p 0 < 8) && decide (u32 p 10 ≠ 0)

def putDdsCfg (p : Bytes) (t : Tables) : Tables :=
  { t with dds := tabSet {} t.dds (u8 p 0) { vclk := bit p 1 0, num := u48 p 4, den := u32 p 10, phase := u32 p 14, host := true } }

end Sys2Proof.Machine
end

