-- ==== Sys2Proof/Machine/Calipers.lean ====
section
/-! DEFINITION. Calipers, the measurement ADCs (chapter 07): references, sequences, triggers, windows and banks, and the
commands and events of that chapter. Edges are timed on the device clock, which no Spindle step moves. -/
namespace Sys2Proof.Machine

/-! ### Configuration views -/

def adcCfg (t : Tables) (i : Nat) : AdcCfg := tabGet {} t.adc i
def refOf (t : Tables) (pair : Nat) : Nat := tabGet 0 t.pairRef pair
def seqCfg (t : Tables) (inj : Bool) : SeqCfg := if inj then t.seqInj else t.seqReg
def slotCfg (t : Tables) (inj : Bool) (i : Nat) : SlotCfg := tabGet {} t.slots (16 * b2n inj + i)

/-- Three bits of AD_CODES (Table AD-12). -/
def codeOf (c : SlotCfg) (i : Nat) : Nat := c.codes / 8 ^ i % 8

/-- The firmware owns the ADC (R197). -/
def adcSystem (t : Tables) (i : Nat) : Bool := i == 7 && (videoListed t || t.jack.acc || t.jack.btn)

/-- AD_MODE_NOW (Table AD-21). -/
def adcMode (t : Tables) (i : Nat) : Nat := if adcSystem t i then 3 else (adcCfg t i).mode

/-- ADCs that take part in a slot: those in MEASURE with a code other than SKIP (R202, R204). -/
def slotAdcs (t : Tables) (c : SlotCfg) : List Nat :=
  (List.range 8).filter (fun i => adcMode t i == 2 && codeOf c i != 7)

/-! ### References (R194, R195) -/

def modPair (p : Nat) (f : PairState → PairState) (s : State) : State :=
  { s with ad := { s.ad with pairs := modNth f s.ad.pairs p } }

/-- The earliest start edge of a slot that runs or is to be published. -/
def oldestSlot (s : State) : Nat :=
  let starts : SeqRun → List Nat := fun q => (q.cur.toList ++ q.pubs).map (fun r => r.start)
  (starts s.ad.reg ++ starts s.ad.inj).foldl (fun a b => if b < a then b else a) s.clock

/-- REF_SETTLED of a pair clears; intervals that no window can hold any more are forgotten. -/
def clearRef (due : Option Nat) (p : Nat) (s : State) : State :=
  let old := oldestSlot s
  let kept : Nat × Option Nat → Bool := fun c => match c.2 with | some t => decide (old ≤ t) | none => true
  modPair p (fun r => { settled := false, due,
                        clears := if r.settled then (s.clock, none) :: r.clears.filter kept else r.clears }) s

def setRef (p : Nat) (s : State) : State :=
  let close : List (Nat × Option Nat) → List (Nat × Option Nat) := fun l =>
    match l with
    | (a, none) :: r => (a, some s.clock) :: r
    | l => l
  modPair p (fun r => { settled := true, clears := close r.clears, due := none }) s

/-- EXT is selected while VREF_IN lies outside its range. -/
def refBad (s : State) (p : Nat) : Bool := s.ad.vrefOut && refOf s.live p == 1

/-- The settling times of Table AD-3. -/
def settleTime (ref : Nat) : Nat := if ref = 0 then 200 * uPerUs else 50 * uPerUs

/-- A change of reference at a commit. -/
def refCommit (old new : Tables) (p : Nat) (s : State) : State :=
  if refOf old p = refOf new p then s
  else
    let s1 := clearRef (some (s.clock + settleTime (refOf new p))) p s
    if refBad s1 p then raiseAlarm blkAD s1 else s1

/-- REF_SETTLED of a pair was clear at some time from `a` to `b`. -/
def refWasClear (s : State) (p a b : Nat) : Bool :=
  (nth {} s.ad.pairs p).clears.any (fun c =>
    decide (c.1 ≤ b) && (match c.2 with | some t => decide (a < t) | none => true))

/-- The start-up of a pair's domain is complete: its reference has settled, unless the settling time of a reference change
still runs or VREF_IN is out of range (R195). -/
def pairUp (p : Nat) (s : State) : State :=
  let waits := match (nth {} s.ad.pairs p).due with | some t => decide (s.clock < t) | none => false
  if refBad s p || waits then s else setRef p s

/-! ### Triggers (R204 to R206) -/

/-- A trigger of a sequence is recognised at the edge `t0` (R205, R209, R210). A sequence runs up to and including the
publication edge of its last slot. -/
def adTriggerAt (inj : Bool) (t0 : Nat) (s : State) : State :=
  let c := seqCfg s.live inj
  let q := getSeq inj s
  if c.len = 0 ∨ s.dataPlane ≠ .running ∨ q.lastTrig = some t0 then s
  else
    let ending := match q.endAt with | some t => decide (t0 ≤ t) | none => false
    let s0 := modSeq inj (fun v => { v with lastTrig := some t0 }) s
    if q.phase = 0 ∧ ending = false then
      modSeq inj (fun v => { v with phase := 1, slot := 0, due := t0 + c.delay * mclkLen (f441 s) }) s0
    else
      let sec := some (secOf s.spindle)
      if inj then
        let s1 : State := { s0 with ad := { s0.ad with injDrops := satInc 16 s0.ad.injDrops, dropSec := sec } }
        if s.ad.dropSec = sec then s1 else raiseAlarm blkAD s1
      else
        let s1 : State := { s0 with ad := { s0.ad with overruns := satInc 16 s0.ad.overruns, overSec := sec } }
        if s.ad.overSec = sec then s1 else raiseAlarm blkAD s1

/-- A trigger that is recognised now. -/
def adTrigger (inj : Bool) (s : State) : State := adTriggerAt inj s.clock s

/-- Triggers whose recognition edge has come. -/
def adSettle (s : State) : State :=
  let now := s.ad.late.filter (fun e => decide (e.2 ≤ s.clock))
  now.foldl (fun (t : State) e => adTriggerAt e.1 e.2 t)
    { s with ad := { s.ad with late := s.ad.late.filter (fun e => decide (s.clock < e.2)) } }

/-- The second MCLK edge after now; `u` is the one cycle of uncertainty (Table AD-5). -/
def secondEdge (s : State) (u : Nat) : Nat :=
  let m := mclkLen (f441 s)
  s.clock + (s.spindle / m + 2 + u % 2) * m - s.spindle

/-- Triggers every sequence whose source matches. -/
def adSource (hit : SeqCfg → Bool) (s : State) : State :=
  let one : State → Bool → State := fun t inj => if hit (seqCfg s.live inj) then adTrigger inj t else t
  one (one (adSettle s) true) false

/-- An event of the VCLK domain triggers every sequence whose source matches at the second MCLK edge after it; whether that
or the next one is a free value (Table AD-5, R501). -/
def adSourceLate (hit : SeqCfg → Bool) (s : State) : State :=
  let hits := [true, false].filter (fun inj => hit (seqCfg s.live inj))
  if hits.isEmpty then s
  else
    let d := drawFree s
    { d.2 with ad := { d.2.ad with late := d.2.ad.late ++ hits.map (fun inj => (inj, secondEdge s d.1)) } }

/-! ### Slots -/

/-- The sampling edge of the first sample of a slot's window. -/
def winStart (s : State) (r : SlotRun) : Nat := r.start + r.cfg.settle * mclkLen (f441 s)

/-- The instant `t` lies in the window of a slot. -/
def inWindow (s : State) (r : SlotRun) (t : Nat) : Bool := decide (winStart s r ≤ t) && decide (t < slotEnd s r)

/-- The slots in progress after `f`. -/
def modCur (f : SlotRun → SlotRun) (s : State) : State :=
  let q : SeqRun → SeqRun := fun v => { v with cur := v.cur.map f }
  modSeq true q (modSeq false q s)

/-- A window of either sequence that holds the instant `t` carries UNSETTLED for the ADCs that `bad` names
(Table AD-6, R243). -/
def markUnsettled (t : Nat) (bad : SlotRun → Nat → Bool) (s : State) : State :=
  modCur (fun r => if inWindow s r t then { r with unsettled := r.unsettled ++ r.adcs.filter (bad r) } else r) s

/-- The surroundings of a slot now. -/
def slotEnv (s : State) (c : SlotCfg) : SlotEnv :=
  { diag := s.ad.diag, mic6 := (adcCfg s.live 6).mic, mic7 := (adcCfg s.live 7).mic, dds := ddsCfg s.live c.dds,
    refs := (List.range 4).map (refOf s.live) }

/-- The slots in progress take note of their surroundings from the instant `t` on. -/
def noteEnv (t : Nat) (s : State) : State :=
  modCur (fun r => if (r.env.head?).map (fun e => e.2) = some (slotEnv s r.cfg) then r
    else { r with env := (t, slotEnv s r.cfg) :: r.env }) s

/-- The diagnostic DAC takes D at the edge `t` (R193): windows in progress on code 3 carry UNSETTLED where D changes. -/
def setDiag (d t : Nat) (s : State) : State :=
  if s.ad.diag = d then s
  else noteEnv t (markUnsettled t (fun r i => codeOf r.cfg i == 3) { s with ad := { s.ad with diag := d } })

/-- The slot of index `i` starts at the edge `at_` (R205): selectors switch, D may change. -/
def startSlot (inj : Bool) (i at_ : Nat) (s : State) : State :=
  let c := slotCfg s.live inj i
  let adcs := slotAdcs s.live c
  let s0 := if c.diagSet then setDiag c.diag at_ s else s
  let r : SlotRun := { inj, idx := i, cfg := c, adcs, start := at_, dead := [], unsettled := [], env := [(at_, slotEnv s0 c)] }
  let sel := s0.ad.sel.mapIdx (fun k v => if adcs.contains k then codeOf c k else v)
  let s1 := modSeq inj (fun v => { v with phase := 2, slot := i, shown := i, cur := some r }) { s0 with ad := { s0.ad with sel } }
  if inj then { s1 with ad := { s1.ad with injEnd := slotEnd s1 r } } else s1

/-- The current slot of a sequence, when its window has closed, joins those to be published. -/
def closeCur (inj : Bool) (s : State) : State :=
  let q := getSeq inj s
  match q.cur with
  | some r => modSeq inj (fun v => { v with cur := none, pubs := v.pubs ++ [r] }) s
  | none => s

/-- An injected slot that starts at `at_` stops a regular slot in progress, or makes the next one wait (Table AD-6). -/
def preempt (at_ : Nat) (s : State) : State :=
  let q := s.ad.reg
  match q.phase, q.cur with
  | 2, some r =>
    if at_ < slotEnd s r then modSeq false (fun v => { v with phase := 3, cur := none, due := at_ }) (abortSlot r s)
    else if r.idx + 1 < s.live.seqReg.len then
      modSeq false (fun v => { v with phase := 3, slot := r.idx + 1, due := slotEnd s r }) (closeCur false s)
    else s
  | _, _ => s

/-- The edge at which the next slot of a sequence is due, and its index; none when none is due. -/
def nextSlot (inj : Bool) (s : State) : Option (Nat × Nat) :=
  let q := getSeq inj s
  match q.phase, q.cur with
  | 1, _ => some (q.slot, q.due)
  | 3, _ => some (q.slot, q.due)
  | 2, some r => if r.idx + 1 < (seqCfg s.live inj).len then some (r.idx + 1, slotEnd s r) else none
  | 2, none => if q.slot + 1 < (seqCfg s.live inj).len then some (q.slot + 1, q.due) else none
  | _, _ => none

/-- The injected sequence leaves the regular one to wait: a slot of it runs or is due no later than `at_`. -/
def injHolds (at_ : Nat) (s : State) : Bool :=
  match s.ad.inj.phase, s.ad.inj.cur with
  | 1, _ => decide (s.ad.inj.due ≤ at_)
  | 2, some r => decide (r.idx + 1 < s.live.seqInj.len) || decide (s.clock < slotEnd s r)
  | _, _ => false

/-- SLOT_START (R205, R209). -/
def slotStart (inj : Bool) (s0 : State) : State :=
  let s := adSettle s0
  if s.dataPlane ≠ .running then s
  else match nextSlot inj s with
    | none => s
    | some (i, due) =>
      if inj then
        if s.clock < due then s else startSlot true i due (preempt due (closeCur true s))
      else
        let at_ := if due < s.ad.injEnd then s.ad.injEnd else due
        if s.clock < at_ ∨ injHolds at_ s = true then s else startSlot false i at_ (closeCur false s)

/-! ### Windows (R200, R201, R202, R212) -/

/-- The accumulators of one window: `d` is the DDS at the sampling edge of the sample, `k` the edge it is clocked at. -/
def accAdd (c : SlotCfg) (t : Tables) (d : DdsCfg) (k : Nat) (h : BankHalf) (n : Nat) (x : Int) : BankHalf :=
  let th := ddsTheta t d k
  let co := if c.corr then corr16 (ddsCos th) else 0
  let si := if c.corr then corr16 (ddsSine th) else 0
  { h with sum := h.sum + x, sumsq := h.sumsq + (x * x).toNat,
           icorr := if c.corr then h.icorr + (x * co + 128) / 256 else 0,
           qcorr := if c.corr then h.qcorr + (-x * si + 128) / 256 else 0,
           count := h.count + 1,
           min := if n = 0 ∨ x < h.min then x else h.min, minIdx := if n = 0 ∨ x < h.min then n else h.minIdx,
           max := if n = 0 ∨ x > h.max then x else h.max, maxIdx := if n = 0 ∨ x > h.max then n else h.maxIdx }

/-- V_REF in pV (Table AD-3): 2.0 V with INT, else as measured. -/
def vrefPv (ref measured : Nat) : Nat := if ref = 0 then 2000000000000 else measured

/-- The preamp gain 10^(g / 20) in 2^-29 (Table AD-1). Log entry 37 (DESIGN CHOICE). -/
def micWord (g : Nat) : Nat := rootGo 20 (2 ^ 600 * 10 ^ g) 1 40 0

/-- V_diag in pV: 0.9765625 mV a step (R193). -/
def diagPv (d : Nat) : Int := ((d : Int) - 2048) * 976562500

/-- The divider k of a monitor node (Table AD-2). -/
def monK (mon : Nat) : Nat := if mon ≤ 4 then 1 else 2

/-- V_in in 2^-30 pV, by the selector code (Table AD-1). -/
def vIn (i : Nat) (c : SlotCfg) (e : SlotEnv) (v : Int) : Int :=
  match codeOf c i with
  | 2 => v * (2 * micWord (if i = 6 then e.mic6 else e.mic7) : Nat)
  | 3 => (v + diagPv e.diag) * 2 ^ 30
  | 4 => v * 2 ^ 30 / (monK c.mon : Nat)
  | _ => v * 2 ^ 30

/-- round(8,192 * V_in / V_REF), before the clamp (R191). -/
def convert (i : Nat) (c : SlotCfg) (e : SlotEnv) (vref : Nat) (v : Int) : Int :=
  roundDiv (8192 * vIn i c e v) (2 ^ 30 * vrefPv (nth 0 e.refs (i / 2)) vref)

/-- The calibrated code of a converted value (R191). -/
def adcCode (v : Int) : Int := clampInt (-8192) 8191 v

/-- A sample at either limit is saturated (R211). Log entry 44 (DEDUCED). -/
def saturated (v : Int) : Bool := decide (v ≤ -8192) || decide (8191 ≤ v)

/-- The surroundings of a slot at an instant. -/
def envAt (r : SlotRun) (t : Nat) : SlotEnv :=
  match r.env.find? (fun e => decide (e.1 ≤ t)) with
  | some e => e.2
  | none => { diag := 2048, mic6 := 0, mic7 := 0, dds := {}, refs := [] }

/-- One sample of a slot: its surroundings, the edge its DDS is clocked at, and its converted value, unclamped. -/
abbrev SlotSample := SlotEnv × Nat × Int

/-- Runs the window over the samples from the slot's start edge on: `skip` settle samples, then the window. `rec` counts
the recovery cycles left (R212): 13 after a saturated sample, 51 when the clamp engaged beyond twice full scale. -/
def runWindow (c : SlotCfg) (t : Tables) : Nat → Nat → Nat → BankHalf → List SlotSample → BankHalf
  | _, _, _, h, [] => h
  | skip, n, rec, h, (e, k, v) :: vs =>
    let sat := saturated v
    let rec' := if v.natAbs > 16384 then 51 else if sat then (if rec > 13 then rec else 13) else rec - 1
    match skip with
    | j + 1 => runWindow c t j n rec' h vs
    | 0 =>
      let h1 := accAdd c t e.dds k h n (adcCode v)
      runWindow c t 0 (n + 1) rec' { h1 with clipped := h1.clipped || sat || decide (0 < rec) } vs

/-- AD_EPOCH advances: 1 to 65,535 and then 1 again (R202). -/
def nextEpoch (e : Nat) : Nat := if e ≥ 65535 then 1 else e + 1

/-- The samples of an ADC in a slot (R191, R201): the DDS belongs to the sampling edge of each sample.
Log entry 107 (DESIGN CHOICE). -/
def slotSamples (s : State) (r : SlotRun) (x : AdcSamples) : List SlotSample :=
  let m := mclkLen (f441 s)
  x.values.mapIdx (fun n v =>
    let at_ := r.start + n * m
    let e := envAt r at_
    (e, clkEdge s e.dds.vclk (s.spindle - (s.clock - at_)), convert x.adc r.cfg e x.vref v))

/-- The publication of one ADC of a window (R200, R202). -/
def publishAdc (r : SlotRun) (s : State) (x : AdcSamples) : State :=
  let i := x.adc
  if r.dead.contains i then s
  else
    let c := r.cfg
    let m := mclkLen (f441 s)
    let first := winStart s r
    let last := first + c.win * m
    let vs := slotSamples s r x
    let h := runWindow c s.live c.settle 0 x.recov {} vs
    let old := tabGet {} s.ad.banks (8 * c.bank + i)
    let h1 : BankHalf := { h with code := codeOf c i, unsettled := r.unsettled.contains i || refWasClear s (i / 2) first last,
                                  inj := r.inj, slot := r.idx, close := s.spindle - (s.clock - last), win := c.win + 1,
                                  epoch := nextEpoch old.epoch }
    let excess := vs.any (fun v => saturated v.2.2)
    { s with ad := { s.ad with banks := tabSet {} s.ad.banks (8 * c.bank + i) h1,
                               ovr := if excess then setBit s.ad.ovr i else s.ad.ovr } }

/-- The slot whose publication is next due: the oldest closed one, or the current one. -/
def nextPub (inj : Bool) (s : State) : Option SlotRun :=
  match (getSeq inj s).pubs with
  | r :: _ => some r
  | [] => (getSeq inj s).cur

/-- The event carries, for each ADC that takes part and no other, the S + L values of the slot. -/
def samplesFit (r : SlotRun) (samples : List AdcSamples) : Bool :=
  samples.map (fun p => p.adc) == r.adcs && samples.all (fun p => p.values.length == r.cfg.settle + r.cfg.win + 1)

/-- The publication edge of a slot: 18 MCLK cycles after its last sample (R202). -/
def pubEdge (s : State) (r : SlotRun) : Nat := slotEnd s r + 17 * mclkLen (f441 s)

/-- The published slot leaves the list; the pass ends with the publication of its last slot (R205). -/
def pubDone (inj : Bool) (r : SlotRun) (s : State) : State :=
  let q := getSeq inj s
  match q.pubs with
  | _ :: ps => modSeq inj (fun v => { v with pubs := ps }) s
  | [] =>
    if r.idx + 1 < (seqCfg s.live inj).len then modSeq inj (fun v => { v with cur := none, due := slotEnd s r }) s
    else modSeq inj (fun v => { v with phase := 0, cur := none, endAt := some (pubEdge s r) }) s

/-- WINDOW_PUBLISH (R202): 18 MCLK cycles after the last sample. -/
def windowPublish (inj : Bool) (samples : List AdcSamples) (s0 : State) : State :=
  let s := adSettle s0
  match nextPub inj s with
  | none => s
  | some r =>
    if pubEdge s r ≤ s.clock ∧ samplesFit r samples = true then
      pubDone inj r (samples.foldl (publishAdc r) s)
    else s

/-! ### Commits -/

/-- A sequence's configuration or one of its slots differs. -/
def seqChanged (old new : Tables) (inj : Bool) : Bool :=
  seqCfg old inj != seqCfg new inj || (List.range 16).any (fun i => slotCfg old inj i != slotCfg new inj i)

/-- A commit that changes a sequence or one of its slots while it runs ends its pass (Table AD-6). -/
def adSeqCommit (old new : Tables) (inj : Bool) (s : State) : State :=
  if seqChanged old new inj && (getSeq inj s).phase != 0 then endPass inj s else s

/-- An ADC whose mode or stream input changes leaves a slot in progress (Table AD-6). -/
def adcLeave (old new : Tables) (inj : Bool) (s : State) : State :=
  match (getSeq inj s).cur with
  | none => s
  | some r =>
    let gone := r.adcs.filter (fun i => adcMode old i != adcMode new i || (adcCfg old i).input != (adcCfg new i).input)
    if gone.isEmpty || decide (slotEnd s r ≤ s.clock) then s
    else
      let mark : Tab BankHalf → Nat → Tab BankHalf := fun b i => tabMod {} b (8 * r.cfg.bank + i) (fun h => { h with aborted := true })
      modSeq inj (fun v => { v with cur := some { r with dead := r.dead ++ gone } })
        { s with ad := { s.ad with aborts := satInc 16 s.ad.aborts, banks := gone.foldl mark s.ad.banks } }

/-- R198: an ADC put into STREAM, or with a new input or rate, carries zero for 48 frames. -/
def muteCommit (old new : Tables) (i m : Nat) : Nat :=
  let a := adcCfg old i
  let b := adcCfg new i
  if adcMode new i = 1 ∧ (adcMode old i ≠ 1 ∨ a.input ≠ b.input ∨ a.srate ≠ b.srate) then 48 else m

/-- The Calipers at the commit's frame boundary; `s.live` holds the new tables. -/
def adCommit (old new : Tables) (s : State) : State :=
  let s1 := [0, 1, 2, 3].foldl (fun (t : State) p => refCommit old new p t) s
  let refMoved : Nat → Bool := fun i => refOf old (i / 2) != refOf new (i / 2)
  let ddsMoved : Nat → Bool := fun d => ddsCfg old d != ddsCfg new d
  let micMoved : Nat → Bool := fun i => (adcCfg old i).mic != (adcCfg new i).mic
  let s2 := noteEnv s.clock (markUnsettled s.clock
    (fun r i => refMoved i || (codeOf r.cfg i == 2 && micMoved i) || (r.cfg.corr && ddsMoved r.cfg.dds)) s1)
  let s3 := adSeqCommit old new false (adSeqCommit old new true s2)
  let s4 := adcLeave old new false (adcLeave old new true s3)
  let sel := s4.ad.sel.mapIdx (fun i v => if adcMode new i = 2 ∧ adcMode old i ≠ 2 then 5 else v)
  { s4 with ad := { s4.ad with sel, mute := s4.ad.mute.mapIdx (fun i m => muteCommit old new i m) } }

/-- R201 and R197 on one slot of a configuration. -/
def slotOk (t : Tables) (c : SlotCfg) : Bool :=
  (!c.corr || (!(ddsCfg t c.dds).vclk && !(c.dds == 7 && videoListed t))) && !(adcSystem t 7 && codeOf c 7 != 7)

/-- R207 on one timer of a configuration. -/
def timerOk (t : Tables) (c : TimerCfg) : Bool :=
  decide (256 ≤ c.period) && decide (c.period ≤ 5120 * fsHz t.synth.f441) && decide (c.phase < c.period)

/-- The commit rules of this chapter. -/
def adOk (t : Tables) : Bool :=
  t.slots.all (fun p => slotOk t p.2) && t.timers.all (fun p => timerOk t p.2) &&
    !(adcSystem t 7 && (adcCfg t 7).mode != 0)

/-! ### Payloads -/

/-- AD_CFG (R217, Table AD-9). -/
def okAdCfg (p : Bytes) : Bool :=
  decide (u8 p 0 < 8) && decide (fld p 1 1 0 ≤ 2) && decide (fld p 2 2 0 ≤ 2) && decide (fld p 3 1 0 ≤ 2) &&
    (if u8 p 0 < 6 then fld p 2 2 0 != 2 else decide (u8 p 4 ≤ 60))

def putAdCfg (p : Bytes) (t : Tables) : Tables :=
  let mic := if u8 p 0 < 6 then 0 else u8 p 4
  { t with adc := tabSet {} t.adc (u8 p 0) { mode := fld p 1 1 0, input := fld p 2 2 0, srate := fld p 3 1 0, mic } }

/-- AD_PAIR_CFG (R218, Table AD-10). -/
def okAdPairCfg (p : Bytes) : Bool := decide (u8 p 0 < 4) && decide (u8 p 1 ≤ 2)
def putAdPairCfg (p : Bytes) (t : Tables) : Tables := { t with pairRef := tabSet 0 t.pairRef (u8 p 0) (u8 p 1) }

def maxSlots (inj : Bool) : Nat := if inj then 4 else 16

/-- AD_SEQ_CFG (R219, Table AD-11). -/
def okAdSeqCfg (p : Bytes) : Bool :=
  decide (fld p 1 4 0 ≤ maxSlots (bit p 0 0)) && decide (u8 p 2 ≤ 0x12) && decide (fld p 3 7 6 ≤ 2)

def putAdSeqCfg (p : Bytes) (t : Tables) : Tables :=
  let c : SeqCfg := { len := fld p 1 4 0, src := u8 p 2, edge := fld p 3 7 6, trigBit := fld p 3 2 0, delay := uN p 4 3 % 2 ^ 20 }
  if bit p 0 0 then { t with seqInj := c } else { t with seqReg := c }

def readSlot (p : Bytes) : SlotCfg :=
  { codes := uN p 2 3, bank := fld p 5 4 0, win := uN p 6 3, settle := u16 p 9 % 4096, mon := fld p 11 3 0,
    diagSet := bit p 13 7, diag := u16 p 12 % 4096, corr := bit p 14 7, dds := fld p 14 2 0 }

/-- AD_SLOT (R220, Table AD-12). -/
def okAdSlot (p : Bytes) : Bool :=
  let c := readSlot p
  decide (fld p 1 3 0 < maxSlots (bit p 0 0)) && decide (c.bank ≤ 19) && decide (c.mon ≤ 0xC) &&
    (List.range 8).all (fun i => codeOf c i != 6 && !(decide (i < 6) && codeOf c i == 2))

def putAdSlot (p : Bytes) (t : Tables) : Tables :=
  { t with slots := tabSet {} t.slots (16 * fld p 0 0 0 + fld p 1 3 0) (readSlot p) }

/-- AD_PRESET (R221, Tables AD-13, AD-14). -/
def okAdPreset (p : Bytes) : Bool :=
  decide (1 ≤ u8 p 1) && decide (u8 p 1 ≤ 3) && !(u8 p 1 == 3 && bit p 0 0)

/-- The codes of a preset slot: the preset code for the ADCs of the mask, SKIP for the others. -/
def presetCodes (mask code : Nat) : Nat → Nat
  | 0 => 0
  | n + 1 => presetCodes mask code n + (if nbit mask n then code else 7) * 8 ^ n

def presetSlot (inj : Bool) (mask code win mon i : Nat) (diag : Option Nat) : SlotCfg :=
  { codes := presetCodes mask code 8, bank := (if inj then 16 else 0) + i, win, settle := 32, mon, diagSet := diag.isSome,
    diag := diag.getD 0 }

def presetSlots (inj : Bool) (id mask : Nat) : List SlotCfg :=
  match id with
  | 1 => [presetSlot inj mask 5 65535 0 0 none]
  | 2 => [presetSlot inj mask 3 65535 0 0 (some 0x800), presetSlot inj mask 3 65535 0 1 (some 0xE00),
          presetSlot inj mask 3 65535 0 2 (some 0x200)]
  | _ => (List.range 12).map (fun i => presetSlot inj mask 4 4095 i i none)

def putAdPreset (p : Bytes) (t : Tables) : Tables :=
  let inj := bit p 0 0
  let ss := presetSlots inj (u8 p 1) (u8 p 2)
  let slots := tabSetList ({} : SlotCfg) t.slots (16 * b2n inj) (ss ++ List.replicate (maxSlots inj - ss.length) ({} : SlotCfg))
  if inj then { t with slots, seqInj := { t.seqInj with len := ss.length } }
  else { t with slots, seqReg := { t.seqReg with len := ss.length } }

/-- AD_TIMER (R222, Table AD-15); its period and phase are checked at the commit (R207). -/
def okAdTimer (p : Bytes) : Bool :=
  decide (u8 p 0 < 4)

def putAdTimer (p : Bytes) (t : Tables) : Tables :=
  { t with timers := tabSet {} t.timers (u8 p 0) { en := bit p 1 0, period := u32 p 4, phase := u32 p 8 } }

/-! ### Direct commands -/

/-- AD_ALARM (R208, R222): the time of a disarming command is ignored. -/
def chkAdAlarm (p : Bytes) (s : State) : Option Nat :=
  if u8 p 0 > 3 then some stBad
  else if bit p 1 0 = true ∧ readCompact s.spindle p 4 = none then some stBad
  else none

def applyAdAlarm (c : Cmd) (s : State) : State :=
  let t := if bit c.payload 1 0 then readCompact s.spindle c.payload 4 else none
  respond c stDone [] { s with ad := { s.ad with alarms := modNth (fun _ => t) s.ad.alarms (u8 c.payload 0) } }

/-- AD_TRIGGER (R223). -/
def chkAdTrigger (_ : Bytes) (_ : State) : Option Nat := none

def applyAdTrigger (c : Cmd) (s : State) : State :=
  let inj := bit c.payload 0 0
  if (seqCfg s.live inj).len = 0 ∨ s.dataPlane ≠ .running then respond c stState [] s
  else respond c stDone [] (adTrigger inj s)

/-- AD_DIAG (R193, R223). -/
def chkAdDiag (_ : Bytes) (_ : State) : Option Nat := none
def applyAdDiag (c : Cmd) (s : State) : State :=
  respond c stDone [] (noteDirect c (setDiag (u16 c.payload 0 % 4096) s.clock s))

/-- AD_MIC_GAIN (R223). -/
def chkAdMicGain (p : Bytes) (_ : State) : Option Nat :=
  if (u8 p 0 = 6 ∨ u8 p 0 = 7) ∧ u8 p 1 ≤ 60 then none else some stBad

/-- The microphone gain of one ADC; windows that measure its input are marked. -/
def micGain (p : Bytes) (s : State) : State :=
  let i := u8 p 0
  noteEnv s.clock (markUnsettled s.clock (fun r j => j == i && codeOf r.cfg j == 2)
    (writeTables (fun t => { t with adc := tabMod {} t.adc i (fun a => { a with mic := u8 p 1 }) }) s))

def applyAdMicGain (c : Cmd) (s : State) : State := respond c stDone [] (noteDirect c (micGain c.payload s))

/-- AD_CLEAR (R223). -/
def chkAdClear (_ : Bytes) (_ : State) : Option Nat := none

def clearBits (mask : Nat) (n : Nat) : Nat := Nat.land n (Nat.xor mask 255)

def applyAdClear (c : Cmd) (s : State) : State :=
  let s1 : State := { s with ad := { s.ad with ovr := clearBits (u8 c.payload 0) s.ad.ovr } }
  respond c stDone [] (if bit c.payload 1 0 then
    { s1 with ad := { s1.ad with overruns := 0, injDrops := 0, aborts := 0 } } else s1)

/-! ### Status -/

/-- AD_SEL_NOW of an ADC that no firmware sequence owns (Tables AD-4, AD-21). -/
def selNow (s : State) (i : Nat) : Nat :=
  match adcMode s.live i with
  | 1 => (adcCfg s.live i).input
  | 2 => nth 5 s.ad.sel i
  | _ => 5

/-- The code of AD_REG_STATE and AD_INJ_STATE. -/
def seqCode (inj : Bool) (s : State) : Nat :=
  let q := getSeq inj s
  if q.phase = 1 ∧ inj = false ∧ q.due ≤ s.clock then 3 else q.phase

/-- AD_STATUS (Table AD-21), with the selector code in use. -/
def adStatus (i sel : Nat) (s : State) : Bytes :=
  let p := nth {} s.ad.pairs (i / 2)
  let bad := refBad s (i / 2)
  le 1 (64 * adcMode s.live i + 8 * sel + 4 * b2n (nbit s.ad.ovr i) + 2 * b2n (p.settled && !bad) + b2n bad) ++
    le 1 (16 * seqCode false s + 4 * seqCode true s) ++ le 1 (16 * s.ad.reg.shown + s.ad.inj.shown) ++ zeros 1 ++
    le 2 s.ad.overruns ++ le 2 s.ad.injDrops ++ le 2 s.ad.aborts ++ le 2 s.ad.diag ++
    le 1 (if 6 ≤ i then (adcCfg s.live i).mic else 0) ++ zeros 3

/-- A SYSTEM ADC's selector is at code 1 while a video candidate is listed (R118), and else the firmware's own: a free
value. Log entry 45 (DESIGN CHOICE). -/
def runAdStatus (c : Cmd) (s : State) : State :=
  let i := u8 c.payload 0
  if i > 7 then respond c stBad [] s
  else if adcSystem s.live i && videoListed s.live then respond c stDone (adStatus i 1 s) s
  else if adcSystem s.live i then
    let d := drawFree s
    respond c stDone (adStatus i (d.1 % 8) d.2) d.2
  else respond c stDone (adStatus i (selNow s i) s) s

/-- One part of a published half (Table AD-23). -/
def bankPart (h : BankHalf) (part : Nat) : Bytes :=
  let body := match part with
    | 0 => leInt 6 h.sum ++ le 4 h.count ++
        le 1 (8 * h.code + 4 * b2n h.aborted + 2 * b2n h.unsettled + b2n h.clipped) ++ le 1 (128 * b2n h.inj + h.slot)
    | 1 => le 8 h.sumsq ++ zeros 4
    | 2 => leInt 6 h.icorr ++ leInt 6 h.qcorr
    | 3 => leInt 2 h.min ++ le 3 h.minIdx ++ leInt 2 h.max ++ le 3 h.maxIdx ++ zeros 2
    | _ => (if h.epoch = 0 then zeros 8 else compactForm h.close) ++ le 4 h.win
  body ++ le 2 h.epoch ++ zeros 2

/-- AD_RESULT (R225). -/
def runAdResult (c : Cmd) (s : State) : State :=
  let p := c.payload
  if u8 p 0 > 19 ∨ u8 p 1 > 7 ∨ u8 p 2 > 4 then respond c stBad [] s
  else if adcSystem s.live (u8 p 1) then respond c stState [] s
  else respond c stDone (bankPart (tabGet {} s.ad.banks (8 * u8 p 0 + u8 p 1)) (u8 p 2)) s

/-! ### The meanings of the command rows -/

def execAdCfg (k : OrdClass) (s : State) : Host.Outcome State Fault Refusal := .next (startStaged k 0x0410 okAdCfg s)
def execAdPairCfg (k : OrdClass) (s : State) : Host.Outcome State Fault Refusal := .next (startStaged k 0x0411 okAdPairCfg s)
def execAdSeqCfg (k : OrdClass) (s : State) : Host.Outcome State Fault Refusal := .next (startStaged k 0x0412 okAdSeqCfg s)
def execAdSlot (k : OrdClass) (s : State) : Host.Outcome State Fault Refusal := .next (startStaged k 0x0413 okAdSlot s)
def execAdPreset (k : OrdClass) (s : State) : Host.Outcome State Fault Refusal := .next (startStaged k 0x0414 okAdPreset s)
def execAdTimer (k : OrdClass) (s : State) : Host.Outcome State Fault Refusal := .next (startStaged k 0x0415 okAdTimer s)
def execAdAlarm (k : OrdClass) (s : State) : Host.Outcome State Fault Refusal := .next (startDirect k 0x0416 chkAdAlarm s)
def execAdTrigger (k : OrdClass) (s : State) : Host.Outcome State Fault Refusal :=
  .next (startDirect k 0x0417 chkAdTrigger s)
def execAdDiag (k : OrdClass) (s : State) : Host.Outcome State Fault Refusal := .next (startDirect k 0x0418 chkAdDiag s)
def execAdMicGain (k : OrdClass) (s : State) : Host.Outcome State Fault Refusal :=
  .next (startDirect k 0x0419 chkAdMicGain s)
def execAdClear (k : OrdClass) (s : State) : Host.Outcome State Fault Refusal := .next (startDirect k 0x041A chkAdClear s)
def execAdStatus (k : OrdClass) (s : State) : Host.Outcome State Fault Refusal := .next (startNow k 0x0E30 runAdStatus s)
def execAdResult (k : OrdClass) (s : State) : Host.Outcome State Fault Refusal := .next (startNow k 0x0E31 runAdResult s)

/-! ### The events -/

/-- A pin edge matches AD_TRIG_EDGE (Table AD-11). -/
def edgeFits (c : SeqCfg) (e : Edge) : Bool := c.edge == 2 || (c.edge == 0 && e == .rise) || (c.edge == 1 && e == .fall)

/-- A PWM or TRIG_IN edge is recognised (R206). -/
def execTriggerPinEdge (pin : TrigPin) (e : Edge) (s : State) : Host.Outcome State Fault Refusal :=
  let src := match pin with | .pwm n => if n < 4 then 5 + n else 0 | .trigIn n => if n < 2 then 0x0D + n else 0
  .next (adSource (fun c => src != 0 && c.src == src && edgeFits c e) s)

/-- MCLK cycles since the last whole Spindle second. -/
def secCycles (s : State) : Nat := s.spindle % uPerS / mclkLen (f441 s)

/-- Timer MTn fires at its edges (R207). -/
def execMeasurementTimerFire (n : Nat) (s : State) : Host.Outcome State Fault Refusal :=
  let c := tabGet {} s.live.timers n
  if n < 4 ∧ c.en = true ∧ s.dataPlane = .running ∧ c.phase ≤ secCycles s ∧ (secCycles s - c.phase) % c.period = 0 then
    .next (adSource (fun q => q.src == 1 + n) s)
  else .next s

/-- The start of the next slot of a sequence (R205). -/
def execSlotStart (q : SeqId) (s : State) : Host.Outcome State Fault Refusal := .next (slotStart (q == .injected) s)

/-- The publication of a window (R202). -/
def execWindowPublish (q : SeqId) (samples : List AdcSamples) (s : State) : Host.Outcome State Fault Refusal :=
  .next (windowPublish (q == .injected) samples s)

/-- The settling time of a pair has run out (R195, Table AD-3). -/
def execRefSettled (pair : Nat) (s : State) : Host.Outcome State Fault Refusal :=
  match (nth {} s.ad.pairs pair).due with
  | some t =>
    if pair < 4 ∧ t ≤ s.clock ∧ (nth {} s.pw.domains pair).on = true ∧ refBad s pair = false then .next (setRef pair s)
    else .next s
  | none => .next s

/-- VREF_IN enters or leaves 1.8-2.2 V (R195): every pair on EXT follows, and leaving raises the ALARM. -/
def execVrefInRangeChange (inRange : Bool) (s : State) : Host.Outcome State Fault Refusal :=
  let ext := (List.range 4).filter (fun p => refOf s.live p == 1)
  let s1 : State := { s with ad := { s.ad with vrefOut := !inRange } }
  if inRange then
    let back : State → Nat → State := fun t p =>
      let r := nth {} t.ad.pairs p
      if (nth {} t.pw.domains p).on && r.due.isNone && !r.settled then setRef p t else t
    .next (ext.foldl back s1)
  else
    let lose : State → Nat → State := fun t p => clearRef (nth {} t.ad.pairs p).due p t
    .next (if ext.isEmpty then s1 else raiseAlarm blkAD (ext.foldl lose s1))

end Sys2Proof.Machine
end

