-- ==== Sys2Proof/Machine/Dac.lean ====
section
/-! DEFINITION. DACs (R226 to R240): sources, hold strobes, range changes, the codes at the converters, and their commands
and events. -/
namespace Sys2Proof.Machine

def outCfg (t : Tables) (d : Nat) : OutCfg := tabGet {} t.outCfg d
def dacState (s : State) (d : Nat) : DacState := nth {} s.da.dac d

def modDac (d : Nat) (f : DacState → DacState) (s : State) : State :=
  { s with da := { s.da with dac := modNth f s.da.dac d } }

/-! ### The state of an output (Table DA-3) -/

def bankDomain (s : State) (d : Nat) : EnMachine := nth {} s.pw.domains (4 + d / 4)

/-- The bank clock of a DAC runs. -/
def dacClocked (s : State) (d : Nat) : Bool := if dacV s d then s.hs.vsyn.lock == 4 else s.dataPlane == .running

/-- The pins are high-impedance whatever the fence: DA_SRC OFF after the first commit, the bank off, HUSH or reset. -/
def dacOff (s : State) (d : Nat) : Bool :=
  (s.firstLive && (outCfg s.live d).src == 0) || (!(bankDomain s d).on && (bankDomain s d).run != some true) ||
    s.mode == .hush || s.pw.inReset

/-- The 4 us of a range change run (R237). -/
def inRange4 (s : State) (d : Nat) : Bool :=
  match (dacState s d).rangeEnd with
  | some e => decide (s.clock < e)
  | none => false

/-- The DAC has left its source for SAFE with role SOLO (R238). -/
def dacSafe (s : State) (d : Nat) : Bool :=
  decide (2 ≤ s.da.safe) || (s.da.safe == 1 && (outCfg s.live d).src != 5)

/-- DA_ZERO_FORCED: the zero code is forced (Table DA-3). -/
def dacZero (s : State) (d : Nat) : Bool :=
  let x := dacState s d
  !s.firstLive || (bankDomain s d).run == some true || x.rangeEnd.isSome ||
    (if dacSafe s d then x.fault.isNone
     else !dacClocked s d || ((outCfg s.live d).src == 5 && x.wait))

/-- The 16-bit clamp of R230 and R231. -/
def clamp16 (v : Int) : Int := clampInt (-32768) 32767 v

/-! ### Profile values (R246) -/

def psCfg (t : Tables) (q : Nat) : PsCfg := tabGet {} t.ps q
def psState (s : State) (q : Nat) : PsState := nth {} s.ps q

def modPs (q : Nat) (f : PsState → PsState) (s : State) : State := { s with ps := modNth f s.ps q }

def zeros256 : List Int := List.replicate 256 0
def shape (t : Tables) (n k : Nat) : Int := nth 0 (tabGet zeros256 t.shapes n) k

/-- Length of a segment in units of 2^-16 cycle. -/
def segLen (c : Seg) : Nat := c.dur * 65536 + c.frac

/-- shp times `d` at time `t` of a segment of length `d` (both in 2^-16 cycle). -/
def shpNum (tb : Tables) (c : Seg) (t d : Nat) : Int :=
  let k := t * 255 / d
  shape tb c.shape k * d + (t * 255 - k * d : Nat) * (shape tb c.shape (k + 1) - shape tb c.shape k)

/-- The value of a segment at time `t` from its exact start, on the clock edge `k` of the sequencer's timescale. -/
def segValue (tb : Tables) (c : Seg) (t k : Nat) (prev : Int) : Int :=
  let d := if segLen c = 0 then 1 else segLen c
  match c.kind with
  | 0 => clamp16 c.offset
  | 1 =>
    let sn := ddsSine (ddsTheta tb (ddsCfg tb c.dds) k)
    if c.env then clamp16 (roundDiv (c.offset * (131071 * 32767 * d : Nat) + c.amp * sn * shpNum tb c t d) (131071 * 32767 * d))
    else clamp16 (roundDiv (c.offset * 131071 + c.amp * sn) 131071)
  | 2 => clamp16 (roundDiv (c.offset * (32767 * d : Nat) + c.amp * shpNum tb c t d) (32767 * d))
  | _ => prev

/-- The output of a sequencer at the last edge of its clock: PS_IDLE unless it runs (R250). -/
def psValue (s : State) (q : Nat) : Int :=
  let p := psState s q
  if p.st ≠ 2 then (psCfg s.live q).idle
  else
    let k := clkEdge s (psV s.live q) s.spindle
    segValue s.live p.cur (k * 65536 - p.segStart) k p.prev

/-- The sequencer that a DAC names (R229, Table DA-11). -/
def dacSeq (t : Tables) (d : Nat) : Nat := 2 * (d / 4) + b2n (outCfg t d).psSel

/-- The code of a source (Table DA-1). -/
def srcCode (s : State) (d : Nat) : Int :=
  let x := dacState s d
  match (outCfg s.live d).src with
  | 1 => clamp16 x.audio
  | 2 => clamp16 x.direct
  | 3 => clamp16 (x.audio + x.direct)
  | 4 => psValue s (dacSeq s.live d)
  | 5 => match x.kept with | some c => c | none => x.active
  | _ => 0

/-- The code at the converter. Log entry 87 (DESIGN CHOICE). -/
def dacCode (s : State) (d : Nat) : Int :=
  if dacZero s d then 0
  else if dacSafe s d then (dacState s d).fault.getD 0
  else srcCode s d

/-- The currents of the legs P and N of an output, in mA / 65,536, of which the differential current is the difference:
I_FS * x / 32,768 for the code x (R227). -/
def legCurrents (s : State) (d : Nat) : Int × Int :=
  let fs : Int := (dacState s d).ifs
  (fs * (32768 + dacCode s d), fs * (32768 - dacCode s d))

/-- The currents at the balls of an AOUT pair: both legs are steered into the dump while the pins are high-impedance
(Table DA-3), and on AOUT6 and AOUT7 while the headphone amplifier takes them (R310). -/
def aoutPins (s : State) (d : Nat) : Option (Int × Int) :=
  if dacOff s d || !s.fenceOpen || (s.fp.aoutAmp && decide (6 ≤ d)) then none else some (legCurrents s d)

/-! ### Hold strobes (R232 to R235) -/

/-- The length of a cycle of a group's clock. -/
def groupCycle (s : State) (g : Nat) : Nat :=
  if g = 1 ∧ s.live.bank.vclk = true then uPerS * clkDen s.live true / clkNum s.live true else mclkLen (f441 s)

/-- One HOLD DAC takes its staging value; within a range change it does not reach the output (R237). -/
def strobeDac (s : State) (d : Nat) (x : DacState) : DacState :=
  if (outCfg s.live d).src ≠ 5 ∨ dacSafe s d = true then x
  else if x.rangeEnd.isSome then { x with active := x.staged }
  else { x with active := x.staged, wait := false, kept := none, ifs := (outCfg s.live d).ifs }

def lastStrobe (s : State) (g : Nat) : Option Nat := if g = 0 then s.da.last0 else s.da.last1

/-- A strobe of the group lies less than two cycles of its clock back: the two events make one strobe (R234). -/
def strobeNear (s : State) (g : Nat) : Bool :=
  match lastStrobe s g with
  | some t => decide (s.clock < t + 2 * groupCycle s g)
  | none => false

/-- A strobe of one group is counted, each one once (R234). -/
def countStrobe (g : Nat) (s : State) : State :=
  if strobeNear s g then s
  else if g = 0 then { s with da := { s.da with strobes0 := (s.da.strobes0 + 1) % 2 ^ 32, last0 := some s.clock } }
  else { s with da := { s.da with strobes1 := (s.da.strobes1 + 1) % 2 ^ 32, last1 := some s.clock } }

/-- The clock of a group runs: the events of a bank 1 on a gated VCLK are discarded like those of a stopped data plane, and
the hold registers keep their contents (Table DA-9). Log entry 46 (DEDUCED). -/
def groupClocked (s : State) (g : Nat) : Bool := g == 0 || !s.live.bank.vclk || s.hs.vsyn.lock == 4

/-- HOLD_STROBE of one group: events within two cycles of its clock make one strobe (R234). -/
def holdStrobe (g : Nat) (s : State) : State :=
  if strobeNear s g || !groupClocked s g then s
  else
    let s1 := countStrobe g s
    let dac := s.da.dac.mapIdx (fun d x => if d / 4 = g then strobeDac s d x else x)
    { s1 with da := { s1.da with dac } }

def groupSrc (t : Tables) (g : Nat) : Nat := if g = 0 then t.bank.lg0 else t.bank.lg1

/-- Strobes the groups whose source matches, while the data plane runs. -/
def strobeSource (hit : Nat → Bool) (s : State) : State :=
  let one : State → Nat → State := fun t g => if hit (groupSrc s.live g) then holdStrobe g t else t
  if s.firstLive ∧ s.dataPlane = .running then [0, 1].foldl one s else s

/-- The SAFE strobe puts the range of a HOLD DAC in force, unless its 4 us still run (R237, R238). -/
def safeStrobe (s : State) (d : Nat) (x : DacState) : DacState :=
  if (outCfg s.live d).src = 5 ∧ x.rangeEnd = none then { x with ifs := (outCfg s.live d).ifs } else x

/-- Cycle 0 of a frame: FRAME strobes (R233), and the SAFE strobe of R35 on both groups. -/
def daFrame (s : State) : State :=
  let s1 := strobeSource (· == 3) s
  if s1.da.safe = 1 then
    let s2 := countStrobe 1 (countStrobe 0 s1)
    { s2 with da := { s2.da with safe := 2, dac := s2.da.dac.mapIdx (safeStrobe s2) } }
  else s1

/-! ### Commits -/

/-- What a commit does to one DAC (R230, R236, R237, R258); `old` and `new` are its tables. -/
def dacCommit (first clkMoved : Bool) (named : Bool) (s : State) (old new : Tables) (d : Nat) (x : DacState) : DacState :=
  let o := outCfg old d
  let n := outCfg new d
  let code := dacCode { s with live := old } d
  let x1 := if first || named then { x with staged := n.holdInit } else x
  let x2 :=
    if n.src ≠ 5 then { x1 with wait := false, kept := none }
    else if first || o.src == 0 then { x1 with wait := true, kept := none }
    else if o.src ≠ 5 then { x1 with wait := false, kept := some code }
    else x1
  let audio : Nat → Bool := fun v => v == 1 || v == 3
  let x3 := if audio n.src && (first || !audio o.src || o.srate != n.srate) then
      { x2 with mute := 20, audio := 0, hist := List.replicate (40 * 2 ^ n.srate) 0 } else x2
  let moved := if first then n.ifs != x.ifs else n.ifs != o.ifs
  if moved || (clkMoved && decide (4 ≤ d)) then { x3 with rangeEnd := some (s.clock + 4 * uPerUs) }
  else if n.src ≠ 5 ∧ x3.rangeEnd = none then { x3 with ifs := n.ifs }
  else x3

/-- The DACs at the commit's frame boundary. `named d`: the staging carries a DA_OUT_CFG record of DAC d; `faults`: it
carries DA_FAULT_VALUES, which go to flash (R238). -/
def daCommit (first : Bool) (named : Nat → Bool) (faults : Bool) (old new : Tables) (s : State) : State :=
  let clkMoved := old.bank.vclk != new.bank.vclk
  let dac := s.da.dac.mapIdx (fun d x => dacCommit first clkMoved (named d) s old new d x)
  let codes := (List.range 8).map (fun d => tabGet 0 new.faultCode d)
  { s with da := { s.da with dac, flashDue := if faults then some codes else s.da.flashDue } }

/-! ### Rules of a configuration -/

/-- R229 and R22 on one DAC. -/
def outOk (t : Tables) (d : Nat) : Bool :=
  !(decide (4 ≤ d) && t.bank.vclk && decide (1 ≤ (outCfg t d).src) && decide ((outCfg t d).src ≤ 3))

/-- A direct path is effective while its DAC's source is DIRECT or AUDIO_DIRECT (R199). -/
def dpEffective (t : Tables) (d : Nat) : Bool := (outCfg t d).src == 2 || (outCfg t d).src == 3

/-- R199: every input of an effective path that names an ADC names one in STREAM. -/
def dpOk (t : Tables) (d : Nat) : Bool :=
  !dpEffective t d || (tabGet {} t.dp d).adc.all (fun a => a == 255 || adcMode t a == 1)

def daOk (t : Tables) : Bool :=
  (List.range 8).all (fun d => outOk t d && dpOk t d) && t.dds.all (fun p => ddsOk t p.2) &&
    !(videoListed t && (ddsCfg t 7).host)

/-! ### Payloads -/

/-- DA_OUT_CFG (R258, Table DA-11). -/
def okDaOutCfg (p : Bytes) : Bool :=
  decide (u8 p 0 < 8) && decide (fld p 1 3 0 ≤ 5) && decide (8 ≤ u8 p 4) && decide (u8 p 4 ≤ 32) &&
    !((fld p 1 3 0 == 1 || fld p 1 3 0 == 3) && fld p 2 1 0 == 3)

def putDaOutCfg (p : Bytes) (t : Tables) : Tables :=
  let src := fld p 1 3 0
  let srate := if src = 1 ∨ src = 3 then fld p 2 1 0 else 0
  { t with outCfg := tabSet {} t.outCfg (u8 p 0) { src, srate, psSel := bit p 3 0, ifs := u8 p 4, holdInit := i16 p 6 } }

/-- DA_BANK_CFG (R259, Table DA-12). -/
def okDaBankCfg (p : Bytes) : Bool := decide (fld p 1 7 4 ≤ 7) && decide (fld p 1 3 0 ≤ 7)
def putDaBankCfg (p : Bytes) (t : Tables) : Tables := { t with bank := { vclk := bit p 0 0, lg0 := fld p 1 3 0, lg1 := fld p 1 7 4 } }

/-- DA_FAULT_VALUES (R262, Table DA-16). -/
def putDaFaultValues (p : Bytes) (t : Tables) : Tables :=
  { t with faultCode := tabSetList 0 t.faultCode 0 ((List.range 8).map (fun d => i16 p (2 * d))) }

/-! ### Direct commands -/

/-- DA_HOLD (R235, R261). -/
def chkDaHold (p : Bytes) (_ : State) : Option Nat := if u8 p 0 ≤ 1 then none else some stBad

/-- The staged codes that the mask selects (Table DA-14). -/
def holdStage (p : Bytes) (s : State) : State :=
  let one : State → Nat → State := fun t n =>
    if bit p 1 n then modDac (4 * u8 p 0 + n) (fun x => { x with staged := i16 p (4 + 2 * n) }) t else t
  [0, 1, 2, 3].foldl one s

/-- The answer of a DA_HOLD whose codes are staged (`stageHolds` of the frame boundary stages them before every strobe). -/
def applyDaHold (c : Cmd) (s : State) : State := respond c stDone [] (noteDirect c s)

/-- DA_LOAD (R233, R261): answered at the strobe, which waits for a frame that the data plane runs, and for a VCLK that
runs where it names a bank 1 on it. -/
def chkDaLoad (p : Bytes) (_ : State) : Option Nat := if fld p 0 1 0 = 0 then some stBad else none

/-- Log entry 46 (DEDUCED). -/
def applyDaLoad (c : Cmd) (s : State) : State :=
  if s.dataPlane ≠ .running ∨ (bit c.payload 0 1 = true ∧ groupClocked s 1 = false) then s
  else
    let s1 := if bit c.payload 0 0 then holdStrobe 0 s else s
    respond c stDone [] (if bit c.payload 0 1 then holdStrobe 1 s1 else s1)

/-! ### Status -/

/-- DA_STATUS (Table DA-22). -/
def daStatus (d : Nat) (s : State) : Bytes :=
  let x := dacState s d
  let off := dacOff s d
  let src := if !off && s.da.safe != 0 && dacSafe s d then 5 else (outCfg s.live d).src
  le 1 (16 * src + 8 * b2n (!off && dacZero s d) + 4 * b2n x.fault.isSome + 2 * b2n (off || !s.fenceOpen)) ++ le 1 x.ifs ++
    leInt 2 x.active ++ leInt 2 x.staged ++ le 4 (if d < 4 then s.da.strobes0 else s.da.strobes1) ++ le 2 x.clamps ++ zeros 4

/-! ### The meanings of the command rows -/

def execDaOutCfg (k : OrdClass) (s : State) : Host.Outcome State Fault Refusal := .next (startStaged k 0x0510 okDaOutCfg s)
def execDaBankCfg (k : OrdClass) (s : State) : Host.Outcome State Fault Refusal := .next (startStaged k 0x0511 okDaBankCfg s)
def execDaDdsCfg (k : OrdClass) (s : State) : Host.Outcome State Fault Refusal := .next (startStaged k 0x0512 okDdsCfg s)
def execDaHold (k : OrdClass) (s : State) : Host.Outcome State Fault Refusal := .next (startDirect k 0x0513 chkDaHold s)
def execDaLoad (k : OrdClass) (s : State) : Host.Outcome State Fault Refusal := .next (startDirect k 0x0514 chkDaLoad s)
def execDaFaultValues (k : OrdClass) (s : State) : Host.Outcome State Fault Refusal :=
  .next (startStaged k 0x0515 (fun _ => true) s)
def execDaStatus (k : OrdClass) (s : State) : Host.Outcome State Fault Refusal :=
  .next (startStatus k 0x0E40 (fun p => decide (u8 p 0 < 8)) (fun p t => daStatus (u8 p 0) t) s)

/-! ### The events -/

/-- LOAD_IN strobes the groups that it is selected for (Table DA-2); discarded while the data plane is stopped. -/
def execLoadInEdge (e : Edge) (s : State) : Host.Outcome State Fault Refusal :=
  .next (strobeSource (fun g => g == (match e with | .rise => 1 | .fall => 2)) s)

/-- The 4 us of a range change end (R237). -/
def execRangeChangeEnd (d : Nat) (s : State) : Host.Outcome State Fault Refusal :=
  match (dacState s d).rangeEnd with
  | some e =>
    if e ≤ s.clock then
      let cfg := outCfg s.live d
      let hold := cfg.src == 5 && !dacSafe s d
      .next (modDac d (fun x => if hold then { x with rangeEnd := none, wait := true }
                                else { x with rangeEnd := none, ifs := cfg.ifs }) s)
    else .next s
  | none => .next s

/-- The firmware loads the fault codes in SAFE and fires a global strobe (R35, R238), within 10 ms of the entry; not after
a lockstep mismatch or the watchdog, nor before the first commit. -/
def execFaultCodeLoad (s : State) : Host.Outcome State Fault Refusal :=
  if s.da.safe = 2 ∧ s.firstLive = true ∧ Nat.land s.safeCause (fLockstep + fWatchdog) = 0 then
    let load : Nat → DacState → DacState := fun d x =>
      if (outCfg s.live d).src = 0 then x else { x with fault := some (nth 0 s.da.safeCodes d) }
    let s1 := countStrobe 1 (countStrobe 0 s)
    .next { s1 with da := { s1.da with safe := 3, dac := s1.da.dac.mapIdx load } }
  else .next s

/-- The fault values of a commit reach boot flash (R238); a SAFE entry before uses those stored earlier. -/
def execFaultValuesFlashWrite (s : State) : Host.Outcome State Fault Refusal :=
  match s.da.flashDue with
  | some codes => .next { s with da := { s.da with flashDue := none, flash := codes } }
  | none => .next s

/-- Alarm ALn fires once (R208): it triggers sequences and strobes groups that select it (Tables AD-5, DA-2). -/
def execSpindleAlarmFire (n : Nat) (s : State) : Host.Outcome State Fault Refusal :=
  match nth none s.ad.alarms n with
  | some t =>
    if t ≤ s.spindle ∧ s.dataPlane = .running then
      let s1 : State := { s with ad := { s.ad with alarms := modNth (fun _ => none) s.ad.alarms n } }
      .next (strobeSource (· == 4 + n) (adSource (fun q => q.src == 0x0F + n) s1))
    else .next s
  | none => .next s

end Sys2Proof.Machine
end

