-- ==== Sys2Proof/Machine/Profile.lean ====
section
/-! DEFINITION. Profile sequencers (R244 to R256, R263 to R267): segments and their checks, presets, LTC, starting and
stepping, and their commands and events. -/
namespace Sys2Proof.Machine

/-- Segment j of a sequencer: PS_BACK of one that was never written is its own index (Table DA-4). -/
def segOf (t : Tables) (q j : Nat) : Seg := tabGet { back := j } t.segs (1024 * q + j)

/-- A segment of Table DA-4 at byte `i` of a payload. -/
def readSeg (p : Bytes) (i : Nat) : Seg :=
  { dur := uN p i 3, frac := u16 p (i + 3), kind := fld p (i + 5) 7 6, shape := fld p (i + 5) 5 3, dds := fld p (i + 5) 2 0,
    amp := i16 p (i + 6), offset := i16 p (i + 8), rep := u16 p (i + 10), env := bit p (i + 13) 7,
    back := u16 p (i + 12) % 1024, event := u8 p (i + 14) }

/-! ### The checks of R248 -/

/-- Unrolled durations of the segments that `seg` gives: the list holds, newest first, the time from the start of segment
`first` through the end of each segment with its repeats (2^-16 cycle). -/
def unroll (seg : Nat → Seg) (first : Nat) : Nat → List Nat → List Nat
  | 0, acc => acc
  | k + 1, acc =>
    let c := seg (first + acc.length)
    let d := acc.headD 0 + segLen c
    let before := if c.back = first then 0 else nth 0 acc.reverse (c.back - first - 1)
    unroll seg first k ((if c.rep = 0 then d else d + c.rep * (d - before)) :: acc)

/-- The groups of the segments from `first` to `last`, as (start, end). -/
def groupsOf (t : Tables) (q first last : Nat) : List (Nat × Nat) :=
  ((List.range 1024).filter (fun j => decide (first ≤ j) && decide (j ≤ last) && (segOf t q j).rep != 0)).map
    (fun j => ((segOf t q j).back, j))

/-- Two groups are disjoint, or one lies wholly inside the other. -/
def groupsFit (a b : Nat × Nat) : Bool :=
  decide (a.2 < b.1) || decide (b.2 < a.1) || (decide (a.1 ≤ b.1) && decide (b.2 ≤ a.2)) ||
    (decide (b.1 ≤ a.1) && decide (a.2 ≤ b.2))

/-- R248 on an enabled sequencer. -/
def psTimingOk (t : Tables) (q : Nat) : Bool :=
  let c := psCfg t q
  let segs := (List.range 1024).filter (fun j => decide (c.first ≤ j) && decide (j ≤ c.last))
  let gs := groupsOf t q c.first c.last
  let ds := (unroll (segOf t q) c.first (c.last + 1 - c.first) []).reverse
  let whole := nth 0 ds (c.last - c.first)
  let intro := if c.loop = c.first then 0 else nth 0 ds (c.loop - c.first - 1)
  let loop := whole - intro
  decide (c.first ≤ c.loop) && decide (c.loop ≤ c.last) && decide (0 < c.period) &&
    segs.all (fun j => decide (1 ≤ (segOf t q j).dur) && ((segOf t q j).kind != 1 || (ddsCfg t (segOf t q j).dds).vclk == psV t q)) &&
    gs.all (fun g => decide (c.first ≤ g.1) && decide (g.1 ≤ g.2) && !(decide (c.first < c.loop) && decide (g.1 < c.loop) && decide (c.loop ≤ g.2)) &&
      gs.all (groupsFit g)) &&
    loop % 65536 == 0 && c.period % (loop / 65536) == 0 && decide (0 < loop) && whole % loop == 0

/-! ### Presets (R252 to R254) -/

/-- sh(k) of shape tables 0 and 1 (R252). -/
def shapeZero (k : Nat) : Int := roundDiv (32767 * (fxOne - fxCos (fxPi * k / 255))) (2 ^ 129)
def shapeOne (k : Nat) : Int :=
  let v := fxSin (fxPi * k / 255)
  roundDiv (32767 * (v * v)) (2 ^ 256)

def shapeZeroTab : List Int := (List.range 256).map shapeZero
def shapeOneTab : List Int := (List.range 256).map shapeOne

/-- Frames per second of an LTC preset as a fraction. -/
def ltcRate (id : Nat) : Nat × Nat :=
  match id with
  | 0x10 => (24, 1) | 0x11 => (25, 1) | 0x12 => (30000, 1001) | _ => (30, 1)

def isLtc (id : Nat) : Bool := decide (0x10 ≤ id) && decide (id ≤ 0x13)

/-- T of a preset in ps as a fraction (Table DA-5). -/
def presetPeriod (id : Nat) : Nat × Nat :=
  if id ≤ 0x0F then videoPeriod (id - 1)
  else if isLtc id then (2 * (ltcRate id).2 * 10 ^ 12, (ltcRate id).1)
  else (10 ^ 12, 1)

/-- Cycles of a time in ps (num / den) on a clock, as numerator and denominator. -/
def cyclesNum (t : Tables) (v : Bool) (num : Nat) : Nat := num * clkNum t v
def cyclesDen (t : Tables) (v : Bool) (den : Nat) : Nat := den * clkDen t v * 10 ^ 12

/-- The loop of a preset in ps (num / den). -/
def presetLoop (id : Nat) : Nat × Nat :=
  if id = 0x14 then (10 ^ 10, 1) else if id = 0x15 then (10 ^ 9, 1) else presetPeriod id

/-- Segments of a preset (Table DA-5). -/
def presetCount (id : Nat) : Nat :=
  match id with
  | 0x01 => 576 | 0x02 => 336 | 0x03 => 48 | 0x04 => 48 | 0x10 => 640 | 0x11 => 640 | 0x12 => 640 | 0x13 => 640
  | 0x14 => 8 | 0x15 => 1 | _ => 18

/-- blank + round(level in mV * PS_CODE_1V / 1000) (R254). -/
def levelCode (p : PsPreset) (mv : Int) : Int := p.blank + roundDiv (mv * p.code1V) 1000

/-- Every level of a preset as a code (Table DA-6). -/
def presetLevels (p : PsPreset) : List Int :=
  match p.id with
  | 0x01 => [p.blank, levelCode p (-300), levelCode p 150, levelCode p (-150)]
  | 0x02 => [p.blank, levelCode p (-286), levelCode p 143, levelCode p (-143)]
  | 0x14 => [p.blank, levelCode p 2000]
  | 0x15 => [p.blank + tonePeak p.lvl, p.blank - tonePeak p.lvl]
  | id => if isLtc id then [levelCode p 500, levelCode p (-500)] else [p.blank, levelCode p 300, levelCode p (-300)]

/-- A time in ps (num / den) on a clock, in 2^-16 cycle, rounded. -/
def timeUnits (t : Tables) (v : Bool) (num den : Nat) : Nat :=
  (roundDiv (cyclesNum t v num * 65536 : Nat) (cyclesDen t v den)).toNat

/-- D_e of R252 for a 10-90 % time in ps (num / den), in 2^-16 cycle: the edge over 0.590334. -/
def edgeTime (t : Tables) (v : Bool) (num den : Nat) : Nat := timeUnits t v (num * 1000000) (den * 590334)

/-- D_e of an edge of `ns`. -/
def edgeUnits (t : Tables) (v : Bool) (ns : Nat) : Nat := edgeTime t v (ns * 1000) 1

def presetEdge (p : PsPreset) : Nat := if p.edge = 0 then (if p.id = 0x14 then 20 else 25000) else p.edge

/-- A LEVEL of `u` units at `code`; a SHAPE edge of table 0 from `a` to `b`. -/
def levelSeg (u : Nat) (code : Int) (own rep back : Nat) : Seg :=
  { dur := u / 65536, frac := u % 65536, kind := 0, offset := code, rep, back := if rep = 0 then own else back }
def edgeSeg (u : Nat) (a b : Int) (own : Nat) : Seg :=
  { dur := u / 65536, frac := u % 65536, kind := 2, shape := 0, amp := b - a, offset := a, back := own }

/-- The word-clock rates of PS_WCLK_RATE (Table DA-20). -/
def wclkRate (r : Nat) : Nat := nth 48000 [32000, 44100, 48000, 88200, 96000, 176400, 192000] r

/-- The eight segments of the word-clock preset (Tables DA-7, DA-8). -/
def wclkSegs (t : Tables) (v : Bool) (p : PsPreset) : List Seg :=
  let n := wclkRate p.rate / 100
  let loop := cyclesNum t v (10 ^ 10) * 65536 / cyclesDen t v 1
  let per := loop / n
  let e := edgeUnits t v (presetEdge p)
  let hi := levelCode p 2000
  let b := p.base
  let h1 := per / 2 - e
  let h2 := per - per / 2 - e
  [edgeSeg e p.blank hi b, levelSeg h1 hi (b + 1) 0 0, edgeSeg e hi p.blank (b + 2), levelSeg h2 p.blank (b + 3) (n - 2) b,
   edgeSeg e p.blank hi (b + 4), levelSeg h1 hi (b + 5) 0 0, edgeSeg e hi p.blank (b + 6),
   levelSeg (h2 + (loop - n * per)) p.blank (b + 7) 0 0]

/-- Bits of an LTC frame in order (SMPTE ST 12-1), polarity bit as given. `hh mm ss ff` are the label. -/
def ltcBits (hh mm ss ff ub : Nat) (drop : Bool) (pol27 pol59 : Bool) : List Bool :=
  let b : Nat → Nat → List Bool := fun n v => (List.range n).map (nbit v)
  let u : Nat → List Bool := fun k => b 4 (ub / 16 ^ k % 16)
  b 4 (ff % 10) ++ u 0 ++ b 2 (ff / 10) ++ [drop, false] ++ u 1 ++ b 4 (ss % 10) ++ u 2 ++ b 3 (ss / 10) ++ [pol27] ++ u 3 ++
    b 4 (mm % 10) ++ u 4 ++ b 3 (mm / 10) ++ [false] ++ u 5 ++ b 4 (hh % 10) ++ u 6 ++ b 2 (hh / 10) ++ [false, pol59] ++ u 7 ++
    [false, false, true, true, true, true, true, true, true, true, true, true, true, true, false, true]

/-- The polarity-correction bit makes the number of zeros even. -/
def ltcFrame (id hh mm ss ff ub : Nat) : List Bool :=
  let drop := id == 0x12
  let bits := ltcBits hh mm ss ff ub drop false false
  if (bits.filter (· == false)).length % 2 = 0 then bits
  else if id = 0x11 then ltcBits hh mm ss ff ub drop false true else ltcBits hh mm ss ff ub drop true false

/-- Bi-phase mark: the segments of the bits, from segment `i` on, with the level before them (true: high); `h` is the
half-bit in units, `extra` goes to the last level. -/
def ltcSegs (p : PsPreset) (e h extra : Nat) : List Bool → Nat → Bool → List Seg
  | [], _, _ => []
  | b :: bs, i, lv =>
    let code : Bool → Int := fun x => if x then levelCode p 500 else levelCode p (-500)
    let l1 := !lv
    let l2 := if b then !l1 else l1
    let add := if bs.isEmpty then extra else 0
    edgeSeg e (code lv) (code l1) i :: levelSeg (h - e) (code l1) (i + 1) 0 0 ::
      edgeSeg e (code l1) (code l2) (i + 2) :: levelSeg (h - e + add) (code l2) (i + 3) 0 0 :: ltcSegs p e h extra bs (i + 4) l2

/-- One half of the LTC table: the frame in the half `odd`. -/
def ltcHalf (t : Tables) (v : Bool) (p : PsPreset) (odd : Bool) (bits : List Bool) : List Seg :=
  let per := presetPeriod p.id
  let loop := cyclesNum t v per.1 * 65536 / cyclesDen t v per.2
  let h := loop / 320
  ltcSegs p (edgeUnits t v (presetEdge p)) h (if odd then loop - 320 * h else 0) bits (p.base + if odd then 320 else 0) false

/-! ### The video presets (Tables DA-6, DA-7) -/

/-- T of Table DA-6 for a tri-level preset, in ps as a fraction: 1 / 74.25 MHz or 1 / 148.5 MHz, times 1.001 for a 1/1.001
format. -/
def triT (id : Nat) : Nat × Nat :=
  ((if [4, 5, 8, 11, 14].contains id then 1001 else 1000) * 10 ^ 8, (if 10 ≤ id ∧ id ≤ 12 then 14850 else 7425) * 1000)

/-- D_e of a video preset: 200 ns, or 4 T. -/
def videoEdge (t : Tables) (v : Bool) (id : Nat) : Nat :=
  if id ≤ 2 then edgeUnits t v 200 else edgeTime t v (4 * (triT id).1) (triT id).2

/-- A level of segment `i` whose time no table gives. Log entry 80 (DESIGN CHOICE). -/
def freeLevel (t : Tables) (v : Bool) (p : PsPreset) (code : Int) (i : Nat) : Seg :=
  levelSeg (timeUnits t v (Config.videoTime p.id i) 1) code (p.base + i) 0 0

/-- The repeats of the line group from segment `lo` through `i`. -/
def repeatFrom (p : PsPreset) (lo i : Nat) (c : Seg) : Seg :=
  { c with rep := Config.videoRepeat p.id i % 65536, back := if Config.videoRepeat p.id i % 65536 = 0 then c.back else p.base + lo }

/-- Fields, vertical pulses of a field, lines of the whole loop, burst cycles and the start of the burst after 0H in ns. -/
def burstForm (id : Nat) : Nat × Nat × Nat × Nat × Nat :=
  if id = 1 then (8, 15, 2500, 10, 5600) else (4, 18, 1050, 9, 5300)

/-- The subcarrier in Hz as a fraction (Table DA-5, R243). -/
def subcarrier (id : Nat) : Nat × Nat := if id = 1 then (443361875, 100) else (39375000, 11)

/-- One field of black burst from segment `i0` on: vertical pulses, the sync-only line group, the burst line group, and the
half line at the field boundary. Log entry 80 (DESIGN CHOICE). -/
def burstField (t : Tables) (v : Bool) (p : PsPreset) (i0 : Nat) : List Seg :=
  let f := burstForm p.id
  let e := videoEdge t v p.id
  let tip := levelCode p (if p.id = 1 then -300 else -286)
  let amp := levelCode p (if p.id = 1 then 150 else 143) - p.blank
  let per := presetPeriod p.id
  let line := cyclesNum t v per.1 * 65536 / cyclesDen t v per.2 / f.2.2.1
  let sync := timeUnits t v 4700000 1 - e
  let burst := timeUnits t v (f.2.2.2.1 * (subcarrier p.id).2 * 10 ^ 12) (subcarrier p.id).1
  let start := timeUnits t v (f.2.2.2.2 * 1000) 1
  let pulse : Nat → List Seg := fun j =>
    let i := i0 + 4 * j
    [edgeSeg e p.blank tip (p.base + i), freeLevel t v p tip (i + 1), edgeSeg e tip p.blank (p.base + i + 2),
     freeLevel t v p p.blank (i + 3)]
  let a := i0 + 4 * f.2.1
  let b := a + 4
  (List.range f.2.1).flatMap pulse ++
    [edgeSeg e p.blank tip (p.base + a), levelSeg sync tip (p.base + a + 1) 0 0, edgeSeg e tip p.blank (p.base + a + 2),
     repeatFrom p a (a + 3) (levelSeg (line - 2 * e - sync) p.blank (p.base + a + 3) 0 0),
     edgeSeg e p.blank tip (p.base + b), levelSeg sync tip (p.base + b + 1) 0 0, edgeSeg e tip p.blank (p.base + b + 2),
     levelSeg (start - (e / 2 + sync + e)) p.blank (p.base + b + 3) 0 0,
     { dur := burst / 65536, frac := burst % 65536, kind := 1, shape := 1, dds := p.dds, amp, offset := p.blank, env := true,
       back := p.base + b + 4 },
     repeatFrom p b (b + 5) (levelSeg (line - (e / 2 + start + burst)) p.blank (p.base + b + 5) 0 0),
     freeLevel t v p p.blank (b + 6), freeLevel t v p p.blank (b + 7)]

/-- A tri-level sync and the level after it, from segment `i` on. -/
def triSync (t : Tables) (v : Bool) (p : PsPreset) (i : Nat) : List Seg :=
  let e := videoEdge t v p.id
  let h := timeUnits t v ((if 13 ≤ p.id then 40 else 44) * (triT p.id).1) (triT p.id).2 - e
  let lo := levelCode p (-300)
  let hi := levelCode p 300
  [edgeSeg e p.blank lo (p.base + i), levelSeg h lo (p.base + i + 1) 0 0, edgeSeg e lo hi (p.base + i + 2),
   levelSeg h hi (p.base + i + 3) 0 0, edgeSeg e hi p.blank (p.base + i + 4), freeLevel t v p p.blank (i + 5)]

/-- One field or frame of tri-level sync: the vertical-line group, with its broad pulse, the normal line group, and in an
interlaced field the half-line sync. Log entry 80 (DESIGN CHOICE). -/
def triField (t : Tables) (v : Bool) (p : PsPreset) (half : Bool) (i : Nat) : List Seg :=
  let e := videoEdge t v p.id
  let lo := levelCode p (-300)
  let group : Nat → Nat → List Seg → List Seg := fun a n l => modNth (repeatFrom p a (a + n - 1)) l (n - 1)
  group i 12 (triSync t v p i ++
      [edgeSeg e p.blank lo (p.base + i + 6), freeLevel t v p lo (i + 7), edgeSeg e lo p.blank (p.base + i + 8),
       freeLevel t v p p.blank (i + 9), freeLevel t v p p.blank (i + 10), freeLevel t v p p.blank (i + 11)]) ++
    group (i + 12) 6 (triSync t v p (i + 12)) ++ (if half then triSync t v p (i + 18) else [])

/-- The last segment takes what the loop still lacks, so that the loop sums exactly. -/
def closeLoop (base loop : Nat) (l : List Seg) : List Seg :=
  let whole := (unroll (fun j => nth {} l (j - base)) base l.length []).headD 0
  modNth (fun c => let u := segLen c + (loop - whole); { c with dur := u / 65536, frac := u % 65536 }) l (l.length - 1)

/-- The segments of a video preset. -/
def videoSegs (t : Tables) (v : Bool) (p : PsPreset) : List Seg :=
  let per := presetPeriod p.id
  let loop := cyclesNum t v per.1 * 65536 / cyclesDen t v per.2
  closeLoop p.base loop
    (if p.id ≤ 2 then (List.range (burstForm p.id).1).flatMap (fun k => burstField t v p ((4 * (burstForm p.id).2.1 + 12) * k))
     else if p.id ≤ 4 then triField t v p true 0 ++ triField t v p true 24
     else triField t v p false 0)

/-- From the start of a video profile to its alignment point (Table DA-5): the middle of the leading edge of line 1 of field
1, or the middle of the positive-going edge of the first line. Log entry 80 (DESIGN CHOICE). -/
def videoAlign (t : Tables) (v : Bool) (p : PsPreset) (l : List Seg) : Nat :=
  let i := if p.id ≤ 2 then 4 * (Config.videoLineOne p.id % (burstForm p.id).2.1) else 2
  let before := if i = 0 then 0 else nth 0 (unroll (fun j => nth {} l (j - p.base)) p.base l.length []).reverse (i - 1)
  before + videoEdge t v p.id / 2

/-- The content of a preset's segments (Table DA-7). -/
def presetSegs (t : Tables) (v : Bool) (p : PsPreset) : List Seg :=
  if p.id = 0x14 then wclkSegs t v p
  else if p.id = 0x15 then
    [{ dur := cyclesNum t v (10 ^ 9) / cyclesDen t v 1, kind := 1, dds := p.dds, amp := tonePeak p.lvl, offset := p.blank,
       back := p.base }]
  else if isLtc p.id then
    let bits := ltcFrame p.id 0 0 0 0 p.ub
    ltcHalf t v p false bits ++ ltcHalf t v p true bits
  else videoSegs t v p

/-- phi in 2^-16 cycle: the alignment point falls on each multiple of T (R253, Table DA-8). -/
def presetPhase (t : Tables) (v : Bool) (p : PsPreset) (period : Nat) : Nat :=
  let whole := period * 65536
  if p.id = 0x15 ∨ whole = 0 then 0
  else if p.id = 0x14 ∨ isLtc p.id = true then (whole - edgeUnits t v (presetEdge p) / 2) % whole
  else (whole - videoAlign t v p (videoSegs t v p) % whole) % whole

/-- The DDS that a preset needs: the subcarrier of a burst, whose phase is 0 at each alignment point (SCH 0 degrees), or the
tone (Tables DA-5, TK-4). Log entry 80 (DESIGN CHOICE). -/
def presetDds (v : Bool) (p : PsPreset) : Option DdsCfg :=
  if p.id ≤ 2 then some { vclk := v, num := (subcarrier p.id).1, den := (subcarrier p.id).2 }
  else if p.id = 0x15 then some { vclk := v, num := p.hz, den := 1 }
  else none

/-- Writes a list of segments from segment `i` on. -/
def putSegs (q i : Nat) (cs : List Seg) (t : Tables) : Tables := { t with segs := tabSetList ({} : Seg) t.segs (1024 * q + i) cs }

/-- Builds the profile of a preset (R252). -/
def buildPreset (q : Nat) (p : PsPreset) (t : Tables) : Tables :=
  let v := psV t q
  let per := presetPeriod p.id
  let period := cyclesNum t v per.1 / cyclesDen t v per.2
  let ph := presetPhase t v p period
  let cfg : PsCfg := { en := true, first := p.base, last := p.base + presetCount p.id - 1, loop := p.base, period,
                       frac := ph % 65536, phase := ph / 65536, idle := p.blank, pre := some p }
  let t1 := putSegs q p.base (presetSegs t v p) { t with ps := tabSet {} t.ps q cfg }
  let t2 := { t1 with shapes := tabSet zeros256 (tabSet zeros256 t1.shapes 0 shapeZeroTab) 1 shapeOneTab }
  match presetDds v p with
  | some d => { t2 with dds := tabSet {} t2.dds p.dds d }
  | none => t2

/-- A preset needs its DDS. -/
def presetUses (p : PsPreset) : Bool := p.id == 1 || p.id == 2 || p.id == 0x15

/-- A preset's segments are still those that it built; LTC segments carry the labels of their frames. -/
def presetKept (t : Tables) (q : Nat) (p : PsPreset) : Bool :=
  let l := presetSegs t (psV t q) p
  (List.range l.length).all (fun i => segOf t q (p.base + i) == nth {} l i)

/-- R252 and R243 on one preset of a configuration. The profile that a preset builds holds R248; one that a later PS_SEG
changed is checked like any other. -/
def presetOk (t : Tables) (q : Nat) (p : PsPreset) : Bool :=
  let v := psV t q
  let per := presetPeriod p.id
  let lo := presetLoop p.id
  decide (p.base + presetCount p.id ≤ 1024) &&
    cyclesNum t v per.1 % cyclesDen t v per.2 == 0 && cyclesNum t v lo.1 % cyclesDen t v lo.2 == 0 &&
    (presetLevels p).all (fun x => decide (-32768 ≤ x) && decide (x ≤ 32767)) &&
    tabGet zeros256 t.shapes 0 == shapeZeroTab && tabGet zeros256 t.shapes 1 == shapeOneTab &&
    (!presetUses p || (!(ddsCfg t p.dds).host && !(p.dds == 7 && videoListed t))) &&
    (presetKept t q p || psTimingOk t q)

/-- No two presets name one DDS: it belongs to the preset that configures it (R243). -/
def presetsApart (t : Tables) : Bool :=
  let uses : Nat → Nat → Bool := fun q d => match (psCfg t q).pre with
    | some p => presetUses p && p.dds == d
    | none => false
  (List.range 8).all (fun d => decide (([0, 1, 2, 3].filter (fun q => uses q d)).length ≤ 1))

/-- After the records of a commit are applied, the presets are built whose sequencer's preset, clock or rates differ from
those of the base (R252). -/
def buildPresets (old : Tables) (t : Tables) : Tables :=
  let one : Tables → Nat → Tables := fun t q =>
    match (psCfg t q).pre with
    | none => t
    | some p =>
      if (psCfg old q).pre = some p ∧ psV old q = psV t q ∧ old.synth = t.synth ∧ psCfg old q = psCfg t q then t else buildPreset q p t
  [0, 1, 2, 3].foldl one t

/-- The commit rules of the sequencers. While a video candidate is listed, no SINE segment names DDS7 (R243). -/
def psOk (t : Tables) : Bool :=
  [0, 1, 2, 3].all (fun q =>
    match (psCfg t q).pre with
    | some p => presetOk t q p
    | none => !(psCfg t q).en || psTimingOk t q) &&
    presetsApart t && !(videoListed t && t.segs.any (fun e => e.2.kind == 1 && e.2.dds == 7))

/-- The record rules of R252 and R243: what the same staging holds beside a preset. -/
def psRecsOk (recs : List Rec) : Bool :=
  recs.all (fun r => r.opcode != 0x0524 ||
    recs.all (fun o =>
      !((o.opcode == 0x0520 || o.opcode == 0x0521) && u8 o.payload 0 == u8 r.payload 0) &&
        !(o.opcode == 0x0512 && u8 o.payload 0 == u8 r.payload 8 && (u8 r.payload 1 == 1 || u8 r.payload 1 == 2 || u8 r.payload 1 == 0x15)) &&
        !(o.opcode == 0x0523 && ((u8 o.payload 0 == 0 && (List.range 256).map (fun k => i16 o.payload (4 + 2 * k)) != shapeZeroTab) ||
            (u8 o.payload 0 == 1 && (List.range 256).map (fun k => i16 o.payload (4 + 2 * k)) != shapeOneTab)))))

/-! ### Starting and stepping (R247, R249, R250) -/

/-- A sequencer's table content differs between two configurations, where a running profile uses it (R250). -/
def psChanged (old new : Tables) (q : Nat) : Bool :=
  let c := psCfg new q
  let js := (List.range 1024).filter (fun j => decide (c.first ≤ j) && decide (j ≤ c.last))
  psCfg old q != c || psV old q != psV new q || (psV new q && old.synth.vrate != new.synth.vrate) ||
    js.any (fun j =>
      let a := segOf new q j
      segOf old q j != a ||
        ((a.kind == 2 || (a.kind == 1 && a.env)) && tabGet zeros256 old.shapes a.shape != tabGet zeros256 new.shapes a.shape) ||
        (a.kind == 1 && ddsCfg old a.dds != ddsCfg new a.dds))

def presetLtc (c : PsCfg) : Bool := match c.pre with | some p => isLtc p.id | none => false

/-- A commit that builds the same LTC profile again leaves the frames that the firmware has written (R250, R255). -/
def keepLtc (old new : Tables) : Tables :=
  let one : Tables → Nat → Tables := fun t q =>
    let c := psCfg new q
    if presetLtc c ∧ psCfg old q = c ∧ psV old q = psV new q ∧ old.synth = new.synth then
      putSegs q c.first ((List.range 640).map (fun i => segOf old q (c.first + i))) t
    else t
  [0, 1, 2, 3].foldl one new

/-- The sequencers at the commit's frame boundary. -/
def psCommit (old new : Tables) (s : State) : State :=
  let one : Nat → PsState → PsState := fun q p =>
    let label := if presetLtc (psCfg new q) then p.label else 0
    if (psCfg new q).en = false then { p with st := 0, label }
    else if psChanged old new q || p.st == 0 then
      { p with st := 1, since := s.spindle, prev := (psCfg new q).idle, reps := [], wrote := 0, last := none, label }
    else p
  { s with ps := s.ps.mapIdx one }

/-- The latest start instant at or before now, in units of 2^-16 cycle of the clock's timescale (R249).
Log entry 41 (DEDUCED). -/
def startInstant (s : State) (q : Nat) : Option Nat :=
  let c := psCfg s.live q
  let u := scaleUnits s (psV s.live q) s.spindle
  let ph := c.phase * 65536 + c.frac
  if c.period = 0 ∨ u < ph then none else some ((u - ph) / (c.period * 65536) * (c.period * 65536) + ph)

/-- The clock of a sequencer runs. -/
def psClocked (s : State) (q : Nat) : Bool := if psV s.live q then s.hs.vsyn.lock == 4 else s.dataPlane == .running

/-- BCD of a number below 100. -/
def bcd (n : Nat) : Nat := n / 10 * 16 + n % 10

def labelCode (hh mm ss ff : Nat) : Nat := bcd ff + 256 * bcd ss + 65536 * bcd mm + 16777216 * bcd hh

/-- Enters a segment (R247 step 3): its content is latched and its event bits go to the Calipers. -/
def enterSeg (q j start : Nat) (s : State) : State :=
  let c := segOf s.live q j
  let lab : PsState → Nat := fun p => match (psCfg s.live q).pre with
    | some x => if isLtc x.id then (if j = x.base then p.half0 else if j = x.base + 320 then p.half1 else p.label) else 0
    | none => 0
  let s1 := modPs q (fun p => { p with seg := j, cur := c, segStart := start, label := lab p }) s
  let hit : SeqCfg → Bool := fun k => k.src == 9 + q && nbit c.event k.trigBit
  if psV s1.live q then adSourceLate hit s1 else adSource hit s1

/-- How far the edges of a sequencer's clock are counted ahead of its timescale. -/
def psOff (s : State) (q : Nat) : Int := if psV s.live q then s.da.vOff else 0

/-- A start (R249, R250); an LTC sequencer waits for time-valid (R255). -/
def psStart (q : Nat) (s : State) : State :=
  let p := psState s q
  let c := psCfg s.live q
  if p.st ≠ 1 ∨ psClocked s q = false ∨ (presetLtc c = true ∧ s.timeValid = false) then s
  else match startInstant s q with
    | none => s
    | some u =>
      if u ≤ scaleUnits s (psV s.live q) p.since then s
      else enterSeg q c.first ((u : Int) + psOff s q).toNat
        (modPs q (fun p => { p with st := 2, starts := satInc 32 p.starts, reps := [], prev := c.idle, off := psOff s q }) s)

/-- The next segment after the end of the current one, and the repeat counters (R247 steps 4 and 5). -/
def nextSeg (c : PsCfg) (p : PsState) : Nat × Tab Nat :=
  let done := tabGet 0 p.reps p.seg
  if done < p.cur.rep then (p.cur.back, tabSet 0 p.reps p.seg (done + 1))
  else (if p.seg = c.last then c.loop else p.seg + 1, tabSet 0 p.reps p.seg 0)

/-- SEGMENT_ENTRY: at the first clock edge at or after the exact end of the current segment. -/
def psAdvance (q : Nat) (s : State) : State :=
  let p := psState s q
  let c := psCfg s.live q
  let fin := p.segStart + segLen p.cur
  if p.st ≠ 2 ∨ psClocked s q = false ∨ clkEdge s (psV s.live q) s.spindle * 65536 < fin then s
  else
    let n := nextSeg c p
    let lastEdge := (fin + 65535) / 65536 - 1
    let v := segValue s.live p.cur (lastEdge * 65536 - p.segStart) lastEdge p.prev
    enterSeg q n.1 fin (modPs q (fun p => { p with prev := v, reps := n.2 }) s)

/-- PS_REP_NOW: repeats left in the innermost group in progress. -/
def repNow (s : State) (q : Nat) : Nat :=
  let p := psState s q
  let c := psCfg s.live q
  let inside := (groupsOf s.live q c.first c.last).filter (fun g => decide (g.1 ≤ p.seg) && decide (p.seg ≤ g.2))
  match inside with
  | [] => 0
  | g :: _ => (segOf s.live q g.2).rep - tabGet 0 p.reps g.2

/-! ### LTC labels (R255) -/

/-- A label some seconds later, or earlier. -/
def addSecs (d : Int) (l : LtcLabel) : LtcLabel :=
  let n := (((3600 * l.hh + 60 * l.mm + l.ss : Nat) : Int) + d) % 86400
  { hh := n.toNat / 3600, mm := n.toNat / 60 % 60, ss := n.toNat % 60, ff := l.ff }

/-- Labels 00 and 01 are skipped at the start of every minute except minutes divisible by 10. -/
def skips (l : LtcLabel) : Bool := l.ss == 0 && l.mm % 10 != 0 && decide (l.ff < 2)
def dropSkip (l : LtcLabel) : LtcLabel := if skips l then { l with ff := 2 } else l

/-- The drop-frame label after `l`. -/
def dropNext (l : LtcLabel) : LtcLabel :=
  dropSkip (if l.ff < 29 then { l with ff := l.ff + 1 } else { addSecs 1 l with ff := 0 })

/-- The label of a drop-frame count, and the count of a label. -/
def dropLabel (n : Nat) : LtcLabel :=
  let n := n % 2589408
  let d := n / 17982
  let m := n % 17982
  let k := n + 18 * d + (if m < 2 then 0 else 2 * ((m - 2) / 1798))
  { hh := k / 108000 % 24, mm := k / 1800 % 60, ss := k / 30 % 60, ff := k % 30 }

def dropCount (l : LtcLabel) : Nat :=
  let m := 60 * l.hh + l.mm
  30 * (60 * m + l.ss) - 2 * (m - m / 10) + l.ff

/-- The label `k` frames after the jam to `l`: the label of the jam itself is sent, whichever it is; the frames after it
count under the drop-frame rule. Log entry 108 (DESIGN CHOICE). -/
def dropAfter (l : LtcLabel) (k : Nat) : LtcLabel :=
  if k = 0 then l else if skips l then dropLabel (dropCount { l with ff := 2 } + (k - 1)) else dropLabel (dropCount l + k)

/-- The frame of the last daily jam at or before frame `f`: the first frame that starts at or after PS_LTC_JAM local time;
`shift` is local time less Spindle time in seconds. -/
def jamFrame (p : PsPreset) (shift : Int) (f : Nat) : Int :=
  let day : Int := 86400 * 30000
  let first : Int → Int := fun d => (d * day + (p.jam : Int) * 30000 - shift * 30000 + 1000) / 1001
  let d := ((f : Int) * 1001 + shift * 30000 - (p.jam : Int) * 30000) / day
  if first d ≤ (f : Int) then first d else first (d - 1)

/-- The label of LTC frame `f` (frames since Spindle time zero) under a zone and a UTC offset. -/
def ltcLabel (p : PsPreset) (zone utc : Int) (f : Nat) : LtcLabel :=
  let shift := 60 * zone - utc
  if p.id = 0x12 then
    let j := jamFrame p shift f
    dropAfter (addSecs ((j * 1001 + shift * 30000) / 30000) { hh := 0, mm := 0, ss := 0, ff := 0 }) ((f : Int) - j).toNat
  else
    let r := (ltcRate p.id).1
    let k : Nat := (((f : Int) + shift * r) % (86400 * r : Nat)).toNat
    { hh := k / (3600 * r), mm := k / (60 * r) % 60, ss := k / r % 60, ff := k % r }

/-- TAI - UTC at the start of LTC frame `f`: a pending leap changes it at TK_LEAP_AT (R139). -/
def ltcUtc (s : State) (id f : Nat) : Int :=
  if s.tk.leapPend ≠ 0 ∧ s.tk.leapAt * (ltcRate id).1 ≤ f * (ltcRate id).2 then
    s.tk.utcNow + (if s.tk.leapPend = 1 then 1 else -1)
  else s.tk.utcNow

/-- The label of the frame after one labelled `l`: a new zone or UTC offset applies from the next whole label second
(Table DA-9, R139), which then shows the new local time. Log entry 108 (DESIGN CHOICE). -/
def ltcFollow (p : PsPreset) (x : PsState) (l : LtcLabel) (utc : Int) (f : Nat) : LtcLabel × Int × Int :=
  let c := if p.id = 0x12 ∧ jamFrame p (60 * x.zone - x.utc) f ≠ f then dropNext l else ltcLabel p x.zone x.utc f
  let whole := c.ff == 0 || (p.id == 0x12 && c.ff == 2 && skips { c with ff := 0 })
  if whole then
    let d := 60 * (p.zone - x.zone) - (utc - x.utc)
    let n := if d = 0 then c else if p.id = 0x12 then dropSkip { addSecs d c with ff := 0 } else addSecs d c
    (n, p.zone, utc)
  else (c, x.zone, x.utc)

/-- The number of the LTC frame to write next, counted where the profile plays: while the sequencer runs, the one after the
frame that plays; while it waits, the two of its next start. The start instant of index j carries the alignment point of
frame 2 (j + 1), since phi lies just below T. -/
def ltcNext (s : State) (q : Nat) : Nat :=
  let c := psCfg s.live q
  let x := psState s q
  let v := psV s.live q
  let u := if x.st = 2 ∧ v = true then ((clkUnits s v s.spindle : Int) - x.off).toNat else scaleUnits s v s.spindle
  let ph := c.phase * 65536 + c.frac
  let half := c.period * 32768
  let past := if half = 0 ∨ u < ph then 0 else (u - ph) / half + 2
  if x.st = 2 then past + 1
  else
    let f := past / 2 * 2 + 2
    if x.wrote = f then f + 1 else f

/-- The frames by which Spindle time has stepped since the start of a sequencer that runs on. -/
def ltcShift (s : State) (q : Nat) : Int :=
  if (psState s q).st = 2 ∧ psV s.live q = true then
    roundDiv ((psState s q).off - s.da.vOff) ((psCfg s.live q).period * 32768)
  else 0

/-- Writes one LTC frame into the half that does not play, by live segment writes (R251, R255); a commit that keeps the
profile takes them over (`keepLtc`). -/
def ltcWrite (q : Nat) (s : State) : State :=
  match (psCfg s.live q).pre with
  | none => s
  | some p =>
    let x := psState s q
    let k := ltcNext s q
    if isLtc p.id = false ∨ (psCfg s.live q).en = false ∨ k ≤ x.wrote then s
    else
      let f := ((k : Int) + ltcShift s q).toNat
      let utc := ltcUtc s p.id f
      let r := match x.last with
        | some l => if x.st = 2 ∧ x.wrote + 1 = k then ltcFollow p x l utc f else (ltcLabel p p.zone utc f, p.zone, utc)
        | none => (ltcLabel p p.zone utc f, p.zone, utc)
      let l := r.1
      let bits := ltcFrame p.id l.hh l.mm l.ss l.ff p.ub
      let odd := k % 2 == 1
      let segs := ltcHalf s.live (psV s.live q) p odd bits
      let s1 : State := { s with live := putSegs q (p.base + if odd then 320 else 0) segs s.live }
      let code := labelCode l.hh l.mm l.ss l.ff
      modPs q (fun x =>
        let y := { x with wrote := k, last := some l, zone := r.2.1, utc := r.2.2 }
        if odd then { y with half1 := code } else { y with half0 := code }) s1

/-! ### Payloads -/

/-- PS_CFG (R263, Table DA-17). -/
def readPsCfg (p : Bytes) : PsCfg :=
  { en := bit p 1 0, first := u16 p 2 % 1024, last := u16 p 4 % 1024, loop := u16 p 6 % 1024, period := u48 p 8,
    frac := u16 p 14, phase := u48 p 16, idle := i16 p 22 }

def okPsCfg (p : Bytes) : Bool := decide (u8 p 0 < 4) && decide (0 < u48 p 8) && decide (u48 p 16 < u48 p 8)
def putPsCfg (p : Bytes) (t : Tables) : Tables := { t with ps := tabSet {} t.ps (u8 p 0) (readPsCfg p) }

/-- PS_SEG (R264, Table DA-18). -/
def okPsSeg (p : Bytes) : Bool := decide (u8 p 0 < 4) && decide (1 ≤ uN p 4 3)
def putPsSeg (p : Bytes) (t : Tables) : Tables := putSegs (u8 p 0) (u16 p 2 % 1024) [readSeg p 4] t

/-- PS_SHAPE (R264, Table DA-19). -/
def okPsShape (p : Bytes) : Bool := decide (u8 p 0 < 8)
def putPsShape (p : Bytes) (t : Tables) : Tables :=
  { t with shapes := tabSet zeros256 t.shapes (u8 p 0) ((List.range 256).map (fun k => i16 p (4 + 2 * k))) }

/-- PS_PRESET (R265, Table DA-20). -/
def readPreset (p : Bytes) : PsPreset :=
  { id := u8 p 1, base := u16 p 2 % 1024, blank := i16 p 4, code1V := i16 p 6, dds := u8 p 8, rate := u8 p 9, edge := u16 p 10,
    hz := u16 p 12, lvl := u16 p 14, zone := i16 p 16, jam := u32 p 20, ub := u32 p 24 }

/-- A time zone is a multiple of 15 minutes within 14 h. -/
def zoneOk (z : Int) : Bool := decide (z.natAbs ≤ 840) && z.natAbs % 15 == 0

def okPsPreset (p : Bytes) : Bool :=
  let x := readPreset p
  decide (u8 p 0 < 4) && decide (1 ≤ x.id) && decide (x.id ≤ 0x15) && x.code1V != 0 &&
    (if presetUses x then decide (x.dds < 8) else true) &&
    (if x.id = 0x14 then decide (x.rate ≤ 6) && (x.edge == 0 || (decide (5 ≤ x.edge) && decide (x.edge ≤ 1000))) else true) &&
    (if isLtc x.id then (x.edge == 0 || (decide (20000 ≤ x.edge) && decide (x.edge ≤ 30000))) && zoneOk x.zone && decide (x.jam ≤ 86399) else true) &&
    (if x.id = 0x15 then decide (20 ≤ x.hz) && decide (x.hz ≤ 20000) && decide (x.lvl ≤ 600) else true)

def putPsPreset (p : Bytes) (t : Tables) : Tables := buildPreset (u8 p 0) (readPreset p) t

/-! ### Direct commands -/

/-- PS_SEG_WRITE (R251): the timing of a segment between PS_FIRST and PS_LAST can change only by commit. -/
def chkPsSegWrite (p : Bytes) (s : State) : Option Nat :=
  let q := u8 p 0
  let j := u16 p 2 % 1024
  let c := psCfg s.live q
  let a := segOf s.live q j
  let b := readSeg p 4
  if q > 3 ∨ b.dur = 0 then some stBad
  else if c.first ≤ j ∧ j ≤ c.last ∧ (a.dur ≠ b.dur ∨ a.frac ≠ b.frac ∨ a.rep ≠ b.rep ∨ a.back ≠ b.back) then some stBad
  else if videoListed s.live = true ∧ b.kind = 1 ∧ b.dds = 7 then some stBad
  else none

/-- The fields of a segment that a write changes from `a` to `b`, in the segment `c` (R12). -/
def segCopy (a b c : Seg) : Seg :=
  { dur := if a.dur = b.dur then c.dur else b.dur, frac := if a.frac = b.frac then c.frac else b.frac,
    kind := if a.kind = b.kind then c.kind else b.kind, shape := if a.shape = b.shape then c.shape else b.shape,
    dds := if a.dds = b.dds then c.dds else b.dds, amp := if a.amp = b.amp then c.amp else b.amp,
    offset := if a.offset = b.offset then c.offset else b.offset, rep := if a.rep = b.rep then c.rep else b.rep,
    env := if a.env = b.env then c.env else b.env, back := if a.back = b.back then c.back else b.back,
    event := if a.event = b.event then c.event else b.event }

/-- A record gives segment `j` of sequencer `q`. -/
def givesSeg (q j : Nat) (r : Rec) : Bool :=
  u8 r.payload 0 == q &&
    ((r.opcode == 0x0521 && u16 r.payload 2 % 1024 == j) ||
      (r.opcode == 0x0524 && decide (u16 r.payload 2 % 1024 ≤ j) && decide (j < u16 r.payload 2 % 1024 + presetCount (u8 r.payload 1))))

/-- One segment into the live table, and what it changes into the pending one (R251, R12). -/
def writeSeg (p : Bytes) (s : State) : State :=
  let q := u8 p 0
  let j := u16 p 2 % 1024
  let a := segOf s.live q j
  let b := readSeg p 4
  writeParam (givesSeg q j) (putSegs q j [b]) (fun t => putSegs q j [segCopy a b (segOf t q j)] t) s

def applyPsSegWrite (c : Cmd) (s : State) : State := respond c stDone [] (noteDirect c (writeSeg c.payload s))

/-- PS_LTC_ZONE (R266). -/
def chkPsLtcZone (p : Bytes) (s : State) : Option Nat :=
  if u8 p 0 > 3 ∨ zoneOk (i16 p 2) = false then some stBad
  else match (psCfg s.live (u8 p 0)).pre with
    | some x => if isLtc x.id then none else some stState
    | none => some stState

def setZone (q : Nat) (z : Int) (t : Tables) : Tables :=
  { t with ps := tabMod {} t.ps q (fun c => { c with pre := c.pre.map (fun x => if isLtc x.id then { x with zone := z } else x) }) }

def applyPsLtcZone (c : Cmd) (s : State) : State :=
  respond c stDone [] (noteDirect c (writeTables (setZone (u8 c.payload 0) (i16 c.payload 2)) s))

/-! ### Status -/

/-- PS_STATUS (Table DA-23). -/
def psStatus (q : Nat) (s : State) : Bytes :=
  let p := psState s q
  le 1 p.st ++ zeros 1 ++ le 2 p.seg ++ le 2 (if p.st = 2 then repNow s q else 0) ++ le 4 p.starts ++
    le 4 (if presetLtc (psCfg s.live q) then p.label else 0) ++ zeros 2

/-! ### The meanings of the rows -/

def execPsCfg (k : OrdClass) (s : State) : Host.Outcome State Fault Refusal := .next (startStaged k 0x0520 okPsCfg s)
def execPsSeg (k : OrdClass) (s : State) : Host.Outcome State Fault Refusal := .next (startStaged k 0x0521 okPsSeg s)
def execPsSegWrite (k : OrdClass) (s : State) : Host.Outcome State Fault Refusal :=
  .next (startDirect k 0x0522 chkPsSegWrite s)
def execPsShape (k : OrdClass) (s : State) : Host.Outcome State Fault Refusal := .next (startStaged k 0x0523 okPsShape s)
def execPsPreset (k : OrdClass) (s : State) : Host.Outcome State Fault Refusal := .next (startStaged k 0x0524 okPsPreset s)
def execPsLtcZone (k : OrdClass) (s : State) : Host.Outcome State Fault Refusal := .next (startDirect k 0x0525 chkPsLtcZone s)
def execPsStatus (k : OrdClass) (s : State) : Host.Outcome State Fault Refusal :=
  .next (startStatus k 0x0E41 (fun p => decide (u8 p 0 < 4)) (fun p t => psStatus (u8 p 0) t) s)
def execSequencerStart (q : Nat) (s : State) : Host.Outcome State Fault Refusal := .next (if q < 4 then psStart q s else s)
def execSegmentEntry (q : Nat) (s : State) : Host.Outcome State Fault Refusal := .next (if q < 4 then psAdvance q s else s)
def execLtcFrameWrite (q : Nat) (s : State) : Host.Outcome State Fault Refusal := .next (if q < 4 then ltcWrite q s else s)

end Sys2Proof.Machine
end

