-- ==== Sys2Proof/Machine/Crossbar.lean ====
section
/-! DEFINITION. The crossbar (R268 to R275) and the direct paths (R295, R302): slots, routes, the fixed producers and
consumers, and their commands. -/
namespace Sys2Proof.Machine

/-- Samples per frame of a rate code: 1, 2 or 4 (AD_SRATE, DA_SRATE, TE_RATE). -/
def rateH (r : Nat) : Nat := 2 ^ r

/-- The value that a source slot held in the frame before (R272). -/
def slotRead (s : State) (k : Nat) : Int := tabGet 0 s.xb.buf k

/-- The value of a sink: that of the source its route names, or zero when muted (R272, R273). -/
def sinkRead (s : State) (k : Nat) : Int :=
  match tabGet none s.live.routes k with
  | some src => slotRead s src
  | none => 0

/-- A value of a producer, clamped to Q1.31 (R268). -/
def putSlot (k : Nat) (v : Int) (b : Tab Int) : Tab Int := tabSet 0 b k (satInt 32 v)

/-- `h` consecutive slots from `k` on take the values that `f` gives. -/
def putSlots (k h : Nat) (f : Nat → Int) (b : Tab Int) : Tab Int :=
  (List.range h).foldl (fun acc r => putSlot (k + r) (f r) acc) b

/-- The ADCs in STREAM write the first h slots of their group; zero while a change is muted (R198, R270). -/
def adcSlots (inp : FrameInput) (s : State) (b : Tab Int) : Tab Int :=
  (List.range 8).foldl (fun acc n =>
    if adcMode s.live n = 1 ∧ nth 0 s.ad.mute n = 0 then
      putSlots (16352 + 4 * n) (rateH (adcCfg s.live n).srate) (fun r => tabGet 0 inp.adc (16352 + 4 * n + r)) acc
    else acc) b

/-- One frame of the zero time of R198 passes; a saturated sample of an ADC in STREAM or MEASURE sets its AD_OVR bit (R211). -/
def adcFrame (inp : FrameInput) (s : State) : State :=
  let ovr := (List.range 8).foldl (fun o n => if (adcMode s.live n == 1 || adcMode s.live n == 2) && nbit inp.adcOver n then setBit o n else o) s.ad.ovr
  { s with ad := { s.ad with ovr, mute := s.ad.mute.map (fun m => m - 1) } }

/-! ### Direct paths -/

def dpCfg (t : Tables) (d : Nat) : DpCfg := tabGet {} t.dp d

/-- The gains of R295 over `n` enabled inputs. -/
def dpScale (c : DpCfg) (n : Nat) : Nat :=
  if c.sqrtScale then (isqrt (2 ^ 30 / n) + 1) / 2 else (2 ^ 15 / n + 1) / 2

/-- The value of a direct path for the codes of one cycle (R295). -/
def dpValue (c : DpCfg) (codes : List Int) : Int :=
  let on := [0, 1, 2, 3].filter (fun i => nbit c.en i)
  let sum := on.foldl (fun a i => a + nth 0 c.gain i * nth 0 codes (nth 255 c.adc i)) 0
  if on.length = 0 then 0 else ((dpScale c on.length : Nat) * 4 * sum + 2 ^ 27) / 2 ^ 28

/-- The interpolated audio of one MCLK cycle in codes, before the clamp (R230): the filter passes a constant unchanged, full
scale for full scale; what it makes of other samples the manual does not give. Log entry 36 (DESIGN CHOICE). -/
def interpolate (rate cycle : Nat) : List Int → Int
  | [] => 0
  | v :: vs => if vs.all (· == v) then roundDiv v 65536 else Config.filterValue rate cycle (v :: vs)

/-- The sink samples that a DAC reads in a frame, the newest first: the first h slots of its group (R230, R270). -/
def dacSamples (s : State) (d : Nat) : List Int :=
  ((List.range (rateH (outCfg s.live d).srate)).map (fun r => sinkRead s (16352 + 4 * d + r))).reverse

/-- The code that an ADC gives a direct path in one cycle of a frame: zero for the first 32 samples after the selector
switch of a commit, which come 14 cycles after their edges (R198, R199). -/
def dpCode (s : State) (cycle a : Nat) (v : Int) : Int :=
  if nth 0 s.ad.mute a = 48 ∧ 14 ≤ cycle ∧ cycle < 46 then 0 else clampInt (-8192) 8191 v

/-- One cycle of a DAC that takes its direct path: the sum with its audio, if it takes that too, is clamped, and the cycle
is counted when the clamp acts (R231). -/
def dacCycle (s : State) (d : Nat) (codes : List Int) (cycle : Nat) (x : DacState) : DacState :=
  let direct := dpValue (dpCfg s.live d) (codes.mapIdx (dpCode s cycle))
  let audio := if (outCfg s.live d).src = 3 ∧ x.mute = 0 then interpolate (outCfg s.live d).srate cycle x.hist else 0
  { x with audio, direct, clamps := if clamp16 (audio + direct) = audio + direct then x.clamps else satInc 16 x.clamps }

/-- The cycles of a frame in turn, from cycle `at_` on. -/
def dacCycles (s : State) (d : Nat) : List (Nat × List Int) → Nat → DacState → DacState
  | [], _, x => x
  | (n, codes) :: rs, at_, x =>
    dacCycles s d rs (at_ + n) ((List.range n).foldl (fun y i => dacCycle s d codes (at_ + i) y) x)

/-- One frame of a DAC: an AUDIO source takes the samples of its sinks into the interpolator, whose output is zero while a
change is muted (R230); a DIRECT source runs its cycles, unless the DAC has left its source for SAFE (R238).
Log entry 87 (DESIGN CHOICE). -/
def dacFrameOne (inp : FrameInput) (s : State) (d : Nat) (x : DacState) : DacState :=
  let c := outCfg s.live d
  let x1 := if c.src = 1 ∨ c.src = 3 then
      { x with hist := (dacSamples s d ++ x.hist).take (40 * rateH c.srate) } else x
  let x2 := if c.src = 1 then
      { x1 with audio := if x1.mute = 0 then interpolate c.srate 5119 x1.hist else 0 }
    else if (c.src = 2 ∨ c.src = 3) ∧ dacSafe s d = false then dacCycles s d inp.codes 0 x1
    else x1
  { x2 with mute := x2.mute - 1 }

def dacFrame (inp : FrameInput) (s : State) : State :=
  { s with da := { s.da with dac := s.da.dac.mapIdx (dacFrameOne inp s) } }

/-! ### XB_ROUTE, XB_DP_CFG -/

/-- XB_ROUTE (R301, Table XE-12). -/
def okXbRoute (p : Bytes) : Bool :=
  decide (1 ≤ u16 p 4) && decide (u16 p 4 ≤ 16384) && decide (u16 p 0 % 16384 + u16 p 4 ≤ 16384) &&
    (bit p 6 0 || decide (u16 p 2 % 16384 + u16 p 4 ≤ 16384))

/-- The keys `lo` to `lo + n - 1` of a sorted table are cut out. -/
def cutRange {α : Type} (lo n : Nat) (t : Tab α) : Tab α := t.filter (fun e => decide (e.1 < lo) || decide (lo + n ≤ e.1))

/-- A run of routes written whole: what lies below it, the run, what lies above it. -/
def putXbRoute (p : Bytes) (t : Tables) : Tables :=
  let sink := u16 p 0 % 16384
  let src := u16 p 2 % 16384
  let n := u16 p 4
  let run : Tab (Option Nat) := if bit p 6 0 then [] else (List.range n).map (fun j => (sink + j, some (src + j)))
  { t with routes := t.routes.filter (fun e => decide (e.1 < sink)) ++ run ++
                       t.routes.filter (fun e => decide (sink + n ≤ e.1)) }

/-- XB_DP_CFG (R302, Table XE-13). -/
def readDp (p : Bytes) : DpCfg :=
  { sqrtScale := bit p 1 0, en := fld p 2 3 0, adc := [u8 p 4, u8 p 5, u8 p 6, u8 p 7],
    gain := [i16 p 8, i16 p 10, i16 p 12, i16 p 14] }

/-- Every enabled input names an ADC. -/
def dpNamed (en : Nat) (adc : List Nat) : Bool := [0, 1, 2, 3].all (fun i => !nbit en i || nth 255 adc i != 255)

def okXbDpCfg (p : Bytes) : Bool :=
  let c := readDp p
  decide (u8 p 0 < 8) && c.adc.all (fun a => decide (a < 8) || a == 255) && dpNamed c.en c.adc

def putXbDpCfg (p : Bytes) (t : Tables) : Tables := { t with dp := tabSet {} t.dp (u8 p 0) (readDp p) }

/-! ### XB_DP_SET -/

def chkXbDpSet (p : Bytes) (s : State) : Option Nat :=
  if u8 p 0 < 8 ∧ dpNamed (fld p 2 3 0) (dpCfg s.live (u8 p 0)).adc = true then none else some stBad

/-- The enables, and the gains that the mask selects (Table XE-14). -/
def setDp (p : Bytes) (t : Tables) : Tables :=
  { t with dp := tabMod {} t.dp (u8 p 0) (fun c =>
      { c with en := fld p 2 3 0, gain := c.gain.mapIdx (fun i g => if bit p 3 i then i16 p (4 + 2 * i) else g) }) }

/-- The write of XB_DP_SET, copied into the pending tables where the path exists (R12). -/
def writeDp (p : Bytes) (s : State) : State :=
  writeParam (fun r => r.opcode == 0x0611 && u8 r.payload 0 == u8 p 0) (setDp p) (setDp p) s

/-- A parameter write waits while the engines are stopped (Table XE-9), and else acts and is answered DONE (R293). -/
def paramWrite (c : Cmd) (f : State → State) (s : State) : State :=
  if s.dataPlane = .running then respond c stDone [] (noteDirect c (f s)) else s

def applyXbDpSet (c : Cmd) (s : State) : State := paramWrite c (writeDp c.payload) s

/-! ### The meanings of the rows -/

def execXbRoute (k : OrdClass) (s : State) : Host.Outcome State Fault Refusal := .next (startStaged k 0x0610 okXbRoute s)
def execXbDpCfg (k : OrdClass) (s : State) : Host.Outcome State Fault Refusal := .next (startStaged k 0x0611 okXbDpCfg s)
def execXbDpSet (k : OrdClass) (s : State) : Host.Outcome State Fault Refusal := .next (startDirect k 0x0612 chkXbDpSet s)

end Sys2Proof.Machine
end

