-- ==== Sys2Proof/Machine/Engines.lean ====
section
/-! DEFINITION. The turning engines (R276 to R294, R303 to R309): the arithmetic of every operation, one frame of an
engine, the checks and effects of a commit, and the commands and events. -/
namespace Sys2Proof.Machine

/-! ### Views -/

def teCfg (t : Tables) (e : Nat) : TeCfg := tabGet {} t.te e

/-- The entry of a turning list that the engine executes at an index; NOP past TE_LEN. -/
def teOp (t : Tables) (e i : Nat) : TeOp := if i < (teCfg t e).len then tabGet {} t.ops (1024 * e + i) else {}

/-- Log entry 39 (DEDUCED). -/
def teWord (t : Tables) (e w : Nat) : Nat := tabGet 0 t.coefs (4096 * e + w % 4096)
def teCoef (t : Tables) (e w : Nat) : Int := toSigned 32 (teWord t e w)
def teOpnd (t : Tables) (e i : Nat) : Operand := tabGet {} t.opnds (2048 * e + i % 2048)
def delayM (o : TeOp) : Nat := o.arg % 2 ^ 19
def meterW (o : TeOp) : Nat := o.arg % 2 ^ 16

/-- Cycles per sample (Table XE-5). -/
def sampleCost (o : TeOp) : Nat :=
  match o.kind with
  | 1 => 1
  | 2 => 2
  | 3 => (o.n + 3) / 4 + 3
  | 4 => 3 * o.n + 2
  | 5 => 3
  | 6 => 2
  | 7 => 246
  | 8 => 3
  | _ => 0

/-- The cost of an operation (R280). -/
def opCost (o : TeOp) : Nat := if o.kind = 0 then 1 else 4 + rateH o.rate * sampleCost o

/-- The list of an engine. Log entry 39 (DEDUCED). -/
def teList (t : Tables) (e : Nat) : List (Nat × TeOp) := (List.range (teCfg t e).len).map (fun i => (i, teOp t e i))

/-- C of R290. -/
def engineCost (t : Tables) (e : Nat) : Nat := (teList t e).foldl (fun a p => a + opCost p.2) 40

/-! ### Arithmetic (R281) -/

/-- A saturated value of `w` bits, and whether it saturated. -/
def satC (w : Nat) (v : Int) : Int × Nat := (satInt w v, if satInt w v = v then 0 else 1)

/-- An addition into the accumulator. -/
def accC (a : Int × Nat) (v : Int) : Int × Nat :=
  let r := satC 64 (a.1 + v)
  (r.1, a.2 + r.2)

/-- A product in Q8.56. -/
def prod (x g : Int) : Int := x * g / 16

/-- The value of a sample with its saturations added. -/
def outC (w : Nat) (sats : Nat) (v : Int) : Int × Nat :=
  let r := satC w v
  (r.1, sats + r.2)

/-- GAIN (R282). -/
def gainOp (x g : Int) : Int × Nat := outC 32 0 ((x * g + 2 ^ 28) / 2 ^ 29)

/-- The scale of a MIX of `n` enabled inputs (R283). -/
def mixScale (sqrtScale : Bool) (n : Nat) : Nat :=
  if sqrtScale then (isqrt (2 ^ 60 / n) + 1) / 2 else (2 ^ 30 / n + 1) / 2

/-- MIX over the enabled inputs, as pairs of sample and gain (R283). -/
def mixOp (sqrtScale : Bool) (xs : List (Int × Int)) : Int × Nat :=
  if xs.length = 0 then (0, 0)
  else
    let a := xs.foldl (fun a p => accC a (prod p.1 p.2)) (0, 0)
    outC 32 a.2 ((a.1 * mixScale sqrtScale xs.length + 2 ^ 53) / 2 ^ 54)

/-- One BIQUAD section: coefficients b0, b1, b2, a1, a2 and history x1, x2, y1, y2; answers the output, the new history
and the saturations (R284). -/
def biquadSection (g h : List Int) (x : Int) : Int × List Int × Nat :=
  let a0 := accC (0, 0) (prod x (nth 0 g 0))
  let a1 := accC a0 (prod (nth 0 h 0) (nth 0 g 1))
  let a2 := accC a1 (prod (nth 0 h 1) (nth 0 g 2))
  let a3 := accC a2 (-prod (nth 0 h 2) (nth 0 g 3))
  let a4 := accC a3 (-prod (nth 0 h 3) (nth 0 g 4))
  let y := outC 32 a4.2 ((a4.1 + 2 ^ 24) / 2 ^ 25)
  (y.1, [x, nth 0 h 0, y.1, nth 0 h 2], y.2)

/-- The cascade of `k` sections from section `j` on. -/
def biquadGo (coef : Nat → Int) : Nat → Nat → List Int → Int → Int × List Int × Nat
  | 0, _, _, x => (x, [], 0)
  | k + 1, j, hist, x =>
    let g := [coef (5 * j), coef (5 * j + 1), coef (5 * j + 2), coef (5 * j + 3), coef (5 * j + 4)]
    let h := [nth 0 hist (4 * j), nth 0 hist (4 * j + 1), nth 0 hist (4 * j + 2), nth 0 hist (4 * j + 3)]
    let r := biquadSection g h x
    let rest := biquadGo coef k (j + 1) hist r.1
    (rest.1, r.2.1 ++ rest.2.1, r.2.2 + rest.2.2)

/-- DELAY with tap `d` on a line of M + 1 samples (R285). -/
def delayOp (m d : Nat) (x : Int) (st : OpState) : Int × OpState :=
  let size := m + 1
  let line := tabSet 0 st.line st.pos x
  (tabGet 0 line ((st.pos + size - d % size) % size), { st with line, pos := (st.pos + 1) % size })

/-- METER takes a sample (R286). -/
def meterAdd (x : Int) (st : OpState) : OpState :=
  { st with mMin := if st.mCount = 0 ∨ x < st.mMin then x else st.mMin,
            mMax := if st.mCount = 0 ∨ x > st.mMax then x else st.mMax,
            mSum := st.mSum + (x * x).toNat / 2 ^ 24, mCount := st.mCount + 1 }

/-- One step of the dither generator (R288). -/
def lfsr (g : Nat) : Nat := if g % 2 = 1 then Nat.xor (g / 2) 0x80200003 else g / 2

/-- DITHER to `w` bits (R288). -/
def ditherOp (tpdf : Bool) (w : Nat) (x : Int) (st : OpState) : Int × Nat × OpState :=
  let q := 2 ^ (32 - w)
  let g1 := lfsr st.gen
  let g2 := lfsr g1
  let d : Int := if tpdf then (g1 / 2 ^ w : Nat) + (g2 / 2 ^ w : Nat) - (q : Int) else 0
  let y := outC 32 0 ((x + d + q / 2) / q * q)
  (y.1, y.2, if tpdf then { st with gen := g2 } else st)

/-- The value that the generator is reloaded with at frame 0 of a whole second (R288). -/
def ditherSeed (sec seed e i : Nat) : Nat :=
  let g := Nat.xor (Nat.xor (sec % 2 ^ 32) (seed % 2 ^ 32)) (e * 2 ^ 24 + i * 2 ^ 8)
  if g = 0 then 1 else g

/-! ### One frame of an engine (R278) -/

/-- The value at an input address (Table XE-3). -/
def teRead (s : State) (e a : Nat) : Int :=
  match a / 16384 % 4 with
  | 0 => sinkRead s (a % 16384)
  | 1 => tabGet 0 s.xb.work (1024 * e + a % 1024)
  | _ => 0

/-- A result goes to its destination: a source slot of the new buffer, a work word, or nowhere. -/
def teWrite (e a : Nat) (y : Int) (r : State × Tab Int) : State × Tab Int :=
  match a / 16384 % 4 with
  | 0 => (r.1, putSlot (a % 16384) y r.2)
  | 1 => ({ r.1 with xb := { r.1.xb with work := tabSet 0 r.1.xb.work (1024 * e + a % 1024) y } }, r.2)
  | _ => r

def addSats (e n : Nat) (s : State) : State :=
  if n = 0 then s
  else
    let cap : Nat → Nat := fun v => if v + n < 2 ^ 32 then v + n else 2 ^ 32 - 1
    { s with xb := { s.xb with sats := tabMod 0 s.xb.sats e cap } }

/-- The enabled inputs of a MIX at sample `r`. -/
def mixInputs (s : State) (e : Nat) (o : TeOp) (r : Nat) : List (Int × Int) :=
  (List.range o.n).filterMap fun i =>
    let p := teOpnd s.live e (o.src + i)
    if p.en then some (teRead s e (p.addr + r), teCoef s.live e p.coef) else none

def modAsrc (n : Nat) (f : AsrcState → AsrcState) (s : State) : State :=
  { s with xb := { s.xb with asrc := modNth f s.xb.asrc n } }

/-- Samples of an ASRC ring. -/
def ringLen : Nat := 8192

/-- The running, locked receivers write the audio words of this frame into their rings (R287). -/
def asrcWrite (inp : FrameInput) (s : State) : State :=
  let put : Nat → List Int → List Int := fun k r => ((tabGet [] inp.asrc k).reverse ++ r).take ringLen
  { s with xb := { s.xb with asrc := s.xb.asrc.mapIdx (fun n a =>
      if (nth {} s.dg.rx n).lock then { a with ringA := put (2 * n) a.ringA, ringB := put (2 * n + 1) a.ringB } else a) } }

/-- The samples that an output of the ASRC is made from: those of the filter, whose middle lags the newest sample by 40, 24
of the buffer and 16 of the filter. -/
def asrcSpan (ring : List Int) : List Int := (ring.drop 24).take 33

/-- One output sample of an ASRC before saturation: zero without lock; a constant passes unchanged; what the filter makes of
other samples the manual does not give. Log entry 36 (DESIGN CHOICE). -/
def asrcOut (a : AsrcState) (sub r : Nat) : Int :=
  let ring := if sub = 0 then a.ringA else a.ringB
  if a.lock = false then 0
  else match asrcSpan ring with
    | [] => 0
    | v :: vs => if vs.all (· == v) then v else Config.asrcValue a.ratio r (v :: vs)

/-- Sample `r` of an operation: its result, its new state, its saturations. -/
def opSample (s : State) (e : Nat) (o : TeOp) (st : OpState) (r : Nat) : Int × OpState × Nat :=
  let x := teRead s e (o.src + r)
  match o.kind with
  | 1 => (x, st, 0)
  | 2 => let y := gainOp x (teCoef s.live e o.cbase); (y.1, st, y.2)
  | 3 => let y := mixOp (nbit o.flags 0) (mixInputs s e o r); (y.1, st, y.2)
  | 4 =>
    let y := biquadGo (fun i => teCoef s.live e (o.cbase + i)) o.n 0 st.hist x
    (y.1, { st with hist := y.2.1 }, y.2.2)
  | 5 => let y := delayOp (delayM o) (teWord s.live e o.cbase) x st; (y.1, y.2, 0)
  | 6 => (0, meterAdd x st, 0)
  | 7 => let y := outC 32 0 (asrcOut (nth {} s.xb.asrc (o.arg % 4)) (o.arg / 4 % 2) r); (y.1, st, y.2)
  | 8 => let y := ditherOp (nbit o.flags 0) (o.arg % 32) x st; (y.1, y.2.2, y.2.1)
  | _ => (0, st, 0)

/-- The samples of an operation in order, each computed completely before the next (R278). -/
def opSamples (e : Nat) (o : TeOp) : Nat → Nat → OpState → State × Tab Int → OpState × (State × Tab Int)
  | 0, _, st, acc => (st, acc)
  | k + 1, r, st, acc =>
    let y := opSample acc.1 e o st r
    let acc1 := teWrite e (o.dst + r) y.1 acc
    opSamples e o k (r + 1) y.2.1 (addSats e y.2.2 acc1.1, acc1.2)

/-- The frame's number within its Spindle second. -/
def frameInSec (s : State) : Nat := s.spindle % uPerS / frameLen (f441 s)

/-- What frame 0 of a whole second does to the state of an operation: a dither reload, the start of a meter window. -/
def opSecond (s : State) (e i : Nat) (o : TeOp) (st : OpState) : OpState :=
  if frameInSec s ≠ 0 then st
  else if o.kind = 8 then { st with gen := ditherSeed (secOf s.spindle) (teCfg s.live e).seed e i }
  else if o.kind = 6 then { st with mCount := 0, mSum := 0, mMin := 0, mMax := 0 }
  else st

/-- The end of a METER window after this frame (R286). -/
def opWindowEnd (s : State) (o : TeOp) (st : OpState) : OpState :=
  let j := frameInSec s + 1
  if o.kind = 6 ∧ (j % meterW o = 0 ∨ j = fsHz (f441 s)) then
    { st with ended := some (st.mMin, st.mMax, st.mSum, st.mCount), mCount := 0, mSum := 0, mMin := 0, mMax := 0 }
  else st

/-- One operation of an engine. -/
def runOp (e : Nat) (acc : State × Tab Int) (p : Nat × TeOp) : State × Tab Int :=
  if p.2.kind = 0 then acc
  else
    let key := 1024 * e + p.1
    let st := opSecond acc.1 e p.1 p.2 (tabGet {} acc.1.xb.op key)
    let r := opSamples e p.2 (rateH p.2.rate) 0 st acc
    let s1 := r.2.1
    ({ s1 with xb := { s1.xb with op := tabSet {} s1.xb.op key (opWindowEnd s1 p.2 r.1) } }, r.2.2)

/-- Publishes one operation's ended window (R286). -/
def pubMeter (st : OpState) : OpState :=
  match st.ended with
  | none => st
  | some (a, b, c, n) => { st with ended := none, pMin := a, pMax := b, pSum := c, pCount := n, epoch := nextEpoch st.epoch }

/-- METER_WINDOW_END: every window that has ended is published in one edge. Log entry 40 (DEDUCED). -/
def pubMeters (s : State) : State := { s with xb := { s.xb with op := s.xb.op.map (fun e => (e.1, pubMeter e.2)) } }

/-- One engine in one frame; an engine that abandoned the frame completed only its first operations (R291).
Log entry 40 (DEDUCED). -/
def engineFrame (acc : State × Tab Int) (e : Nat) : State × Tab Int :=
  if (teCfg acc.1.live e).en = false then acc
  else
    let todo := teList acc.1.live e
    let cut := acc.1.xb.abandon.find? (fun a => a.1 == e)
    let list := match cut with
      | some a => todo.take a.2
      | none => todo
    let cyc := if cut.isSome then 10240 else engineCost acc.1.live e
    let r := list.foldl (runOp e) acc
    let top : Nat → Nat := fun m => if m < cyc then cyc else m
    ({ r.1 with xb := { r.1.xb with maxcyc := tabMod 0 r.1.xb.maxcyc e top } }, r.2)

/-- The frame ends for the ASRCs: one whose receiver has lost lock is silent from now on (R287). -/
def asrcEnd (a : AsrcState) : AsrcState := if a.lost then { a with lock := false, ratio := 0, lost := false } else a

/-- Every engine, over the sinks of the frame before; the new source buffer grows beside the old one. -/
def enginesFrame (inp : FrameInput) (s : State) (b : Tab Int) : State × Tab Int :=
  let r := (List.range 32).foldl engineFrame (pubMeters (asrcWrite inp s), b)
  ({ r.1 with xb := { r.1.xb with abandon := [], asrc := r.1.xb.asrc.map asrcEnd } }, r.2)

/-! ### Commit checks (R285, R287, R289, R290) -/

/-- An address of Table XE-3 whose h items lie inside their space. -/
def addrOk (a h : Nat) : Bool :=
  match a / 16384 with
  | 0 => decide (a % 16384 + h ≤ 16384)
  | 1 => decide (a % 1024 + h ≤ 1024)
  | 2 => true
  | _ => false

/-- State words of an operation (Table XE-5). -/
def stateWords (o : TeOp) : Nat :=
  match o.kind with
  | 4 => 4 * o.n
  | 5 => 1
  | 6 => 12
  | 7 => 32
  | 8 => 2
  | _ => 0

def coefWords (o : TeOp) : Nat :=
  match o.kind with
  | 2 => 1
  | 4 => 5 * o.n
  | 5 => 1
  | _ => 0

/-- The codes of one entry are none that Tables XE-3 to XE-5 reserve (R3): the operation, the rate, the address spaces; TE_IN
of a MIX is no address. -/
def opCodesOk (o : TeOp) : Bool :=
  decide (o.kind ≤ 8) && decide (o.rate ≤ 2) && o.dst / 16384 != 3 && (o.kind == 3 || o.src / 16384 != 3)

/-- The fields of one entry lie in their ranges (R289). Log entry 39 (DEDUCED). -/
def opFieldsOk (t : Tables) (e : Nat) (o : TeOp) : Bool :=
  let h := rateH o.rate
  let kind : Bool := match o.kind with
    | 3 => decide (1 ≤ o.n) && decide (o.n ≤ 64) && decide (o.src % 2048 + o.n ≤ 2048) &&
        (List.range o.n).all (fun i => addrOk (teOpnd t e (o.src % 2048 + i)).addr h)
    | 4 => decide (1 ≤ o.n) && decide (o.n ≤ 16)
    | 5 => decide (1 ≤ delayM o) && decide (delayM o ≤ 262144) && decide (teWord t e o.cbase ≤ delayM o)
    | 6 => decide (1 ≤ meterW o) && decide (meterW o ≤ fsHz t.synth.f441) && o.dst / 16384 == 2
    | 8 => decide (8 ≤ o.arg % 32) && decide (o.arg % 32 ≤ 24)
    | _ => true
  opCodesOk o && (o.kind == 0 ||
    (kind && addrOk o.dst h && (o.kind == 3 || o.kind == 7 || addrOk o.src h) &&
      decide (o.cbase % 4096 + coefWords o ≤ 4096) && decide (o.sbase % 4096 + stateWords o ≤ 4096) &&
      (o.dst / 16384 != 0 || decide (o.dst + h ≤ 16320))))

/-- No two of a list of ranges, as first item and length, overlap. -/
def rangesApart : List (Nat × Nat) → Bool
  | [] => true
  | r :: rs => rs.all (fun q => decide (r.1 + r.2 ≤ q.1) || decide (q.1 + q.2 ≤ r.1)) && rangesApart rs

/-- The ranges of source slots that the operations of an enabled engine write. -/
def engineDests (t : Tables) (e : Nat) : List (Nat × Nat) :=
  if (teCfg t e).en then
    (teList t e).filterMap (fun p => if p.2.kind ≠ 0 ∧ p.2.dst / 16384 = 0 then some (p.2.dst, rateH p.2.rate) else none)
  else []

/-- R289 on one engine. -/
def engineOk (t : Tables) (e : Nat) : Bool :=
  if (teCfg t e).en = false then true
  else
    let l := teList t e
    l.all (fun p => opFieldsOk t e p.2) &&
      rangesApart ((l.filter (fun p => stateWords p.2 != 0)).map (fun p => (p.2.sbase % 4096, stateWords p.2))) &&
      rangesApart ((l.filter (fun p => p.2.kind == 3)).map (fun p => (p.2.src % 2048, p.2.n)))

/-- The receivers' subframes that the ASRC operations of an engine take. -/
def asrcOf (t : Tables) (e : Nat) : List Nat :=
  (teList t e).filterMap (fun p => if p.2.kind = 7 then some (p.2.arg % 8) else none)

/-- The receivers' subframes that ASRC operations take, over all engines (R287). -/
def asrcUses (t : Tables) : List Nat := (List.range 32).flatMap (asrcOf t)

/-- Blocks of the delay-line region in use (R285). -/
def delayBlocks (t : Tables) : Nat :=
  (List.range 32).foldl (fun a e => (teList t e).foldl (fun b p => if p.2.kind = 5 then b + (delayM p.2 + 16) / 16 else b) a) 0

/-- Every slot of a list of numbers occurs once. -/
def allDistinct : List Nat → Bool
  | [] => true
  | x :: xs => !xs.contains x && allDistinct xs

/-- The answer of R285, R287, R289 and R290 to a configuration; none: passed. `flows`: the source ranges of the receive
flows (R270). -/
def teCheck (t : Tables) (flows : List (Nat × Nat)) : Option Nat :=
  if ((List.range 32).all (engineOk t) && allDistinct (asrcUses t) &&
      rangesApart (flows ++ (List.range 32).flatMap (engineDests t))) = false then some stBad
  else if (List.range 32).any (fun e => (teCfg t e).en && decide (10240 < engineCost t e)) || decide (141312 < delayBlocks t) then
    some stResource
  else none

/-- The state of an operation survives the commit (R292). -/
def opSurvives (old new : Tables) (key : Nat) : Bool :=
  let a := tabGet {} old.ops key
  let b := tabGet {} new.ops key
  a.kind == b.kind && a.rate == b.rate && a.n == b.n && a.sbase == b.sbase && (a.kind != 5 || delayM a == delayM b)

/-- Whether an ASRC operation of a receiver keeps its estimate. -/
def asrcSurvives (old new : Tables) (rx : Nat) : Bool :=
  new.ops.any (fun p => p.2.kind == 7 && p.2.arg % 4 == rx && opSurvives old new p.1)

/-- The engines at the commit's frame boundary. -/
def teCommit (old new : Tables) (s : State) : State :=
  { s with xb := { s.xb with op := s.xb.op.filter (fun e => opSurvives old new e.1),
                             asrc := s.xb.asrc.mapIdx (fun rx a => if asrcSurvives old new rx then a else { a with lock := false, ratio := 0, lost := false }) } }

/-- Table XE-9, HUSH exit: the work stores and the operation states read zero. -/
def teHush (s : State) : State :=
  { s with xb := { s.xb with buf := [], work := [], op := [], abandon := [], asrc := List.replicate 4 {} } }

/-! ### Staged payloads -/

/-- TE_CFG (R303, Table XE-15). -/
def okTeCfg (p : Bytes) : Bool := decide (u8 p 0 < 32) && decide (u16 p 2 % 2048 ≤ 1024)

def putTeCfg (p : Bytes) (t : Tables) : Tables :=
  { t with te := tabSet {} t.te (u8 p 0) { en := bit p 1 0, len := u16 p 2 % 2048, seed := u32 p 4 } }

/-- A table write (R304, Table XE-16) into a store of `size` entries. -/
def okTeRun (size : Nat) (p : Bytes) : Bool :=
  decide (u8 p 0 < 32) && decide (1 ≤ u16 p 4) && decide (u16 p 2 + u16 p 4 ≤ size)

/-- Table XE-4. -/
def readOp (p : Bytes) (i : Nat) : TeOp :=
  { kind := u8 p i, rate := fld p (i + 1) 7 6, flags := fld p (i + 1) 5 0, dst := u16 p (i + 2), src := u16 p (i + 4),
    n := u16 p (i + 6), cbase := u16 p (i + 8) % 4096, sbase := u16 p (i + 10) % 4096, arg := u32 p (i + 12) }

/-- Table XE-6. -/
def readOpnd (p : Bytes) (i : Nat) : Operand :=
  { addr := u16 p i, en := bit p (i + 3) 7, coef := u16 p (i + 2) % 4096 }

/-- TE_OPS: every entry of the run is read whole, and none holds a reserved code (R3, R304). -/
def okTeOps (p : Bytes) : Bool := okTeRun 1024 p && (List.range (u16 p 4)).all (fun j => opCodesOk (readOp p (8 + 16 * j)))

/-- TE_OPERANDS: no address names the reserved space (R3, R304). -/
def okTeOperands (p : Bytes) : Bool :=
  okTeRun 2048 p && (List.range (u16 p 4)).all (fun j => (readOpnd p (8 + 4 * j)).addr / 16384 != 3)

def putTeOps (p : Bytes) (t : Tables) : Tables :=
  { t with ops := tabSetList {} t.ops (1024 * u8 p 0 + u16 p 2) ((List.range (u16 p 4)).map (fun j => readOp p (8 + 16 * j))) }

def putTeOperands (p : Bytes) (t : Tables) : Tables :=
  { t with opnds := tabSetList {} t.opnds (2048 * u8 p 0 + u16 p 2) ((List.range (u16 p 4)).map (fun j => readOpnd p (8 + 4 * j))) }

def putTeCoefs (p : Bytes) (t : Tables) : Tables :=
  { t with coefs := tabSetList 0 t.coefs (4096 * u8 p 0 + u16 p 2) ((List.range (u16 p 4)).map (fun j => u32 p (8 + 4 * j))) }

/-- Unity gain (R282). -/
def unity : Nat := 0x20000000

/-- The list entries of a preset (Table XE-22): identifier, samples per frame, N, first sink, first source, first store
entry, argument. -/
def presetOps (id rate n inp out res arg : Nat) : List TeOp :=
  let h := rateH rate
  let one : Nat → TeOp := fun j =>
    let b : TeOp := { rate, dst := out + j * h, src := inp + j * h }
    match id with
    | 2 => { b with kind := 2, cbase := res + j }
    | 3 => { b with kind := 4, n := 4, cbase := res, sbase := res + 16 * j }
    | 4 => { b with kind := 5, cbase := res + j, sbase := res + j, arg }
    | 5 => { b with kind := 6, dst := 0x8000, sbase := res + 12 * j, arg }
    | 6 => { b with kind := 7, src := 0x8000, sbase := res + 32 * j, arg := arg + 4 * j }
    | _ => { b with kind := 8, flags := 1, sbase := res + 2 * j, arg }
  if id = 1 then [{ kind := 3, rate, flags := arg, dst := out, src := res, n }] else (List.range n).map one

/-- Words of a preset's coefficients and operands. -/
def presetCoefs (id n : Nat) : List Nat :=
  match id with
  | 1 => List.replicate n unity
  | 2 => List.replicate n unity
  | 3 => [unity, 0, 0, 0, 0, unity, 0, 0, 0, 0, unity, 0, 0, 0, 0, unity, 0, 0, 0, 0]
  | 4 => List.replicate n 0
  | _ => []

def presetStateWords (id n : Nat) : Nat :=
  match id with
  | 3 => 16 * n
  | 4 => n
  | 5 => 12 * n
  | 6 => 32 * n
  | 7 => 2 * n
  | _ => 0

def presetArgOk (id n arg : Nat) : Bool :=
  match id with
  | 1 => decide (arg ≤ 1)
  | 4 => decide (1 ≤ arg) && decide (arg ≤ 262144)
  | 5 => decide (1 ≤ arg) && decide (arg ≤ 48000)
  | 6 => decide (arg ≤ 3) && decide (n ≤ 2)
  | 7 => decide (8 ≤ arg) && decide (arg ≤ 24)
  | _ => true

/-- TE_PRESET (R307, Table XE-21). -/
def okTePreset (p : Bytes) : Bool :=
  let id := u8 p 1
  let n := u8 p 8
  let h := rateH (fld p 9 1 0)
  let res := u16 p 10 % 4096
  let outs := if id = 1 then 1 else n
  decide (u8 p 0 < 32) && decide (1 ≤ id) && decide (id ≤ 7) && decide (1 ≤ n) && decide (n ≤ 64) &&
    decide (fld p 9 1 0 ≤ 2) && presetArgOk id n (u32 p 12) && decide (u16 p 2 + outs ≤ 1024) &&
    (id == 6 || decide (u16 p 4 % 16384 + n * h ≤ 16384)) && (id == 5 || decide (u16 p 6 % 16384 + outs * h ≤ 16384)) &&
    decide (res + (presetCoefs id n).length ≤ 4096) && decide (res + presetStateWords id n ≤ 4096) &&
    (id != 1 || decide (res + n ≤ 2048))

def putTePreset (p : Bytes) (t : Tables) : Tables :=
  let e := u8 p 0
  let id := u8 p 1
  let base := u16 p 2
  let n := u8 p 8
  let rate := fld p 9 1 0
  let res := u16 p 10 % 4096
  let os := presetOps id rate n (u16 p 4 % 16384) (u16 p 6 % 16384) res (u32 p 12)
  let opnds : List Operand := if id = 1 then
      (List.range n).map (fun i => { addr := u16 p 4 % 16384 + i * rateH rate, en := true, coef := res + i }) else []
  { t with ops := tabSetList {} t.ops (1024 * e + base) os,
           opnds := tabSetList {} t.opnds (2048 * e + res) opnds,
           coefs := tabSetList 0 t.coefs (4096 * e + res) (presetCoefs id n),
           te := tabMod {} t.te e (fun c => { c with en := true, len := if c.len < base + os.length then base + os.length else c.len }) }

/-! ### Direct writes (R293, R294, R305, R306) -/

/-- The bytes of a 32-bit word from an integer. -/
def word32 (v : Int) : Nat := (v % (2 ^ 32 : Nat)).toNat

def putWords (e w : Nat) (vs : List Nat) (t : Tables) : Tables := { t with coefs := tabSetList 0 t.coefs (4096 * e + w) vs }

/-- Writing the value `v` at coefficient word `w` would set a tap above its M (R294). -/
def tapAbove (t : Tables) (e w v : Nat) : Bool :=
  (teList t e).any (fun p => p.2.kind == 5 && p.2.cbase % 4096 == w && decide (delayM p.2 < v))

/-- A run of words takes some but not all of the words of a section of a committed BIQUAD. -/
def splitsSection (t : Tables) (e first n : Nat) : Bool :=
  (teList t e).any (fun p => p.2.kind == 4 && (List.range p.2.n).any (fun j =>
    let lo := p.2.cbase % 4096 + 5 * j
    let hit := (List.range 5).filter (fun i => decide (first ≤ lo + i) && decide (lo + i < first + n))
    hit.length != 0 && hit.length != 5))

/-- A record gives coefficient word `w` of engine `e`. -/
def givesCoef (e w : Nat) (r : Rec) : Bool :=
  u8 r.payload 0 == e &&
    ((r.opcode == 0x0623 && decide (u16 r.payload 2 ≤ w) && decide (w < u16 r.payload 2 + u16 r.payload 4)) ||
      (r.opcode == 0x0630 && decide (u16 r.payload 10 % 4096 ≤ w) &&
        decide (w < u16 r.payload 10 % 4096 + (presetCoefs (u8 r.payload 1) (u8 r.payload 8)).length)))

/-- A run of words at `w`, in the live tables, and each of them in the pending tables where it exists (R12). -/
def writeRun (e w : Nat) (vs : List Nat) (s : State) : State :=
  let one : State → Nat → State := fun t j =>
    writeParam (givesCoef e (w + j)) id (putWords e (w + j) [nth 0 vs j]) t
  (List.range vs.length).foldl one { s with live := putWords e w vs s.live }

/-- The words of a run that exist in the pending tables would set a tap there above its M. -/
def pendAbove (s : State) (e w v : Nat) : Bool :=
  match s.mb.pend with
  | some p => pendHas (givesCoef e w) p && tapAbove p.tables e w v
  | none => false

/-- TE_COEF. -/
def chkTeCoef (p : Bytes) (s : State) : Option Nat :=
  let e := u8 p 0
  let bad : Nat → Nat → Bool := fun w v => tapAbove s.live e w v || pendAbove s e w v
  if okTeRun 4096 p = false ∨ splitsSection s.live e (u16 p 2) (u16 p 4) = true then some stBad
  else if (List.range (u16 p 4)).any (fun j => bad (u16 p 2 + j) (u32 p (8 + 4 * j))) then some stBad
  else none

def writeCoef (p : Bytes) (s : State) : State :=
  writeRun (u8 p 0) (u16 p 2) ((List.range (u16 p 4)).map (fun j => u32 p (8 + 4 * j))) s

def applyTeCoef (c : Cmd) (s : State) : State := paramWrite c (writeCoef c.payload) s

/-- Words that belong to the entry TE_IDX, at the place that `at_` gives in each set of tables: the pending tables take them
at their own entry, where one of the same use exists (R12). -/
def writeEntry (p : Bytes) (at_ : Tables → Option Nat) (vs : List Nat) (s : State) : State :=
  let f : Tables → Tables := fun t => match at_ t with
    | some w => putWords (u8 p 0) w vs t
    | none => t
  writeTables f s

/-- TE_ENABLE names a committed MIX and inputs within its m (Table XE-17). -/
def chkTeEnable (p : Bytes) (s : State) : Option Nat :=
  let o := teOp s.live (u8 p 0) (u16 p 2)
  if u8 p 0 < 32 ∧ u16 p 2 < 1024 ∧ o.kind = 3 ∧ u8 p 4 ≤ 63 ∧ 1 ≤ u8 p 5 ∧ u8 p 5 ≤ 32 ∧ u8 p 4 + u8 p 5 ≤ o.n then none
  else some stBad

/-- The enable bits of a run of inputs of a MIX entry, in its own operand entries; inputs that the entry has not are none. -/
def putEnables (p : Bytes) (t : Tables) : Tables :=
  let o := teOp t (u8 p 0) (u16 p 2)
  let key := 2048 * u8 p 0 + o.src % 2048
  if o.kind = 3 then
    { t with opnds := (List.range (u8 p 5)).foldl (fun a j =>
        if u8 p 4 + j < o.n then tabMod {} a (key + u8 p 4 + j) (fun x => { x with en := nbit (u32 p 8) j }) else a) t.opnds }
  else t

def applyTeEnable (c : Cmd) (s : State) : State := paramWrite c (writeTables (putEnables c.payload)) s

/-- The coefficient word that TE_GAIN_DB names in a set of tables: that of a GAIN, or of an input of a MIX. -/
def gainWordAt (p : Bytes) (t : Tables) : Option Nat :=
  let o := teOp t (u8 p 0) (u16 p 2)
  if o.kind = 2 ∧ u8 p 4 = 0 then some (o.cbase % 4096)
  else if o.kind = 3 ∧ u8 p 4 < o.n then some (teOpnd t (u8 p 0) (o.src % 2048 + u8 p 4)).coef
  else none

/-- TE_GAIN_DB (Table XE-18). -/
def chkTeGainDb (p : Bytes) (s : State) : Option Nat :=
  let g := i16 p 6
  if u8 p 0 < 32 ∧ u16 p 2 < 1024 ∧ (gainWordAt p s.live).isSome = true ∧ (g = -32768 ∨ (-14400 ≤ g ∧ g ≤ 1200)) then none
  else some stBad

/-- The pending tables take a gain where their entry is of the same operation. -/
def sameKind (p : Bytes) (s : State) (at_ : Tables → Option Nat) (t : Tables) : Option Nat :=
  if (teOp t (u8 p 0) (u16 p 2)).kind = (teOp s.live (u8 p 0) (u16 p 2)).kind then at_ t else none

def writeGain (p : Bytes) (s : State) : State :=
  writeEntry p (sameKind p s (gainWordAt p)) [if i16 p 6 = -32768 then 0 else gainWord (i16 p 6)] s

def applyTeGainDb (c : Cmd) (s : State) : State := paramWrite c (writeGain c.payload) s

/-- The tap word of a DELAY entry. -/
def tapWordAt (p : Bytes) (t : Tables) : Option Nat :=
  let o := teOp t (u8 p 0) (u16 p 2)
  if o.kind = 5 then some (o.cbase % 4096) else none

/-- The tap `v` of the entry would stand above an M in a set of tables. -/
def entryAbove (p : Bytes) (v : Nat) (t : Tables) : Bool :=
  match tapWordAt p t with
  | some w => tapAbove t (u8 p 0) w v
  | none => false

/-- TE_DELAY_SET (Table XE-19). -/
def chkTeDelaySet (p : Bytes) (s : State) : Option Nat :=
  let pend := match s.mb.pend with | some x => entryAbove p (u32 p 4) x.tables | none => false
  if u8 p 0 < 32 ∧ u16 p 2 < 1024 ∧ (tapWordAt p s.live).isSome = true ∧ entryAbove p (u32 p 4) s.live = false ∧ pend = false then none
  else some stBad

def writeTap (p : Bytes) (s : State) : State := writeEntry p (tapWordAt p) [u32 p 4] s

def applyTeDelaySet (c : Cmd) (s : State) : State := paramWrite c (writeTap c.payload) s

/-- The five quotients of R306 in 128-bit fixed point: b0, b1, b2, a0, a1, a2 as the manual's formulas give them.
Log entry 37 (DESIGN CHOICE). -/
def eqRaw (typ : Nat) (a c al : Int) : List Int :=
  let one := fxOne
  let sa := 2 * fxMul (fxSqrt a) al
  match typ with
  | 1 => [one + fxMul al a, -2 * c, one - fxMul al a, one + fxDiv al a, -2 * c, one - fxDiv al a]
  | 2 => [fxMul a ((a + one) - fxMul (a - one) c + sa), 2 * fxMul a ((a - one) - fxMul (a + one) c),
          fxMul a ((a + one) - fxMul (a - one) c - sa),
          (a + one) + fxMul (a - one) c + sa, -2 * ((a - one) + fxMul (a + one) c), (a + one) + fxMul (a - one) c - sa]
  | 3 => [fxMul a ((a + one) + fxMul (a - one) c + sa), -2 * fxMul a ((a - one) + fxMul (a + one) c),
          fxMul a ((a + one) + fxMul (a - one) c - sa),
          (a + one) - fxMul (a - one) c + sa, 2 * ((a - one) - fxMul (a + one) c), (a + one) - fxMul (a - one) c - sa]
  | 4 => [(one - c) / 2, one - c, (one - c) / 2, one + al, -2 * c, one - al]
  | _ => [(one + c) / 2, -(one + c), (one + c) / 2, one + al, -2 * c, one - al]

/-- The section of TE_EQ_BAND as Q3.29 integers, before the range check (R306). -/
def eqSection (typ : Nat) (cdb : Int) (fCenti qCenti fs : Nat) : List Int :=
  if typ = 0 then [(unity : Nat), 0, 0, 0, 0]
  else
    let a := fxExp (fxLn10 * cdb / 4000)
    let w := 2 * fxPi * (fCenti : Int) / (100 * fs : Nat)
    let al := fxSin w * 50 / (qCenti : Int)
    let r := eqRaw typ a (fxCos w) al
    let a0 := nth fxOne r 3
    [nth 0 r 0, nth 0 r 1, nth 0 r 2, nth 0 r 4, nth 0 r 5].map (fun v => fxRound unity (fxDiv v a0))

/-- The section that a TE_EQ_BAND payload describes, for the entry it names. -/
def bandOf (s : State) (p : Bytes) : List Int :=
  let o := teOp s.live (u8 p 0) (u16 p 2)
  eqSection (u8 p 4) (i16 p 6) (u32 p 8) (u16 p 12) (rateH o.rate * fsHz (f441 s))

def chkTeEqBand (p : Bytes) (s : State) : Option Nat :=
  let o := teOp s.live (u8 p 0) (u16 p 2)
  let fs := rateH o.rate * fsHz (f441 s)
  let fields := decide (u8 p 0 < 32) && decide (u16 p 2 < 1024) && o.kind == 4 && decide (u8 p 1 < o.n) && decide (u8 p 4 ≤ 5) &&
    decide (-2400 ≤ i16 p 6) && decide (i16 p 6 ≤ 2400) && decide (1000 ≤ u32 p 8) && decide (u32 p 8 ≤ 9600000) &&
    decide (10 ≤ u16 p 12) && decide (u16 p 12 ≤ 2000) && decide (u32 p 8 < 45 * fs)
  if fields && (bandOf s p).all (fun v => decide (satInt 32 v = v)) then none else some stBad

/-- The first word of the section that TE_EQ_BAND names. -/
def bandWordAt (p : Bytes) (t : Tables) : Option Nat :=
  let o := teOp t (u8 p 0) (u16 p 2)
  if o.kind = 4 ∧ u8 p 1 < o.n then some (o.cbase % 4096 + 5 * u8 p 1) else none

def writeBand (p : Bytes) (s : State) : State := writeEntry p (bandWordAt p) ((bandOf s p).map word32) s

def applyTeEqBand (c : Cmd) (s : State) : State := paramWrite c (writeBand c.payload) s

/-! ### Status -/

/-- TE_STATUS (R308, Table XE-23). -/
def teStatus (e i : Nat) (s : State) : Bytes :=
  let o := teOp s.live e i
  let st := if (teCfg s.live e).en = false then 0 else if s.xb.overrun.contains e then 3
    else if s.dataPlane = .running then 1 else 2
  let rx := o.arg % 4
  let a := nth {} s.xb.asrc rx
  let asrc : Bytes := if o.kind = 7 then
      le 1 (2 * b2n a.lock + b2n (nth {} s.dg.rx rx).lock) ++ zeros 1 ++ le 4 a.ratio
    else zeros 6
  le 1 (64 * st) ++ zeros 3 ++ le 2 (tabGet 0 s.xb.maxcyc e) ++ le 4 (tabGet 0 s.xb.sats e) ++ asrc

/-- TE_METER_READ (R309, Table XE-24). -/
def meterRead (e i part : Nat) (s : State) : Bytes :=
  let st := tabGet {} s.xb.op (1024 * e + i)
  (if part = 0 then leInt 4 st.pMin ++ leInt 4 st.pMax ++ le 3 st.pCount ++ zeros 1 else le 8 st.pSum ++ zeros 4) ++
    le 2 st.epoch ++ zeros 2

/-! ### The meanings of the rows -/

def execTeCfg (k : OrdClass) (s : State) : Host.Outcome State Fault Refusal := .next (startStaged k 0x0620 okTeCfg s)
def execTeOps (k : OrdClass) (s : State) : Host.Outcome State Fault Refusal := .next (startStaged k 0x0621 okTeOps s)
def execTeOperands (k : OrdClass) (s : State) : Host.Outcome State Fault Refusal :=
  .next (startStaged k 0x0622 okTeOperands s)
def execTeCoefInit (k : OrdClass) (s : State) : Host.Outcome State Fault Refusal :=
  .next (startStaged k 0x0623 (okTeRun 4096) s)
def execTeCoef (k : OrdClass) (s : State) : Host.Outcome State Fault Refusal := .next (startDirect k 0x0624 chkTeCoef s)
def execTeEnable (k : OrdClass) (s : State) : Host.Outcome State Fault Refusal := .next (startDirect k 0x0625 chkTeEnable s)
def execTeGainDb (k : OrdClass) (s : State) : Host.Outcome State Fault Refusal := .next (startDirect k 0x0626 chkTeGainDb s)
def execTeEqBand (k : OrdClass) (s : State) : Host.Outcome State Fault Refusal := .next (startDirect k 0x0627 chkTeEqBand s)
def execTeDelaySet (k : OrdClass) (s : State) : Host.Outcome State Fault Refusal :=
  .next (startDirect k 0x0628 chkTeDelaySet s)
def execTePreset (k : OrdClass) (s : State) : Host.Outcome State Fault Refusal := .next (startStaged k 0x0630 okTePreset s)

def execTeStatus (k : OrdClass) (s : State) : Host.Outcome State Fault Refusal :=
  .next (startStatus k 0x0E50 (fun p => decide (u8 p 0 < 32) && decide (u16 p 2 < 1024)) (fun p t => teStatus (u8 p 0) (u16 p 2) t) s)

/-- A TE_IDX that is not a committed METER is answered BAD_ARGUMENT. -/
def execTeMeterRead (k : OrdClass) (s : State) : Host.Outcome State Fault Refusal :=
  .next (startStatus k 0x0E51
    (fun p => decide (u8 p 0 < 32) && decide (u16 p 1 < 1024) && decide (u8 p 3 ≤ 1) && (teOp s.live (u8 p 0) (u16 p 1)).kind == 6)
    (fun p t => meterRead (u8 p 0) (u16 p 1) (u8 p 3) t) s)

/-- Cycle 10,239 ends before the last entry has completed (R291): the engine abandons the frame, and the FAULT follows. -/
def execEngineFrameOverrun (e doneOps : Nat) (s : State) : Host.Outcome State Fault Refusal :=
  if (teCfg s.live e).en ∧ s.dataPlane = .running ∧ doneOps < (teCfg s.live e).len then
    let seen := if s.xb.overrun.contains e then s.xb.overrun else s.xb.overrun ++ [e]
    .next (raiseFault fOverrun { s with xb := { s.xb with overrun := seen, abandon := (e, doneOps) :: s.xb.abandon } })
  else .next s

/-- Log entry 40 (DEDUCED). -/
def execMeterWindowEnd (s : State) : Host.Outcome State Fault Refusal := .next (pubMeters s)

/-- The ratio estimate of a receiver has settled (R287); the ratio is in Q8.24, from 0.16 to 4.4. -/
def execAsrcLock (rx ratio : Nat) (s : State) : Host.Outcome State Fault Refusal :=
  if rx < 4 ∧ (nth {} s.dg.rx rx).lock = true ∧ 2684355 ≤ ratio ∧ ratio ≤ 73819750 ∧ s.dataPlane = .running ∧
      (List.range 32).any (fun e => (teCfg s.live e).en && (asrcOf s.live e).any (fun a => a % 4 == rx)) = true then
    .next (modAsrc rx (fun a => { a with lock := true, ratio }) s)
  else .next s

end Sys2Proof.Machine
end

