-- ==== Sys2Proof/Machine/Outputs.lean ====
section
/-! DEFINITION. AES3 and clock outputs (chapter 11): clock output rules, 1PPS_OUT, the AES3 transmitters and receivers, and
the commands and events of that chapter. -/
namespace Sys2Proof.Machine

/-! ### Clock outputs -/

/-- The highest f_out of a mode in hertz (Table DG-1); VDDIO1 at 3.3 V when `high`. -/
def clkLimit (high : Bool) (mode : Nat) : Nat := if mode = 2 then 250000000 else if high then 160000000 else 100000000

/-- R337 on one output. -/
def clkOk (high : Bool) (t : Tables) (o : Nat) : Bool :=
  let c := clkOf t o
  let fast := decide (clkLimit high c.mode * (tapDen t c.tap * (c.div + 1)) < tapNum t c.tap)
  c.mode == 0 || (!fast && (o % 2 == 0 || (c.mode != 2 && (clkOf t (o - 1)).mode != 2)))

def dgOk (high : Bool) (t : Tables) : Bool := (List.range 12).all (clkOk high t)

/-- R353: a DG_CS_RAW record needs preset 0x00 for its transmitter in the same configuration. -/
def csRecsOk (t : Tables) (recs : List Rec) : Bool :=
  recs.all (fun r => r.opcode != 0x0533 || (tabGet {} t.tx (u8 r.payload 0)).preset == 0)

/-- CLOCK_OUTPUT_REPHASE (R340): the divider of a gated output reloads at the first tap edge after lock, once the residual
move of its group has completed. -/
def rephase (o : Nat) (s : State) : State :=
  let x := tapSyn (clkOf s.live o).tap
  let y := getSyn s x
  let g := nth {} s.hs.gate o
  if o < 12 ∧ s.firstLive = true ∧ (clkOf s.live o).mode ≠ 0 ∧ y.lock = 4 ∧ y.resOwed = 0 ∧ g.aligned = none then
    modGate o (fun g => { g with aligned := some s.clock }) s
  else s

/-! ### 1PPS_OUT (R341) -/

/-- A pulse begins on a whole second of the media group. -/
def ppsRise (s : State) : State :=
  let from_ : Bool := match s.dg.ppsFrom with
    | some t => decide (t ≤ s.spindle)
    | none => false
  if from_ = true ∧ s.dataPlane = .running ∧ s.spindle % uPerS = 0 ∧ (s.live.pps.valid && !s.timeValid) = false ∧
      s.da.safe = 0 ∧ s.mode ≠ .hush then
    { s with dg := { s.dg with ppsHigh := true, ppsWidth := s.live.pps.width } }
  else s

/-- The pulse ends after its width. -/
def ppsFall (s : State) : State :=
  if s.dg.ppsHigh ∧ s.dg.ppsWidth * uPerUs ≤ s.spindle % uPerS then { s with dg := { s.dg with ppsHigh := false } } else s

/-- 1PPS_OUT resumes at the first whole second after a restart of the data plane (R140). Log entry 41 (DEDUCED). -/
def ppsRestart (s : State) : State := { s with dg := { s.dg with ppsFrom := some ((s.spindle / uPerS + 1) * uPerS) } }

/-! ### AES3 transmitters (R344 to R348) -/

def txCfg (t : Tables) (n : Nat) : TxCfg := tabGet {} t.tx n
def txState (s : State) (n : Nat) : TxState := nth {} s.dg.tx n

def modTx (n : Nat) (f : TxState → TxState) (s : State) : State := { s with dg := { s.dg with tx := modNth f s.dg.tx n } }

/-- One bit of the CRCC of AES3 channel status, polynomial x^8 + x^4 + x^3 + x^2 + 1 (PRESUMED: the manual cites AES3). -/
def crccBit (c : Nat) (b : Bool) : Nat :=
  let top := (c % 2 == 1) != b
  if top then Nat.xor (c / 2) 0xB8 else c / 2

def crccByte (c : Nat) (b : Byte) : Nat := (List.range 8).foldl (fun a i => crccBit a (nbit b.toNat i)) c

/-- Byte 23 from bytes 0 to 22. Log entry 42 (PRESUMED). -/
def crcc (p : Bytes) : Byte := BitVec.ofNat 8 (p.foldl crccByte 0xFF)

/-- The sampling frequency fields of AES3: bits 6-7 of byte 0, and bits 3-6 of byte 4 (PRESUMED).
Log entry 42 (PRESUMED). -/
def csRate0 (f441 : Bool) (rate : Nat) : Nat := if rate ≠ 0 then 0 else if f441 then 0x40 else 0x80
/-- Log entry 42 (PRESUMED). -/
def csRate4 (f441 : Bool) (rate : Nat) : Nat := if rate = 0 then 0 else if f441 then (if rate = 1 then 80 else 88) else (if rate = 1 then 16 else 24)

/-- The grade of the reference signal that a preset declares: 0 none (Table DG-3). Log entry 42 (PRESUMED). -/
def txGrade (s : State) (c : TxCfg) : Nat :=
  match c.preset with
  | 2 => 1
  | 3 => 2
  | 4 =>
    if s.mode = .locked ∨ (s.mode = .holdover ∧ s.tk.hoAged = false) then 1
    else if c.acc ≤ 100 then 1 else 2
  | _ => 0

/-- The first 23 bytes of a preset's channel status; `count` is the media count of the block's first frame (R346). The
coding of each field is that of AES3 (PRESUMED). Log entry 42 (PRESUMED). -/
def csPreset (s : State) (c : TxCfg) (count : Nat) : Bytes :=
  let b : Nat → Byte := BitVec.ofNat 8
  [b (1 + csRate0 (f441 s) c.rate), b 8, b (if c.word20 then 0x28 else 0x2C), b 0, b (txGrade s c + csRate4 (f441 s) c.rate), b 0] ++
    c.origin ++ zeros 4 ++ le 4 count ++ le 4 count ++ zeros 1

/-- The 24 bytes of channel status of one subframe that a block carries. -/
def csBlock (s : State) (n sub count : Nat) : Bytes :=
  let c := txCfg s.live n
  if c.preset = 0 then
    let r := tabGet {} s.live.csRaw (2 * n + sub)
    if r.crc then r.bytes.take 23 ++ [crcc (r.bytes.take 23)] else r.bytes
  else
    let p := csPreset s c count
    p ++ [crcc p]

/-- Even parity over bits 4 to 30 of a subframe. -/
def parityOf (w : Nat) : Nat → Nat
  | 0 => 0
  | k + 1 => (w % 2 + parityOf (w / 2) k) % 2

/-- A subframe as a 32-bit word: preamble in bits 0-3 (1 Z, 2 X, 3 Y, the model's own code), audio in bits 4-27, validity 28,
user 29, channel status 30, parity 31 (R345). Log entry 42 (PRESUMED). -/
def subframe (preamble : Nat) (word20 v cs : Bool) (x : Int) : Nat :=
  let u := word32 x
  let audio := if word20 then u / 4096 * 16 else u / 256
  let body := audio * 16 + b2n v * 2 ^ 28 + b2n cs * 2 ^ 30
  body + preamble + parityOf (body / 16) 27 * 2 ^ 31

/-- Channel status bit of frame `j` of the grid. -/
def csBit (cs : Bytes) (j : Nat) : Bool := bit cs (j % 192 / 8) (j % 8)

/-- The AES3 frame `j` of transmitter `n`, with sample `r` of its sinks; a block start takes new channel status. -/
def txFrameOne (n j r : Nat) (s : State) : State :=
  let c := txCfg s.live n
  let s1 := if j % 192 = 0 then modTx n (fun t => { t with csA := csBlock s n 0 (j % 2 ^ 32), csB := csBlock s n 1 (j % 2 ^ 32) }) s else s
  let t := txState s1 n
  let a := subframe (if j % 192 = 0 then 1 else 2) c.word20 c.va (csBit t.csA j) (sinkRead s (16288 + 8 * n + r))
  let b := subframe 3 c.word20 c.vb (csBit t.csB j) (sinkRead s (16292 + 8 * n + r))
  modTx n (fun t => { t with last := t.last ++ [(a, b)] }) s1

/-- What transmitter `n` sends in the frame after the present one (R345): nothing before its block start. -/
def txFrame (s : State) (n : Nat) : State :=
  let h := rateH (txCfg s.live n).rate
  let k := s.spindle / frameLen (f441 s) + 1
  match (txState s n).running with
  | none => modTx n (fun t => { t with last := [] }) s
  | some b =>
    (List.range h).foldl (fun (t : State) r => if b ≤ k * h + r then txFrameOne n (k * h + r) r t else t)
      (modTx n (fun t => { t with last := [] }) s)

def txFrames (s : State) : State := (List.range 8).foldl txFrame s

/-- The next block start of the grid of transmitter `n` after frame boundary `k` (Table PW-2, R348).
Log entry 41 (DEDUCED). -/
def blockFrom (t : Tables) (n k : Nat) : Nat := (k * rateH (txCfg t n).rate / 192 + 1) * 192

/-- Transmitters that are enabled start at the first block start after frame boundary `k`. -/
def txStart (k : Nat) (s : State) : State :=
  let one : Nat → TxState → TxState := fun n t =>
    if (txCfg s.live n).en && s.firstLive && s.da.safe == 0 then { t with running := some (blockFrom s.live n k) } else t
  { s with dg := { s.dg with tx := s.dg.tx.mapIdx one } }

/-- Transmitters at the commit's frame boundary (R348): a new rate or a new enable starts on the new grid. -/
def txCommit (first : Bool) (old new : Tables) (s : State) : State :=
  let k := s.spindle / frameLen (f441 s)
  let one : Nat → TxState → TxState := fun n t =>
    let o := txCfg old n
    let c := txCfg new n
    if c.en = false then { t with running := none, last := [] }
    else if s.dataPlane = .running ∧ s.da.safe = 0 ∧ (first ∨ o.en = false ∨ o.rate ≠ c.rate) then
      { t with running := some (blockFrom new n k), last := [] }
    else t
  { s with dg := { s.dg with tx := s.dg.tx.mapIdx one } }

/-! ### AES3 receivers (R349) -/

/-- A receiver runs for DG_RX_EN or for a listed DARS candidate, locked out or not. -/
def rxRuns (t : Tables) (n : Nat) : Bool := nbit t.rxEn n || t.cand.any (fun e => e.2.typ == 5 + n)

def modRx (n : Nat) (f : RxState → RxState) (s : State) : State := { s with dg := { s.dg with rx := modNth f s.dg.rx n } }

def satAdd16 (a n : Nat) : Nat := if a + n < 65536 then a + n else 65535

/-- What the running receivers decoded in a frame is counted (Table DG-12). -/
def rxFrame (inp : FrameInput) (s : State) : State :=
  let one : State → Nat × RxBlock → State := fun t e =>
    if rxRuns s.live e.1 then
      modRx e.1 (fun r => { r with parity := satAdd16 r.parity e.2.parity, vframes := satAdd16 r.vframes e.2.vframes,
                                   crc := satAdd16 r.crc e.2.crc, cs := padTo 6 e.2.cs }) t
    else t
  inp.rx.foldl one s

/-- A receiver reports loss of lock: its ASRC output is zero from the next frame (R287). -/
def asrcDrop (n : Nat) (s : State) : State := modAsrc n (fun a => { a with lost := true }) s

/-- A receiver loses lock: its DARS candidate is lost, its ASRC outputs go to zero. -/
def rxLose (n : Nat) (s : State) : State :=
  if (nth {} s.dg.rx n).lock then
    let s1 := asrcDrop n (modRx n (fun r => { r with lock := false, rate := 7 }) s)
    match newIndex s.live (5 + n) 12 0 with
    | some i => loseCand i s1
    | none => s1
  else s

/-- A receiver that no longer runs after a commit reads as unlocked. -/
def rxCommit (new : Tables) (s : State) : State :=
  [0, 1, 2, 3].foldl (fun (t : State) n =>
    if rxRuns new n then t else asrcDrop n (modRx n (fun r => { r with lock := false, rate := 7 }) t)) s

/-! ### Payloads -/

/-- DG_CLK_CFG (Table DG-6). -/
def okDgClkCfg (p : Bytes) : Bool :=
  decide (u8 p 0 < 12) && decide (fld p 1 1 0 ≤ 2) && (fld p 1 1 0 != 1 || decide (fld p 1 3 2 ≤ 2)) && decide (u8 p 2 ≤ 4) &&
    decide (uN p 8 3 ≤ uN p 4 3)

def putDgClkCfg (p : Bytes) (t : Tables) : Tables :=
  let c : ClkCfg := { mode := fld p 1 1 0, drive := fld p 1 3 2, tap := u8 p 2, div := uN p 4 3, phase := uN p 8 3 }
  { t with clk := tabSet {} t.clk (u8 p 0) c }

/-- DG_PPS_CFG (Table DG-7). -/
def okDgPpsCfg (p : Bytes) : Bool := decide (1 ≤ u32 p 4) && decide (u32 p 4 ≤ 500000)
def putDgPpsCfg (p : Bytes) (t : Tables) : Tables := { t with pps := { valid := bit p 0 0, width := u32 p 4 } }

/-- DG_TX_CFG (Table DG-8). -/
def okDgTxCfg (p : Bytes) : Bool :=
  decide (u8 p 0 < 8) && decide (fld p 2 1 0 ≤ 2) && decide (u8 p 5 ≤ 4) && decide (1 ≤ u16 p 12) && decide (u16 p 12 ≤ 10000)

def putDgTxCfg (p : Bytes) (t : Tables) : Tables :=
  let c : TxCfg := { en := bit p 1 0, rate := fld p 2 1 0, word20 := bit p 3 0, vb := bit p 4 1, va := bit p 4 0,
                     preset := u8 p 5, origin := slice p 8 4, acc := u16 p 12 }
  { t with tx := tabSet {} t.tx (u8 p 0) c }

/-- DG_CS_RAW (Table DG-9). -/
def okDgCsRaw (p : Bytes) : Bool := decide (u8 p 0 < 8) && fld p 1 1 0 != 0

def putDgCsRaw (p : Bytes) (t : Tables) : Tables :=
  let r : CsRaw := { bytes := slice p 8 24, crc := bit p 2 0 }
  let a := if bit p 1 0 then tabSet {} t.csRaw (2 * u8 p 0) r else t.csRaw
  { t with csRaw := if bit p 1 1 then tabSet {} a (2 * u8 p 0 + 1) r else a }

/-- DG_RX_CFG (Table DG-10). -/
def putDgRxCfg (p : Bytes) (t : Tables) : Tables := { t with rxEn := fld p 0 3 0 }

/-! ### Status -/

/-- DG_CLK_STATUS (Table DG-11). Log entry 43 (DEDUCED). -/
def dgClkStatus (o : Nat) (s : State) : Bytes :=
  let g := nth {} s.hs.gate o
  le 1 (64 * g.gate + 32 * b2n (!s.fenceOpen)) ++ zeros 1 ++ le 2 g.trips ++ le 4 g.lastCount ++
    le 4 (if s.firstLive then ceilNow s.live o else 0) ++ zeros 4

/-- DG_RX_STATUS (Table DG-12). -/
def dgRxStatus (n : Nat) (s : State) : Bytes :=
  let r := nth {} s.dg.rx n
  le 1 (8 * b2n r.lock + r.rate) ++ zeros 1 ++ le 2 r.parity ++ le 2 r.vframes ++ le 2 r.crc ++ padTo 6 r.cs ++ zeros 2

/-! ### The meanings of the rows -/

def execDgClkCfg (k : OrdClass) (s : State) : Host.Outcome State Fault Refusal := .next (startStaged k 0x0530 okDgClkCfg s)
def execDgPpsCfg (k : OrdClass) (s : State) : Host.Outcome State Fault Refusal := .next (startStaged k 0x0531 okDgPpsCfg s)
def execDgTxCfg (k : OrdClass) (s : State) : Host.Outcome State Fault Refusal := .next (startStaged k 0x0532 okDgTxCfg s)
def execDgCsRaw (k : OrdClass) (s : State) : Host.Outcome State Fault Refusal := .next (startStaged k 0x0533 okDgCsRaw s)
def execDgRxCfg (k : OrdClass) (s : State) : Host.Outcome State Fault Refusal := .next (startStaged k 0x0534 (fun _ => true) s)
def execDgClkStatus (k : OrdClass) (s : State) : Host.Outcome State Fault Refusal :=
  .next (startStatus k 0x0E70 (fun p => decide (u8 p 0 < 12)) (fun p t => dgClkStatus (u8 p 0) t) s)
def execDgRxStatus (k : OrdClass) (s : State) : Host.Outcome State Fault Refusal :=
  .next (startStatus k 0x0E71 (fun p => decide (u8 p 0 < 4)) (fun p t => dgRxStatus (u8 p 0) t) s)
def execClockOutputRephase (o : Nat) (s : State) : Host.Outcome State Fault Refusal := .next (rephase o s)

def execPpsOutPulse (e : Edge) (s : State) : Host.Outcome State Fault Refusal :=
  match e with
  | .rise => .next (ppsRise s)
  | .fall => .next (ppsFall s)

/-- DG_RX_RATE of a frame rate in millihertz: the nominal rate within 1,000 ppm, or 7 (Table DG-12). -/
def rxRate (milliHz : Nat) : Nat :=
  let near : Nat → Bool := fun i => decide (absDiff milliHz (1000 * vfmtRate i) ≤ vfmtRate i)
  ((List.range 7).find? near).getD 7

/-- A running receiver has had two consecutive blocks with every preamble and parity bit correct, at a frame rate from 30 to
200 kHz (R349). -/
def execAes3RxLock (n : Nat) (x : RxGood) (s : State) : Host.Outcome State Fault Refusal :=
  if n < 4 ∧ rxRuns s.live n = true ∧ 30000000 ≤ x.milliHz ∧ x.milliHz ≤ 200000000 ∧ 2 ≤ x.blocks then
    .next (modRx n (fun r => { r with lock := true, rate := rxRate x.milliHz }) s)
  else .next s

/-- No valid preamble for four frame periods, or more than eight parity and biphase errors in a block (R349). -/
def execAes3RxLoss (x : RxBad) (s : State) : Host.Outcome State Fault Refusal :=
  .next (if 4 ≤ x.silent ∨ 8 < x.errors then rxLose x.rx s else s)

end Sys2Proof.Machine
end

