-- ==== Sys2Proof/Machine/Network.lean ====
section
/-! DEFINITION. Network ports and network audio (R150 to R155, R167 to R188): links and modules, flows, packets, address
resolution and group membership, and their commands and events. -/
namespace Sys2Proof.Machine

/-! ### Ports -/

def getPort (s : State) (n : Nat) : PortState := if n = 0 then s.nw.port0 else s.nw.port1

def modPort (n : Nat) (f : PortState → PortState) (s : State) : State :=
  if n = 0 then { s with nw := { s.nw with port0 := f s.nw.port0 } } else { s with nw := { s.nw with port1 := f s.nw.port1 } }

def getPtp (s : State) (n : Nat) : PtpState := if n = 0 then s.nw.ptp0 else s.nw.ptp1

def modPtp (n : Nat) (f : PtpState → PtpState) (s : State) : State :=
  if n = 0 then { s with nw := { s.nw with ptp0 := f s.nw.ptp0 } } else { s with nw := { s.nw with ptp1 := f s.nw.ptp1 } }

/-- The committed configuration of a port; a port missing from it is disabled (R151). -/
def portCfg (t : Tables) (n : Nat) : PortCfg := (tabGet none t.port n).getD { mode := 0 }

def portMode (t : Tables) (n : Nat) : Nat := (portCfg t n).mode

/-- The power domain of a port is on (Table PW-6). -/
def portPowered (s : State) (n : Nat) : Bool :=
  let m := nth {} s.pw.domains (9 + n)
  m.run.getD m.on

def linkUp (s : State) (n : Nat) : Bool := decide (2 ≤ (getPort s n).link)

/-- A port carries traffic: its link is up and a commit has become live (R151). -/
def portServes (s : State) (n : Nat) : Bool := decide (n < 2) && s.firstLive && linkUp s n && s.mode != .hush

/-- The 802.1Q tag of a port's frames (R181). -/
def portTag (c : PortCfg) : Option (Nat × Nat) := if c.vlan then some (c.pcp, c.vid) else none

/-- The header of a frame from the unit's own addresses (R154). -/
def unitHdr (c : PortCfg) (dst dscp : Nat) : NetHdr :=
  { mac := Config.unitMac, tag := portTag c, src := if dst = 0 then 0 else c.unitIp, dst, dscp, udp := 0 }

/-- The header of a frame from the service addresses (R154, R171). -/
def serviceHdr (c : PortCfg) (dst dscp udp : Nat) : NetHdr :=
  { mac := c.mac, tag := portTag c, src := if dst = 0 then 0 else c.serviceIp, dst, dscp, udp }

/-- Log entry 84 (DESIGN CHOICE). -/
def netSend (n : Nat) (h : NetHdr) (m : NetMsg) (s : State) : State := { s with out := .net n h m :: s.out }

/-- Log entry 35 (DEDUCED). -/
def dropFrame (n : Nat) (s : State) : State := modPort n (fun p => { p with rxDrops := satInc 32 p.rxDrops }) s

/-- A port may seek lock: before the first commit from CONFIGURE on, after it in its committed mode (R151). -/
def portSeeks (s : State) (n : Nat) : Bool :=
  portPowered s n && !(getPort s n).modabs && s.mode != .boot && s.mode != .hush &&
    (!s.firstLive || portMode s.live n != 0)

/-- The port starts to seek lock, 25GBASE-R first before the first commit, or is electrically idle (R151, R152). -/
def portStart (n : Nat) (s : State) : State :=
  if portSeeks s n then modPort n (fun p => { p with link := 1, txdis := false, try10 := false, tryAt := s.clock }) s
  else modPort n (fun p => { p with link := 0, txdis := true }) s

/-- NW_LINK_NOW of an up link in a mode. -/
def modeLink (m : Nat) : Nat := if m = 1 then 2 else if m = 2 then 3 else 4

/-- The link code that the port reaches when it gains lock now. -/
def linkCode (s : State) (n : Nat) : Nat :=
  if s.firstLive then modeLink (portMode s.live n) else if (getPort s n).try10 then 4 else 2

/-! ### Flows -/

def rxFlow (t : Tables) (i : Nat) : Option FlowCfg := tabGet none t.rx i
def txFlowCfg (t : Tables) (i : Nat) : Option FlowCfg := tabGet none t.txFlow i

/-- Samples per packet (Table NW-7), media-clock counts per frame, flow rate in Hz, bytes per sample. -/
def flowN (c : FlowCfg) : Nat := nth 48 [6, 12, 16, 48, 192] c.ptime * (if c.r96 then 2 else 1)
def flowH (c : FlowCfg) : Nat := if c.r96 then 2 else 1
def flowF (c : FlowCfg) : Nat := 48000 * flowH c
def flowB (c : FlowCfg) : Nat := if c.l24 then 3 else 2

/-- The UDP payload (R168). -/
def flowPayload (c : FlowCfg) : Nat := 12 + c.ch * flowN c * flowB c

/-- D_s and L of R173. -/
def flowDs (c : FlowCfg) : Nat := (c.depth * flowF c + 999999) / 1000000
def flowL (c : FlowCfg) : Nat := if c.off = 0 then flowDs c else c.off

/-- The port takes part in the flow. -/
def flowOn (c : FlowCfg) (port : Nat) : Bool := nbit c.ports port
def flowDst (c : FlowCfg) (port : Nat) : Nat := if port = 0 then c.dstA else c.dstB
def flowUdp (c : FlowCfg) (port : Nat) : Nat := if port = 0 then c.udpA else c.udpB
def flowSrc (c : FlowCfg) (port : Nat) : Nat := if port = 0 then c.srcA else c.srcB

/-- Source slots of a receive flow. -/
def flowSlots (c : FlowCfg) : Nat × Nat := (c.slot, c.ch * flowH c)

def rxState (s : State) (i : Nat) : FlowState := tabGet {} s.nw.rx i
def txFlowState (s : State) (i : Nat) : FlowState := tabGet {} s.nw.tx i
def modRxFlow (i : Nat) (f : FlowState → FlowState) (s : State) : State := { s with nw := { s.nw with rx := tabMod {} s.nw.rx i f } }
def modTxFlow (i : Nat) (f : FlowState → FlowState) (s : State) : State := { s with nw := { s.nw with tx := tabMod {} s.nw.tx i f } }

/-- The media-clock count at the start of the present frame (R170), raised by 2^32 so that a count just below zero is a
number too. -/
def mediaCount (s : State) (c : FlowCfg) : Nat := s.spindle / frameLen (f441 s) * flowH c + 2 ^ 32

/-- The count nearest to `m` that is `ts` modulo 2^32. -/
def fullCount (m ts : Nat) : Nat :=
  let d := (ts + (2 ^ 32 - m % 2 ^ 32)) % 2 ^ 32
  if d < 2 ^ 31 then m + d else m + d - 2 ^ 32

/-! ### Reception (R173 to R176) -/

/-- RTP as the device supports it (Table NW-6). -/
def rtpPlain (p : RtpPacket) : Bool :=
  p.version == 2 && !p.padding && !p.ext && p.cc == 0 && !p.marker && decide (96 ≤ p.pt) && decide (p.pt ≤ 127)

/-- The packet matches the flow (R167, R174). -/
def flowTakes (c : FlowCfg) (port : Nat) (p : RtpPacket) : Bool :=
  rtpPlain p && c.en && flowOn c port && p.dst == flowDst c port && p.udp == flowUdp c port &&
    (flowSrc c port == 0 || p.src == flowSrc c port) && (c.ssrc == 0 || p.ssrc == c.ssrc) && (c.pt == 0 || p.pt == c.pt) &&
    p.payload.length + 12 == flowPayload c

/-- The enabled flows of a port that take a packet. -/
def flowHits (s : State) (n : Nat) (p : RtpPacket) : List (Nat × FlowCfg) :=
  s.live.rx.filterMap (fun e => match e.2 with
    | some c => if flowTakes c n p then some (e.1, c) else none
    | none => none)

/-- A packet delivers on its path, and clears a loss (R175, R176). -/
def flowAlive (port : Nat) (s : State) (f : FlowState) : FlowState :=
  let g := { f with lost := false }
  if port = 0 then { g with aOk := true, aLast := s.clock } else { g with bOk := true, bLast := s.clock }

/-- One matching flow takes a packet (R174, R175): it is accepted, whether it comes late, early or in time; a later copy
is not counted. Log entry 35 (DEDUCED). -/
def flowPacket (port : Nat) (p : RtpPacket) (s : State) (i : Nat) (c : FlowCfg) : State :=
  let m := mediaCount s c
  let r := fullCount m p.ts
  let heard : FlowState → FlowState := fun f => { flowAlive port s f with pkts := (f.pkts + 1) % 2 ^ 32, lastTs := p.ts }
  let take : FlowState → FlowState := fun f =>
    if f.buf.any (fun e => e.1 == r) || f.played.contains r then flowAlive port s f
    else if r + flowL c < m then { heard f with late := satInc 16 f.late }
    else if m + flowDs c < r + flowN c then { heard f with early := satInc 16 f.early }
    else { heard f with buf := (r, p.payload) :: f.buf }
  modRxFlow i take s

/-- MEDIA_PACKET_RECEIVED: a packet that matches two flows feeds both; one that matches none is discarded and counted
(R153, R174). While the data plane is stopped no frame takes samples. Log entry 35 (DEDUCED). -/
def packetIn (port : Nat) (p : RtpPacket) (s : State) : State :=
  if portServes s port = false then s
  else
    let hits := flowHits s port p
    if hits.isEmpty then dropFrame port s
    else if s.dataPlane ≠ .running then s
    else hits.foldl (fun (t : State) h => flowPacket port p t h.1 h.2) s

/-- The sample of media count `k` and channel `j`, from the accepted packets. -/
def bufSample (c : FlowCfg) (buf : List (Nat × Bytes)) (k j : Nat) : Option Int :=
  match buf.find? (fun e => decide (e.1 ≤ k) && decide (k < e.1 + flowN c)) with
  | none => none
  | some e =>
    let i := ((k - e.1) * c.ch + j) * flowB c
    some (if c.l24 then toSigned 32 (ofBe (slice e.2 i 3) * 256) else toSigned 32 (ofBe (slice e.2 i 2) * 65536))

/-- One sample instant of a receive flow plays: its channels, and whether a packet supplied it. -/
def playInstant (c : FlowCfg) (i m r : Nat) (acc : State × Tab Int) : State × Tab Int :=
  let st := rxState acc.1 i
  let k := m + r - flowL c
  match bufSample c st.buf k 0 with
  | none =>
    let miss : FlowState → FlowState := fun f =>
      { f with missing := if f.missRun % flowN c = 0 then satInc 16 f.missing else f.missing, missRun := f.missRun + 1 }
    (modRxFlow i miss acc.1, acc.2)
  | some _ =>
    let b := (List.range c.ch).foldl (fun b j => putSlot (c.slot + j * flowH c + r) ((bufSample c st.buf k j).getD 0) b) acc.2
    (modRxFlow i (fun f => { f with missRun := 0 }) acc.1, b)

/-- One frame of playout of a flow; packets that no later frame needs leave the buffer, and are remembered for one second,
so that a later copy is known (R175). Log entry 35 (DEDUCED). -/
def playFlow (acc : State × Tab Int) (e : Nat × Option FlowCfg) : State × Tab Int :=
  match e.2 with
  | none => acc
  | some c =>
    if c.en = false then acc
    else
      let m := mediaCount acc.1 c
      let r := (List.range (flowH c)).foldl (fun a r => playInstant c e.1 m r a) acc
      let needed : Nat × Bytes → Bool := fun p => decide (m + flowH c < p.1 + flowN c + flowL c)
      let keep : FlowState → FlowState := fun f =>
        { f with buf := f.buf.filter needed,
                 played := (f.played ++ (f.buf.filter (fun p => !needed p)).map (fun p => p.1)).filter (fun r => decide (m < r + flowF c)) }
      (modRxFlow e.1 keep r.1, r.2)

def playFlows (s : State) (b : Tab Int) : State × Tab Int := s.live.rx.foldl playFlow (s, b)

/-- The loss interval: the longer of 8 packet times and 2 ms (R176). -/
def lossTime (c : FlowCfg) : Nat :=
  let t := 8 * flowN c * (uPerS / 96000) * (if c.r96 then 1 else 2)
  if t < 2 * uPerMs then 2 * uPerMs else t

/-- FLOW_LOST (R176): the slots play zero, so what is still buffered goes. Log entry 35 (DEDUCED). -/
def flowLost (i : Nat) (s : State) : State :=
  match rxFlow s.live i with
  | none => s
  | some c =>
    let f := rxState s i
    let last := if f.aLast < f.bLast then f.bLast else f.aLast
    if c.en ∧ f.lost = false ∧ s.firstLive = true ∧ s.mode ≠ .hush ∧ last + lossTime c ≤ s.clock then
      raiseAlarm blkNW (modRxFlow i (fun f => { f with lost := true, aOk := false, bOk := false, buf := [] }) s)
    else s

/-- FLOW_PATH_LOST (R175): a path of a dual-path flow delivers nothing for the same interval. Log entry 35 (DEDUCED). -/
def flowPathLost (i : Nat) (pathB : Bool) (s : State) : State :=
  match rxFlow s.live i with
  | none => s
  | some c =>
    let f := rxState s i
    let ok := if pathB then f.bOk else f.aOk
    let last := if pathB then f.bLast else f.aLast
    if c.en ∧ c.ports = 3 ∧ ok = true ∧ last + lossTime c ≤ s.clock then
      raiseAlarm blkNW (modRxFlow i (fun f => if pathB then { f with bOk := false } else { f with aOk := false }) s)
    else s

/-! ### Transmission (R170 to R172) -/

/-- A sample as it is sent (R269). -/
def wireSample (c : FlowCfg) (x : Int) : Bytes :=
  if c.l24 then be 3 (word32 x / 256) else be 2 (word32 x / 65536)

/-- The packet whose last sample is the newest one read, if all its samples were read. -/
def packetOf (i : Nat) (c : FlowCfg) (k : Nat) (hist : List (Nat × List Int)) : Option RtpOut :=
  let n := flowN c
  let got := hist.take n
  if (k + 1) % n = 0 ∧ got.length = n ∧ (nth (0, []) got (n - 1)).1 = k + 1 - n then
    let idx := (k + 1) / n - 1
    some { flow := i, ports := c.ports, dstA := c.dstA, udpA := c.udpA, dstB := c.dstB, udpB := c.udpB, udpSrc := c.udpSrc,
           dscp := c.dscp, ttl := c.ttl, pt := c.pt, ssrc := c.ssrc, seq := idx % 65536, ts := n * idx % 2 ^ 32,
           payload := got.reverse.flatMap (fun e => e.2.flatMap (wireSample c)) }
  else none

/-- One sample instant of a transmit flow is read from its sinks. -/
def readInstant (c : FlowCfg) (i m r : Nat) (s : State) : State :=
  let xs := (List.range c.ch).map (fun j => sinkRead s (c.slot + j * flowH c + r))
  let hist := ((m + r, xs) :: (txFlowState s i).hist).take (flowN c)
  let s1 := modTxFlow i (fun f => { f with hist }) s
  match packetOf i c (m + r) hist with
  | some p => { s1 with nw := { s1.nw with due := s1.nw.due ++ [p] } }
  | none => s1

/-- A flow's counts are those of R170, without the offset of reception. -/
def txCount (s : State) (c : FlowCfg) : Nat := s.spindle / frameLen (f441 s) * flowH c

def readFlow (s : State) (e : Nat × Option FlowCfg) : State :=
  match e.2 with
  | none => s
  | some c =>
    if c.en then (List.range (flowH c)).foldl (fun (t : State) r => readInstant c e.1 (txCount s c) r t) s else s

/-- Every transmit flow reads its sinks of the frame that ends; complete packets become due 4 us after its end. -/
def readFlows (s : State) : State := s.live.txFlow.foldl readFlow s

def isMulticast (ip : Nat) : Bool := ip / 2 ^ 28 == 14

/-- The address that ARP resolves for a unicast destination: itself on the subnet, else the gateway; none without one. -/
def nextHop (c : PortCfg) (ip : Nat) : Option Nat :=
  if Nat.land ip c.mask = Nat.land c.unitIp c.mask then some ip else if c.gateway = 0 then none else some c.gateway

def arpKnown (s : State) (n ip : Nat) : Bool := (getPort s n).arp.any (fun e => e.1 == ip)

/-- A destination can be reached from a port. -/
def resolved (s : State) (n ip : Nat) : Bool :=
  isMulticast ip || (match nextHop (portCfg s.live n) ip with | some h => arpKnown s n h | none => false)

/-- Media and PTP transmission run: the fence is open and the device is not in SAFE (R35, R172). -/
def mediaSends (s : State) : Bool := s.fenceOpen && s.mode != .safe && s.firstLive

/-- The sum of the 16-bit words of a packet, an odd last byte padded (RFC 791, PRESUMED). -/
def sum16 : Bytes → Nat
  | [] => 0
  | [a] => 256 * a.toNat
  | a :: b :: r => 256 * a.toNat + b.toNat + sum16 r

/-- The Internet checksum of a sum: the complement of its end-around carry. -/
def checksum (n : Nat) : Nat :=
  let a := n % 65536 + n / 65536
  65535 - (a % 65536 + a / 65536)

/-- The RTP header and payload (R167, R171). -/
def rtpBytes (p : RtpOut) : Bytes :=
  be 1 0x80 ++ be 1 p.pt ++ be 2 p.seq ++ be 4 p.ts ++ be 4 p.ssrc ++ p.payload

/-- The IPv4 datagram of a packet on a path (R171): identification 0, do not fragment, ECN 0, a UDP checksum that is never
zero. -/
def rtpDatagram (p : RtpOut) (src dst udpDst : Nat) : Bytes :=
  let data := rtpBytes p
  let len := 8 + data.length
  let ports := be 2 p.udpSrc ++ be 2 udpDst ++ be 2 len
  let ends := be 4 src ++ be 4 dst
  let c := checksum (sum16 ends + 17 + len + sum16 ports + sum16 data)
  let head : Nat → Bytes := fun k =>
    be 1 0x45 ++ be 1 (4 * p.dscp) ++ be 2 (20 + len) ++ be 2 0 ++ be 2 0x4000 ++ be 1 p.ttl ++ be 1 17 ++ be 2 k ++ ends
  head (checksum (sum16 (head 0))) ++ ports ++ be 2 (if c = 0 then 65535 else c) ++ data

/-- Destination and UDP port of a packet on a path. -/
def outDst (p : RtpOut) (n : Nat) : Nat := if n = 0 then p.dstA else p.dstB
def outUdp (p : RtpOut) (n : Nat) : Nat := if n = 0 then p.udpA else p.udpB

/-- A path of the packet whose port is linked. -/
def outPath (s : State) (p : RtpOut) (n : Nat) : Bool := nbit p.ports n && portServes s n

/-- A unicast destination that ARP has not resolved blocks the flow, on every path (R172). -/
def outBlocked (s : State) (p : RtpOut) : Bool :=
  [0, 1].any (fun n => outPath s p n && !resolved s n (outDst p n))

/-- The packet on one path. -/
def sendPath (p : RtpOut) (s : State) (n : Nat) : State :=
  let c := portCfg s.live n
  if outPath s p n then
    netSend n (serviceHdr c (outDst p n) p.dscp (outUdp p n)) (.rtp p (rtpDatagram p c.serviceIp (outDst p n) (outUdp p n))) s
  else s

/-- One due packet, on each path of its flow; one that is not sent counts as missing. -/
def sendPacket (s : State) (p : RtpOut) : State :=
  let blocked := outBlocked s p
  let ok : Nat → Bool := fun n => !blocked && outPath s p n
  let s1 := if blocked then s else [0, 1].foldl (sendPath p) s
  modTxFlow p.flow (fun f =>
    let g := { f with aOk := ok 0, bOk := ok 1, lost := blocked }
    if ok 0 || ok 1 then { g with pkts := (g.pkts + 1) % 2 ^ 32, lastTs := p.ts } else { g with missing := satInc 16 g.missing }) s1

/-- The packets that are due, in ascending flow index; with the fence closed they are never sent (R172). -/
def mediaDue (s : State) : State :=
  let due := s.nw.due
  let s1 : State := { s with nw := { s.nw with due := [] } }
  if mediaSends s then due.foldl sendPacket s1 else s1

/-! ### ARP, ICMP, IGMP -/

/-- ARP_REQUEST_RECEIVED (R154). -/
def arpRequest (n target sender senderMac : Nat) (s : State) : State :=
  let c := portCfg s.live n
  if portServes s n = false then s
  else if target = c.serviceIp ∧ s.fenceOpen = true then
    netSend n (serviceHdr c 0 0 0) (.arpReply target c.mac sender senderMac) s
  else if target = c.unitIp then netSend n (unitHdr c 0 0) (.arpReply target Config.unitMac sender senderMac) s
  else s

/-- ARP_REPLY_RECEIVED: cached, 64 entries per port, the newest kept (R153). -/
def arpReply (n ip mac : Nat) (s : State) : State :=
  if portServes s n then
    modPort n (fun p => { p with arp := ((ip, mac, s.clock) :: p.arp.filter (fun e => e.1 != ip)).take 64 }) s
  else s

/-- ARP_ENTRY_AGE (R153). -/
def arpAge (n ip : Nat) (s : State) : State :=
  modPort n (fun p => { p with arp := p.arp.filter (fun e => e.1 != ip || decide (s.clock < e.2.2 + 300 * uPerS)) }) s

/-- Unicast next hops of the enabled transmit flows of a port. -/
def hopsWanted (s : State) (n : Nat) : List Nat :=
  s.live.txFlow.filterMap (fun e => match e.2 with
    | some c => if c.en && flowOn c n && !isMulticast (flowDst c n) then nextHop (portCfg s.live n) (flowDst c n) else none
    | none => none)

/-- ARP_RETRY (R172): one request per second for an unresolved destination. -/
def arpRetry (n ip : Nat) (s : State) : State :=
  let p := getPort s n
  let recent := p.arpReq.any (fun e => e.1 == ip && decide (s.clock < e.2 + uPerS))
  if portServes s n = true ∧ (hopsWanted s n).contains ip = true ∧ arpKnown s n ip = false ∧ recent = false then
    netSend n (unitHdr (portCfg s.live n) 0 0) (.arpRequest (portCfg s.live n).unitIp Config.unitMac ip) (modPort n (fun p => { p with arpReq := (ip, s.clock) :: p.arpReq.filter (fun e => e.1 != ip) }) s)
  else s

/-- GRATUITOUS_ARP (R154). -/
def garpSend (s : State) : State :=
  if s.nw.garp ∧ s.fenceOpen = true then
    let one : State → Nat → State := fun t n =>
      let c := portCfg s.live n
      if portServes s n then netSend n (serviceHdr c 0 0 0) (.gratuitousArp c.serviceIp c.mac) t else t
    [0, 1].foldl one { s with nw := { s.nw with garp := false } }
  else s

/-- ICMP_ECHO_RECEIVED (R153, R154): at most 100 replies a second and 1,472 bytes; what exceeds that is discarded. -/
def icmpEcho (n src dst : Nat) (payload : Bytes) (s : State) : State :=
  let c := portCfg s.live n
  let p := getPort s n
  let sec := s.clock / uPerS
  let count := if p.icmpSec = sec then p.icmpCount else 0
  let service := dst == c.serviceIp && s.fenceOpen
  if portServes s n = false ∨ (service = false ∧ dst ≠ c.unitIp) then s
  else if 1472 < payload.length ∨ 100 ≤ count then dropFrame n s
  else
    netSend n (if service then serviceHdr c src 0 0 else unitHdr c src 0) (.icmpReply payload)
      (modPort n (fun p => { p with icmpSec := sec, icmpCount := count + 1 }) s)

/-- The groups that a configuration joins, as (port, group, source filter) (R155). -/
def members (t : Tables) : List (Nat × Nat × Nat) :=
  t.rx.flatMap (fun e => match e.2 with
    | some c => [0, 1].filterMap (fun n =>
        if c.en && flowOn c n && isMulticast (flowDst c n) then some (n, flowDst c n, flowSrc c n) else none)
    | none => [])

/-- Reports for the difference of two memberships: two for each join and leave, 1 s apart. -/
def igmpChange (old new : Tables) (s : State) : State :=
  let a := (members old).eraseDups
  let b := (members new).eraseDups
  let due : Bool → Nat × Nat × Nat → IgmpDue := fun join m =>
    { port := m.1, group := m.2.1, src := m.2.2, join, left := 2, due := s.clock }
  let gone := a.filter (fun m => !b.contains m)
  let came := b.filter (fun m => !a.contains m)
  let stale : IgmpDue → Bool := fun d => gone.contains (d.port, d.group, d.src) || came.contains (d.port, d.group, d.src)
  { s with nw := { s.nw with igmp := s.nw.igmp.filter (fun d => !stale d) ++ gone.map (due false) ++ came.map (due true) } }

/-- The IGMP version in use: the oldest of a querier that is present (RFC 3376 section 7.2.1, PRESUMED).
Log entry 103 (PRESUMED). -/
def igmpVersion (s : State) (n : Nat) : Nat :=
  let p := getPort s n
  if s.clock < p.igmpV1 then 1 else if s.clock < p.igmpV2 then 2 else 3

/-- A report in the version in use: version 3 to 224.0.0.22, a leave of version 2 to 224.0.0.2, other reports of an older
version to the group; version 1 has no leave. DSCP 48 (RFC 3376, PRESUMED). Log entry 103 (PRESUMED). -/
def igmpSend (n group src : Nat) (join : Bool) (s : State) : State :=
  let v := igmpVersion s n
  let dst := if v = 3 then 0xE0000016 else if join then group else 0xE0000002
  if v = 1 ∧ join = false then s else netSend n (unitHdr (portCfg s.live n) dst 48) (.igmp v group src join) s

/-- IGMP_REPORT: the reports of a port that are due go out. -/
def igmpReport (n : Nat) (s : State) : State :=
  if portServes s n = false then s
  else
    let now := s.nw.igmp.filter (fun d => d.port == n && decide (d.due ≤ s.clock))
    let next : IgmpDue → Option IgmpDue := fun d =>
      if d.port = n ∧ d.due ≤ s.clock then (if d.left ≤ 1 then none else some { d with left := d.left - 1, due := s.clock + uPerS })
      else some d
    now.foldl (fun (t : State) d => igmpSend n d.group d.src d.join t)
      { s with nw := { s.nw with igmp := s.nw.igmp.filterMap next } }

/-- IGMP_QUERY_RECEIVED: a general query (group 0) or one of a group. A querier of an older version is present for 260 s
from its general query on. Log entry 103 (PRESUMED). -/
def igmpQuery (n version group : Nat) (s : State) : State :=
  if portServes s n then
    let until_ := s.clock + 260 * uPerS
    let s1 := if group ≠ 0 ∨ 3 ≤ version then s
      else if version = 2 then modPort n (fun p => { p with igmpV2 := until_ }) s
      else modPort n (fun p => { p with igmpV1 := until_ }) s
    ((members s.live).eraseDups.filter (fun m => m.1 == n && (group == 0 || m.2.1 == group))).foldl
      (fun (t : State) m => igmpSend n m.2.1 m.2.2 true t) s1
  else s

/-! ### What a port handles (R153) -/

/-- A packet of this group and type is handled: multicast Sync, Delay_Req, Follow_Up, Delay_Resp and Announce (R156). -/
def ptpHandled (group : Bool) (typ : Nat) : Bool := group && (typ == 0 || typ == 1 || typ == 8 || typ == 9 || typ == 11)

/-- The length of a frame lies in Table NW-2: up to 9,022 bytes for a flow with NW_EXT_SIZE. -/
def frameLenOk (s : State) (n : Nat) (f : NetFrame) : Bool :=
  let ext := match f.body with
    | .rtp p => (flowHits s n p).any (fun h => h.2.ext)
    | _ => false
  decide (64 ≤ f.len) && decide (f.len ≤ if ext then 9022 else 1522)

/-- The traffic of Table NW-2. -/
def bodyHandled (s : State) (n : Nat) (b : FrameBody) : Bool :=
  match b with
  | .arp | .icmpEcho | .igmpQuery => true
  | .ptp group typ => ptpHandled group typ
  | .rtp p => !(flowHits s n p).isEmpty
  | .otherIp | .ipv6 | .pause | .other => false

/-- The port handles a frame (R153): at most one tag, and that of NW_VID when NW_VLAN_EN is set; no IPv4 options, no
fragment, a good header checksum. -/
def frameHandled (s : State) (n : Nat) (f : NetFrame) : Bool :=
  let c := portCfg s.live n
  (if c.vlan then f.tags == [c.vid] else decide (f.tags.length ≤ 1)) && frameLenOk s n f &&
    !f.options && !f.fragment && !f.badSum && bodyHandled s n f.body

/-! ### Rules of a configuration -/

/-- R168 and R173 on a flow; `rx` for a receive flow. -/
def flowOk (rx : Bool) (c : FlowCfg) : Bool :=
  decide (flowPayload c ≤ (if c.ext then 8960 else 1460)) &&
    (if rx then decide (flowN c ≤ flowL c) && decide (flowL c ≤ flowDs c) && decide (c.slot + c.ch * flowH c ≤ 16320)
     else decide (c.slot + c.ch * flowH c ≤ 16384))

/-- Log entry 33 (DEDUCED). -/
def flowsOf (m : Tab (Option FlowCfg)) : List FlowCfg := m.filterMap (fun e => e.2)

def sumBy {α : Type} (f : α → Nat) (l : List α) : Nat := l.foldl (fun a x => a + f x) 0

/-- The limits of R169 in one direction. -/
def loadOk (t : Tables) (m : List FlowCfg) : Bool :=
  let port : Nat → Bool := fun n =>
    let fs := m.filter (fun c => flowOn c n)
    let p := portCfg t n
    let tag := if p.vlan then 4 else 0
    let rate := sumBy (fun c => 8 * (flowPayload c + 70 + tag) * flowF c * 1000 / flowN c) fs
    decide (sumBy (fun c => flowF c * 1000 / flowN c) fs ≤ 4096000000) &&
      (p.mode == 0 || decide (rate ≤ (if p.mode = 3 then 9000000000000 else 22500000000000)))
  decide (sumBy (fun c => c.ch * flowH c) m ≤ 8192) && port 0 && port 1

/-- The regions of the media memory, in bytes (R177, Table NW-8): jitter buffers, crossbar double buffer, packet queues,
ASRC buffers, delay lines. -/
def mediaRegions : List Nat := [6291456, 131072, 1048576, 262144, 9043968]

/-- The packet queue of a direction of a port, bytes (Table NW-8). -/
def packetQueue : Nat := 262144

/-- R178. -/
def jitterBytes (m : List FlowCfg) : Nat := sumBy (fun c => (c.ch * flowDs c * 4 + 63) / 64 * 64) m

/-- The answer of R167 to R169, R173, R178, R181, R184 and R185 to a configuration. Log entry 33 (DEDUCED). -/
def nwCheck (twin : Bool) (t : Tables) : Option Nat :=
  let rx := flowsOf t.rx
  let tx := flowsOf t.txFlow
  let family := t.synth.f441 && (rx ++ tx).any (fun c => c.en)
  let addr := twin && t.port.any (fun e => match e.2 with | some p => p.unitIp == p.serviceIp | none => false)
  if (rx.all (flowOk true) && tx.all (flowOk false)) = false ∨ family = true ∨ addr = true then some stBad
  else if (loadOk t rx && loadOk t tx && decide (jitterBytes rx ≤ nth 0 mediaRegions 0)) = false then some stResource
  else none

/-- Source slots of the receive flows (R270). -/
def flowRanges (t : Tables) : List (Nat × Nat) := (flowsOf t.rx).map flowSlots

/-! ### Commits -/

/-- A port at the commit's frame boundary (R151, Table NW-9). -/
def portCommit (first : Bool) (old new : Tables) (n : Nat) (s : State) : State :=
  let p := getPort s n
  let a := portCfg old n
  let b := portCfg new n
  if first then (if b.mode ≠ 0 ∧ p.link = modeLink b.mode then s else portStart n s)
  else if a.mode = b.mode ∧ a.vlan = b.vlan ∧ a.vid = b.vid then s
  else portStart n s

/-- The state of a flow after a commit: an unchanged flow goes on, another starts anew with its counters (Table NW-9); only
a FULL reset clears the counters (R188). -/
def flowCommit (s : State) (old new : Tab (Option FlowCfg)) (m : Tab FlowState) : Tab FlowState :=
  let fresh : FlowState → FlowState := fun f =>
    { aLast := s.clock, bLast := s.clock, late := f.late, early := f.early, missing := f.missing, pkts := f.pkts, lastTs := f.lastTs }
  let gone : FlowState → FlowState := fun f =>
    { late := f.late, early := f.early, missing := f.missing, pkts := f.pkts, lastTs := f.lastTs }
  let left := old.foldl (fun (a : Tab FlowState) e => if tabGet none new e.1 = none then tabMod {} a e.1 gone else a) m
  new.foldl (fun (a : Tab FlowState) e => if tabGet none old e.1 ≠ e.2 then tabMod {} a e.1 fresh else a) left

/-- The ports and flows at the commit's frame boundary. -/
def nwCommit (first : Bool) (old new : Tables) (s : State) : State :=
  let s1 := portCommit first old new 1 (portCommit first old new 0 s)
  igmpChange (if first then {} else old) new
    { s1 with nw := { s1.nw with rx := flowCommit s1 old.rx new.rx s1.nw.rx, tx := flowCommit s1 old.txFlow new.txFlow s1.nw.tx } }

/-- NW_FEC_UNCORR counts on a port that runs with RS-FEC (R150, R188). -/
def fecCount (inp : FrameInput) (s : State) : State :=
  let one : State → Nat → State := fun t n =>
    modPort n (fun p => if p.link = 3 then { p with fecUncorr := satAdd16 p.fecUncorr (nth 0 inp.fec n) } else p) t
  [0, 1].foldl one s

/-! ### Staged payloads -/

/-- NW_PORT_CFG (R181, Table NW-11). -/
def okNwPortCfg (p : Bytes) : Bool :=
  decide (u8 p 0 ≤ 1) && decide (u8 p 1 ≤ 3) && !bit p 29 0 && decide (u8 p 30 ≤ 63) &&
    (!bit p 2 0 || (decide (1 ≤ u16 p 4 % 4096) && decide (u16 p 4 % 4096 ≤ 4094)))

/-- A unit address equal to the service address in a twin position (R181). -/
def portAddrOk (twin : Bool) (p : Bytes) : Bool := !(twin && u32 p 8 == u32 p 12)

def putNwPortCfg (p : Bytes) (t : Tables) : Tables :=
  let c : PortCfg := { mode := u8 p 1, vlan := bit p 2 0, pcp := fld p 3 7 5, vid := u16 p 4 % 4096, unitIp := u32 p 8,
                       serviceIp := u32 p 12, mask := u32 p 16, gateway := u32 p 20, mac := u48 p 24, dscp := u8 p 30 }
  { t with port := tabSet none t.port (u8 p 0) (some c) }

/-- What the two flow commands share (Table NW-14). -/
def flowFieldsOk (p : Bytes) : Bool :=
  decide (u8 p 3 ≤ 1) && decide (u8 p 4 ≤ 1) && decide (u8 p 5 ≤ 4) && decide (1 ≤ u8 p 6) && decide (u8 p 6 ≤ 64) &&
    fld p 10 1 0 != 0

def okNwRxFlow (p : Bytes) : Bool :=
  flowFieldsOk p && (u8 p 11 == 0 || (decide (96 ≤ u8 p 11) && decide (u8 p 11 ≤ 127))) && decide (250 ≤ u16 p 12) &&
    decide (u16 p 12 ≤ 4000)

def readFlowCfg (p : Bytes) : FlowCfg :=
  { en := bit p 2 0, l24 := u8 p 3 == 1, r96 := u8 p 4 == 1, ptime := u8 p 5, ch := u8 p 6, ext := bit p 7 0, slot := u16 p 8,
    ports := fld p 10 1 0, pt := u8 p 11 }

def putNwRxFlow (p : Bytes) (t : Tables) : Tables :=
  let c : FlowCfg := { readFlowCfg p with depth := u16 p 12, off := u16 p 14, dstA := u32 p 16, srcA := u32 p 20,
                                          udpA := u16 p 24, dstB := u32 p 28, srcB := u32 p 32, udpB := u16 p 36, ssrc := u32 p 40 }
  { t with rx := tabSet none t.rx (u16 p 0 % 512) (some c) }

def okNwTxFlow (p : Bytes) : Bool :=
  flowFieldsOk p && decide (96 ≤ u8 p 11) && decide (u8 p 11 ≤ 127) && decide (u8 p 12 ≤ 63) && decide (1 ≤ u8 p 13)

def putNwTxFlow (p : Bytes) (t : Tables) : Tables :=
  let c : FlowCfg := { readFlowCfg p with dscp := u8 p 12, ttl := u8 p 13, udpSrc := u16 p 14, dstA := u32 p 16,
                                          udpA := u16 p 20, dstB := u32 p 24, udpB := u16 p 28, ssrc := u32 p 32 }
  { t with txFlow := tabSet none t.txFlow (u16 p 0 % 512) (some c) }

/-! ### Direct commands -/

/-- NW_FLOW_ENABLE (R186): the flow must be committed; no flow runs in the 44.1 kHz family (R167).
Log entry 33 (DEDUCED). -/
def chkFlowEnable (p : Bytes) (s : State) : Option Nat :=
  let i := u16 p 0 % 512
  let c := if bit p 2 1 then txFlowCfg s.live i else rxFlow s.live i
  if c = none ∨ (bit p 2 0 = true ∧ f441 s = true) then some stBad else none

def setFlowEn (p : Bytes) (t : Tables) : Tables :=
  let i := u16 p 0 % 512
  let f : Option FlowCfg → Option FlowCfg := fun c => c.map (fun c => { c with en := bit p 2 0 })
  if bit p 2 1 then { t with txFlow := tabMod none t.txFlow i f } else { t with rx := tabMod none t.rx i f }

/-- A flow is enabled or disabled: one that changes starts with empty buffers, and no packet of a transmit flow that is
disabled is due any more (R186). -/
def flowEnable (p : Bytes) (s : State) : State :=
  let i := u16 p 0 % 512
  let s1 := writeTables (setFlowEn p) s
  let fresh : FlowState → FlowState := fun f => { f with buf := [], hist := [], aLast := s.clock, bLast := s.clock, missRun := 0 }
  if s1.live = s.live then s1 else if bit p 2 1 then modTxFlow i fresh { s1 with nw := { s1.nw with due := s1.nw.due.filter (fun d => d.flow != i) } }
  else igmpChange s.live s1.live (modRxFlow i fresh s1)

def applyFlowEnable (c : Cmd) (s : State) : State := respond c stDone [] (noteDirect c (flowEnable c.payload s))

/-- NW_SFP_READ (R187): the module's management data, address 0x50 first, then 0x51. -/
def sfpStart (p : Bytes) : Nat := (u8 p 1 - 0x50) * 256 + u8 p 2

def chkSfpRead (p : Bytes) (s : State) : Option Nat :=
  if 1 < u8 p 0 ∨ (u8 p 1 ≠ 0x50 ∧ u8 p 1 ≠ 0x51) ∨ u8 p 3 = 0 ∨ 16 < u8 p 3 ∨ 256 < u8 p 2 + u8 p 3 then some stBad
  else
    let m := getPort s (u8 p 0)
    if m.modabs = true ∨ m.module.length < sfpStart p + u8 p 3 then some stState else none

def applySfpRead (c : Cmd) (s : State) : State :=
  let p := c.payload
  respond c stDone (slice (getPort s (u8 p 0)).module (sfpStart p) (u8 p 3)) s

/-! ### Status -/

/-- NW_PORT_STATUS (Table NW-18). -/
def nwPortStatus (n : Nat) (s : State) : Bytes :=
  let p := getPort s n
  le 1 p.link ++ le 1 (4 * b2n p.modabs + 2 * b2n p.los + b2n p.txdis) ++ le 6 Config.unitMac ++ le 4 p.rxDrops ++
    le 2 p.fecUncorr ++ le 2 p.linkDowns

/-- NW_FLOW_STATUS (Table NW-20). -/
def nwFlowStatus (i : Nat) (tx : Bool) (s : State) : Bytes :=
  let f := if tx then txFlowState s i else rxState s i
  le 1 (4 * b2n f.lost + 2 * b2n f.bOk + b2n f.aOk) ++ zeros 1 ++ le 2 f.late ++ le 2 f.early ++ le 2 f.missing ++ le 4 f.pkts ++
    le 4 f.lastTs

/-! ### The meanings of the rows -/

def execNwPortCfg (k : OrdClass) (s : State) : Host.Outcome State Fault Refusal := .next (startStaged k 0x0710 (fun p => okNwPortCfg p && portAddrOk (twinPos s) p) s)
def execNwRxFlow (k : OrdClass) (s : State) : Host.Outcome State Fault Refusal := .next (startStaged k 0x0713 okNwRxFlow s)
def execNwTxFlow (k : OrdClass) (s : State) : Host.Outcome State Fault Refusal := .next (startStaged k 0x0714 okNwTxFlow s)
def execNwFlowEnable (k : OrdClass) (s : State) : Host.Outcome State Fault Refusal :=
  .next (startDirect k 0x0715 chkFlowEnable s)
def execNwSfpRead (k : OrdClass) (s : State) : Host.Outcome State Fault Refusal := .next (startDirect k 0x0716 chkSfpRead s)
def execNwPortStatus (k : OrdClass) (s : State) : Host.Outcome State Fault Refusal :=
  .next (startStatus k 0x0E20 (fun p => decide (u8 p 0 ≤ 1)) (fun p t => nwPortStatus (u8 p 0) t) s)
def execNwFlowStatus (k : OrdClass) (s : State) : Host.Outcome State Fault Refusal :=
  .next (startStatus k 0x0E22 (fun _ => true) (fun p t => nwFlowStatus (u16 p 0 % 512) (bit p 2 1) t) s)

/-- SFPn_MODABS falls; the module's management data is read (R152). -/
def execSfpModuleInserted (n : Nat) (identity : Bytes) (s : State) : Host.Outcome State Fault Refusal :=
  if n < 2 ∧ (getPort s n).modabs = true then
    .next (portStart n (modPort n (fun p => { p with modabs := false, module := identity }) s))
  else .next s

/-- FRAME_DISCARDED (R153): a frame that the port does not handle is discarded and counted; what it handles has rows of
its own. Log entry 35 (DEDUCED). -/
def execFrameDiscarded (f : PortFrame) (s : State) : Host.Outcome State Fault Refusal :=
  .next (if portServes s f.port && !frameHandled s f.port f.frame then dropFrame f.port s else s)

/-- 500 ms without block lock before the first commit (R151). -/
def execLinkTrainingAlternate (n : Nat) (s : State) : Host.Outcome State Fault Refusal :=
  let p := getPort s n
  if n < 2 ∧ s.firstLive = false ∧ p.link = 1 ∧ p.tryAt + 500 * uPerMs ≤ s.clock then
    .next (modPort n (fun p => { p with try10 := !p.try10, tryAt := s.clock }) s)
  else .next s

def execMediaPacketReceived (n : Nat) (p : RtpPacket) (s : State) : Host.Outcome State Fault Refusal := .next (packetIn n p s)
def execArpRequestReceived (n target sender senderMac : Nat) (s : State) : Host.Outcome State Fault Refusal :=
  .next (arpRequest n target sender senderMac s)
def execArpReplyReceived (n ip mac : Nat) (s : State) : Host.Outcome State Fault Refusal := .next (arpReply n ip mac s)
def execArpEntryAge (n ip : Nat) (s : State) : Host.Outcome State Fault Refusal := .next (if n < 2 then arpAge n ip s else s)
def execArpRetry (n ip : Nat) (s : State) : Host.Outcome State Fault Refusal := .next (arpRetry n ip s)
def execGratuitousArp (s : State) : Host.Outcome State Fault Refusal := .next (garpSend s)
def execIcmpEchoReceived (n : Nat) (path : IpPair) (payload : Bytes) (s : State) : Host.Outcome State Fault Refusal :=
  .next (icmpEcho n path.src path.dst payload s)
def execIgmpQueryReceived (n : Nat) (q : IgmpQuery) (s : State) : Host.Outcome State Fault Refusal :=
  .next (igmpQuery n q.version q.group s)
def execIgmpReport (n : Nat) (s : State) : Host.Outcome State Fault Refusal := .next (igmpReport n s)

/-- The packets due, not before 4 us after their frame boundary (R172). -/
def execMediaPacketDue (s : State) : Host.Outcome State Fault Refusal :=
  .next (if s.nw.dueAt ≤ s.clock then mediaDue s else s)

def execFlowLost (i : Nat) (s : State) : Host.Outcome State Fault Refusal := .next (flowLost i s)
def execFlowPathLost (i : Nat) (pathB : Bool) (s : State) : Host.Outcome State Fault Refusal := .next (flowPathLost i pathB s)

end Sys2Proof.Machine
end

