-- ==== Sys2Proof/Machine/Ptp.lean ====
section
/-! DEFINITION. PTP (R156 to R166, R182, R183): the data set and the best master decision, the messages of master and slave
ports, the links whose loss ends a port's PTP, and the commands and events. -/
namespace Sys2Proof.Machine

/-! ### Configuration -/

/-- 2^log seconds (Table NW-4). -/
def logTime (l : Int) : Nat := if l < 0 then uPerS / 2 ^ l.natAbs else uPerS * 2 ^ l.toNat

/-- NW_CLOCK_ID; 0 selects the unit identity in fuses (R162). -/
def clockId (t : Tables) : Nat := if t.ptp.clockId = 0 then Config.unitIdentity else t.ptp.clockId

/-- The port takes part in PTP. -/
def ptpOn (s : State) (n : Nat) : Bool := portServes s n && (ptpPortCfg s.live n).role != 0

/-- The PTP candidate of a port (R118, R159). -/
def ptpCand (s : State) (n : Nat) : Option Nat := newIndex s.live (1 + n) 12 0

/-! ### The data set (R161) -/

/-- The class announced, by Table NW-5. A HOLDOVER that was entered from another class than 6 or 13 (from ACQUIRE, class
248) is in no row of the table: it is announced as one from 13, which claims no traceable time.
Log entry 104 (DESIGN CHOICE). -/
def ownClass (s : State) : Nat :=
  match s.mode with
  | .locked => if class6 s then 6 else 13
  | .holdover => if s.tk.hoAged then (if s.tk.hoFrom6 then 52 else 58) else if s.tk.hoFrom6 then 7 else 14
  | _ => 248

/-- The clock's own announcement (Table NW-5 and R161). In HOLDOVER no candidate is selected, and R161 names no
timeSource: 0x90, other, is announced. Log entry 105 (DESIGN CHOICE). -/
def ownAnnounce (s : State) : Announce :=
  let c := ownClass s
  let typ := match s.tk.selected with | some i => (candCfg s.live i).typ | none => 0
  let src := if s.mode = .freerun ∨ s.mode = .acquire then 0xA0 else if typ = 1 ∨ typ = 2 then 0x40 else if typ = 3 then 0x20 else 0x90
  let near := decide (s.tk.leapAt ≤ secOf s.spindle + 43200) && s.tk.leapPend != 0
  { gmId := clockId s.live, prio1 := s.live.ptp.prio1, cls := c, accuracy := if c = 6 then 0x21 else 0xFE,
    variance := if c = 6 ∨ c = 13 then 0x4E5D else 0xFFFF, prio2 := s.live.ptp.prio2, steps := 0, utcOffset := s.tk.utcNow,
    utcValid := s.tk.utcSet, leap61 := near && s.tk.leapPend == 1, leap59 := near && s.tk.leapPend == 2,
    timeTraceable := c == 6 || c == 7, freqTraceable := c == 6 || c == 13 || c == 7 || c == 14, timeSource := src }

/-- The port in SLAVE whose PTP entry is the selected candidate. -/
def slavePort (s : State) : Option Nat :=
  match s.tk.selected with
  | some i =>
    let t := (candCfg s.live i).typ
    if t = 1 ∧ s.nw.ptp0.st = 9 then some 0 else if t = 2 ∧ s.nw.ptp1.st = 9 then some 1 else none
  | none => none

/-- The announcement of a port's parent. -/
def parentAnn (p : PtpState) : Option Announce :=
  match p.parent with
  | some id => (p.foreign.find? (fun f => f.id == id)).map (fun f => f.ann)
  | none => none

/-- What a MASTER port announces (R161). -/
def announceNow (s : State) : Announce :=
  match slavePort s with
  | some n =>
    match parentAnn (getPtp s n) with
    | some a => { a with steps := a.steps + 1 }
    | none => ownAnnounce s
  | none => ownAnnounce s

/-! ### The best master decision (R159; IEEE 1588-2019, PRESUMED) -/

/-- The order of two lists of numbers, the first difference deciding; lower is better. -/
def lexBetter : List Nat → List Nat → Bool
  | a :: as, b :: bs => if a < b then true else if b < a then false else lexBetter as bs
  | _, _ => false

/-- A data set in a comparison: what is announced, by which clock, and at which port it was received. -/
structure DataSet where
  ann : Announce
  sender : Nat
  receiver : PortId
deriving DecidableEq, Repr

/-- How one data set compares with another: better, better by topology, no better, and the same for the other one. -/
inductive DsOrder where
  | better
  | betterTopo
  | same
  | worseTopo
  | worse
deriving DecidableEq, Repr

/-- The order of two identities that decides by topology. -/
def topoOrder (a b : Nat) (tie : DsOrder) : DsOrder := if a < b then .betterTopo else if b < a then .worseTopo else tie

/-- The data set comparison (IEEE 1588-2019 figures 34 and 35): priority1, class, accuracy, variance, priority2 and
identity for two grandmasters; for one grandmaster the steps removed, then the identities of senders and receivers.
Log entry 31 (PRESUMED). -/
def dsCompare (a b : DataSet) : DsOrder :=
  if a.ann.gmId ≠ b.ann.gmId then
    if lexBetter [a.ann.prio1, a.ann.cls, a.ann.accuracy, a.ann.variance, a.ann.prio2, a.ann.gmId]
        [b.ann.prio1, b.ann.cls, b.ann.accuracy, b.ann.variance, b.ann.prio2, b.ann.gmId] then .better else .worse
  else if a.ann.steps + 1 < b.ann.steps then .better
  else if b.ann.steps + 1 < a.ann.steps then .worse
  else if a.ann.steps < b.ann.steps then
    if b.receiver.clock < b.sender then .better else topoOrder b.sender b.receiver.clock .same
  else if b.ann.steps < a.ann.steps then
    if a.receiver.clock < a.sender then .worse else topoOrder a.receiver.clock a.sender .same
  else topoOrder a.sender b.sender (topoOrder a.receiver.port b.receiver.port .same)

/-- Better, by topology too. -/
def dsBetter (a b : DataSet) : Bool := dsCompare a b == .better || dsCompare a b == .betterTopo

/-- A foreign master counts after two announcements within four intervals. Log entry 31 (PRESUMED). -/
def foreignOk (s : State) (n : Nat) (f : Foreign) : Bool :=
  decide (2 ≤ f.count) && decide (s.clock ≤ f.at_ + 4 * logTime (ptpPortCfg s.live n).logAnn) && decide (f.ann.steps < 255)

/-- The identity of a port (R162). -/
def portIdentity (s : State) (n : Nat) : PortId := { clock := clockId s.live, port := n + 1 }

def foreignSet (s : State) (n : Nat) (f : Foreign) : DataSet :=
  { ann := f.ann, sender := f.id.clock, receiver := portIdentity s n }

/-- The best foreign master of a port, Erbest. -/
def bestForeign (s : State) (n : Nat) : Option Foreign :=
  ((getPtp s n).foreign.filter (foreignOk s n)).foldl (fun b f => match b with
    | none => some f
    | some g => if dsBetter (foreignSet s n f) (foreignSet s n g) then some f else some g) none

/-- The best foreign master of the clock, Ebest: of the ports that can be slaves. -/
def bestOfAll (s : State) : Option DataSet :=
  let one : Nat → Option DataSet := fun n =>
    if ptpOn s n && decide (2 ≤ (ptpPortCfg s.live n).role) then (bestForeign s n).map (foreignSet s n) else none
  match one 0, one 1 with
  | some a, some b => if dsBetter b a then some b else some a
  | some a, none => some a
  | none, b => b

/-- The data set D0 that the decision compares: that of Table NW-5, but class 248 while the time comes from a PTP reference
(PRESUMED: a clock does not prefer itself to the master it follows). Log entry 31 (PRESUMED). -/
def ownDataSet (s : State) : DataSet :=
  let typ := match s.tk.selected with | some i => (candCfg s.live i).typ | none => 0
  { ann := if typ = 1 ∨ typ = 2 then { ownAnnounce s with cls := 248 } else ownAnnounce s, sender := clockId s.live,
    receiver := portIdentity s 0 }

/-- The state that the decision gives a port (IEEE 1588-2019 figure 33): 6 MASTER by M1 or M2, 5 by M3, 7 PASSIVE by P1 or
P2, 8 by S1. A GM_ONLY port compares the device with the masters of its own network; a SLAVE_ONLY port follows its best
master, and is 4 LISTENING without one. Log entry 31 (PRESUMED). -/
def bmcaState (s : State) (n : Nat) : Nat :=
  let own := ownDataSet s
  let mine := (bestForeign s n).map (foreignSet s n)
  let beaten := match mine with | some f => !dsBetter own f | none => false
  match (ptpPortCfg s.live n).role with
  | 1 => if beaten then 7 else 6
  | 2 => if mine.isSome then 8 else 4
  | _ =>
    if own.ann.cls ≤ 127 then (if beaten then 7 else 6)
    else match bestOfAll s with
      | none => 6
      | some b =>
        if dsBetter own b then 6
        else if mine = some b then 8
        else match mine with
          | some f => if dsCompare b f = .betterTopo then 7 else 5
          | none => 5

/-- A port leaves SLAVE: its candidate is lost (Table NW-9). -/
def losePtp (n : Nat) (s : State) : State :=
  match ptpCand s n with
  | some i => loseCand i s
  | none => s

/-- A port takes a state. Log entry 31 (PRESUMED). -/
def ptpEnter (n st : Nat) (s : State) : State :=
  let old := (getPtp s n).st
  if old = st then s
  else
    let clear : PtpState → PtpState := fun p =>
      if st = 8 ∨ st = 9 then { p with st }
      else { p with st, parent := none, offset := 0, sync := none, t21 := none, dreq := none, hasMpd := false, borrowed := false, listenFrom := s.clock }
    let s1 := modPtp n clear s
    if old = 9 then losePtp n s1 else s1

/-- Qualification in PRE_MASTER ends (IEEE 1588-2019, log entry 31). -/
def ptpQualify (n : Nat) (s : State) : State :=
  if (getPtp s n).st = 5 ∧ (getPtp s n).qualAt ≤ s.clock then modPtp n (fun p => { p with st := 6 }) s else s

/-- A port becomes MASTER: at once, or, while the clock follows a master on its other port, after as many announce
intervals as the clock will be steps from its grandmaster, and one more (log entry 31). -/
def ptpMaster (n want : Nat) (s : State) : State :=
  let s1 := modPtp n (fun p => { p with better := false }) s
  if want = 6 then ptpEnter n 6 s1
  else if (getPtp s n).st = 5 ∨ (getPtp s n).st = 6 then s1
  else
    let steps := match bestOfAll s with | some b => b.ann.steps + 2 | none => 1
    modPtp n (fun p => { p with qualAt := s.clock + steps * logTime (ptpPortCfg s.live n).logAnn }) (ptpEnter n 5 s1)

/-- A port follows its best master: UNCALIBRATED until it has an offset; another master than before is a new one. -/
def ptpFollow (n : Nat) (s : State) : State :=
  let p := getPtp s n
  match bestForeign s n with
  | none => s
  | some f =>
    if p.parent = some f.id ∧ (p.st = 8 ∨ p.st = 9) then s
    else
      let s1 := if p.st = 9 then losePtp n s else s
      let init : PtpState → PtpState := fun p =>
        { p with st := 8, parent := some f.id, sync := none, t21 := none, dreq := none, hasMpd := false, lastAnn := some s.clock, offset := 0 }
      modPtp n init s1

/-- A GM_ONLY port that sees a better master is PASSIVE, sets NW_BETTER_SEEN and raises an ALARM (R159). -/
def ptpYield (n : Nat) (s : State) : State :=
  let s1 := if (getPtp s n).better then s else raiseAlarm blkNW s
  ptpEnter n 7 (modPtp n (fun p => { p with better := true }) s1)

/-- The port's state follows the decision. A port that waits in LISTENING and hears no master stays there until its
timeout. -/
def ptpDecide (n : Nat) (s : State) : State :=
  if ptpOn s n = false then s
  else
    let s1 := ptpQualify n s
    let want := bmcaState s1 n
    if (getPtp s1 n).st = 4 ∧ bestForeign s1 n = none then s1
    else if want = 8 then ptpFollow n s1
    else if want = 7 ∧ (ptpPortCfg s.live n).role = 1 then ptpYield n s1
    else if want = 5 ∨ want = 6 then ptpMaster n want s1
    else ptpEnter n want s1

def ptpDecideAll (s : State) : State := ptpDecide 1 (ptpDecide 0 s)

/-- portState as reported: a MASTER-eligible port reads LISTENING while time-valid is clear (R160). -/
def ptpStNow (s : State) (n : Nat) : Nat := let st := (getPtp s n).st; if (st = 5 ∨ st = 6) ∧ s.timeValid = false then 4 else st

/-- A MASTER port transmits (R160). -/
def masterSends (s : State) (n : Nat) : Bool :=
  ptpOn s n && (getPtp s n).st == 6 && s.fenceOpen && s.timeValid && eligible s

/-- PTP of a port starts anew, when its link comes up or its settings change; its counters stay. -/
def ptpStart (n : Nat) (s : State) : State :=
  let st := if (ptpPortCfg s.live n).role = 0 then 3 else if linkUp s n then 4 else 1
  let s1 := ptpEnter n st s
  modPtp n (fun p => { st, dreqDrops := p.dreqDrops, ownDiscards := p.ownDiscards, dreqSeq := p.dreqSeq, listenFrom := s.clock }) s1

/-! ### Offset and delay (R158, R164) -/

/-- The mean path delay that the partner's holder measured, for a unit that sends no Delay_Req (R164). -/
def lentMpd (s : State) (n : Nat) : Option Int :=
  if s.role = .standby ∨ s.role = .fenced then (s.tw.mirror.map (fun m => if n = 0 then m.mpd0 else m.mpd1)) else none

/-- A new offset from the last Sync: reported, and the candidate's phase is reference time minus Spindle time; a port that
has its delay goes from UNCALIBRATED to SLAVE. A borrowed delay serves until the first Delay_Resp. -/
def ptpOffset (n : Nat) (s : State) : State :=
  let p := getPtp s n
  let lent := lentMpd s n
  let mpd := lent.getD p.mpd
  match p.t21 with
  | none => s
  | some d =>
    if p.hasMpd = false ∧ lent = none ∧ p.borrowed = false then s
    else
      let off := d - mpd
      let s1 := modPtp n (fun p => { p with st := 9, offset := off, mpd, borrowed := lent.isSome || p.borrowed }) s
      match ptpCand s1 n with
      | none => s1
      | some i => match (candSt s1 i).st with
        | .off => s1
        | .noSignal => s1
        | _ => setMeas i (-off) s1

/-- A timestamp has a resolution of 50 ps (R158). -/
def stamp (t : Int) : Int := t / 50 * 50

/-- The header of a PTP message that a port sends (R162): correctionField of a request for its response. -/
def sentHdr (s : State) (n seq : Nat) (correction logInterval : Int) : PtpHeader :=
  { source := portIdentity s n, domain := s.live.ptp.domain, seq, correction, logInterval }

/-- A PTP message to 224.0.1.129, event port 319 or general port 320, with NW_PTP_DSCP (R156, R181). -/
def ptpSend (n udp : Nat) (m : NetMsg) (s : State) : State :=
  let c := portCfg s.live n
  netSend n (serviceHdr c 0xE0000181 c.dscp udp) m s

/-- A received message of a port: own messages are discarded and counted (R163), other domains are not heard. -/
def ptpHears (n : Nat) (h : PtpHeader) (s : State) (act : State → State) : State :=
  if ptpOn s n = false then s
  else if h.source.clock = clockId s.live then modPtp n (fun p => { p with ownDiscards := satInc 16 p.ownDiscards }) s
  else if h.domain ≠ s.live.ptp.domain then s
  else act s

/-- The message comes from the port's parent, and the port follows it. -/
def fromParent (s : State) (n : Nat) (h : PtpHeader) : Bool :=
  let p := getPtp s n
  (p.st == 8 || p.st == 9) && p.parent == some h.source

/-- PTP_SYNC_RECEIVED; a one-step Sync carries its origin time. -/
def ptpSync (n : Nat) (h : PtpHeader) (twoStep : Bool) (origin arrival : Int) (s : State) : State :=
  ptpHears n h s fun s =>
    if fromParent s n h = false then s
    else
      let t2 := stamp arrival - (ptpPortCfg s.live n).asymRx - h.correction
      let s1 := modPtp n (fun p => { p with lastSync := some s.clock }) s
      if twoStep then modPtp n (fun p => { p with sync := some (h.seq, t2) }) s1
      else ptpOffset n (modPtp n (fun p => { p with sync := none, t21 := some (t2 - origin) }) s1)

/-- PTP_FOLLOW_UP_RECEIVED completes the two-step Sync of its sequenceId. -/
def ptpFollowUp (n : Nat) (h : PtpHeader) (origin : Int) (s : State) : State :=
  ptpHears n h s fun s =>
    if fromParent s n h = false then s
    else match (getPtp s n).sync with
      | none => s
      | some (q, t2) =>
        if q = h.seq then ptpOffset n (modPtp n (fun p => { p with sync := none, t21 := some (t2 - origin - h.correction) }) s) else s

/-- PTP_DELAY_REQ_DUE (R164): a slave port of a unit that neither stands by nor is fenced. -/
def ptpDelayReq (n : Nat) (departure : Int) (s : State) : State :=
  let p := getPtp s n
  let ready := match p.dreqAt with
    | none => true
    | some t => decide (t + logTime (ptpPortCfg s.live n).logDreq ≤ s.clock)
  if ptpOn s n ∧ (p.st = 8 ∨ p.st = 9) ∧ s.fenceOpen = true ∧ s.mode ≠ .safe ∧ ready = true then
    let t3 := stamp departure + (ptpPortCfg s.live n).asymTx
    ptpSend n 319 (.delayReq (sentHdr s n p.dreqSeq 0 127))
      (modPtp n (fun p => { p with dreq := some (p.dreqSeq, t3), dreqSeq := (p.dreqSeq + 1) % 65536, dreqAt := some s.clock }) s)
  else s

/-- PTP_DELAY_RESP_RECEIVED: the mean of the two paths. -/
def ptpDelayResp (n : Nat) (h : PtpHeader) (requester : PortId) (receipt : Int) (s : State) : State :=
  ptpHears n h s fun s =>
    let p := getPtp s n
    if fromParent s n h = false ∨ requester ≠ portIdentity s n then s
    else match p.dreq, p.t21 with
      | some (q, t3), some d =>
        if q = h.seq then
          let mpd := (d + (receipt - h.correction - t3)) / 2
          ptpOffset n (modPtp n (fun p => { p with dreq := none, mpd, hasMpd := true, borrowed := false }) s)
        else s
      | _, _ => s

/-- Leap information of the selected PTP reference (R139). The instant is the end of the UTC day, as IEEE 1588 has it
(PRESUMED). Log entry 32 (PRESUMED). -/
def ptpLeap (n : Nat) (a : Announce) (s : State) : State :=
  if slavePort s = some n ∧ a.utcValid = true then
    let now : Int := (secOf s.spindle : Nat)
    let midnight : Int := ((now - a.utcOffset) / 86400 + 1) * 86400 + a.utcOffset
    let pend := if a.leap61 then 1 else if a.leap59 then 2 else 0
    let at_ : Int := if pend = 1 then midnight + 1 else midnight - 1
    { s with tk := { s.tk with leapPort := some n, utcSet := true, utcNow := a.utcOffset, leapPend := pend,
                               leapAt := if pend = 0 then 0 else at_.toNat } }
  else s

/-- The selected candidate is PTP, and its Announce messages mark the UTC offset valid (R139). -/
def leapGiven (s : State) (n : Nat) : Bool :=
  slavePort s == some n && (match parentAnn (getPtp s n) with | some a => a.utcValid | none => false)

/-- Otherwise the last TK_LEAP values are in use; a PTP reference that comes into use gives its own at once (R139).
Log entry 30 (DEDUCED). -/
def leapSource (s : State) : State :=
  let s1 : State := match s.tk.leapPort with
    | some n => if leapGiven s n then s else
        { s with tk := { s.tk with leapPort := none, utcNow := s.tk.hostUtc, leapPend := s.tk.hostPend, leapAt := s.tk.hostLeapAt } }
    | none => s
  match s1.tk.leapPort, slavePort s1 with
  | none, some n => if leapGiven s1 n then (match parentAnn (getPtp s1 n) with | some a => ptpLeap n a s1 | none => s1) else s1
  | _, _ => s1

/-- PTP_ANNOUNCE_RECEIVED (R159): the foreign master is counted, at most five of them; the decision is made anew. -/
def ptpAnnounce (n : Nat) (h : PtpHeader) (a : Announce) (s : State) : State :=
  ptpHears n h s fun s =>
    let p := getPtp s n
    let live := p.foreign.filter (fun f => decide (s.clock ≤ f.at_ + 4 * logTime (ptpPortCfg s.live n).logAnn))
    let old := (live.find? (fun f => f.id == h.source)).map (fun f => f.count)
    let rec_ : Foreign := { id := h.source, ann := a, count := old.getD 0 + 1, at_ := s.clock }
    let list := (rec_ :: live.filter (fun f => f.id != h.source)).take 5
    let mine := p.parent == some h.source
    let s1 := modPtp n (fun p => { p with foreign := list, lastAnn := if mine then some s.clock else p.lastAnn }) s
    let s2 := ptpDecideAll s1
    leapSource (if mine then ptpLeap n a s2 else s2)

/-- PTP_DELAY_REQ_RECEIVED (R160, R166): 32,768 a second are answered; the response carries the request's sequenceId and
correctionField. -/
def ptpDelayReqIn (n : Nat) (h : PtpHeader) (arrival : Int) (s : State) : State :=
  ptpHears n h s fun s =>
    let p := getPtp s n
    let sec := s.clock / uPerS
    let count := if p.dreqSec = sec then p.dreqCount else 0
    if masterSends s n = false then s
    else if 32768 ≤ count then modPtp n (fun p => { p with dreqDrops := satInc 16 p.dreqDrops }) s
    else
      let c := ptpPortCfg s.live n
      ptpSend n 320 (.delayResp (sentHdr s n h.seq h.correction c.logDreq) h.source (stamp arrival - c.asymRx))
        (modPtp n (fun p => { p with dreqSec := sec, dreqCount := count + 1 }) s)

/-- The place of a message on the Spindle time grid is the present frame, and the fence was open at it (R165). -/
def placeNow (s : State) (t : Nat) : Bool :=
  decide (t ≤ s.spindle) && decide (s.spindle < t + frameLen (f441 s)) && decide (s.fp.fenceOpened + (s.spindle - t) ≤ s.clock)

/-- The Follow_Up of the last Sync goes out, where it is still unsent. Log entry 106 (DESIGN CHOICE). -/
def followUpSend (n : Nat) (s : State) : State :=
  match (getPtp s n).followUp with
  | some (q, t) =>
    let s1 := modPtp n (fun p => { p with followUp := none }) s
    if masterSends s n then ptpSend n 320 (.followUp (sentHdr s n q 0 (ptpPortCfg s.live n).logSync) t) s1 else s1
  | none => s

/-- Sync j has its timestamp point at j * I + 2 us. -/
def syncPlace (s : State) (n : Nat) : Nat × Nat :=
  let i := logTime (ptpPortCfg s.live n).logSync
  let j := (s.spindle - 2 * uPerUs) / i
  (j, j * i + 2 * uPerUs)

/-- PTP_SYNC_DUE (R165): Sync j goes out at its place, and its Follow_Up after it. -/
def ptpSyncDue (n : Nat) (s : State) : State :=
  let s0 := followUpSend n (ptpQualify n s)
  let p := syncPlace s0 n
  if masterSends s0 n ∧ placeNow s0 p.2 = true ∧ (getPtp s0 n).syncNo ≠ some p.1 then
    ptpSend n 319 (.sync (sentHdr s0 n (p.1 % 65536) 0 (ptpPortCfg s0.live n).logSync) p.2)
      (modPtp n (fun q => { q with syncNo := some p.1, followUp := some (p.1 % 65536, p.2) }) s0)
  else s0

/-- Announce a is sent at a * 2^logAnnounceInterval s + 5 us. -/
def annPlace (s : State) (n : Nat) : Nat × Nat :=
  let i := logTime (ptpPortCfg s.live n).logAnn
  let a := (s.spindle - 5 * uPerUs) / i
  (a, a * i + 5 * uPerUs)

/-- PTP_ANNOUNCE_DUE (R165). -/
def ptpAnnounceDue (n : Nat) (s : State) : State :=
  let s0 := followUpSend n (ptpQualify n s)
  let p := annPlace s0 n
  if masterSends s0 n ∧ placeNow s0 p.2 = true ∧ (getPtp s0 n).annNo ≠ some p.1 then
    ptpSend n 320 (.announce (sentHdr s0 n (p.1 % 65536) 0 (ptpPortCfg s0.live n).logAnn) (announceNow s0) s0.live.ptp.tlv)
      (modPtp n (fun q => { q with annNo := some p.1 }) s0)
  else s0

/-- What a frame boundary does for PTP: unsent Follow_Ups go out, and a qualification that is over ends. -/
def ptpFrame (s : State) : State := [0, 1].foldl (fun (t : State) n => followUpSend n (ptpQualify n t)) s

/-- PTP_ANNOUNCE_TIMEOUT: announceReceiptTimeout intervals without an Announce; the port decides without its parent, and
becomes MASTER from LISTENING unless it is SLAVE_ONLY. -/
def ptpAnnTimeout (n : Nat) (s : State) : State :=
  let p := getPtp s n
  let c := ptpPortCfg s.live n
  let since := if p.st = 4 then p.listenFrom else p.lastAnn.getD p.listenFrom
  if ptpOn s n = true ∧ (p.st = 4 ∨ p.st = 7 ∨ p.st = 8 ∨ p.st = 9) ∧ since + c.tmo * logTime c.logAnn ≤ s.clock then
    let gone : PtpState → PtpState := fun q =>
      { q with foreign := q.foreign.filter (fun f => some f.id != q.parent && decide (s.clock ≤ f.at_ + c.tmo * logTime c.logAnn)) }
    let s1 := modPtp n gone s
    if bmcaState s1 n = 6 then ptpMaster n 6 s1
    else if bmcaState s1 n = 4 then ptpEnter n 4 s1
    else ptpDecide n s1
  else s

/-! ### Rules and effects of a commit -/

/-- The ranges of Table NW-4 for a profile. -/
def ptpRanges (profile : Nat) : (Int × Int) × (Int × Int) × (Int × Int) :=
  match profile with
  | 0 => ((-1, 1), (0, 4), (0, 5))
  | 1 => ((-7, -1), (-3, 1), (-7, -1))
  | _ => ((-4, 1), (0, 4), (-3, 5))

def inRangeI (r : Int × Int) (v : Int) : Bool := decide (r.1 ≤ v) && decide (v ≤ r.2)

def ptpPortOk (profile : Nat) (c : PtpPortCfg) : Bool :=
  let r := ptpRanges profile
  inRangeI r.1 c.logSync && inRangeI r.2.1 c.logAnn && inRangeI r.2.2 c.logDreq && decide (2 ≤ c.tmo) && decide (c.tmo ≤ 10)

/-- NW_PTP_PORT (Table NW-13). -/
def readPtpPort (p : Bytes) : PtpPortCfg :=
  { role := u8 p 1, logSync := i8 p 2, logAnn := i8 p 3, tmo := u8 p 4, logDreq := i8 p 5, asymTx := i32 p 8, asymRx := i32 p 12 }

/-- R118, R157 (each port, whatever its role) and R162 on a configuration and the records that make it. -/
def ptpOk (twin : Bool) (t : Tables) (recs : List Rec) : Bool :=
  let roles := [0, 1].any (fun n => (ptpPortCfg t n).role != 0)
  [0, 1].all (fun n => ptpPortOk t.ptp.profile (ptpPortCfg t n)) &&
    recs.all (fun r => r.opcode != 0x0712 || ptpPortOk t.ptp.profile (readPtpPort r.payload)) &&
    !(twin && t.ptp.clockId == 0 && (roles || recs.any (fun r => r.opcode == 0x0711))) &&
    t.cand.all (fun e => (e.2.typ != 1 && e.2.typ != 2) || decide (2 ≤ (ptpPortCfg t (e.2.typ - 1)).role))

/-- PTP at the commit's frame boundary: a port whose settings change, or whose link trains anew, starts anew. -/
def ptpCommit (first : Bool) (old new : Tables) (s : State) : State :=
  let one : State → Nat → State := fun t n =>
    if first || old.ptp != new.ptp || ptpPortCfg old n != ptpPortCfg new n || portMode old n != portMode new n || !linkUp t n then ptpStart n t else t
  [0, 1].foldl one s

/-! ### Staged payloads -/

/-- NW_PTP_CFG (Table NW-12). -/
def okNwPtpCfg (p : Bytes) : Bool :=
  decide (u8 p 0 ≤ 2) && decide (u8 p 1 ≤ 127) && decide (u16 p 14 ≤ 64) && u16 p 14 % 2 == 0

def putNwPtpCfg (p : Bytes) (t : Tables) : Tables :=
  { t with ptp := { profile := u8 p 0, domain := u8 p 1, prio1 := u8 p 2, prio2 := u8 p 3, clockId := u64 p 4, tlv := slice p 24 (u16 p 14) } }

def okNwPtpPort (p : Bytes) : Bool := decide (u8 p 0 ≤ 1) && decide (u8 p 1 ≤ 3)
def putNwPtpPort (p : Bytes) (t : Tables) : Tables := { t with ptpPort := tabSet none t.ptpPort (u8 p 0) (some (readPtpPort p)) }

/-- NW_PTP_STATUS (Table NW-19). -/
def nwPtpStatus (n : Nat) (s : State) : Bytes :=
  let p := getPtp s n
  let cls := if p.st = 9 then (match parentAnn p with | some a => a.cls | none => 0) else (announceNow s).cls
  le 1 (ptpStNow s n) ++ le 1 cls ++ le 1 (2 * b2n p.better + b2n p.borrowed) ++ zeros 1 ++ leInt 4 (satInt 32 p.mpd) ++
    leInt 4 (if p.st = 9 then satInt 32 p.offset else 0) ++ le 2 p.dreqDrops ++ le 2 p.ownDiscards

/-! ### Links -/

/-- LINK_UP (R152): after 100 ms of continuous block lock. A module that gives block lock has its SFPn_LOS low. -/
def linkGain (n ms : Nat) (s : State) : State :=
  if n < 2 ∧ (getPort s n).link = 1 ∧ 100 ≤ ms then
    ptpStart n (modPort n (fun p => { p with link := linkCode s n, los := false }) s)
  else s

/-- LINK_DOWN (R152): SFPn_LOS is asserted, or block lock has been lost for more than 1 ms; a link that was up is declared
down and counted. Log entry 34 (DEDUCED). -/
def linkLose (n : Nat) (los : Bool) (us : Nat) (s : State) : State :=
  if n < 2 ∧ (los = true ∨ 1000 < us) then
    let s1 := modPort n (fun p => { p with los := p.los || los }) s
    if linkUp s n then
      ptpStart n (modPort n (fun p => { p with link := 1, linkDowns := satInc 16 p.linkDowns, tryAt := s.clock }) s1)
    else s1
  else s

/-- SFPn_MODABS rises (R152). -/
def moduleOut (n : Nat) (s : State) : State :=
  if n < 2 ∧ (getPort s n).modabs = false then
    let down := linkUp s n
    let out : PortState → PortState := fun p =>
      { p with modabs := true, txdis := true, link := 0, module := [], linkDowns := if down then satInc 16 p.linkDowns else p.linkDowns }
    ptpStart n (modPort n out s)
  else s

/-! ### The meanings of the rows -/

def execNwPtpCfg (k : OrdClass) (s : State) : Host.Outcome State Fault Refusal := .next (startStaged k 0x0711 okNwPtpCfg s)
def execNwPtpPort (k : OrdClass) (s : State) : Host.Outcome State Fault Refusal := .next (startStaged k 0x0712 okNwPtpPort s)
def execNwPtpStatus (k : OrdClass) (s : State) : Host.Outcome State Fault Refusal :=
  .next (startStatus k 0x0E21 (fun p => decide (u8 p 0 ≤ 1)) (fun p t => nwPtpStatus (u8 p 0) t) s)
def execSfpModuleRemoved (n : Nat) (s : State) : Host.Outcome State Fault Refusal := .next (moduleOut n s)
def execLinkUp (x : BlockLock) (s : State) : Host.Outcome State Fault Refusal := .next (linkGain x.port x.ms s)
def execLinkDown (x : LinkFail) (s : State) : Host.Outcome State Fault Refusal := .next (linkLose x.port x.los x.us s)
def execPtpSyncReceived (n : Nat) (h : PtpHeader) (twoStep : Bool) (origin arrival : Int) (s : State) :
    Host.Outcome State Fault Refusal := .next (ptpSync n h twoStep origin arrival s)
def execPtpFollowUpReceived (n : Nat) (h : PtpHeader) (origin : Int) (s : State) : Host.Outcome State Fault Refusal :=
  .next (ptpFollowUp n h origin s)
def execPtpAnnounceReceived (n : Nat) (h : PtpHeader) (a : Announce) (s : State) : Host.Outcome State Fault Refusal :=
  .next (ptpAnnounce n h a s)
def execPtpDelayReqReceived (n : Nat) (h : PtpHeader) (arrival : Int) (s : State) : Host.Outcome State Fault Refusal :=
  .next (ptpDelayReqIn n h arrival s)
def execPtpDelayRespReceived (n : Nat) (h : PtpHeader) (requester : PortId) (receipt : Int) (s : State) :
    Host.Outcome State Fault Refusal := .next (ptpDelayResp n h requester receipt s)
def execPtpAnnounceTimeout (n : Nat) (s : State) : Host.Outcome State Fault Refusal := .next (ptpAnnTimeout n s)
def execPtpSyncDue (n : Nat) (s : State) : Host.Outcome State Fault Refusal := .next (ptpSyncDue n s)
def execPtpAnnounceDue (n : Nat) (s : State) : Host.Outcome State Fault Refusal := .next (ptpAnnounceDue n s)
def execPtpDelayReqDue (n : Nat) (departure : Int) (s : State) : Host.Outcome State Fault Refusal :=
  .next (ptpDelayReq n departure s)

end Sys2Proof.Machine
end

