-- ==== Sys2Proof/Machine/Machines.lean ====
section
/-! DEFINITION. Enable machines (R78, R79) and the power domains (R77, R510, Table PW-6). -/
namespace Sys2Proof.Machine

/-! ### The machine -/

/-- What a machine answers to a request. -/
def ansDone : Nat := 0
def ansWait : Nat := 1
def ansDefer : Nat := 2
def ansFull : Nat := 3

/-- The state that the machine is in or moves to. -/
def enTarget (m : EnMachine) : Bool := m.run.getD m.on

/-- The state that the machine ends in after every deferred request. -/
def enFinal (m : EnMachine) : Bool := m.queue.foldl (fun _ r => r.target) (enTarget m)

/-- A request (R78, R79): done already, joined to the action in progress, deferred, or one too many. The device's own
requests, which carry no command, are never too many. Log entry 24 (DEDUCED). -/
def enAsk (now : Nat) (target : Bool) (cmd : Option Nat) (m : EnMachine) : EnMachine × Nat :=
  match m.run with
  | none =>
    if target = m.on then (m, ansDone) else ({ m with run := some target, since := now, owners := cmd.toList }, ansWait)
  | some r =>
    if m.queue.isEmpty ∧ target = r then ({ m with owners := m.owners ++ cmd.toList }, ansWait)
    else if m.queue.length < 4 ∨ cmd = none then ({ m with queue := m.queue ++ [{ target, cmd }] }, ansDefer)
    else (m, ansFull)

/-- The deferred requests in order of arrival: one that asks for the state reached is done, the first that does not
starts. Answers the machine and the commands that are done. -/
def enNext (now : Nat) (m : EnMachine) : List EnReq → EnMachine × List Nat
  | [] => ({ m with queue := [] }, [])
  | r :: rs =>
    if r.target = m.on then
      let x := enNext now m rs
      (x.1, r.cmd.toList ++ x.2)
    else ({ m with run := some r.target, since := now, owners := r.cmd.toList, queue := rs }, [])

/-- The action in progress is complete. -/
def enDone (now : Nat) (m : EnMachine) : EnMachine × List Nat :=
  let x := enNext now { m with on := enTarget m, run := none, owners := [], queue := [] } m.queue
  (x.1, m.owners ++ x.2)

/-- How the command of a request goes on: DONE, in progress, DEFERRED, or RESOURCE. -/
def enAnswer (c : Cmd) (a : Nat) (s : State) : State :=
  if a = ansDone then respond c stDone [] s
  else if a = ansWait then setPhase c.n .running s
  else if a = ansDefer then respondMid c stDeferred [] s
  else respond c stResource [] s

/-! ### Domains -/

def getDom (s : State) (d : Nat) : EnMachine := nth {} s.pw.domains d
def setDom (d : Nat) (m : EnMachine) (s : State) : State :=
  { s with pw := { s.pw with domains := modNth (fun _ => m) s.pw.domains d } }

/-- Shutdown and start-up times (Table PW-6). The calibration of an ADC pair is followed by the settling of its
reference. Log entry 23 (DESIGN CHOICE). -/
def domTime (t : Tables) (d : Nat) (up : Bool) : Nat :=
  match d with
  | 4 | 5 => if up then 60 * uPerUs else 5 * uPerUs
  | 6 => if up then 10 * uPerMs else uPerMs
  | 7 => 2 * uPerMs
  | 8 => if up then 250 * uPerUs else 10 * uPerUs
  | 9 | 10 => if up then 200 * uPerMs else uPerMs
  | _ => if up then 2 * uPerMs + settleTime (refOf t d) else 10 * uPerUs

/-- The supply of VSYN goes: no lock, every gate of its outputs closed, and what it clocks stops (Table DA-9).
Log entry 26 (DEDUCED). -/
def vsynOff (s : State) : State :=
  let s1 := stopVclk (closeGates .vsyn s)
  modSyn .vsyn (fun y => { y with lock := 0, suspended := y.moving }) s1

/-- What an action of a domain does when it starts. Log entry 26 (DEDUCED). -/
def domStarts (d : Nat) (up : Bool) (s : State) : State :=
  match d with
  | 0 | 1 | 2 | 3 => if up then clearRef (nth {} s.ad.pairs d).due d s else s
  | 6 => if up then s else { s with fp := { s.fp with bias := false } }
  | 8 => if up then relockOff .vsyn s else vsynOff s
  | 9 | 10 => ptpStart (d - 9) (portStart (d - 9) s)
  | _ => s

/-- What a domain does when its start-up is complete: the reference of an ADC pair has settled (R195), a DAC bank holds
the zero code until the next load strobe, the PDM slots carry zero for 4 frames (R321). -/
def domUp (d : Nat) (s : State) : State :=
  match d with
  | 0 | 1 | 2 | 3 => pairUp d s
  | 4 | 5 =>
    { s with da := { s.da with dac := s.da.dac.mapIdx (fun i x => if i / 4 + 4 = d then { x with wait := true } else x) } }
  | 7 => { s with fp := { s.fp with pdmMute := [4, 4] } }
  | _ => s

/-- A request to a domain's machine; a new action starts at once. -/
def domAsk (d : Nat) (up : Bool) (c : Cmd) (s : State) : State :=
  let m := getDom s d
  let x := enAsk s.clock up (some c.n) m
  let s1 := enAnswer c x.2 (setDom d x.1 s)
  if m.run = none ∧ x.1.run ≠ none then domStarts d up s1 else s1

/-- The action of a domain is complete: its effect, the answers, and the start of a deferred action. -/
def domFinish (d : Nat) (s : State) : State :=
  let m := getDom s d
  let x := enDone s.clock m
  let s1 := setDom d x.1 s
  let s2 := if enTarget m then domUp d s1 else s1
  let s3 := respondAll x.2 stDone [] s2
  match x.1.run with
  | some up => domStarts d up s3
  | none => s3

/-! ### Which domains a configuration uses (R77) -/

/-- A mic preamp: a STREAM input of ADC6 or ADC7, a slot of theirs at code 2, or the MICBIAS. -/
def usesMic (t : Tables) : Bool :=
  let slots := (List.range t.seqReg.len).map (fun i => tabGet {} t.slots i) ++
    (List.range t.seqInj.len).map (fun i => tabGet {} t.slots (16 + i))
  let one : Nat → Bool := fun n =>
    (adcMode t n == 1 && (adcCfg t n).input == 2) || (adcMode t n == 2 && slots.any (fun c => codeOf c n == 2))
  one 6 || one 7 || t.jack.acc || t.jack.btn

def usesDac (t : Tables) (d : Nat) : Bool := (outCfg t d).src != 0

/-- The committed configuration uses a domain of Table PW-6. -/
def usesDomain (t : Tables) (d : Nat) : Bool :=
  match d with
  | 0 | 1 | 2 | 3 => adcMode t (2 * d) != 0 || adcMode t (2 * d + 1) != 0
  | 4 => [0, 1, 2, 3].any (usesDac t)
  | 5 => [4, 5, 6, 7].any (usesDac t) || t.hp.en
  | 6 => usesMic t
  | 7 => t.pdm0.en || t.pdm1.en || t.sn.en
  | 8 => t.bank.vclk || (List.range 12).any (fun o => (clkOf t o).mode != 0 && tapSyn (clkOf t o).tap == .vsyn)
  | 9 | 10 => portMode t (d - 9) != 0
  | _ => false

/-- A commit that uses a disabled domain is refused (R77). -/
def domainsOk (s : State) (t : Tables) : Bool :=
  (List.range 11).all (fun d => enTarget (getDom s d) || !usesDomain t d)

/-! ### PW_DOMAIN -/

/-- PW_DOMAIN (R77, Table PW-7). Log entry 23 (DESIGN CHOICE). -/
def chkPwDomain (p : Bytes) (s : State) : Option Nat :=
  if u8 p 0 > 10 then some stBad
  else if bit p 1 0 = false ∧ s.firstLive = true ∧ usesDomain s.live (u8 p 0) = true then some stState
  else none

def applyPwDomain (c : Cmd) (s : State) : State := domAsk (u8 c.payload 0) (bit c.payload 1 0) c s

def execPwDomain (k : OrdClass) (s : State) : Host.Outcome State Fault Refusal :=
  .next (startDirect k 0x0D21 chkPwDomain s)

/-- The end of an action of a domain, when its time has passed. Log entry 23 (DESIGN CHOICE). -/
def domEvent (d : Nat) (up : Bool) (s : State) : State :=
  let m := getDom s d
  if d ≤ 10 ∧ m.run = some up ∧ m.since + domTime s.live d up ≤ s.clock then domFinish d s else s

/-- A domain's start-up is complete (R78, Table PW-6). Log entry 5 (DESIGN CHOICE). -/
def execDomainStartupComplete (d : Nat) (s : State) : Host.Outcome State Fault Refusal := .next (domEvent d true s)

/-- A domain's shutdown is complete (R78, Table PW-6). -/
def execDomainShutdownComplete (d : Nat) (s : State) : Host.Outcome State Fault Refusal := .next (domEvent d false s)

end Sys2Proof.Machine
end

