-- ==== Sys2Proof/Machine/FrontPanel.lean ====
section
/-! DEFINITION. The front panel (R310 to R322, R329 to R333): headphone amplifier and clamp, jack, MICBIAS, accessory
identification, buttons and PDM inputs. -/
namespace Sys2Proof.Machine

def modFp (f : FpState → FpState) (s : State) : State := { s with fp := f s.fp }

/-! ### The clamp (R312, R314) -/

/-- The identification results that release the clamp: 3-pole, both 4-pole results, line load. -/
def accFrees (acc : Nat) : Bool := decide (2 ≤ acc) && decide (acc ≤ 5)

/-- R314 allows the release: a jack is inserted and, with identification enabled, has been identified. -/
def clampFree (s : State) : Bool := s.fp.jack && (!s.live.jack.acc || accFrees s.fp.acc)

def hpPowered (s : State) : Bool := s.fp.hp.on || s.fp.hp.run.isSome

/-- FP_HP_CLAMPED: in an identification from its fourth step on, otherwise while the machine or R314 holds it.
Log entry 47 (DEDUCED). -/
def hpClamped (s : State) : Bool :=
  match s.fp.identAt with
  | some t => decide (t + 15 * uPerMs ≤ s.clock)
  | none => hpPowered s && (s.fp.clamp || (s.fp.hold && (s.live.hp.automute || s.fp.releaseAt.isSome)))

/-- 10^(-A / 20) of an attenuation in dB, with 32 fraction bits, rounded. -/
def attenScale (a : Nat) : Nat := rootGo 20 ((2 ^ 33) ^ 20) (10 ^ a) 33 0

/-- The voltage in uV that the amplifier makes on HP_L or HP_R from the code of its DAC, whatever the range: 1.96 V at full
scale, less FP_HP_ATTEN (R310, R311). Log entry 111 (DEDUCED). -/
def hpVoltage (s : State) (right : Bool) : Int :=
  roundDiv (1960000 * dacCode s (if right then 7 else 6) * attenScale s.live.hp.atten) (2 ^ 47)

/-- What HP_L or HP_R carries at its ball: nothing while the fence is closed, while the amplifier is off, and in the first
steps of an identification; HP_SENSE while clamped; else the amplifier's voltage in uV (R310, R313, Sequence FP-2). -/
def hpPins (s : State) (right : Bool) : Option Int :=
  let measuring := match s.fp.identAt with | some _ => !hpClamped s | none => false
  if s.fenceOpen = false ∨ measuring = true then none
  else if hpClamped s then some 0
  else if hpPowered s then some (hpVoltage s right)
  else none

/-! ### The amplifier (R312, R313) -/

/-- An action of the amplifier starts (Sequence FP-1): the clamp engages; a disable drops a pending release (Table FP-3). -/
def hpStarts (up : Bool) (s : State) : State :=
  modFp (fun f => { f with clamp := true, releaseAt := if up then f.releaseAt else none, aoutAmp := f.aoutAmp || up }) s

/-- A request to the amplifier's machine. Log entry 24 (DEDUCED). -/
def hpAsk (up : Bool) (cmd : Option Nat) (s : State) : State × Nat :=
  let x := enAsk s.clock up cmd s.fp.hp
  let s1 := modFp (fun f => { f with hp := x.1 }) s
  (if s.fp.hp.run = none ∧ x.1.run ≠ none then hpStarts up s1 else s1, x.2)

/-- The action in progress is complete: after an enable the machine's clamp opens, and that of R314 where it allows. -/
def hpFinish (s : State) : State :=
  let up := enTarget s.fp.hp
  let x := enDone s.clock s.fp.hp
  let free := up && clampFree s && s.fp.releaseAt.isNone
  let s1 := modFp (fun f => { f with hp := x.1, clamp := false, hold := f.hold && !free }) s
  let s2 := respondAll x.2 stDone [] s1
  match x.1.run with
  | some r => hpStarts r s2
  | none => s2

/-- The end of an action of the amplifier, 20 ms after its start. -/
def hpEvent (up : Bool) (s : State) : State :=
  if s.fp.hp.run = some up ∧ s.fp.hp.since + 20 * uPerMs ≤ s.clock ∧ s.fp.hpSafe = false then hpFinish s else s

/-- SAFE with role SOLO switches the amplifier off, 20 ms after SAFE entry, until a reset (R313). -/
def hpSafeOff (s : State) : State :=
  if s.fp.hpSafe ∧ s.da.safeAt + 20 * uPerMs ≤ s.clock then
    respondAll (machineCmds s.fp.hp) stDone [] (modFp (fun f => { f with hp := {}, clamp := false }) s)
  else s

/-! ### MICBIAS (R315, R316) -/

/-- The firmware wants the bias: for an identification, or for a 4-pole accessory with its mic on ring 2. -/
def biasWanted (s : State) : Bool :=
  s.firstLive && s.mode != .safe && s.mode != .hush && s.mode != .boot && (getDom s 6).on &&
    (s.fp.identAt.isSome || (s.fp.jack && s.fp.acc == 3))

/-- The fence lets the bias on: a unit in a twin position waits 2 ms after its fence opens. -/
def biasAllowed (s : State) : Bool :=
  !twinPos s || (s.fenceOpen && decide (s.fp.fenceOpened + 2 * uPerMs ≤ s.clock))

/-- MICBIAS follows; one that is on stays on with a closed fence until MICBIAS_FENCE_OFF. -/
def biasEval (s : State) : State :=
  modFp (fun f => { f with bias := biasWanted s && (f.bias || biasAllowed s) }) s

/-- The hardware switches MICBIAS off 1 ms after the fence of a twin unit has closed. -/
def micbiasFenceOff (s : State) : State :=
  if twinPos s = true ∧ s.fenceOpen = false ∧ s.fp.fenceClosed + uPerMs ≤ s.clock then
    modFp (fun f => { f with bias := false }) s
  else s

/-! ### Identification (R317, R318) -/

/-- FP_ACC is sent to the partner by the unit whose fence is open (R318). A RELAY of FP_ACC alone: type 5. -/
def relayAcc (s : State) : State :=
  if twinPos s = true ∧ s.fenceOpen = true then laneSend 5 (zeros 16 ++ le 1 s.fp.acc) s else s

/-- Sequence FP-2 starts. -/
def identStart (cmd : Option Nat) (s : State) : State :=
  biasEval (modFp (fun f => { f with identAt := some s.clock, identCmd := cmd, identWaits := false, acc := 1, hold := true,
                                     releaseAt := none, btn := 0, btnNew := 0, btnRun := 0 }) s)

/-- The bands of R317: 0 open, 1 mic, 2 short, by the current in uA. -/
def biasBand (s : State) (ua : Nat) : Nat :=
  let v := nth 2000 [2000, 2500, 2700] s.live.jack.biasV * 1000
  let i := ua * (10 * s.live.jack.biasR)
  if 20 * i < v then 0 else if 100 * i ≤ 85 * v then 1 else 2

/-- Table FP-1. -/
def identResult (a b load : Nat) : Nat :=
  if a = 2 ∧ b = 2 then (if load < 1000 then 2 else 5)
  else if a = 1 ∧ b = 1 then 3
  else if a = 1 ∧ b = 2 then 4
  else 6

/-- The end of Sequence FP-2 (step 6): the result, its notification, the clamp released 20 ms later where R314 allows. -/
def identEnd (res : Nat) (s : State) : State :=
  let c := s.fp.identCmd
  let free := accFrees res || !s.live.hp.automute
  let s1 := modFp (fun f => { f with acc := res, identAt := none, identCmd := none,
                                     releaseAt := if free then some (s.clock + 20 * uPerMs) else none }) s
  let s2 := relayAcc (raiseIrq 2 (biasEval s1))
  match c with
  | some n => respondTo n stDone (le 1 res) s2
  | none => s2

/-- The partner's FP_ACC is adopted by a unit whose fence is closed (R318). -/
def adoptAcc (acc : Nat) (s : State) : State :=
  let s1 : State := { s with tw := { s.tw with peerAcc := some acc } }
  if s.fenceOpen = false ∧ s.fp.identAt = none then
    modFp (fun f => { f with acc, releaseAt := if f.hold ∧ accFrees acc = true ∧ f.jack = true then
                                                 some (s.clock + 20 * uPerMs) else f.releaseAt }) s1
  else s1

/-! ### The jack (R314, R329) -/

/-- The present level of JACK_DET means inserted. -/
def jackIn (s : State) : Bool := s.fp.jackLevel == s.live.jack.pol

/-- Confirmed removal: an identification is abandoned, MICBIAS goes off, the clamp of R314 engages.
Log entry 48 (DEDUCED). -/
def jackOut (s : State) : State :=
  let c := s.fp.identCmd
  let s1 := modFp (fun f => { f with jack := false, jackEvents := satInc 16 f.jackEvents, acc := 0, identAt := none,
                                     identCmd := none, identWaits := false, bias := false, hold := true, releaseAt := none,
                                     btn := 0, btnNew := 0, btnRun := 0 }) s
  let s2 := relayAcc s1
  match c with
  | some n => respondTo n stDone (le 1 0) s2
  | none => s2

/-- Confirmed insertion: identification where it is enabled and the fence is open, at the exit of HUSH where that runs;
otherwise the clamp opens 20 ms later. -/
def jackInserted (s : State) : State :=
  let s1 := modFp (fun f => { f with jack := true, jackEvents := satInc 16 f.jackEvents }) s
  if s.live.jack.acc = false then modFp (fun f => { f with releaseAt := some (s.clock + 20 * uPerMs) }) s1
  else if s.mode = .hush then modFp (fun f => { f with identWaits := true }) s1
  else if s.fenceOpen = true ∧ s.mode ≠ .safe ∧ s.firstLive = true then identStart none s1
  else s1

/-! ### Buttons (R319) -/

/-- The band of a mic-node voltage in uV: 1 to 4 for bands 0 to 3, 0 above every band. Log entry 49 (DEDUCED). -/
def btnBand (c : JackCfg) (uv : Int) : Nat :=
  if uv ≤ 1000 * (c.thr0 : Int) then 1
  else if uv ≤ 1000 * (c.thr1 : Int) then 2
  else if uv ≤ 1000 * (c.thr2 : Int) then 3
  else if uv ≤ 1000 * (c.thr3 : Int) then 4
  else 0

/-- The node voltage in uV of a MICBIAS current. -/
def nodeUv (c : JackCfg) (ua : Nat) : Int :=
  ((nth 2000 [2000, 2500, 2700] c.biasV * 1000 : Nat) : Int) - ((ua * (10 * c.biasR) : Nat) : Int)

/-- `d` has passed since a device clock, if there was one. -/
def apart (last : Option Nat) (d : Nat) (s : State) : Bool :=
  match last with
  | some t => decide (t + d ≤ s.clock)
  | none => true

/-- One window, once per millisecond: MIN and MAX in one band decide it; in two bands the previous decision stands. The current reported lies
between them (free value). Log entry 49 (DEDUCED). -/
def buttonWindow (minUa maxUa : Nat) (s : State) : State :=
  if s.live.jack.btn = true ∧ s.fp.acc = 3 ∧ s.fp.bias = true ∧ s.dataPlane = .running ∧ minUa ≤ maxUa ∧
      apart s.fp.btnAt uPerMs s = true then
    let b := btnBand s.live.jack (nodeUv s.live.jack maxUa)
    let d := if b = btnBand s.live.jack (nodeUv s.live.jack minUa) then b else s.fp.btnNew
    let x := drawFree s
    modFp (fun f => { f with btnNew := d, btnRun := if d = f.btnNew then f.btnRun + 1 else 1, btnAt := some s.clock,
                             biasUa := (minUa + x.1 % (maxUa - minUa + 1)) % 65536 }) x.2
  else s

/-- A press or a release is declared after FP_BTN_DEB windows of the same decision. -/
def buttonDeclared (s : State) : State :=
  if s.fp.btnNew ≠ s.fp.btn ∧ s.live.jack.btnDeb ≤ s.fp.btnRun then
    raiseIrq 2 (modFp (fun f => { f with btn := f.btnNew,
                                         presses := if f.btnNew = 0 then f.presses else satInc 16 f.presses }) s)
  else s

/-! ### PDM inputs (R320, R321) -/

/-- The slots of an enabled PDM channel; zero for 4 frames after its enable. -/
def pdmSlots (inp : FrameInput) (s : State) (b : Tab Int) : Tab Int :=
  let one : Nat → PdmCfg → Tab Int → Tab Int := fun n c acc =>
    if c.en ∧ nth 0 s.fp.pdmMute n = 0 ∧ (getDom s 7).on then
      putSlots (16344 + 4 * n) (if c.double then 2 else 1) (fun r => tabGet 0 inp.pdm (16344 + 4 * n + r)) acc
    else acc
  one 1 s.live.pdm1 (one 0 s.live.pdm0 b)

/-- One frame of the zero time passes; the AOUT pairs return once the amplifier is off (Sequence FP-1).
Log entry 50 (DEDUCED). -/
def fpFrame (s : State) : State :=
  modFp (fun f => { f with pdmMute := f.pdmMute.map (fun m => m - 1), aoutAmp := f.aoutAmp && hpPowered s }) s

/-! ### Commits -/

def pdmChanged (o n : PdmCfg) : Bool := n.en && (!o.en || o.double != n.double)

/-- The front panel at a commit's frame boundary (R314, R321, R331); `s.live` holds the new tables. -/
def fpCommit (old new : Tables) (s : State) : State :=
  let s1 := modFp (fun f => { f with pdmMute :=
      [if pdmChanged old.pdm0 new.pdm0 then 4 else nth 0 f.pdmMute 0, if pdmChanged old.pdm1 new.pdm1 then 4 else nth 0 f.pdmMute 1] }) s
  let s2 := if enFinal s1.fp.hp = new.hp.en then s1 else (hpAsk new.hp.en none s1).1
  biasEval s2

/-- FP_JACK_CFG and the video reference exclude each other (R118, R332). -/
def fpOk (t : Tables) : Bool := !((t.jack.acc || t.jack.btn) && videoListed t)

/-! ### Payloads -/

def okFpHpCfg (p : Bytes) : Bool := decide (u8 p 1 ≤ 63)
def putFpHpCfg (p : Bytes) (t : Tables) : Tables := { t with hp := { automute := bit p 0 1, en := bit p 0 0, atten := u8 p 1 } }

/-- FP_JACK_CFG (Table FP-8): ranges, and thresholds that do not descend. -/
def okFpJackCfg (p : Bytes) : Bool :=
  decide (10 ≤ u8 p 2) && decide (u8 p 2 ≤ 200) && fld p 3 1 0 != 3 && decide (100 ≤ u16 p 4) && decide (u16 p 4 ≤ 1000) &&
    decide (5 ≤ u8 p 6) && decide (u8 p 6 ≤ 100) &&
    decide (u16 p 8 ≤ u16 p 10) && decide (u16 p 10 ≤ u16 p 12) && decide (u16 p 12 ≤ u16 p 14)

def putFpJackCfg (p : Bytes) (t : Tables) : Tables :=
  { t with jack := { pol := bit p 0 1, acc := bit p 0 0, btn := bit p 1 0, deb := u8 p 2, biasV := fld p 3 1 0,
                     biasR := u16 p 4, btnDeb := u8 p 6, thr0 := u16 p 8, thr1 := u16 p 10, thr2 := u16 p 12,
                     thr3 := u16 p 14 } }

def okFpPdmCfg (_ : Bytes) : Bool := true
def pdmOf (b : Nat) : PdmCfg := { double := nbit b 2, falling := nbit b 1, en := nbit b 0 }
def putFpPdmCfg (p : Bytes) (t : Tables) : Tables := { t with pdm0 := pdmOf (u8 p 0), pdm1 := pdmOf (u8 p 1) }

/-- FP_HP_ENABLE (Table FP-6). -/
def chkHpEnable (_ : Bytes) (_ : State) : Option Nat := none
def applyHpEnable (c : Cmd) (s : State) : State :=
  let x := hpAsk (bit c.payload 0 0) (some c.n) s
  enAnswer c x.2 x.1

/-- FP_HP_ATTEN_SET (Table FP-7). -/
def chkHpAttenSet (p : Bytes) (_ : State) : Option Nat := if u8 p 0 ≤ 63 then none else some stBad
def applyHpAttenSet (c : Cmd) (s : State) : State :=
  respond c stDone [] (noteDirect c (writeTables (fun t => { t with hp := { t.hp with atten := u8 c.payload 0 } }) s))

/-- FP_IDENTIFY (R318). -/
def chkIdentify (_ : Bytes) (s : State) : Option Nat :=
  if s.fp.jack = true ∧ s.live.jack.acc = true ∧ s.fenceOpen = true ∧ s.fp.identAt = none then none else some stState
def applyIdentify (c : Cmd) (s : State) : State := setPhase c.n .running (identStart (some c.n) s)

/-! ### Status -/

/-- FP_HP_STATE. -/
def hpStateNow (s : State) : Nat :=
  match s.fp.hp.run with
  | some true => 1
  | some false => 3
  | none => if s.fp.hp.on then 2 else 0

/-- FP_STATUS (Table FP-11). -/
def fpStatus (s : State) : Bytes :=
  le 1 (16 * s.fp.acc + 8 * b2n s.fp.jack + 4 * b2n s.fp.bias + 2 * b2n (hpClamped s) + b2n (hpPowered s)) ++ le 1 s.fp.btn ++
    le 2 s.fp.biasUa ++ le 2 s.fp.presses ++ le 2 s.fp.jackEvents ++ le 1 s.live.hp.atten ++ le 1 (hpStateNow s) ++
    le 2 s.fp.ilim ++ zeros 4

/-! ### The meanings of the rows -/

def execFpHpCfg (k : OrdClass) (s : State) : Host.Outcome State Fault Refusal := .next (startStaged k 0x0810 okFpHpCfg s)
def execFpHpEnable (k : OrdClass) (s : State) : Host.Outcome State Fault Refusal :=
  .next (startDirect k 0x0811 chkHpEnable s)
def execFpHpAttenSet (k : OrdClass) (s : State) : Host.Outcome State Fault Refusal :=
  .next (startDirect k 0x0812 chkHpAttenSet s)
def execFpJackCfg (k : OrdClass) (s : State) : Host.Outcome State Fault Refusal := .next (startStaged k 0x0813 okFpJackCfg s)
def execFpIdentify (k : OrdClass) (s : State) : Host.Outcome State Fault Refusal :=
  .next (startDirect k 0x0814 chkIdentify s)
def execFpPdmCfg (k : OrdClass) (s : State) : Host.Outcome State Fault Refusal := .next (startStaged k 0x0815 okFpPdmCfg s)
def execFpStatus (k : OrdClass) (s : State) : Host.Outcome State Fault Refusal :=
  .next (startStatus k 0x0E60 (fun _ => true) (fun _ t => fpStatus t) s)
def execHpEnableComplete (s : State) : Host.Outcome State Fault Refusal := .next (hpEvent true s)
def execHpDisableComplete (s : State) : Host.Outcome State Fault Refusal := .next (hpEvent false s)
def execHpSafeOff (s : State) : Host.Outcome State Fault Refusal := .next (hpSafeOff s)

/-- A level change of JACK_DET starts the debounce again (R314). -/
def execJackDetChange (level : Bool) (s : State) : Host.Outcome State Fault Refusal :=
  .next (if level = s.fp.jackLevel then s else modFp (fun f => { f with jackLevel := level, jackSince := s.clock }) s)

/-- A level that has held for FP_JACK_DEB counts (R314). -/
def execJackConfirmed (s : State) : Host.Outcome State Fault Refusal :=
  .next (if jackIn s ≠ s.fp.jack ∧ s.fp.jackSince + s.live.jack.deb * uPerMs ≤ s.clock ∧ s.pw.inReset = false then
    (if jackIn s then jackInserted s else jackOut s) else s)

/-- The third measurement of Sequence FP-2 ends (R317). -/
def execIdentificationComplete (biasA biasB loadOhm : Nat) (s : State) : Host.Outcome State Fault Refusal :=
  match s.fp.identAt with
  | none => .next s
  | some t =>
    if s.clock < t + 39 * uPerMs then .next s
    else .next (identEnd (identResult (biasBand s biasA) (biasBand s biasB) loadOhm) s)

/-- The clamp of R314 is released. -/
def execHpClampRelease (s : State) : Host.Outcome State Fault Refusal :=
  match s.fp.releaseAt with
  | some t => .next (if t ≤ s.clock then modFp (fun f => { f with hold := false, releaseAt := none }) s else s)
  | none => .next s

def execMicbiasFenceOff (s : State) : Host.Outcome State Fault Refusal := .next (micbiasFenceOff s)

/-- MICBIAS goes on where it is wanted, 2 ms after the fence of a twin unit has opened (R316). -/
def execMicbiasFenceOn (s : State) : Host.Outcome State Fault Refusal := .next (biasEval s)
def execButtonWindow (minUa maxUa : Nat) (s : State) : Host.Outcome State Fault Refusal := .next (buttonWindow minUa maxUa s)
def execButtonDeclared (s : State) : Host.Outcome State Fault Refusal := .next (buttonDeclared s)

/-- A channel of the powered amplifier limits its current (R310). -/
def execHpCurrentLimit (_right : Bool) (s : State) : Host.Outcome State Fault Refusal :=
  .next (if hpPowered s then modFp (fun f => { f with ilim := satInc 16 f.ilim }) s else s)

end Sys2Proof.Machine
end

