-- ==== Sys2Proof/Machine/Sentinel.lean ====
section
/-! DEFINITION. The sentinel (R323 to R328, R334, R335): its analysis blocks, signatures, detections and ALARM_OUT. -/
namespace Sys2Proof.Machine

def modSn (f : SnState → SnState) (s : State) : State := { s with sn := f s.sn }

/-- The sentinel works from the first commit that enables it, in every mode except BOOT and CONFIGURE (R323). -/
def snWorks (s : State) : Bool := s.firstLive && s.live.sn.en && s.mode != .boot && s.mode != .configure

/-! ### Detection (R325) -/

/-- SENTINEL_DETECTION: ALARM_OUT, the record, the ledger entry, the ALARM outside HUSH, the wake in HUSH.
Log entry 52 (DEDUCED). -/
def snDetect (sig : Nat) (s : State) : State :=
  let flight := s.mb.cmds.any (fun c => c.opcode == 0x0817)
  let s1 := modSn (fun n => { n with
    alarmOut := true, last := sig, detections := satInc 16 n.detections, lastTime := s.spindle, during := n.during || flight,
    holdEnd := if s.live.sn.holdS = 0 then none else some (s.clock + s.live.sn.holdS * uPerS) }) s
  let s2 := raiseIrq 6 (lgEvent 0xFF07 sig s1)
  let s3 := if s.mode = .hush then s2 else raiseAlarm blkSN s2
  if s.pw.wakeSn then wakeTrigger s3 else s3

/-! ### Temporal-three (Table FP-2) -/

/-- A tone pulse or a short off of 500 ms within 50 ms; a long off of 1,500 ms within 150 ms. -/
def isPulse (ms : Nat) : Bool := decide (450 ≤ ms) && decide (ms ≤ 550)
def isLongOff (ms : Nat) : Bool := decide (1350 ≤ ms) && decide (ms ≤ 1650)

/-- A time since the start of the last group lies on the 4 s grid of R328. -/
def onGrid4s (ms : Nat) : Bool := decide (ms % 4000 ≤ 150) || decide (3850 ≤ ms % 4000)

/-- An off interval ends: it is judged by what came before it. -/
def t3OffEnds (n : SnState) : SnState :=
  if n.pulses = 0 then
    { n with groups := if n.onGrid && !onGrid4s n.sinceGroup then 0 else n.groups, onGrid := false, sinceGroup := 0 }
  else if n.pulses < 3 then (if isPulse n.run then n else { n with pulses := 0, groups := 0, sinceGroup := 0 })
  else if isLongOff n.run then { n with pulses := 0, sinceGroup := 0 }
  else { n with pulses := 0, groups := 0, sinceGroup := 0 }

/-- An on interval has ended, its gap being longer than 50 ms. -/
def t3OnEnds (n : SnState) : SnState :=
  if isPulse n.run then { n with pulses := n.pulses + 1, groups := if n.pulses + 1 = 3 then n.groups + 1 else n.groups }
  else { n with pulses := 0, groups := 0 }

/-- One block of 10 ms with or without a tone. Log entry 51 (DEDUCED). -/
def t3Block (present : Bool) (n : SnState) : SnState :=
  let n := { n with sinceGroup := n.sinceGroup + 10 }
  if n.tone then
    if present then { n with run := n.run + n.gap + 10, gap := 0 }
    else if n.gap + 10 ≤ 50 then { n with gap := n.gap + 10 }
    else { t3OnEnds n with tone := false, run := n.gap + 10, gap := 0 }
  else if present then { t3OffEnds n with tone := true, run := 10, gap := 0 }
  else { n with run := n.run + 10 }

/-- The third pulse of the last group needed has just ended: the first block without the tone after it. -/
def t3Complete (groups : Nat) (present : Bool) (n : SnState) : Bool :=
  n.tone && !present && n.gap == 0 && isPulse n.run && n.pulses == 2 && decide (groups ≤ n.groups + 1)

/-- After a detection the next group completes the signature again (R325). -/
def t3Restart (groups : Nat) (n : SnState) : SnState :=
  { n with tone := false, run := 10, gap := 0, pulses := 3, groups := groups - 1, sinceGroup := n.sinceGroup + 10 }

/-! ### Continuous tone -/

/-- The tone has been present so far, at a peak within 5 % of the first. Log entry 51 (DEDUCED). -/
def contBlock (present : Bool) (hz : Nat) (n : SnState) : SnState :=
  if present then
    if n.cont = 0 ∨ absDiff hz n.contHz * 20 > n.contHz then { n with cont := 10, contHz := hz } else { n with cont := n.cont + 10 }
  else if n.cont = 0 then n
  else if n.tone && decide (n.gap + 10 ≤ 50) then { n with cont := n.cont + 10 }
  else { n with cont := 0 }

/-! ### Glass-break -/

/-- The state after one block, and whether the signature is complete: an onset, then from 10 to 150 ms after it a high-band
interval of 100 to 1,000 ms that decays. Log entry 51 (DEDUCED). -/
def glassBlock (level : Int) (b : SentinelBlock) (n : SnState) : SnState × Bool :=
  let fresh : SnState := { n with glassAt := if b.onset then some 0 else none, glassRun := 0 }
  match n.glassAt with
  | none => (fresh, false)
  | some t =>
    let t := t + 10
    if n.glassRun = 0 then
      if b.onset then (fresh, false)
      else if b.highDb < level then (if t < 150 then { n with glassAt := some t } else fresh, false)
      else if t ≤ 150 then ({ n with glassAt := some t, glassRun := 10, glassDb := b.highDb }, false)
      else (fresh, false)
    else if b.highDb ≥ level then
      if b.highDb > n.glassDb ∨ n.glassRun + 10 > 1000 then (fresh, false)
      else ({ n with glassAt := some t, glassRun := n.glassRun + 10, glassDb := b.highDb }, false)
    else (fresh, decide (100 ≤ n.glassRun))

/-! ### A block (R324, R328) -/

/-- A tone is present in a block. -/
def tonePresent (c : SnCfg) (b : SentinelBlock) : Bool :=
  decide (c.level ≤ b.peakDb) && decide ((c.tonality : Int) ≤ b.peakDb - b.bandDb)

/-- The signature in progress restarts after a loss longer than 50 ms: completed groups count on the 4 s grid. -/
def lossRestart (n : SnState) : SnState :=
  let busy := n.tone || n.pulses != 0 || n.groups != 0 || n.cont != 0 || n.glassAt.isSome
  { n with restarts := if busy then satInc 16 n.restarts else n.restarts, tone := false, run := 0, gap := 0, pulses := 0,
           onGrid := n.groups != 0, cont := 0, glassAt := none, glassRun := 0 }

/-- A block without audio: up to 50 ms the detectors hold their state, and their intervals run on.
Log entry 51 (DEDUCED). -/
def lossBlock (n : SnState) : SnState :=
  let n1 := { n with loss := n.loss + 10, sinceGroup := n.sinceGroup + 10 }
  if n.loss + 10 = 60 then lossRestart n1
  else if n.loss + 10 > 60 then n1
  else { n1 with run := n.run + 10, cont := if n.cont = 0 then 0 else n.cont + 10, glassAt := n.glassAt.map (· + 10),
                 glassRun := if n.glassRun = 0 then 0 else n.glassRun + 10 }

/-- A block with audio. -/
def audioBlock (b : SentinelBlock) (s : State) : State :=
  let c := s.live.sn
  let present := tonePresent c b
  let n := { s.sn with loss := 0 }
  let t3 := c.t3 && t3Complete c.groups present n
  let g := glassBlock c.level b (contBlock present b.peakHz n)
  let n1 := if t3 then t3Restart c.groups g.1 else t3Block present g.1
  let whole := c.cont && decide (c.contS * 1000 ≤ n1.cont)
  let n2 := if whole then { n1 with cont := 0 } else n1
  let s1 : State := { s with sn := n2 }
  let s2 := if t3 then snDetect 1 s1 else s1
  let s3 := if whole then snDetect 2 s2 else s2
  if c.glass && g.2 then snDetect 3 s3 else s3

/-- SENTINEL_BLOCK, one every 10 ms. Log entry 51 (DEDUCED). -/
def snBlock (b : SentinelBlock) (s : State) : State :=
  if snWorks s = false ∨ apart s.sn.blockAt (10 * uPerMs) s = false then s
  else
    let s1 := modSn (fun n => { n with blockAt := some s.clock }) s
    if b.audio then audioBlock b s1 else modSn lossBlock s1

/-! ### Commands -/

/-- SN_CFG (Table FP-10). -/
def okSnCfg (p : Bytes) : Bool :=
  (!bit p 0 0 || bit p 0 1 || bit p 0 2 || bit p 0 3) && decide (-70 ≤ i8 p 1) && decide (i8 p 1 ≤ -10) &&
    decide (6 ≤ u8 p 2) && decide (u8 p 2 ≤ 30) && decide (1 ≤ u8 p 3) && decide (u8 p 3 ≤ 4) &&
    decide (1 ≤ u8 p 4) && decide (u8 p 4 ≤ 30) && decide (u16 p 6 ≤ 3600)

def putSnCfg (p : Bytes) (t : Tables) : Tables :=
  { t with sn := { glass := bit p 0 3, cont := bit p 0 2, t3 := bit p 0 1, en := bit p 0 0, level := i8 p 1, tonality := u8 p 2,
                   groups := u8 p 3, contS := u8 p 4, holdS := u16 p 6 } }

/-- The sentinel needs PDM channel 0 (R323). -/
def snOk (t : Tables) : Bool := !t.sn.en || t.pdm0.en

/-- SN_ACK (R326) lowers ALARM_OUT; after a detection while it was in flight the pin rises again where SN_HOLD_S is not
zero (Table FP-3). -/
def chkSnAck (_ : Bytes) (_ : State) : Option Nat := none
def applySnAck (c : Cmd) (s : State) : State :=
  let again := s.sn.during && s.live.sn.holdS != 0
  respond c stDone [] (modSn (fun n => { n with alarmOut := again, during := false, holdEnd := if again then n.holdEnd else none }) s)

/-- SN_T3_PROGRESS. -/
def t3Progress (n : SnState) : Nat := 3 * n.groups + (if n.pulses < 3 then n.pulses else 0)

/-- SN_STATUS (Table FP-12). -/
def snStatus (s : State) : Bytes :=
  le 1 (8 * b2n s.sn.alarmOut + s.sn.last) ++ le 1 (t3Progress s.sn) ++ le 2 s.sn.detections ++ compactForm s.sn.lastTime ++
    le 2 s.sn.restarts ++ zeros 2

def execSnCfg (k : OrdClass) (s : State) : Host.Outcome State Fault Refusal := .next (startStaged k 0x0816 okSnCfg s)
def execSnAck (k : OrdClass) (s : State) : Host.Outcome State Fault Refusal := .next (startDirect k 0x0817 chkSnAck s)
def execSnStatus (k : OrdClass) (s : State) : Host.Outcome State Fault Refusal :=
  .next (startStatus k 0x0E61 (fun _ => true) (fun _ t => snStatus t) s)
def execSentinelBlock (b : SentinelBlock) (s : State) : Host.Outcome State Fault Refusal := .next (snBlock b s)

/-- SN_HOLD_S after the last detection ALARM_OUT falls (R326). -/
def execAlarmOutHoldExpiry (s : State) : Host.Outcome State Fault Refusal :=
  match s.sn.holdEnd with
  | some t => .next (if t ≤ s.clock then modSn (fun n => { n with alarmOut := false, holdEnd := none }) s else s)
  | none => .next s

end Sys2Proof.Machine
end

