-- ==== Sys2Proof/Machine/Consume.lean ====
section
/-! DEFINITION. Consuming command slots (R392 to R394, R397 checks 1 to 5, R398, R432): what the device reads from the
command ring and from the ring queue, and the answers that it gives before a command can start. -/
namespace Sys2Proof.Machine

/-- HW_READY: the device consumes the command rings (Table MB-11, R68). -/
def ringReady (s : State) : Bool :=
  s.mode != .hush && (s.mode != .boot || s.pw.boot == .recovery) && !s.pw.inReset && s.mb.resetBusy.isNone

/-- Slots posted and not consumed (R394). -/
def cmdOccupancy (s : State) : Nat := (s.mb.cmdHead + 65536 - s.mb.cmdTail) % 65536

/-- The origin of a host-window slot (R449, Table PT-1). -/
def hostOrigin (s : State) : Nat := if s.pw.panelKey && s.pw.panelNow then 3 else 0

/-! ### The fields of a slot (Table MB-7) -/

def slotLen (sl : Bytes) : Nat := u16 sl 18

/-- Check 2 of R397: a bulk reference lies in the bulk buffer (R393). -/
def bulkOk (sl : Bytes) : Bool :=
  decide (slotLen sl ≤ 32) || (u32 sl 20 % 4 == 0 && decide (u32 sl 20 + slotLen sl ≤ 65536))

/-- The payload: in the slot, or copied out of the bulk buffer (R393). -/
def slotPayload (sl : Bytes) (s : State) : Bytes :=
  if slotLen sl ≤ 32 then slice sl 20 (slotLen sl) else memReadList s (0x8000 + u32 sl 20) (slotLen sl)

/-- The command of a slot. -/
def slotCmd (sl : Bytes) (origin ringNo : Nat) (s : State) : Cmd :=
  { n := s.mb.nextN, origin, order := if bit sl 3 3 then .one else .zero, tag := u8 sl 2, opcode := u16 sl 0,
    expert := bit sl 3 0, auth := bit sl 3 2, cred := u16 sl 16, seq := u32 sl 4,
    sched := if bit sl 3 1 then some (u32 sl 12, u32 sl 8) else none,
    payload := if bulkOk sl then slotPayload sl s else [], phase := .waiting, ringNo, mute := false, doomed := false }

/-- Check 1: the tag is outstanding, whatever its origin (R396, R432). Log entry 52 (DEDUCED). -/
def tagOut (s : State) (tag : Nat) : Bool := s.mb.cmds.any (fun c => c.tag == tag && !c.mute)

/-! ### Access (R398, R452 to R456) -/

def credSlot (s : State) (i : Nat) : CredSlot := nth {} s.pt.cred i
def modCred (i : Nat) (f : CredSlot → CredSlot) (s : State) : State :=
  { s with pt := { s.pt with cred := modNth f s.pt.cred i } }

/-- The device is protected (R451). -/
def isProtected (cs : List CredSlot) : Bool := decide (2 ≤ (cs.filter (fun c => c.cls == 3)).length)

/-- The sequence rule of R398 against the last number. -/
def seqOk (last : Option Nat) (n : Nat) : Bool :=
  match last with
  | none => true
  | some l =>
    let d := (n + 2 ^ 32 - l % 2 ^ 32) % 2 ^ 32
    decide (1 ≤ d) && decide (d < 2 ^ 31)

def lastSeq (s : State) (origin : Nat) : Option Nat :=
  match origin with
  | 0 => s.mb.seqHost
  | 1 => s.mb.seqRing
  | _ => s.mb.seqPins

def setSeq (origin n : Nat) (s : State) : State :=
  match origin with
  | 0 => { s with mb := { s.mb with seqHost := some n } }
  | 1 => { s with mb := { s.mb with seqRing := some n } }
  | _ => { s with mb := { s.mb with seqPins := some n } }

/-- PT_ALLOW of a class (R456). -/
def allowOf (s : State) (cls : Nat) : Nat := tabGet 0x0111 s.pt.allow cls

/-- The nibble of an origin. -/
def allowNibble (a origin : Nat) : Nat :=
  match origin with
  | 0 => a % 16
  | 1 => a / 16 % 16
  | _ => a / 256 % 16

/-- The access profile lets the command pass (R455, R456). -/
def profileOk (s : State) (c : Cmd) : Bool :=
  let cls := c.opcode / 256
  let held := if c.auth then (credSlot s c.cred).cls else 0
  if cls < 2 ∨ cls > 14 then true
  else if isProtected s.pt.cred && (c.opcode == 0x0B10 || c.opcode == 0x0B11 || c.opcode == 0x0B12) && held != 3 then false
  else nbit (allowNibble (allowOf s cls) c.origin) held

/-- The tag of an authenticated command is right (R452). -/
def tagOk (s : State) (sl : Bytes) (c : Cmd) : Bool :=
  let r := credSlot s c.cred
  let msg := slice sl 0 52 ++ (if slotLen sl > 32 then c.payload else [])
  decide (c.cred ≤ 7) && r.cls != 0 && (hmacSha256 r.secret msg).take 12 == slice sl 52 12

/-- A slot is locked: for 10 s (R454). -/
def credLocked (s : State) (i : Nat) : Bool :=
  match (credSlot s i).lockedAt with
  | some t => decide (s.clock < t + 10 * uPerS)
  | none => false

/-- A failure of authentication: counted, and the eighth in 10 s locks the slot (R454). -/
def authFail (i : Nat) (s : State) : State :=
  let s1 : State := { s with pt := { s.pt with authFails := satInc 16 s.pt.authFails } }
  modCred i (fun r =>
    let recent := s.clock :: r.fails.filter (fun t => decide (s.clock < t + 10 * uPerS))
    if recent.length ≥ 8 then { r with fails := [], lockedAt := some s.clock } else { r with fails := recent }) s1

/-- Check 3: whether it passes, and the state after it. In recovery boot only the sequence number is checked (R474).
Log entry 52 (DEDUCED). -/
def accessCheck (sl : Bytes) (c : Cmd) (s : State) : Bool × State :=
  let seqPass := seqOk (lastSeq s c.origin) c.seq
  if s.mode = .boot then (seqPass, if seqPass then setSeq c.origin c.seq s else s)
  else if c.auth then
    if c.cred ≤ 7 ∧ credLocked s c.cred = true then (false, s)
    else if tagOk s sl c = false then (false, authFail c.cred s)
    else if seqPass && seqOk (credSlot s c.cred).seq c.seq && profileOk s c then
      (true, modCred c.cred (fun r => { r with seq := some c.seq }) (setSeq c.origin c.seq s))
    else (false, s)
  else if seqPass && profileOk s c then (true, setSeq c.origin c.seq s)
  else (false, s)

/-! ### A slot is consumed -/

/-- An answer to a command whose tag was outstanding (R396, R397): that command is unaffected. -/
def respondDup (c : Cmd) (s : State) : State :=
  lgCommand c stBad (rspSend c (rspSlot s c.tag stBad c.opcode true true false []) s)

/-- Checks 4 and 5: the opcode is known; its level, schedule flag and length are right. -/
def formCheck (c : Cmd) : Option Nat :=
  if isChangeRecord c.opcode then some stBad
  else match opRow c.opcode with
    | none => some stLevel
    | some r =>
      if c.expert != r.expert || (c.sched.isSome && c.opcode != 0x0212) || !lenOk r.len c.payload then some stBad else none

/-- Checks 1 to 5 in order; a command that passes them is outstanding and waits to start (R399). -/
def takeSlot (sl : Bytes) (origin ringNo : Nat) (s : State) : State :=
  let c := slotCmd sl origin ringNo s
  let s1 : State := { s with mb := { s.mb with nextN := s.mb.nextN + 1 } }
  if tagOut s1 c.tag then respondDup c s1
  else if bulkOk sl = false then respond c stBad [] s1
  else
    let a := accessCheck sl c s1
    if a.1 = false then respond c stAccess [] a.2
    else match formCheck c with
      | some st => respond c st [] a.2
      | none => { a.2 with mb := { a.2.mb with cmds := a.2.mb.cmds ++ [c] } }

/-- The slot at the tail of the command ring. -/
def takeHost (s : State) : State :=
  let sl := memReadList s (0x1000 + 64 * (s.mb.cmdTail % 256)) 64
  let s1 := takeSlot sl (hostOrigin s) 0 s
  let s2 : State := { s1 with mb := { s1.mb with cmdTail := (s1.mb.cmdTail + 1) % 65536, lastRing := false } }
  if s2.mb.dropped then raiseIrq 1 { s2 with mb := { s2.mb with dropped := false } } else s2

/-- The slot at the front of the ring queue (R432). -/
def takeRing (s : State) : State :=
  match s.ig.queue with
  | [] => s
  | (no, sl) :: q => takeSlot sl 1 no { s with ig := { s.ig with queue := q }, mb := { s.mb with lastRing := true } }

/-- The queue to be consumed next: the two queues alternate while both hold commands (R432). -/
def nextRing (s : State) : Bool :=
  !s.ig.queue.isEmpty && (cmdOccupancy s == 0 || !s.mb.lastRing)

/-- The device consumes up to `n` slots: while it is ready and no response is held (R395). Log entry 9 (DESIGN CHOICE). -/
def consumeGo : Nat → State → State
  | 0, s => s
  | n + 1, s =>
    if ringReady s = false ∨ s.mb.held ≠ [] then s
    else if nextRing s then consumeGo n (takeRing s)
    else if cmdOccupancy s ≠ 0 then consumeGo n (takeHost s)
    else s

/-- The device consumes whatever waits (log entry 9). -/
def consume (s : State) : State := consumeGo (cmdOccupancy s + s.ig.queue.length) s

/-- Held responses are written while fewer than 256 are unread (R395). -/
def releaseHeld : Nat → State → State
  | 0, s => s
  | n + 1, s =>
    match s.mb.held with
    | [] => s
    | sl :: rest =>
      if rspUnread s < 256 then releaseHeld n (rspWrite sl { s with mb := { s.mb with held := rest } }) else s

end Sys2Proof.Machine
end

