-- ==== Sys2Proof/Machine/Power.lean ====
section
/-! DEFINITION. Power, reset, boot, HUSH and the monitors of the management plane (chapter 03, R42 to R46, R486, R468 to
R471 at boot). -/
namespace Sys2Proof.Machine

/-! ### What a reset clears and keeps (R55, R60, R67, R69) -/

/-- A held proposal is cancelled, with event 0xFF09 (Table PW-3, Table PT-11). -/
def cancelProposal (s : State) : State :=
  match s.pt.proposal with
  | none => s
  | some p => lgEvent 0xFF09 p.digest { s with pt := { s.pt with proposal := none } }

/-- What the protection store and its counters keep: a power-on reset clears the counters and the credential sequence
numbers (R453, R480). -/
def keptPt (powerOn : Bool) (s : State) : PtState :=
  let p := { s.pt with proposal := none, expired := none, writing := none, rolledBack := none }
  if powerOn then
    { p with authFails := 0, cred := p.cred.map (fun c => { c with seq := none, fails := [], lockedAt := none }) }
  else p

/-- What the ledger keeps: the flash always; what waits in memory is lost with the supply. Log entry 11 (DEDUCED). -/
def keptLg (powerOn : Bool) (s : State) : LgState :=
  if powerOn then { s.lg with open_ := [], queue := [], lost := 0, flush := [] } else { s.lg with flush := [] }

/-- What a port keeps: the module in its cage. -/
def keptPort (p : PortState) : PortState := { modabs := p.modabs, module := p.module }

/-- The internal reset is asserted, to be released at `until_` at the earliest (R59) (Table PW-3, column FULL and pin):
everything is at its default but what the column keeps, what the always-on domain holds (R61, R429, R430), the flash, and
the levels of the pins. Log entry 11 (DEDUCED). -/
def assertReset (cause : Nat) (powerOn : Bool) (until_ : Nat) (s : State) : State :=
  let z : State := State.reset
  { z with
    pw := { z.pw with railsUp := !powerOn, resetCause := cause, bankHigh := s.pw.bankHigh, releaseAt := until_ },
    clock := s.clock,
    ad := { z.ad with vrefOut := s.ad.vrefOut },
    da := { z.da with flash := s.da.flash },
    fp := { z.fp with jackLevel := s.fp.jackLevel, jackSince := s.clock },
    nw := { z.nw with port0 := keptPort s.nw.port0, port1 := keptPort s.nw.port1 },
    ig := if powerOn then z.ig else { z.ig with addr := s.ig.addr, pos := s.ig.pos },
    pt := keptPt powerOn s, lg := keptLg powerOn s,
    freeCount := s.freeCount, out := s.out, pending := s.pending }

/-- Lease frames run from step 4 of Sequence PW-1 in a twin position (R62). -/
def leaseRuns (s : State) : Bool := twinPos s && s.ig.forwarding

/-- A unit that does not hold the Chuck sends one WAIVE on every path in service (R368). -/
def waive (s : State) : State := if leaseRuns s && !s.tw.holds then leaseSend (pathsUp s) 4 0 s else s

/-- The hardware closes the fence of a holder and sends the RELEASE (R60). -/
def pinRelease (s : State) : State :=
  if s.tw.holds then
    leaseSend (pathsUp s) 3 0 { s with role := .fenced, fenceOpen := false, tw := { s.tw with holds := false } }
  else waive s

/-- The internal reset releases 0.5 ms after RST_N rises (R59). -/
def riseDelay : Nat := 500 * uPerUs

/-- When a pulse of `ns` on RST_N lets the internal reset release: the row comes when the pin has been low for 1 us, or
at its rise where the pulse is shorter. -/
def pinUntil (ns : Nat) (s : State) : Nat := s.clock + (ns - 1000) * uPerNs + riseDelay

/-- RST_N has been low for 1 us, in a pulse of `ns`. Log entry 11 (DEDUCED). -/
def pinReset (ns : Nat) (s : State) : State :=
  assertReset 1 false (pinUntil ns s) (lgCloseAll (cancelProposal (pinRelease (inOrder rankReset s))))

/-- RST_N low while the internal reset is asserted already: the reset lasts until 0.5 ms after the pin rises, and
HW_RESET_CAUSE stays. The manual does not say which cause a pin reset within the 100 us of a FULL reset leaves: the cause
is written when the internal reset asserts, and it does not assert again. Log entry 92 (DESIGN CHOICE). -/
def pinHold (ns : Nat) (s : State) : State :=
  { s with pw := { s.pw with releaseAt := if s.pw.releaseAt < pinUntil ns s then pinUntil ns s else s.pw.releaseAt } }

/-- What a low pulse that resets the device does. -/
def pinLow (ns : Nat) (s : State) : State := if s.pw.inReset then pinHold ns s else pinReset ns s

/-- A FULL reset (R69): the fence closes, the Chuck is released, the ledger entry reaches flash, and the internal reset is
asserted for 100 us (R59). Log entry 10 (DEDUCED). -/
def fullReset (s : State) : State :=
  let s0 := inOrder rankReset s
  let s1 := if s0.tw.holds then releaseChuck 1 s0 else waive s0
  let s2 := lgEvent 0xFF02 (modeCode s1.mode) (cancelProposal s1)
  let s3 := lgDrain (lgCloseAll s2)
  assertReset 2 false (s3.clock + 100 * uPerUs) s3

/-! ### Boot (Sequence PW-1) -/

/-- Whether a boot header copy is good (R468): identity, format, CRC, a root code that is not reserved. -/
def hdrOk (h : Bytes) : Bool :=
  h.length == 32 && h.take 4 == [0x56, 0x44, 0x42, 0x48] && u16 h 4 == 1 && decide (u8 h 6 ≤ 3) && decide (u8 h 7 ≤ 1) &&
    u32 h 28 == crc32 (h.take 28)

/-- The copy in force: copy 1 when true; none when neither is good (R468). -/
def hdrInForce (p : PtState) : Option Bool :=
  match hdrOk p.hdr0, hdrOk p.hdr1 with
  | true, true => some (decide (u32 p.hdr0 8 < u32 p.hdr1 8))
  | true, false => some false
  | false, true => some true
  | false, false => none

/-- Log entry 13 (DESIGN CHOICE). -/
def hdrNow (p : PtState) : Bytes := if hdrInForce p = some true then p.hdr1 else p.hdr0

/-- The preferred slot, and the root frequency (Table PT-9). Log entry 13 (DESIGN CHOICE). -/
def prefB (p : PtState) : Bool := hdrOk (hdrNow p) && u8 (hdrNow p) 7 == 1
/-- Log entry 13 (DESIGN CHOICE). -/
def rootCode (p : PtState) : Nat := if hdrOk (hdrNow p) then u8 (hdrNow p) 6 else 0
def rootHzOf (code : Nat) : Nat := nth 10000000 [10000000, 20000000, 25000000, 40000000] code

/-- A header update writes only the sector of the other copy (R468). -/
def writeHeader (code : Nat) (slotB : Bool) (p : PtState) : PtState :=
  let count := if (hdrInForce p).isSome then (u32 (hdrNow p) 8 + 1) % 2 ^ 32 else 0
  let body : Bytes := [0x56, 0x44, 0x42, 0x48] ++ le 2 1 ++ le 1 code ++ le 1 (b2n slotB) ++ le 4 count ++ zeros 16
  let h := body ++ le 4 (crc32 body)
  if hdrInForce p = some false then { p with hdr1 := h } else { p with hdr0 := h }

/-- SLOT_SEL as latched (R43): 0 slot A, 1 slot B, 2 open. -/
def slotSelOf (x : Straps) : Nat :=
  if 3 * x.slotMv < x.vddio4Mv then 0 else if 3 * x.slotMv > 2 * x.vddio4Mv then 1 else 2

/-- An action of a domain's machine starts without a command (R510). -/
def domBoot (d : Nat) (s : State) : State :=
  let m := getDom s d
  domStarts d true (setDom d { m with run := some true, since := s.clock } s)

/-- The internal reset releases (step 2), not before its time (R59): straps latched, mode BOOT, the initial role, the DAC
banks starting. Log entry 14 (DESIGN CHOICE). -/
def resetRelease (x : Straps) (s : State) : State :=
  if s.pw.inReset = false ∨ s.pw.railsUp = false ∨ s.clock < s.pw.releaseAt then s else
    let sel := slotSelOf x
    let s1 : State :=
      { s with pw := { s.pw with inReset := false, boot := .released, slotSel := sel, bootSel := x.bootSel,
                                 ringEnd := x.ringEnd, panelKey := x.panelKey, panelNow := x.panelKey },
               mode := .boot, role := if sel = 2 then .solo else .fenced, fp := { s.fp with jackSince := s.clock } }
    fenceEval (domBoot 5 (domBoot 4 s1))

/-- The boot ROM starts on the first root to show activity, ROOT_A if both do; the header gives the root frequency, and
SSYN and MSYN lock (steps 2 to 4). Log entry 15 (DEDUCED). -/
def bootRoots (a b : Bool) (s : State) : State :=
  if s.pw.boot ≠ .released ∨ (a || b) = false then s else
    let hz := rootHzOf (rootCode s.pt)
    let s1 : State :=
      { s with pw := { s.pw with boot := .rooted, bootRoot := some (if a then .a else .b) },
               hs := { s.hs with rootHz := hz, nowB := !a, heldUnfit := !a } }
    let s2 := setRoot .a (if a then .requalifying else .disqualified) s1
    let word : Syn → State → State := fun x t => modSyn x (fun y => { y with word := nominalWord t.live hz x }) t
    startLock .msyn (startLock .ssyn (word .nsyn (word .vsyn (word .ssyn (word .msyn s2)))))

def fwSlot (s : State) (slotB : Bool) : FwSlot := if slotB then s.pt.slotB else s.pt.slotA

def modFwSlot (slotB : Bool) (f : FwSlot → FwSlot) (s : State) : State :=
  if slotB then { s with pt := { s.pt with slotB := f s.pt.slotB } } else { s with pt := { s.pt with slotA := f s.pt.slotA } }

/-- The slot that the boot verifies now: the preferred one, or the other after its failure. -/
def bootSlot (s : State) : Bool := if s.pt.rolledBack.isSome then !prefB s.pt else prefB s.pt

/-- Step 8 starts VSYN and NSYN. Log entry 15 (DEDUCED). -/
def lockRest (s : State) : State := startLock .nsyn (startLock .vsyn s)

/-- The verification of a slot ends (step 6): it boots; or the other slot is tried, and the header prefers it once it
boots (FIRMWARE_ROLLBACK, R471); or both have failed (BOOT_FAILURE, R64). -/
def slotVerify (slotB ok : Bool) (s : State) : State :=
  if s.pw.boot ≠ .ready ∨ slotB ≠ bootSlot s then s else
    let s1 := modFwSlot slotB (fun f => { f with verifies := ok }) s
    if ok then
      let s2 : State := { s1 with pw := { s1.pw with boot := .verified }, pt := { s1.pt with runB := slotB } }
      lockRest (if s2.pt.rolledBack.isSome then { s2 with pt := writeHeader (rootCode s2.pt) slotB s2.pt } else s2)
    else if s1.pt.rolledBack.isSome then { s1 with pw := { s1.pw with boot := .failed, bootFail := 1 } }
    else { s1 with pt := { s1.pt with rolledBack := some (b2n slotB) } }

/-- Step 8: VSYN and NSYN have locked, the firmware runs, the remaining domains start, and the mode becomes CONFIGURE with
the ledger entries of R61 and R471. -/
def bootDone (selfTestOk : Bool) (s : State) : State :=
  if s.pw.boot ≠ .verified then s
  else if selfTestOk = false then { s with pw := { s.pw with boot := .failed, bootFail := 2 } }
  else if s.hs.vsyn.lock ≠ 4 ∨ s.hs.nsyn.lock ≠ 4 then s
  else
    let s1 : State := { s with pw := { s.pw with boot := .done } }
    let up : State → Nat → State := fun t d =>
      setDom d { getDom t d with run := some true, since := t.clock } (if d = 8 then t else domStarts d true t)
    let s2 := [0, 1, 2, 3, 6, 7, 8, 9, 10].foldl up (setMode .configure s1)
    let s3 := portStart 1 (portStart 0 (lgEvent 0xFF01 s2.pw.resetCause s2))
    let s4 := match s3.pt.rolledBack with
      | some k => lgEvent 0xFF08 k s3
      | none => s3
    consume s4

/-! ### The monitors -/

/-- One reading of the die sensor (R486): the ALARM at 108 C, once until a reading below 103 C; the FAULT at the second
reading in a row of 115 C. Log entry 16 (DESIGN CHOICE). -/
def tempReading (centi : Int) (s : State) : State :=
  if s.pw.inReset then s else
    let hot := decide (centi ≥ 10800)
    let armed := !s.pw.tempAlarmed
    let trip := decide (centi ≥ 11500) && (match s.pw.temp with | some t => decide (t ≥ 11500) | none => false)
    let s1 : State := { s with pw := { s.pw with temp := some centi, tempAlarmed := if hot then true
                                        else if centi < 10300 then false else s.pw.tempAlarmed } }
    let s2 := if hot && armed then raiseAlarm blkPW s1 else s1
    if trip then raiseFault fTemp s2 else s2

/-! ### HUSH (R71 to R76) -/

/-- Conditions of Table AH-8 for a HUSH request. A second PW_HUSH in the 20 ms of HUSH entry, in which HW_MODE still reads
the old mode, is refused as well: the manual does not name its answer. Log entry 17 (DESIGN CHOICE). -/
def chkHush (_ : Bytes) (s : State) : Option Nat :=
  if (s.mode = .freerun ∨ s.mode = .locked ∨ s.mode = .holdover) ∧ s.role = .solo ∧ s.mb.pend = none ∧
      s.pw.hush = .awake then none
  else some stState

/-- Step 1 of Sequence PW-2, at the frame boundary: the headphone mute clamp engages. -/
def applyHush (c : Cmd) (s0 : State) : State :=
  let s := inOrder rankHost s0
  let s1 : State := { s with pw := { s.pw with hush := .entering c.n, hushAt := s.clock, hushClamp := s.fp.clamp,
                                               wakeSn := bit c.payload 0 0,
                                               wakeHeld := false } }
  setPhase c.n .running (modFp (fun f => { f with clamp := true }) s1)

/-- A domain at HUSH entry: it is off, and comes back at HUSH exit if it was enabled or starting (R510).
Log entry 19 (DEDUCED). -/
def hushDomain (m : EnMachine) : EnMachine := { m with on := false, run := none }

/-- The synthesisers but MSYN go off, with every move cancelled (Table HS-5, step 4 of Sequence PW-2). -/
def hushSyns (s : State) : State :=
  let s1 := allSyn.foldl (fun (t : State) x => cancelHostMoves x t) s
  let off : Syn → State → State := fun x t => modSyn x (fun y => { y with lock := 0 }) (closeGates x t)
  off .ssyn (off .nsyn (off .vsyn { s1 with tk := { s1.tk with realign := [] } }))

/-- Shutdowns in progress are complete when the domains go off; their commands are answered before the control plane powers
down. Log entry 19 (DEDUCED). -/
def hushShutdowns (s : State) : State :=
  (List.range 11).foldl (fun (t : State) d => if (getDom t d).run = some false then domFinish d t else t) s

/-- Steps 2 to 4 of Sequence PW-2, 20 ms after the request acted: mode HUSH, the ledger entries in flash, DONE, and the
planes powered down. The conditions were judged at the boundary where the request acted (R71): a commit accepted in the
20 ms, or a change of mode in them, keeps the device out of HUSH no more. Log entry 18 (DESIGN CHOICE). -/
def hushEntry (s : State) : State :=
  match s.pw.hush with
  | .entering n =>
    if s.clock < s.pw.hushAt + 20 * uPerMs then s else
      let waits := s.fp.identWaits || s.fp.identAt.isSome
      let s1 := lgDrain (respondTo n stDone [] (lgDrain (lgCloseAll (setMode .hush (hushShutdowns s)))))
      let s2 := hushSyns (stopMclk (txStop (holdWait true (psWait true (passesOff s1)))))
      let down : PortState → PortState := fun p => { p with link := 0, txdis := true }
      { s2 with
        dataPlane := .dark,
        pw := { s2.pw with hush := .hushed, hushDomains := s2.pw.domains.map enTarget, domains := s2.pw.domains.map hushDomain },
        fp := { s2.fp with bias := false, identWaits := waits, clamp := false, releaseAt := none,
                           hp := { s2.fp.hp with on := false, run := none } },
        dg := { s2.dg with ppsHigh := false, rx := s2.dg.rx.map (fun r => { r with lock := false, rate := 7 }) },
        nw := { s2.nw with port0 := down s2.nw.port0, port1 := down s2.nw.port1 } }
  | _ => s

/-- Step 1 of Sequence PW-3: after a wake trigger the core domains power up; SSYN, VSYN and NSYN relock at the words they
held. Log entry 18 (DESIGN CHOICE). -/
def hushWake (s : State) : State :=
  if s.pw.hush = .hushed ∧ s.pw.wakeHeld = true then
    let ms := s.pw.domains.mapIdx (fun d m => if nth false s.pw.hushDomains d then { m with run := some true, since := s.clock } else m)
    let s1 : State := { s with pw := { s.pw with hush := .waking, hushAt := s.clock, wakeHeld := false, domains := ms } }
    let ref : State → Nat → State := fun t d => if nth false s1.pw.hushDomains d then domStarts d true t else t
    let s2 := relockOff .nsyn (relockOff .ssyn ([0, 1, 2, 3].foldl ref s1))
    if nth false s1.pw.hushDomains 8 then relockOff .vsyn s2 else s2
  else s

/-- Steps 2 and 3 of Sequence PW-3 are over. -/
def wakeLocked (s : State) : Bool :=
  s.hs.ssyn.lock == 4 && s.hs.nsyn.lock == 4 && (s.hs.vsyn.lock == 4 || !nth false s.pw.hushDomains 8)

/-- Candidates at HUSH exit: NO_SIGNAL (Table TK-7). -/
def wakeCands (s : State) : State :=
  let one : CandState → CandState := fun c => if c.st = .off then c else { c with st := .noSignal, hasFreq := false, phase := 0, rawPhase := 0 }
  { s with tk := { s.tk with cand := s.tk.cand.map one, selected := none, forced := false, lockSince := none, videoMisses := 0, videoCoarse := none } }

/-- The amplifier at HUSH exit: its committed enable applies again (R313); a request that was waiting is done with it. -/
def wakeHp (s : State) : State :=
  if s.live.hp.en then
    modFp (fun f => { f with hp := { f.hp with run := some true, since := s.clock }, clamp := true, aoutAmp := true }) s
  else
    let x := enDone s.clock s.fp.hp
    respondAll x.2 stDone [] (modFp (fun f => { f with hp := x.1 }) s)

/-- The receive flows at HUSH exit: empty queues, and the loss of a flow timed from here. -/
def wakeFlows (s : State) : State :=
  { s with nw := { s.nw with rx := s.nw.rx.map (fun f => (f.1, { f.2 with buf := [], aLast := s.clock, bLast := s.clock })) } }

/-- The data plane comes back at a frame boundary (step 4 of Sequence PW-3): its memories are clear, the banks empty and
the alarms disarmed, and the ports start again. -/
def wakePlanes (s : State) : State :=
  let s1 : State := { s with dataPlane := .running, pw := { s.pw with hush := .awake } }
  let s2 := wakeCands (teHush { s1 with ad := { s1.ad with banks := [], alarms := List.replicate 4 none } })
  let s3 := ppsRestart (txStart (s2.spindle / frameLen (f441 s2)) (psWait true (psWait false s2)))
  wakeFlows (ptpStart 1 (portStart 1 (ptpStart 0 (portStart 0 s3))))

/-- Step 4 of Sequence PW-3: the data plane restarts on the committed generation; mode FREERUN; the fence opens; the
amplifier starts again. Log entry 18 (DESIGN CHOICE). Log entry 48 (DEDUCED). -/
def hushRestart (s : State) : State :=
  let s5 := wakeHp (wakePlanes (setMode .freerun s))
  let s6 := if s5.fp.identWaits && s5.fp.jack && s5.live.jack.acc && s5.fenceOpen then identStart none s5
    else modFp (fun f => { f with identWaits := false }) s5
  consume (biasEval s6)

/-- The exit of a device that has entered SAFE since its wake trigger: its data plane comes back for SAFE. -/
def safeRestart (s : State) : State := consume (wakePlanes s)

/-- The tables have failed at step 3: the data plane stays dark, and Calipers forgets its banks and alarms as at every
HUSH exit (R75, R209). -/
def wakeDark (s : State) : State := { s with ad := { s.ad with banks := [], alarms := List.replicate 4 none } }

/-- What HUSH_EXIT_RESTART finds: the causes of the trips of HUSH, and the scrub failure. -/
def wakeCauses (scrubOk : Bool) (s : State) : Nat :=
  Nat.lor (if s.pw.safeOnWake then s.safeCause else 0) (if scrubOk then 0 else fScrub)

/-- HUSH_EXIT_RESTART at a frame boundary (R75, R76): SAFE after a trip in HUSH, with the data plane running, or after a
scrub failure, with the data plane dark; else the restart. -/
def hushExit (scrubOk : Bool) (s : State) : State :=
  if s.pw.hush = .waking ∧ wakeLocked s = true ∧ s.spindle % frameLen (f441 s) = 0 then
    let causes := wakeCauses scrubOk s
    if s.mode = .safe then
      if scrubOk then safeRestart s else safeFault fScrub (wakeDark { s with pw := { s.pw with hush := .awake } })
    else if causes = 0 then hushRestart s
    else if scrubOk then consume (enterSafe causes (inOrder rankFault (wakePlanes s)))
    else enterSafe causes (inOrder rankFault (wakeDark s))
  else s

/-! ### The meanings of the rows -/

/-- The rails come within range and power-on reset releases (R54, R57); the banks' voltages are sensed (R40). The board
holds RST_N low for 2 ms more (R58). -/
def execPowerUp (bankHigh : List Bool) (s : State) : Host.Outcome State Fault Refusal :=
  .next (if s.pw.railsUp then s else
    { s with pw := { s.pw with railsUp := true, bankHigh := bankHigh.take 4, releaseAt := s.clock + 2 * uPerMs + riseDelay } })

/-- A rail falls below 88 % (R55, R57): the internal reset asserts, after the WAIVE of R368 where the always-on rails and
VDDIO4 are still in range. -/
def execPowerOnResetAssert (aonInRange : Bool) (s : State) : Host.Outcome State Fault Refusal :=
  .next (assertReset 0 true 0 (if aonInRange then waive s else s))

/-- A rail has been outside its monitor band for more than 2 us (R57). -/
def execSupplyMonitorTrip (_rail : Rail) (s : State) : Host.Outcome State Fault Refusal :=
  .next (if s.pw.inReset then s else raiseFault fSupply s)

/-- RST_N low (R58, R60): ignored below 200 ns, a reset from 1 us on, either in between (free value).
Log entry 12 (DESIGN CHOICE). -/
def execRstNLow (ns : Nat) (s : State) : Host.Outcome State Fault Refusal :=
  if ns < 200 then .next s
  else if ns ≥ 1000 then .next (pinLow ns s)
  else
    let d := drawFree s
    .next (if d.1 % 2 = 0 then d.2 else pinLow ns d.2)

def execInternalResetRelease (straps : Straps) (s : State) : Host.Outcome State Fault Refusal := .next (resetRelease straps s)
def execBootRootActivity (a b : Bool) (s : State) : Host.Outcome State Fault Refusal := .next (bootRoots a b s)
def execSlotVerifyComplete (slotB ok : Bool) (s : State) : Host.Outcome State Fault Refusal := .next (slotVerify slotB ok s)
def execBootComplete (selfTestOk : Bool) (s : State) : Host.Outcome State Fault Refusal := .next (bootDone selfTestOk s)

/-- PANEL_KEY has stood at a level (R46): the input is debounced, so only 20 ms change what the device takes the
key to be; without effect while the origin is removed. -/
def execPanelKeyChange (k : KeyLevel) (s : State) : Host.Outcome State Fault Refusal :=
  .next (if s.pw.panelKey && !s.pw.inReset && decide (20 ≤ k.ms) then { s with pw := { s.pw with panelNow := k.level } } else s)

def execLockstepMismatch (s : State) : Host.Outcome State Fault Refusal := .next (raiseFault fLockstep s)
def execWatchdogExpiry (s : State) : Host.Outcome State Fault Refusal := .next (raiseFault fWatchdog s)

/-- An uncorrectable error is a FAULT, a correctable one an ALARM (Table AH-3). Log entry 16 (DESIGN CHOICE). -/
def execEccError (uncorrectable : Bool) (s : State) : Host.Outcome State Fault Refusal :=
  .next (if uncorrectable then raiseFault fEcc s else if s.mode = .boot ∨ s.mode = .hush then s else raiseAlarm blkPW s)

def execScrubCrcFailure (s : State) : Host.Outcome State Fault Refusal := .next (raiseFault fScrub s)
def execDieTempSample (centi : Int) (s : State) : Host.Outcome State Fault Refusal := .next (tempReading centi s)
def execDieTemperatureTrip (centi : Int) (s : State) : Host.Outcome State Fault Refusal := .next (tempReading centi s)
/-- PW_HUSH: the conditions are checked at its frame boundary (R71). -/
def execPwHush (k : OrdClass) (s : State) : Host.Outcome State Fault Refusal := .next (startDirect k 0x0D20 (fun _ _ => none) s)
/-- Log entry 5 (DESIGN CHOICE). -/
def execHushEntryComplete (s : State) : Host.Outcome State Fault Refusal := .next (hushEntry s)
def execHushWake (s : State) : Host.Outcome State Fault Refusal := .next (hushWake s)
def execHushExitRestart (scrubOk : Bool) (s : State) : Host.Outcome State Fault Refusal := .next (hushExit scrubOk s)

end Sys2Proof.Machine
end

