-- ==== Sys2Proof/Machine/Mailbox.lean ====
section
/-! DEFINITION. The host window (R384 to R391), doorbells and response tail (R394, R395), the reset scopes SESSION, CONTROL
and FULL (R67, R391, R414), and the session commands (R419). -/
namespace Sys2Proof.Machine

/-! ### The window (R63, R385 to R389) -/

/-- The host window is ready from step 4 of Sequence PW-1 on (R63). -/
def windowReady (s : State) : Bool := s.ig.forwarding && !s.pw.inReset

/-- Bytes that the host may write and that have no behaviour of their own: the command ring and the bulk buffer. -/
def hostStores (a : Nat) : Bool := (decide (0x1000 ≤ a) && decide (a < 0x5000)) || (decide (0x8000 ≤ a) && decide (a < 0x18000))

/-- The bytes of a write from an address on; those outside the two writable ranges are ignored (R385).
Log entry 82 (DEDUCED). -/
def winWrite : Nat → Bytes → State → State
  | _, [], s => s
  | a, b :: bs, s => winWrite (a + 1) bs (if hostStores a then memWrite a b s else s)

/-- HW_STATUS (Table MB-5). -/
def hwStatus (s : State) : Nat :=
  s.mb.overflows * 2 ^ 24 + s.pw.bootFail * 2 ^ 20 + s.pw.resetCause * 2 ^ 18 + b2n s.mb.resetBusy.isSome * 2 ^ 17 +
    b2n (ringReady s) * 2 ^ 16 + s.pw.slotSel * 2 ^ 14 + b2n s.pw.bootSel * 2 ^ 13 + b2n s.pw.ringEnd * 2 ^ 12 +
    b2n s.pw.panelKey * 2 ^ 11 + b2n (s.pw.panelKey && s.pw.panelNow) * 2 ^ 10 + b2n s.timeValid * 2 ^ 9 +
    b2n (s.mb.held != []) * 2 ^ 8

/-- HW_ID (Table MB-4). -/
def hwId : Nat := 0x2480 * 65536 + Config.revLetter.toNat * 256 + Config.revDigit.toNat

/-- A register of Table MB-3 by its offset; a reserved one reads zero. -/
def hwReg (s : State) (off : Nat) : Nat :=
  match off with
  | 0x00 => hwId
  | 0x04 => hwStatus s
  | 0x0C => s.mb.cmdHead
  | 0x10 => s.mb.cmdTail
  | 0x14 => s.mb.rspHead
  | 0x18 => s.mb.rspTail
  | 0x1C => s.mb.irqStatus
  | 0x20 => s.mb.irqEnable
  | 0x28 => modeCode s.mode
  | 0x2C => roleCode s.role
  | _ => 0

/-- What the host reads of a register (R63, R73): all ones before the window is ready; in HUSH only HW_ID and HW_MODE. -/
def hwRead (s : State) (off : Nat) : Nat :=
  if windowReady s = false then 0xFFFFFFFF
  else if s.mode = .hush then (if off = 0x00 then hwId else if off = 0x28 then 7 else 0)
  else hwReg s off

/-- One byte of the window (Table MB-2). Log entry 82 (DEDUCED). -/
def winByte (s : State) (a : Nat) : Byte :=
  if a < 0x40 then BitVec.ofNat 8 (hwRead s (a / 4 * 4) / 256 ^ (a % 4))
  else if windowReady s = false then 0xFF
  else if s.mode = .hush then 0
  else memRead s a

/-- `n` bytes of the window. -/
def winRead (s : State) (a : Nat) : Nat → Bytes
  | 0 => []
  | n + 1 => winByte s a :: winRead s (a + 1) n

/-! ### Doorbell and response tail -/

/-- A write to HW_DOORBELL (R73, R76, R394): in HUSH it wakes and posts nothing; before the reset-complete response a post
is discarded (R68). Log entry 20 (DEDUCED). -/
def doorbell (v : Nat) (s : State) : State :=
  if windowReady s = false then s
  else
    let s1 := wakeTrigger s
    let n := v % 512
    if s1.mode = .hush ∨ s1.mb.resetBusy ≠ none ∨ n = 0 then s1
    else if n ≤ 256 ∧ cmdOccupancy s1 + n ≤ 256 then
      consume { s1 with mb := { s1.mb with cmdHead := (s1.mb.cmdHead + n) % 65536 } }
    else raiseIrq 7 { s1 with mb := { s1.mb with overflows := satInc 8 s1.mb.overflows, dropped := true } }

/-- A write to HW_RSP_TAIL (R395): one that goes backwards or past HW_RSP_HEAD is ignored. -/
def rspTail (v : Nat) (s : State) : State :=
  let t := v % 65536
  if windowReady s = false ∨ s.mode = .hush ∨ (t + 65536 - s.mb.rspTail) % 65536 > rspUnread s then s
  else
    let s1 : State := { s with mb := { s.mb with rspTail := t } }
    consume (releaseHeld s1.mb.held.length s1)

/-! ### SESSION and CONTROL (R67, Table PW-3) -/

/-- Commands at a SESSION or CONTROL reset: those that have not started are gone; those in progress run to completion and
their responses are discarded. The firmware of a CONTROL reset no longer knows what it had accepted for the next frame.
Log entry 20 (DEDUCED). -/
def resetCmds (k : Scope) (cs : List Cmd) : List Cmd :=
  (cs.filter (fun c => match c.phase with
    | .waiting => false
    | .frame _ => k == .session
    | _ => true)).map (fun c => { c with mute := true })

/-- A SESSION or CONTROL reset starts: rings, tags, sequence numbers, interrupt registers, staging and proposal are
cleared. Log entry 20 (DEDUCED). -/
def scopeReset (k : Scope) (overRing : Bool) (s : State) : State :=
  let s1 := cancelProposal s
  let m := s1.mb
  { s1 with
    mb := { m with cmdHead := 0, cmdTail := 0, rspHead := 0, rspTail := 0, dropped := false, held := [], irqStatus := 0,
                   irqEnable := 0, resetKey := none, resetBusy := some k, cmds := resetCmds k m.cmds, seqHost := none,
                   seqRing := none, seqPins := none, staging := none, stageBytes := 0, image := none },
    ig := { s1.ig with queue := [], resetOverRing := overRing },
    mem := s1.mem.filter (fun c => decide (c.1 < 0x1000) || decide (0x7000 ≤ c.1)) }

/-- A completed key sequence acts (R391); in HUSH only FULL does (R73). -/
def runScope (nn : Nat) (overRing : Bool) (s : State) : State :=
  match nn with
  | 3 => fullReset s
  | 1 => if s.mode = .hush then s else scopeReset .session overRing s
  | 2 => if s.mode = .hush then s else scopeReset .control overRing s
  | _ => s

/-- A write to HW_RESET (R391): a first key opens a sequence; the second key of the same scope within 1 ms completes it;
anything else cancels it. -/
def resetWrite (v : Nat) (s : State) : State :=
  let nn := v % 256
  let scope := decide (1 ≤ nn) && decide (nn ≤ 3)
  if windowReady s = false then s
  else if v / 256 = 0xA5A500 ∧ scope then { s with mb := { s.mb with resetKey := some (nn, s.clock) } }
  else
    let s1 : State := { s with mb := { s.mb with resetKey := none } }
    match s.mb.resetKey with
    | some (k, t) => if v / 256 = 0x5A5A00 ∧ k = nn ∧ s.clock ≤ t + uPerMs then runScope nn false s1 else s1
    | none => s1

/-- Time of the pending boundary in the byte layout of the compact form; zeros without a pending commit. -/
def pendBoundary (s : State) : Bytes :=
  match s.mb.pend with
  | some p => compactForm p.boundary
  | none => zeros 8

/-- The two slots of the reset-complete response (R414). -/
def resetSlots (k : Scope) (s : State) : Bytes × Bytes :=
  let scope := match k with | .session => 1 | .control => 2 | .full => 3
  let pg := match s.mb.pend with | some p => p.gen | none => 0
  let pd := match s.mb.pend with | some p => p.digest | none => 0
  (rspSlot s 0 stDone 0x01FF false false true (le 8 s.mb.digest ++ le 4 pg ++ le 8 pd),
   rspSlot s 0 stDone 0x01FF true false false (pendBoundary s ++ le 1 scope))

/-- MB_RESET_DONE: the reset is over; a scope requested over the ring is answered there as well (R434). -/
def resetDone (s : State) : State :=
  match s.mb.resetBusy with
  | none => s
  | some k =>
    let sl := resetSlots k s
    let s1 := rspWrite sl.2 (rspWrite sl.1 { s with mb := { s.mb with resetBusy := none } })
    let s2 := if s.ig.resetOverRing then ringSend 0 0x04 sl.2 (ringSend 0 0x04 sl.1 s1) else s1
    raiseIrq 8 { s2 with ig := { s2.ig with resetOverRing := false } }

/-! ### Session commands (R419) -/

/-- MB_HELLO (Table MB-18). -/
def helloResult (c : Cmd) (s : State) : Bytes :=
  le 1 (unitLevel s / 16) ++ le 1 (unitLevel s % 16) ++ zeros 2 ++ le 4 (fwSlot s s.pt.runB).build ++ le 1 c.origin ++
    le 1 (b2n s.pt.runB)

/-- MB_SUMMARY (Table MB-19). -/
def summaryResult (s : State) : Bytes :=
  le 2 s.mb.alarmBlocks ++ le 2 s.safeCause ++ le 2 (s.mb.cmds.filter (fun c => !c.mute)).length

/-- MB_CONFIG_STATUS (Table MB-20). -/
def configStatus (part : Nat) (s : State) : Bytes :=
  let open_ := match s.mb.staging with
    | none => 0
    | some st => if st.full then 2 else 1
  if part = 0 then le 8 s.mb.digest ++ le 8 (match s.mb.pend with | some p => p.digest | none => 0)
  else pendBoundary s ++ le 4 s.mb.stageBytes ++ le 1 (b2n s.mb.pend.isSome) ++ le 1 open_

/-! ### The meanings of the rows -/

/-- HOST_WINDOW_WRITE (R385): in HUSH every write but the doorbell and the FULL keys is ignored (R73). -/
def execHostWindowWrite (addr : Nat) (data : Bytes) (s : State) : Host.Outcome State Fault Refusal :=
  .next (if windowReady s = false ∨ s.mode = .hush then s else winWrite addr data s)

def execHwDoorbell (v : Word32) (s : State) : Host.Outcome State Fault Refusal := .next (doorbell v.toNat s)
def execHwRspTail (v : Word32) (s : State) : Host.Outcome State Fault Refusal := .next (rspTail v.toNat s)

/-- HW_IRQ_STATUS: a written 1 clears its bit (R390). -/
def execHwIrqStatus (v : Word32) (s : State) : Host.Outcome State Fault Refusal :=
  .next (if windowReady s = false ∨ s.mode = .hush then s
    else { s with mb := { s.mb with irqStatus := Nat.land s.mb.irqStatus (Nat.xor 511 (v.toNat % 512)) } })

/-- HW_IRQ_ENABLE (R390). Log entry 53 (DEDUCED). -/
def execHwIrqEnable (v : Word32) (s : State) : Host.Outcome State Fault Refusal :=
  .next (if windowReady s = false ∨ s.mode = .hush then s else { s with mb := { s.mb with irqEnable := v.toNat % 512 } })

/-- A write to HW_RESET that is a first key. -/
def execResetKeyFirst (v : Word32) (s : State) : Host.Outcome State Fault Refusal := .next (resetWrite v.toNat s)

/-- A write to HW_RESET that is the second key of SESSION. -/
def execSessionReset (v : Word32) (s : State) : Host.Outcome State Fault Refusal := .next (resetWrite v.toNat s)

/-- A write to HW_RESET that is the second key of CONTROL. -/
def execControlReset (v : Word32) (s : State) : Host.Outcome State Fault Refusal := .next (resetWrite v.toNat s)

/-- A write to HW_RESET that is the second key of FULL. -/
def execFullReset (v : Word32) (s : State) : Host.Outcome State Fault Refusal := .next (resetWrite v.toNat s)

def execMbResetDone (s : State) : Host.Outcome State Fault Refusal := .next (resetDone s)

def execMbHello (k : OrdClass) (s : State) : Host.Outcome State Fault Refusal :=
  .next (startNow k 0x0110 (fun c t => respond c stDone (helloResult c t) t) s)

/-- MB_DRAIN waits until every command consumed before it has its final response. -/
def execMbDrain (k : OrdClass) (s : State) : Host.Outcome State Fault Refusal :=
  .next (startNow k 0x0111 (fun c t => settleDrains t.mb.cmds.length (setPhase c.n .running t)) s)

/-- MB_SUMMARY clears MB_ALARM_BLOCKS. -/
def execMbSummary (k : OrdClass) (s : State) : Host.Outcome State Fault Refusal :=
  .next (startNow k 0x0E00 (fun c t =>
    respond c stDone (summaryResult t) { t with mb := { t.mb with alarmBlocks := 0 } }) s)

def execMbConfigStatus (k : OrdClass) (s : State) : Host.Outcome State Fault Refusal :=
  .next (startStatus k 0x0E01 (fun p => decide (u8 p 0 ≤ 1)) (fun p t => configStatus (u8 p 0) t) s)

end Sys2Proof.Machine
end

