-- ==== Sys2Proof/Machine/Commit.lean ====
section
/-! DEFINITION. Staging and commits (R401 to R412, R419): the table of staged records, the rules of a configuration, digests,
images, MB_STAGE_BEGIN, MB_STAGE_ABORT, MB_COMMIT, MB_CANCEL and MB_IMAGE_LOAD, and the commit's frame boundary. -/
namespace Sys2Proof.Machine

/-! ### The two staged payloads of chapters 12 and 14 -/

/-- TW_CFG (R380, Table TW-12). -/
def okTwCfg (p : Bytes) : Bool :=
  decide (8 ≤ u8 p 0) && decide (u8 p 0 ≤ 64) && fld p 1 1 0 != 0 &&
    decide ((i16 p 4).natAbs ≤ 2000) && decide ((i16 p 6).natAbs ≤ 2000)

def putTwCfg (p : Bytes) (t : Tables) : Tables :=
  { t with tw := { leaseUs := u8 p 0, laneEn := fld p 1 1 0, asym0 := i16 p 4, asym1 := i16 p 6 } }

/-- IG_CFG (Table IG-8). -/
def okIgCfg (p : Bytes) : Bool := decide (u8 p 0 ≤ 62)
def putIgCfg (p : Bytes) (t : Tables) : Tables := { t with igMaster := u8 p 0 }

/-! ### Records -/

/-- The fields of a staged payload, by its opcode (R401): what a staging command and an image record are checked for. -/
def recFieldsOk (op : Nat) (p : Bytes) : Bool :=
  match op with
  | 0x0310 => okRootCfg p
  | 0x0313 => okSynthCfg p
  | 0x0319 => okToolrest p
  | 0x0320 => okTkCfg p
  | 0x0321 => okTkCand p
  | 0x0322 => okTkPolicy p
  | 0x0323 => okRootChar p
  | 0x0410 => okAdCfg p
  | 0x0411 => okAdPairCfg p
  | 0x0412 => okAdSeqCfg p
  | 0x0413 => okAdSlot p
  | 0x0414 => okAdPreset p
  | 0x0415 => okAdTimer p
  | 0x0510 => okDaOutCfg p
  | 0x0511 => okDaBankCfg p
  | 0x0512 => okDdsCfg p
  | 0x0520 => okPsCfg p
  | 0x0521 => okPsSeg p
  | 0x0523 => okPsShape p
  | 0x0524 => okPsPreset p
  | 0x0530 => okDgClkCfg p
  | 0x0531 => okDgPpsCfg p
  | 0x0532 => okDgTxCfg p
  | 0x0533 => okDgCsRaw p
  | 0x0610 => okXbRoute p
  | 0x0611 => okXbDpCfg p
  | 0x0620 => okTeCfg p
  | 0x0621 => okTeOps p
  | 0x0622 => okTeOperands p
  | 0x0623 => okTeRun 4096 p
  | 0x0630 => okTePreset p
  | 0x0710 => okNwPortCfg p
  | 0x0711 => okNwPtpCfg p
  | 0x0712 => okNwPtpPort p
  | 0x0713 => okNwRxFlow p
  | 0x0714 => okNwTxFlow p
  | 0x0810 => okFpHpCfg p
  | 0x0813 => okFpJackCfg p
  | 0x0815 => okFpPdmCfg p
  | 0x0816 => okSnCfg p
  | 0x0910 => okTwCfg p
  | 0x0A10 => okIgCfg p
  | _ => true

/-- A staged record written into the tables (R403). -/
def putRec (t : Tables) (r : Rec) : Tables :=
  let p := r.payload
  match r.opcode with
  | 0x0310 => putRootCfg p t
  | 0x0313 => putSynthCfg p t
  | 0x0319 => putToolrest p t
  | 0x0320 => putTkCfg p t
  | 0x0321 => putTkCand p t
  | 0x0322 => putTkPolicy p t
  | 0x0323 => putRootChar p t
  | 0x0410 => putAdCfg p t
  | 0x0411 => putAdPairCfg p t
  | 0x0412 => putAdSeqCfg p t
  | 0x0413 => putAdSlot p t
  | 0x0414 => putAdPreset p t
  | 0x0415 => putAdTimer p t
  | 0x0510 => putDaOutCfg p t
  | 0x0511 => putDaBankCfg p t
  | 0x0512 => putDdsCfg p t
  | 0x0515 => putDaFaultValues p t
  | 0x0520 => putPsCfg p t
  | 0x0521 => putPsSeg p t
  | 0x0523 => putPsShape p t
  | 0x0524 => putPsPreset p t
  | 0x0530 => putDgClkCfg p t
  | 0x0531 => putDgPpsCfg p t
  | 0x0532 => putDgTxCfg p t
  | 0x0533 => putDgCsRaw p t
  | 0x0534 => putDgRxCfg p t
  | 0x0610 => putXbRoute p t
  | 0x0611 => putXbDpCfg p t
  | 0x0620 => putTeCfg p t
  | 0x0621 => putTeOps p t
  | 0x0622 => putTeOperands p t
  | 0x0623 => putTeCoefs p t
  | 0x0630 => putTePreset p t
  | 0x0710 => putNwPortCfg p t
  | 0x0711 => putNwPtpCfg p t
  | 0x0712 => putNwPtpPort p t
  | 0x0713 => putNwRxFlow p t
  | 0x0714 => putNwTxFlow p t
  | 0x0810 => putFpHpCfg p t
  | 0x0813 => putFpJackCfg p t
  | 0x0815 => putFpPdmCfg p t
  | 0x0816 => putSnCfg p t
  | 0x0910 => putTwCfg p t
  | 0x0A10 => putIgCfg p t
  | _ => t

/-- The records on their base, in order; then the presets are built whose clocks or rates changed (R252, R403).
Log entry 56 (DESIGN CHOICE). -/
def buildTables (base : Tables) (recs : List Rec) : Tables := buildPresets base (recs.foldl putRec base)

/-- A record in the format of Table MB-12. -/
def recBytes (r : Rec) : Bytes :=
  le 2 r.opcode ++ le 1 (b2n r.expert + 2 * b2n r.direct) ++ [0] ++ le 2 r.payload.length ++ [0, 0] ++
    padTo ((r.payload.length + 3) / 4 * 4) r.payload

/-- The digest of a commit (R410). -/
def commitDigest (base : Nat) (recs : List Rec) : Nat := digest64 (le 8 base ++ recs.flatMap recBytes)

/-! ### The rules of a configuration (R403) -/

/-- R102: no output that is not OFF has a ceiling below f_out * 1.0006. -/
def ceilOk (t : Tables) (o : Nat) : Bool :=
  let c := clkOf t o
  let v := tabGet 0 t.ceil o
  c.mode == 0 || v == 0 || decide (tapNum t c.tap * 10006 ≤ v * (tapDen t c.tap * (c.div + 1) * 10000))

/-- The protocol level in use (R444): a unit that has not reached a partner uses its own. -/
def levelInUse (s : State) : Nat := s.tw.level.getD (unitLevel s)

/-- A record uses an opcode or a field value introduced above the protocol level in use (R445): only in a twin position.
Log entry 13 (DESIGN CHOICE). -/
def aboveLevel (s : State) (r : Rec) : Bool := twinPos s && decide (levelInUse s < Config.introLevel r.opcode r.payload)

/-- The rules answered BAD_ARGUMENT. -/
def commitForm (s : State) (recs : List Rec) (t : Tables) : Bool :=
  rootCommitOk s t && candDistinct t.cand && adOk t && daOk t && psOk t && psRecsOk recs && fpOk t && snOk t &&
    dgOk (nth true s.pw.bankHigh 0) t && csRecsOk t recs && ptpOk (twinPos s) t recs && (List.range 12).all (ceilOk t)

/-- The answer of the commit rules of every chapter: none when all hold. Of several failing rules, the level in use (R445)
goes first, then one answered BAD_ARGUMENT, then RESOURCE, then REFUSED_STATE. Log entry 54 (DEDUCED).
Log entry 57 (DEDUCED). -/
def commitCheck (s : State) (recs : List Rec) (t : Tables) : Option Nat :=
  let nw := nwCheck (twinPos s) t
  let te := teCheck t (flowRanges t)
  if recs.any (aboveLevel s) then some stLevel
  else if commitForm s recs t = false ∨ nw = some stBad ∨ te = some stBad then some stBad
  else if nw.isSome || te.isSome then some stResource
  else if domainsOk s t = false then some stState
  else none

/-- The refusal of a commit: MB_FAIL_REC and MB_FAIL_OPCODE (Table MB-14). Log entry 55 (DESIGN CHOICE). -/
def refusal (i op : Nat) : Bytes := le 4 i ++ le 2 op

/-- A refusal that no single record causes. Log entry 55 (DESIGN CHOICE). -/
def noRecord : Bytes := refusal 0xFFFFFFFF 0

/-- The first record above the level in use. -/
def levelRec (recs : List Rec) (s : State) : Bytes :=
  let i := recs.findIdx (aboveLevel s)
  match recs[i]? with
  | some r => refusal i r.opcode
  | none => noRecord

/-- The failing record: which of the records a rule over several of them names is a free value, no single record
included. Log entry 55 (DESIGN CHOICE). -/
def failRec (recs : List Rec) (s : State) : Bytes × State :=
  let d := drawFree s
  let i := d.1 % (recs.length + 1)
  (match recs[i]? with
    | some r => refusal i r.opcode
    | none => noRecord, d.2)

/-! ### MB_COMMIT, MB_CANCEL, staging -/

/-- The staging area closes, empty. -/
def closeStaging (s : State) : State := { s with mb := { s.mb with staging := none, stageBytes := 0, image := none } }

/-- The generation after `g`: 0xFFFF_FFFF is followed by 1 (R403). -/
def nextGen (g : Nat) : Nat := if g ≥ 0xFFFFFFFF then 1 else g + 1

/-- The boundary of a commit, or the status that refuses its time (R404, R11). -/
def commitBoundary (c : Cmd) (s : State) : Nat × Option Nat :=
  match c.sched with
  | none => (nextFrame (f441 s) s.spindle, none)
  | some (sec, ns) =>
    match expandCompact s.spindle sec ns with
    | none => (0, some stBad)
    | some t =>
      let b := frameAtOrAfter (f441 s) t
      (b, if t ≤ s.spindle ∨ b < s.spindle + 100 * uPerUs then some stWindow else none)

/-- A validated commit: ACCEPTED, and pending from now on (R403 to R405). Log entry 56 (DESIGN CHOICE). -/
def acceptCommit (c : Cmd) (st : Staging) (t : Tables) (b : Nat) (s : State) : State :=
  let recs := st.recs.reverse
  let p : PendCommit :=
    { tables := t, gen := nextGen s.mb.gen, digest := commitDigest (if st.full then 0 else s.mb.digest) recs, boundary := b,
      cmd := some c.n, recs, full := st.full }
  let s1 := closeStaging s
  respondMid c stAccepted (le 4 p.gen ++ le 8 p.digest ++ compactForm b) { s1 with mb := { s1.mb with pend := some p } }

/-- MB_COMMIT (R403 to R405): the fields, the states that refuse it, the rules of the new configuration, its time.
Log entry 56 (DESIGN CHOICE). Log entry 57 (DEDUCED). -/
def runCommit (c : Cmd) (s : State) : State :=
  let st := s.mb.staging.getD { full := false, recs := [] }
  if (commitBoundary c s).2 = some stBad then respond c stBad noRecord s
  else if s.mb.pend.isSome then respond c stState noRecord s
  else if bit c.payload 0 0 ∧ u32 c.payload 4 ≠ s.mb.gen then respond c stState noRecord s
  else if st.full = false ∧ st.recs = [] then respond c stBad noRecord s
  else
    let recs := st.recs.reverse
    let t := buildTables (if st.full then {} else s.live) recs
    match commitCheck s recs t with
    | some status =>
      let f := if status = stLevel then (levelRec recs s, s) else failRec recs s
      respond c status f.1 f.2
    | none =>
      match commitBoundary c s with
      | (_, some status) => respond c status noRecord s
      | (b, none) => acceptCommit c st t b s

/-- The pending commit ends without becoming live (R407, R376): its MB_COMMIT is answered REFUSED_STATE, cancelled. -/
def cancelPend (s : State) : State :=
  match s.mb.pend with
  | none => s
  | some p =>
    let s1 := match p.cmd with
      | some n => respondTo n stState (zeros 16 ++ [1]) s
      | none => s
    { s1 with mb := { s1.mb with pend := none } }

/-- MB_CANCEL (R407). -/
def runCancel (c : Cmd) (s : State) : State :=
  match s.mb.pend with
  | none => respond c stState [] s
  | some p => if s.spindle + 100 * uPerUs ≤ p.boundary then respond c stDone [] (cancelPend s) else respond c stState [] s

/-- MB_STAGE_BEGIN (R402). -/
def runStageBegin (c : Cmd) (s : State) : State :=
  if u8 c.payload 0 > 1 then respond c stBad [] s
  else
    let s1 := closeStaging s
    respond c stDone [] { s1 with mb := { s1.mb with staging := some { full := u8 c.payload 0 == 1, recs := [] } } }

/-! ### Images (R408, R412) -/

/-- The records of an image body; none when they do not fill it exactly or one is cut. -/
def readRecs : Nat → Bytes → Option (List Rec)
  | 0, p => if p = [] then some [] else none
  | n + 1, p =>
    if p = [] then some []
    else
      let len := u16 p 4
      let size := recSize len
      if p.length < 8 ∨ p.length < size then none
      else
        match readRecs n (p.drop size) with
        | none => none
        | some rs => some ({ opcode := u16 p 0, expert := bit p 2 0, direct := bit p 2 1, payload := slice p 8 len } :: rs)

/-- The form of an image: its records, or none. -/
def imageForm (snapshot : Bool) (img : Bytes) : Option (List Rec) :=
  let body := u32 img 28
  let base := u8 img 8
  if img.take 4 != [0x56, 0x44, 0x43, 0x49] || u16 img 4 != 1 || decide (img.length < 64) then none
  else if (snapshot && base != 2) || (!snapshot && decide (1 < base)) then none
  else if img.length != 64 + body && img.length != 64 + body + 104 then none
  else if img.length = 64 + body + 104 ∧ slice img (64 + body) 4 ≠ [0x53, 0x49, 0x47, 0x31] then none
  else
    match readRecs body (slice img 64 body) with
    | none => none
    | some rs => if rs.length ≠ u32 img 24 ∨ (!snapshot && rs.any (fun r => r.direct)) = true then none else some rs

/-- The signature of an image holds (R408, R472): none is needed without PT_SIGNED_CFG; one that is present must verify.
Log entry 81 (DEDUCED). -/
def imageSigned (s : State) (img : Bytes) : Bool :=
  let at_ := 64 + u32 img 28
  if img.length = at_ then !s.pt.signedCfg
  else
    let slot := u16 img (at_ + 4)
    let key := nth [] s.pt.keys slot
    decide (slot ≤ 3) && key != [] && ecdsaVerify key (img.take at_) (slice img (at_ + 8) 96)

/-- A record of an image as if it had come as a command (R408 check 5). -/
def imageRec (r : Rec) : Option Nat :=
  if isChangeRecord r.opcode then some stBad
  else match opRow r.opcode with
    | none => some stLevel
    | some o =>
      if o.staged = false ∨ r.opcode = 0x0214 ∨ r.expert ≠ o.expert ∨ lenOk o.len r.payload = false ∨
          recFieldsOk r.opcode r.payload = false then some stBad
      else none

/-- The first record that fails decides. -/
def imageRecs : List Rec → Option Nat
  | [] => none
  | r :: rs => match imageRec r with
    | some st => some st
    | none => imageRecs rs

/-- The digest of the base that an image names (R402): zero for FULL. -/
def imageBase (full : Bool) (s : State) : Nat :=
  if full then 0 else match s.mb.pend with
    | some p => p.digest
    | none => s.mb.digest

/-- Size of a list of records in the staging area. -/
def recsSize (rs : List Rec) : Nat := rs.foldl (fun a r => a + recSize r.payload.length) 0

/-- The checks of R408 on a whole image that a command brought: the records in order, or the status.
Log entry 58 (DEDUCED). -/
def imageCheck (img : Bytes) (s : State) : List Rec × Option Nat :=
  match imageForm false img with
  | none => ([], some stBad)
  | some rs =>
    let full := u8 img 8 == 1
    if imageSigned s img = false then ([], some stAccess)
    else if 16 * u8 img 6 + u8 img 7 > unitLevel s then ([], some stLevel)
    else if u64 img 32 ≠ 0 ∧ u64 img 32 ≠ imageBase full s then ([], some stState)
    else match imageRecs rs with
      | some st => ([], some st)
      | none => if recsSize rs > 4194304 then ([], some stResource) else (rs, none)

/-- The last segment has come: the image is verified and its records are staged on its base (R419).
Log entry 58 (DEDUCED). -/
def imageEnd (c : Cmd) (img : Bytes) (s : State) : State :=
  let s1 : State := { s with mb := { s.mb with image := none } }
  match imageCheck img s1 with
  | (_, some st) => respond c st [] s1
  | (rs, none) =>
    let full := u8 img 8 == 1
    respond c stAccepted []
      { s1 with mb := { s1.mb with staging := some { full, recs := rs.reverse }, stageBytes := recsSize rs } }

/-- MB_IMAGE_LOAD (R419): a segment at position 0 discards any open staging; one out of order discards the partial
image. Log entry 58 (DEDUCED). -/
def runImageLoad (c : Cmd) (s : State) : State :=
  let pos := u32 c.payload 0
  let total := u32 c.payload 4
  let seg := c.payload.drop 8
  let s1 := if pos = 0 then closeStaging s else s
  let had : Option (Nat × Bytes) := if pos = 0 then some (total, []) else s1.mb.image
  match had with
  | none => respond c stBad [] s1
  | some (t, got) =>
    if t ≠ total ∨ got.length ≠ pos ∨ pos + seg.length > total then
      respond c stBad [] { s1 with mb := { s1.mb with image := none } }
    else if pos + seg.length < total then
      respond c stDone [] { s1 with mb := { s1.mb with image := some (total, got ++ seg) } }
    else imageEnd c (got ++ seg) s1

/-! ### The commit's frame boundary -/

/-- A commit carries a DA_OUT_CFG record of DAC `d`. -/
def namesDac (recs : List Rec) (d : Nat) : Bool := recs.any (fun r => r.opcode == 0x0510 && u8 r.payload 0 == d)

/-- A commit names another ring time master: the new one sends at the next whole millisecond (Table IG-6). -/
def igCommit (old new : Tables) (s : State) : State :=
  if old.igMaster = new.igMaster then s else { s with ig := { s.ig with timeMs := some (s.spindle / uPerMs) } }

/-- The configuration `new` takes effect whole (R10), each chapter's part at this boundary; the first one starts the data
plane, 1PPS_OUT (R341) and the mode FREERUN (R25, R26). -/
def goLive (new : Tables) (recs : List Rec) (s : State) : State :=
  let first := !s.firstLive
  let old := s.live
  let new := keepLtc old new
  let s1 : State := { s with live := new, firstLive := true, dataPlane := if first then .running else s.dataPlane }
  let s2 := if first then setMode .freerun { s1 with dg := { s1.dg with ppsFrom := some s1.spindle } } else s1
  let s3 := gateCommit first old new (synthCommit old new (rootCommit old new s2))
  let s4 := psCommit old new (daCommit first (namesDac recs) (recs.any (fun r => r.opcode == 0x0515)) old new (adCommit old new (candCommit old new s3)))
  let s5 := rxCommit new (txCommit first old new (teCommit old new s4))
  let s6 := ptpCommit first old new (nwCommit first old new s5)
  fpCommit old new (igCommit old new s6)

/-- The pending commit is live now: its generation and digest become the committed ones and MB_COMMIT is answered DONE
(R405). Log entry 59 (DEDUCED). -/
def makeLive (p : PendCommit) (s : State) : State :=
  let s1 := goLive p.tables p.recs { s with mb := { s.mb with pend := none } }
  let s2 : State := { s1 with mb := { s1.mb with gen := p.gen, digest := p.digest, committed := p.tables, direct := [] } }
  match p.cmd with
  | some n => respondTo n stDone (le 8 p.digest ++ compactForm s2.spindle ++ [0]) s2
  | none => s2

/-- COMMIT_LIVE (R404, R406): at a frame boundary at or after the commit's own, while the data plane is not stopped.
Log entry 59 (DEDUCED). -/
def commitLive (s : State) : State :=
  match s.mb.pend with
  | none => s
  | some p =>
    if p.boundary ≤ s.spindle ∧ s.spindle % frameLen (f441 s) = 0 ∧ (s.dataPlane = .running ∨ s.dataPlane = .dark) then
      makeLive p (if s.firstLive then s else inOrder rankHost s)
    else s

/-! ### The meanings of the rows -/

def execMbStageBegin (k : OrdClass) (s : State) : Host.Outcome State Fault Refusal := .next (startNow k 0x0210 runStageBegin s)
def execMbStageAbort (k : OrdClass) (s : State) : Host.Outcome State Fault Refusal :=
  .next (startNow k 0x0211 (fun c t => respond c stDone [] (closeStaging t)) s)
def execMbCommit (k : OrdClass) (s : State) : Host.Outcome State Fault Refusal := .next (startNow k 0x0212 runCommit s)
def execMbCancel (k : OrdClass) (s : State) : Host.Outcome State Fault Refusal := .next (startNow k 0x0213 runCancel s)
def execMbImageLoad (k : OrdClass) (s : State) : Host.Outcome State Fault Refusal := .next (startNow k 0x0214 runImageLoad s)
def execCommitLive (s : State) : Host.Outcome State Fault Refusal := .next (commitLive s)

end Sys2Proof.Machine
end

