-- ==== Sys2Proof/Machine/Ledger.lean ====
section
/-! DEFINITION. The ledger (R460 to R466, R478, R480): its entries as bytes, closing, erasing, export. -/
namespace Sys2Proof.Machine

/-! ### Entries (Table PT-5) -/

/-- The entry of 32 bytes. -/
def lgRead (p : Bytes) : LgEntry :=
  { sec := uN p 0 5, ns := u32 p 5, lastMs := u8 p 9, kind := fld p 10 7 4, mirror := bit p 10 3, origin := fld p 10 2 0,
    timeValid := bit p 11 7, auth := bit p 11 6, cred := fld p 11 2 0, opcode := u16 p 12, outcome := u8 p 14,
    count := u8 p 15, gen := u32 p 16, digest := u64 p 20, wserial := u32 p 28 }

/-! ### Closing (R462) -/

/-- An open entry has been open for 100 ms. -/
def lgDue (s : State) (o : OpenEntry) : Bool := decide (o.first + 100 * uPerMs ≤ s.clock)

/-- Every entry that is due closes, oldest first. -/
def lgCloseDue (s : State) : State :=
  let due := s.lg.open_.filter (lgDue s)
  due.foldl (fun (t : State) o => lgPut o.e t) { s with lg := { s.lg with open_ := s.lg.open_.filter (fun o => !lgDue s o) } }

/-! ### Erasing (R465) -/

/-- LEDGER_SECTOR_ERASE: the oldest sector whose newest entry is released goes (R465). -/
def lgErase (s : State) : State :=
  let edge := (s.lg.oldest / 2048 + 1) * 2048
  if s.pw.inReset = false ∧ edge ≤ s.lg.released ∧ edge ≤ s.lg.next then lgAlarm (lgEraseTo edge s) else s

/-! ### Commands -/

/-- LG_EXPORT (R465, R478). -/
def runLgExport (c : Cmd) (s : State) : State :=
  let p := c.payload
  let from_ := u32 p 0
  let n := u16 p 4
  let off := u32 p 8
  if n = 0 ∨ 2048 < n ∨ off % 4 ≠ 0 ∨ off + 32 * n > 65536 ∨ from_ < s.lg.oldest ∨ s.lg.next ≤ from_ then respond c stBad [] s
  else
    let es := (s.lg.flash.filter (fun e => decide (from_ ≤ e.1) && decide (e.1 < from_ + n))).reverse
    let s1 := memWriteList (0x8000 + off) (es.flatMap (fun e => lgBytes e.2)) s
    let last := from_ + es.length - 1
    let s2 : State := { s1 with lg := { s1.lg with exported := if s1.lg.exported < last then last else s1.lg.exported } }
    respond c stDone (le 4 from_ ++ le 2 es.length ++ zeros 2 ++ le 4 (s.lg.next - 1)) s2

/-- LG_FLUSH (R478). -/
def runLgFlush (c : Cmd) (s : State) : State :=
  let s1 := lgCloseAll s
  if s1.lg.queue = [] then respond c stDone [] s1
  else setPhase c.n .running { s1 with lg := { s1.lg with flush := s1.lg.flush ++ [(c.n, s1.lg.queue.length)] } }

/-- LG_STATUS (Table PT-14). Log entry 60 (DEDUCED). -/
def lgStatus (s : State) : Bytes :=
  le 4 s.lg.oldest ++ le 4 (s.lg.next - 1) ++ le 4 s.lg.exported ++ le 2 s.lg.lost ++
    le 1 (lgUnreleased s * 100 / lgCapacity) ++ le 1 (4 * b2n (lgReserveOut s) + 2 * b2n (lgFull s) + b2n s.pt.retain)

/-! ### The meanings of the rows -/

def execLgExport (k : OrdClass) (s : State) : Host.Outcome State Fault Refusal := .next (startNow k 0x0C10 runLgExport s)
def execLgFlush (k : OrdClass) (s : State) : Host.Outcome State Fault Refusal := .next (startNow k 0x0C11 runLgFlush s)
def execLgStatus (k : OrdClass) (s : State) : Host.Outcome State Fault Refusal :=
  .next (startStatus k 0x0EB0 (fun _ => true) (fun _ t => lgStatus t) s)
def execLedgerEntryClose (s : State) : Host.Outcome State Fault Refusal := .next (lgCloseDue s)
/-- Log entry 61 (DEDUCED). -/
def execLedgerFlashWrite (s : State) : Host.Outcome State Fault Refusal := .next (lgStore s)
def execLedgerSectorErase (s : State) : Host.Outcome State Fault Refusal := .next (lgErase s)

end Sys2Proof.Machine
end

