-- ==== Sys2Proof/Machine/Snapshot.lean ====
section
/-! DEFINITION. The SNAPSHOT image (R412, Tables MB-10, MB-12): one FULL-based record for each table entry of the committed
configuration that differs from its default, ascending, then the direct writes since the commit; and the DELTA image of a
pending commit. Every payload is written from the field map of its staging command. -/
namespace Sys2Proof.Machine

/-- A staged record of opcode `op`; its expert flag is that of the opcode's level. -/
def snapRec (op : Nat) (p : Bytes) : Rec :=
  { opcode := op, expert := match opRow op with
      | some o => o.expert
      | none => false, direct := false, payload := p }

/-- One record, unless the value is the default. -/
def snapOne {α : Type} [DecidableEq α] (d v : α) (op : Nat) (enc : α → Bytes) : List Rec :=
  if v = d then [] else [snapRec op (enc v)]

/-- One record for each listed entry of a table. -/
def snapTab {α : Type} (t : Tab α) (op : Nat) (enc : Nat → α → Bytes) : List Rec := t.map (fun e => snapRec op (enc e.1 e.2))

/-! ### Payloads -/

def encRootCfg (c : RootCfg) : Bytes :=
  le 1 (b2n c.aFit + 2 * b2n c.bFit) ++ le 1 (b2n c.prefB) ++ le 1 (b2n c.revert) ++ zeros 1 ++ le 2 c.tol ++ zeros 2

def encSynthCfg (c : SynthCfg) : Bytes :=
  le 1 (b2n c.f441) ++ le 1 (b2n c.vrate) ++ le 1 (b2n c.manM + 4 * b2n c.manV + 16 * b2n c.manN) ++ zeros 1

def encTkCfg (c : TkCfg) : Bytes :=
  le 1 (b2n c.fast) ++ le 1 (b2n c.revertive) ++ le 2 c.qualS ++ le 2 c.lockPhase ++ le 2 c.stepLimit ++ le 2 c.agree ++ le 2 c.hoAge

def encCand (k : Nat) (c : CandCfg) : Bytes :=
  le 1 k ++ le 1 c.typ ++ le 1 (b2n c.lockout + 2 * b2n c.align) ++ le 1 c.vfmt ++ le 2 c.bw ++ le 2 c.pull ++ leInt 4 c.cal ++ zeros 4

def encPolicy (c : TkPolicy) : Bytes := le 1 (c.media + 4 * c.video + 16 * c.network) ++ zeros 3

def encRootChar (k : Nat) (c : RootChar) : Bytes :=
  le 1 k ++ zeros 1 ++ leInt 2 c.t0 ++ leInt 4 c.c1 ++ leInt 4 c.c2 ++ leInt 4 c.age ++ zeros 4

def encAdc (k : Nat) (c : AdcCfg) : Bytes := le 1 k ++ le 1 c.mode ++ le 1 c.input ++ le 1 c.srate ++ le 1 c.mic ++ zeros 3

def encSeqCfg (inj : Bool) (c : SeqCfg) : Bytes :=
  le 1 (b2n inj) ++ le 1 c.len ++ le 1 c.src ++ le 1 (64 * c.edge + c.trigBit) ++ le 3 c.delay ++ zeros 1

def encSlot (k : Nat) (c : SlotCfg) : Bytes :=
  le 1 (k / 16) ++ le 1 (k % 16) ++ le 3 c.codes ++ le 1 c.bank ++ le 3 c.win ++ le 2 c.settle ++ le 1 c.mon ++
    le 2 (c.diag + 32768 * b2n c.diagSet) ++ le 1 (c.dds + 128 * b2n c.corr) ++ zeros 1

def encTimer (k : Nat) (c : TimerCfg) : Bytes := le 1 k ++ le 1 (b2n c.en) ++ zeros 2 ++ le 4 c.period ++ le 4 c.phase

def encOutCfg (k : Nat) (c : OutCfg) : Bytes :=
  le 1 k ++ le 1 c.src ++ le 1 c.srate ++ le 1 (b2n c.psSel) ++ le 1 c.ifs ++ zeros 1 ++ leInt 2 c.holdInit ++ zeros 4

def encBank (c : BankCfg) : Bytes := le 1 (b2n c.vclk) ++ le 1 (c.lg0 + 16 * c.lg1) ++ zeros 2

def encDds (k : Nat) (c : DdsCfg) : Bytes :=
  le 1 k ++ le 1 (b2n c.vclk) ++ zeros 2 ++ le 6 c.num ++ le 4 c.den ++ le 4 c.phase ++ zeros 6

def encFault (t : Tab Int) : Bytes := (List.range 8).flatMap (fun d => leInt 2 (tabGet 0 t d)) ++ zeros 4

def encPsCfg (k : Nat) (c : PsCfg) : Bytes :=
  le 1 k ++ le 1 (b2n c.en) ++ le 2 c.first ++ le 2 c.last ++ le 2 c.loop ++ le 6 c.period ++ le 2 c.frac ++ le 6 c.phase ++ leInt 2 c.idle

/-- Table DA-4. -/
def encSeg (c : Seg) : Bytes :=
  le 3 c.dur ++ le 2 c.frac ++ le 1 (64 * c.kind + 8 * c.shape + c.dds) ++ leInt 2 c.amp ++ leInt 2 c.offset ++ le 2 c.rep ++
    le 2 (c.back + 32768 * b2n c.env) ++ le 1 c.event ++ zeros 1

def encPsSeg (k : Nat) (c : Seg) : Bytes := le 1 (k / 1024) ++ zeros 1 ++ le 2 (k % 1024) ++ encSeg c

def encShape (k : Nat) (vs : List Int) : Bytes := le 1 k ++ zeros 3 ++ vs.flatMap (leInt 2)

def encPreset (k : Nat) (c : PsPreset) : Bytes :=
  le 1 k ++ le 1 c.id ++ le 2 c.base ++ leInt 2 c.blank ++ leInt 2 c.code1V ++ le 1 c.dds ++ le 1 c.rate ++ le 2 c.edge ++
    le 2 c.hz ++ le 2 c.lvl ++ leInt 2 c.zone ++ zeros 2 ++ le 4 c.jam ++ le 4 c.ub ++ zeros 4

def encClk (k : Nat) (c : ClkCfg) : Bytes :=
  le 1 k ++ le 1 (c.mode + 4 * c.drive) ++ le 1 c.tap ++ zeros 1 ++ le 3 c.div ++ zeros 1 ++ le 3 c.phase ++ zeros 1

def encPps (c : PpsCfg) : Bytes := le 1 (b2n c.valid) ++ zeros 3 ++ le 4 c.width

def encTx (k : Nat) (c : TxCfg) : Bytes :=
  le 1 k ++ le 1 (b2n c.en) ++ le 1 c.rate ++ le 1 (b2n c.word20) ++ le 1 (b2n c.va + 2 * b2n c.vb) ++ le 1 c.preset ++ zeros 2 ++
    padTo 4 c.origin ++ le 2 c.acc ++ zeros 2

def encCsRaw (k : Nat) (c : CsRaw) : Bytes := le 1 (k / 2) ++ le 1 (2 ^ (k % 2)) ++ le 1 (b2n c.crc) ++ zeros 5 ++ padTo 24 c.bytes

def encRoute (k : Nat) (src : Option Nat) : Bytes := le 2 k ++ le 2 (src.getD 0) ++ le 2 1 ++ zeros 2

def encDp (k : Nat) (c : DpCfg) : Bytes :=
  le 1 k ++ le 1 (b2n c.sqrtScale) ++ le 1 c.en ++ zeros 1 ++ c.adc.flatMap (le 1) ++ c.gain.flatMap (leInt 2)

def encTeCfg (k : Nat) (c : TeCfg) : Bytes := le 1 k ++ le 1 (b2n c.en) ++ le 2 c.len ++ le 4 c.seed

/-- The header of a run of one entry: engine, first entry, count 1. -/
def encRun (size k : Nat) : Bytes := le 1 (k / size) ++ zeros 1 ++ le 2 (k % size) ++ le 2 1 ++ zeros 2

def encOp (k : Nat) (o : TeOp) : Bytes :=
  encRun 1024 k ++ le 1 o.kind ++ le 1 (64 * o.rate + o.flags) ++ le 2 o.dst ++ le 2 o.src ++ le 2 o.n ++ le 2 o.cbase ++ le 2 o.sbase ++ le 4 o.arg

def encOpnd (k : Nat) (o : Operand) : Bytes := encRun 2048 k ++ le 2 o.addr ++ le 2 (o.coef + 32768 * b2n o.en)

def encCoef (k v : Nat) : Bytes := encRun 4096 k ++ le 4 v

def encPort (k : Nat) (c : Option PortCfg) : Bytes :=
  match c with
  | none => []
  | some c => le 1 k ++ le 1 c.mode ++ le 1 (b2n c.vlan) ++ le 1 (32 * c.pcp) ++ le 2 c.vid ++ zeros 2 ++ le 4 c.unitIp ++
      le 4 c.serviceIp ++ le 4 c.mask ++ le 4 c.gateway ++ le 6 c.mac ++ le 1 c.dscp ++ zeros 1

def encPtp (c : PtpCfg) : Bytes :=
  le 1 c.profile ++ le 1 c.domain ++ le 1 c.prio1 ++ le 1 c.prio2 ++ le 8 c.clockId ++ zeros 2 ++ le 2 c.tlv.length ++ zeros 8 ++ c.tlv

def encPtpPort (k : Nat) (c : Option PtpPortCfg) : Bytes :=
  match c with
  | none => []
  | some c => le 1 k ++ le 1 c.role ++ leInt 1 c.logSync ++ leInt 1 c.logAnn ++ le 1 c.tmo ++ leInt 1 c.logDreq ++ zeros 2 ++ leInt 4 c.asymTx ++
    leInt 4 c.asymRx

/-- Bytes 0 to 11 of a flow payload. -/
def encFlowHead (k : Nat) (c : FlowCfg) : Bytes :=
  le 2 k ++ le 1 (b2n c.en) ++ le 1 (b2n c.l24) ++ le 1 (b2n c.r96) ++ le 1 c.ptime ++ le 1 c.ch ++ le 1 (b2n c.ext) ++ le 2 c.slot ++
    le 1 c.ports ++ le 1 c.pt

def encRxFlow (k : Nat) (c : Option FlowCfg) : Bytes :=
  match c with
  | none => []
  | some c => encFlowHead k c ++ le 2 c.depth ++ le 2 c.off ++ le 4 c.dstA ++ le 4 c.srcA ++ le 2 c.udpA ++ zeros 2 ++ le 4 c.dstB ++
      le 4 c.srcB ++ le 2 c.udpB ++ zeros 2 ++ le 4 c.ssrc ++ zeros 4

def encTxFlow (k : Nat) (c : Option FlowCfg) : Bytes :=
  match c with
  | none => []
  | some c => encFlowHead k c ++ le 1 c.dscp ++ le 1 c.ttl ++ le 2 c.udpSrc ++ le 4 c.dstA ++ le 2 c.udpA ++ zeros 2 ++ le 4 c.dstB ++
      le 2 c.udpB ++ zeros 2 ++ le 4 c.ssrc ++ zeros 12

def encHp (c : HpCfg) : Bytes := le 1 (b2n c.en + 2 * b2n c.automute) ++ le 1 c.atten ++ zeros 2

def encJack (c : JackCfg) : Bytes :=
  le 1 (b2n c.acc + 2 * b2n c.pol) ++ le 1 (b2n c.btn) ++ le 1 c.deb ++ le 1 c.biasV ++ le 2 c.biasR ++ le 1 c.btnDeb ++ zeros 1 ++
    le 2 c.thr0 ++ le 2 c.thr1 ++ le 2 c.thr2 ++ le 2 c.thr3

def encPdm (c : PdmCfg) : Bytes := le 1 (b2n c.en + 2 * b2n c.falling + 4 * b2n c.double)

def encSn (c : SnCfg) : Bytes :=
  le 1 (b2n c.en + 2 * b2n c.t3 + 4 * b2n c.cont + 8 * b2n c.glass) ++ leInt 1 c.level ++ le 1 c.tonality ++ le 1 c.groups ++
    le 1 c.contS ++ zeros 1 ++ le 2 c.holdS ++ zeros 4

def encTw (c : TwCfg) : Bytes := le 1 c.leaseUs ++ le 1 c.laneEn ++ zeros 2 ++ leInt 2 c.asym0 ++ leInt 2 c.asym1

/-! ### The records of a configuration -/

/-- Chapters 04, 05 and 07. -/
def snapRecs1 (t : Tables) : List Rec :=
  snapOne {} t.root 0x0310 encRootCfg ++ snapOne {} t.synth 0x0313 encSynthCfg ++
    snapTab t.ceil 0x0319 (fun k v => le 1 k ++ zeros 3 ++ le 4 v) ++ snapOne {} t.tk 0x0320 encTkCfg ++
    snapTab t.cand 0x0321 encCand ++ snapOne {} t.policy 0x0322 encPolicy ++ snapTab t.rootChar 0x0323 encRootChar ++
    snapTab t.adc 0x0410 encAdc ++ snapTab t.pairRef 0x0411 (fun k v => le 1 k ++ le 1 v ++ zeros 2) ++
    snapOne {} t.seqReg 0x0412 (encSeqCfg false) ++ snapOne {} t.seqInj 0x0412 (encSeqCfg true) ++
    snapTab t.slots 0x0413 encSlot ++ snapTab t.timers 0x0415 encTimer

/-- Chapters 08 and 11. -/
def snapRecs2 (t : Tables) : List Rec :=
  snapTab t.outCfg 0x0510 encOutCfg ++ snapOne {} t.bank 0x0511 encBank ++ snapTab (t.dds.filter (fun e => e.2.host)) 0x0512 encDds ++
    snapOne [] t.faultCode 0x0515 encFault ++ snapTab (t.ps.filter (fun e => e.2.pre.isNone)) 0x0520 encPsCfg ++
    snapTab t.segs 0x0521 encPsSeg ++ snapTab t.shapes 0x0523 encShape ++
    t.ps.flatMap (fun e => match e.2.pre with
      | some x => [snapRec 0x0524 (encPreset e.1 x)]
      | none => []) ++
    snapTab t.clk 0x0530 encClk ++ snapOne {} t.pps 0x0531 encPps ++ snapTab t.tx 0x0532 encTx ++ snapTab t.csRaw 0x0533 encCsRaw ++
    snapOne 0 t.rxEn 0x0534 (fun n => le 1 n ++ zeros 3)

/-- Chapters 09, 06, 10, 12 and 14. -/
def snapRecs3 (t : Tables) : List Rec :=
  snapTab t.routes 0x0610 encRoute ++ snapTab t.dp 0x0611 encDp ++ snapTab t.te 0x0620 encTeCfg ++ snapTab t.ops 0x0621 encOp ++
    snapTab t.opnds 0x0622 encOpnd ++ snapTab t.coefs 0x0623 encCoef ++ snapTab t.port 0x0710 encPort ++ snapOne {} t.ptp 0x0711 encPtp ++
    snapTab t.ptpPort 0x0712 encPtpPort ++ snapTab t.rx 0x0713 encRxFlow ++ snapTab t.txFlow 0x0714 encTxFlow ++
    snapOne {} t.hp 0x0810 encHp ++ snapOne {} t.jack 0x0813 encJack ++
    snapOne (({} : PdmCfg), ({} : PdmCfg)) (t.pdm0, t.pdm1) 0x0815 (fun c => encPdm c.1 ++ encPdm c.2 ++ zeros 2) ++
    snapOne {} t.sn 0x0816 encSn ++ snapOne {} t.tw 0x0910 encTw ++ snapOne 1 t.igMaster 0x0A10 (fun n => le 1 n ++ zeros 3)

/-- Log entry 62 (DESIGN CHOICE). -/
def snapRecs (t : Tables) : List Rec := snapRecs1 t ++ snapRecs2 t ++ snapRecs3 t

/-- Direct writes of which a later one wrote the same parameter are left out. Log entry 62 (DESIGN CHOICE).
Log entry 58 (DEDUCED). -/
def latestDirect : List Rec → List Rec
  | [] => []
  | r :: rs =>
    if rs.any (fun q => q.opcode == r.opcode && lgKey q.opcode q.payload == lgKey r.opcode r.payload) then latestDirect rs
    else r :: latestDirect rs

/-! ### Images -/

/-- An image without a signature block (Table MB-10). -/
def imageOf (level base gen digest baseDigest : Nat) (rs : List Rec) : Bytes :=
  let body := rs.flatMap recBytes
  [0x56, 0x44, 0x43, 0x49] ++ le 2 1 ++ le 1 (level / 16) ++ le 1 (level % 16) ++ le 1 base ++ zeros 3 ++ le 4 gen ++ le 8 digest ++
    le 4 rs.length ++ le 4 body.length ++ le 8 baseDigest ++ zeros 24 ++ body

/-- The SNAPSHOT image of the committed configuration (R412). Log entry 58 (DEDUCED). -/
def snapshotImage (s : State) : Bytes :=
  imageOf (s.tw.level.getD (unitLevel s)) 2 s.mb.gen s.mb.digest 0 (snapRecs s.mb.committed ++ latestDirect s.mb.direct)

/-- The pending commit as an image on the committed configuration (R412). Log entry 58 (DEDUCED). -/
def pendingImage (p : PendCommit) (s : State) : Bytes :=
  imageOf (s.tw.level.getD (unitLevel s)) (b2n p.full) 0 0 0 p.recs

end Sys2Proof.Machine
end

