-- ==== Sys2Proof/Machine/Twin.lean ====
section
/-! DEFINITION. Twin redundancy (chapter 12): the paths and the link, the lease, takeovers, the alignment of the partner, the
commanded swap, resynchronisation, and the twin commands. -/
namespace Sys2Proof.Machine

def modTw (f : TwState → TwState) (s : State) : State := { s with tw := f s.tw }

/-! ### The link (R357, R363) -/

/-- L_eff in microseconds (Table TW-6). -/
def leaseEff (s : State) : Nat :=
  match s.tw.peerLease with
  | none => 64
  | some l => if s.live.tw.leaseUs < l then l else s.live.tw.leaseUs

/-- At least one lane enabled by TW_LANE_EN is in service. -/
def linkHealthy (s : State) : Bool := (s.tw.tsl0 && nbit s.live.tw.laneEn 0) || (s.tw.tsl1 && nbit s.live.tw.laneEn 1)

/-- A resynchronisation is abandoned and starts again with its comparison (Table TW-9). -/
def resyncRestart (s : State) : State :=
  modTw (fun w => { w with asked := false, needImage := false, needPend := false, pullImage := [], pullPend := [], pulled := false,
                           pulledPend := false, resyncAt := none }) s

/-- The instant since which the link has been healthy; a link that is lost abandons a resynchronisation. -/
def linkEval (s : State) : State :=
  match linkHealthy s, s.tw.healthySince with
  | true, none => modTw (fun w => { w with healthySince := some s.clock }) s
  | false, some _ => resyncRestart (modTw (fun w => { w with healthySince := none }) s)
  | _, _ => s

/-- FENCED becomes STANDBY while the link is healthy, outside BOOT and SAFE (Table AH-10); not during a slot clash (R370),
not beside a partner of a distant level (R444), and not before a commanded swap has ended (Sequence TW-4). -/
def roleEval (s : State) : State :=
  let swapping := match s.tw.swap with
    | some w => w.released
    | none => false
  if twinPos s && s.role == .fenced && !s.tw.holds && s.tw.healthySince.isSome && s.mode != .boot && s.mode != .safe &&
      !s.tw.slotClash && !s.tw.levelBad && !swapping then setRole .standby s else s

def setPath (p : TwinPath) (up : Bool) (s : State) : State :=
  match p with
  | .tsl0 => modTw (fun w => { w with tsl0 := up }) s
  | .tsl1 => modTw (fun w => { w with tsl1 := up }) s
  | .witness => modTw (fun w => { w with witness := up }) s

/-- No path is in service: nothing is known of the partner any more (Tables TW-6, TW-14). -/
def unreachable (s : State) : State :=
  if pathsUp s = [] then modTw (fun w => { w with peerRole := none, peerMode := none, peerLease := none, peerHot := false }) s else s

/-- A path that enters or leaves service; one that leaves raises an ALARM (R357). -/
def pathSet (p : TwinPath) (up : Bool) (s : State) : State :=
  if pathUp s p = up then s
  else
    let s1 := setPath p up s
    let s2 := if lanesUp s1 = [] ∧ lanesUp s ≠ [] then modTw (fun w => { w with laneLostAt := s.clock }) s1 else s1
    roleEval (linkEval (unreachable (if up then s2 else raiseAlarm blkTW s2)))

def pathIdx : TwinPath → Nat
  | .tsl0 => 0
  | .tsl1 => 1
  | .witness => 2

/-- Whether a path of the one-way delay measured, in ns, belongs in service: a valid frame within 4 us, a delay of at most
0.3 us, and, as the lanes train only from CONFIGURE, the witness pair alone in BOOT (R357, R365). -/
def pathServes (p : TwinPath) (delay : Nat) (s : State) : Bool :=
  let heard := nth 0 s.tw.heard (pathIdx p)
  heard != 0 && decide (s.clock ≤ heard + 4 * uPerUs) && decide (delay ≤ 300) && (p == .witness || s.mode != .boot)

/-- PATH_SERVICE_CHANGE (R357). Log entry 113 (DEDUCED). -/
def pathChange (p : TwinPath) (delay : Nat) (s : State) : State := pathSet p (pathServes p delay s) s

/-! ### RENEW and takeovers (R364, R367) -/

/-- A RENEW goes out on every path in service and takes the next number; one before it that is still not acknowledged is
counted as missed (R364, Table TW-14). -/
def renewSend (s : State) : State :=
  let s1 := if s.tw.unacked.isSome then modTw (fun w => { w with ackMissed := satInc 16 w.ackMissed }) s else s
  let s2 := leaseSend (pathsUp s1) 1 s1.tw.seq s1
  modTw (fun w => { w with seq := (w.seq + 1) % 64, unacked := some s2.clock, sentAt := some s2.clock }) s2

/-- What the last holder still owed on one group. -/
def owedOf (m : MirrorMsg) : Group → Int
  | .media => m.owedMedia
  | .video => m.owedVideo
  | .network => m.owedNetwork

/-- The move that the last holder still owed on one group is carried on (R135). One that goes the way of the kept offset and
does not exceed it is taken for a TK_REALIGN, which returns K_g to zero as it completes. Log entry 68 (DESIGN CHOICE). -/
def carryMove (m : MirrorMsg) (g : Group) (s : State) : State :=
  let o := owedOf m g
  let back := o ≠ 0 ∧ 0 < o * kOf s g ∧ o.natAbs ≤ (kOf s g).natAbs
  let s1 := groupMove o none .kept g s
  if steerNow s (groupSyn g) = 0 ∧ back then { s1 with tk := { s1.tk with realign := g :: s1.tk.realign } } else s1

/-- The unit takes the Chuck (R367, Table TW-7): its fence opens, or stays closed where R17 says so; TW_STEP_PS keeps what was
recorded while no lane could measure it (R360); a STANDBY goes on from its own view with the moves that the holder owed. -/
def takeChuck (cause : Nat) (role : Role) (leaseEnd : Option Nat) (s : State) : State :=
  let gap := (s.clock - s.tw.lastRenew) / uPerNs
  let from_ := s.role
  let unmeasured := (lanesUp s).isEmpty && decide (s.tw.laneLostAt + 10 * uPerMs ≤ s.clock)
  let s1 := modTw (fun w => { w with holds := true, claiming := false, leaseEnd, lastCause := cause, ackSent := none, unacked := none,
                                     swapTake := none, takeovers := satInc 16 w.takeovers, lastGap := if gap > 65535 then 65535 else gap,
                                     stepPs := if unmeasured then w.stepPs else satInt 16 w.alignPs }) s
  let s2 := setRole role s1
  match from_, s.tw.mirror with
  | .standby, some m => carryMove m .network (carryMove m .video (carryMove m .media s2))
  | _, _ => s2

/-- A STANDBY may take by release, expiry or arbitration (R32, R370). -/
def mayTake (s : State) : Bool := twinPos s && s.role == .standby && eligible s && !s.tw.slotClash && !s.tw.holds

/-- The winner of an arbitration (R367). Log entry 65 (DESIGN CHOICE). -/
def arbWinner (s : State) : Bool :=
  (s.tw.takeFailed && decide (s.clock ≤ s.tw.takeFailedAt + uPerS)) || s.pw.slotSel == 0 || !s.tw.peerE

/-- A claimant that may not take any more, or is the winner no more, stops claiming. -/
def claimEval (s : State) : State :=
  if s.tw.claiming ∧ (mayTake s && arbWinner s) = false then modTw (fun w => { w with claiming := false, unacked := none }) s else s

/-- T_R since the last RENEW or NULL (R358). -/
def renewNow (s : State) : Bool :=
  match s.tw.sentAt with
  | none => true
  | some t => decide (t + 2 * uPerUs ≤ s.clock)

/-- RENEW_DUE (R358, R364), with the time in ns since the management plane saw liveness of the control plane and of the
data plane: a holder or claimant that has seen both within t_W renews, any other unit sends NULL. -/
def renewDue (ctl data : Nat) (s : State) : State :=
  if leaseRuns s = false ∨ renewNow s = false then s
  else
    let s1 := claimEval (roleEval (linkEval s))
    if s1.tw.holds || s1.tw.claiming then (if ctl ≤ 1500 ∧ data ≤ 1500 then renewSend s1 else s1)
    else modTw (fun w => { w with sentAt := some s1.clock }) (leaseSend (pathsUp s1) 0 0 s1)

/-! ### Frames received (R365 to R370) -/

/-- A valid frame has come on a path. One that is a further copy of the last frame is only noted (R357): the same frame on a
path on which it had not come. -/
def frameCopy (typ : Nat) (path : TwinPath) (f : LeaseBits) (s : State) : Bool :=
  match s.tw.lastFrame with
  | some (t, g, ps) => t == typ && g == f && !ps.contains path
  | none => false

def frameNote (typ : Nat) (path : TwinPath) (f : LeaseBits) (s : State) : State :=
  let ps := match s.tw.lastFrame with
    | some (_, _, ps) => if frameCopy typ path f s then path :: ps else [path]
    | none => [path]
  modTw (fun w => { w with heard := modNth (fun _ => s.clock) w.heard (pathIdx path), lastFrame := some (typ, f, ps) }) s

/-- A frame that is no copy is acted on. -/
def frameIn (typ : Nat) (path : TwinPath) (f : LeaseBits) (act : State → State) (s : State) : State :=
  if leaseRuns s = false then s
  else
    let t := frameNote typ path f s
    if frameCopy typ path f s then t else act t

/-- A frame of the partner is valid: what it says of the partner, and the slot clash (R370). -/
def leaseIn (renew : Bool) (f : LeaseBits) (s : State) : State :=
  let s1 := modTw (fun w => { w with peerH := f.h, peerE := f.e, peerHoldAt := if f.h || renew then s.clock else w.peerHoldAt }) s
  if f.slotB = (s.pw.slotSel == 1) then
    let again := !s1.tw.slotClash || decide (s1.tw.clashAt + uPerS ≤ s1.clock)
    let s2 := modTw (fun w => { w with slotClash := true, clashAt := if again then s1.clock else w.clashAt }) s1
    let s3 := if again then raiseAlarm blkTW s2 else s2
    if s3.role = .standby then setRole .fenced (modTw (fun w => { w with claiming := false }) s3) else s3
  else s1

/-- The holder closes its fence and becomes FENCED without a RELEASE (R369, R370). -/
def conflictFence (s : State) : State :=
  setRole .fenced (swapEnd 3 (modTw (fun w => { w with holds := false, leaseEnd := none, lastCause := 7, unacked := none }) s))

/-- A holder receives a RENEW, a conflict (R369, R370). -/
def renewConflict (f : LeaseBits) (s : State) : State :=
  let s1 := raiseAlarm blkTW s
  if s1.pw.slotSel = 1 ∨ f.slotB = (s1.pw.slotSel == 1) then conflictFence s1 else s1

/-- The ACK of a RENEW on the path on which it came (R365): in BOOT on the witness pair alone. -/
def sendAck (path : TwinPath) (f : LeaseBits) (s : State) : State :=
  if pathUp s path = true ∧ (s.mode = .boot → path = .witness) then
    modTw (fun w => { w with ackSent := some s.clock }) (leaseSend [path] 2 f.seq s)
  else s

/-- The partner has taken the Chuck in a commanded swap (Sequence TW-4 step 5). -/
def swapTaken (s : State) : State :=
  match s.tw.swap with
  | none => s
  | some w =>
    if w.released then
      swapEnd 0 (setRole .standby (modTw (fun v => { v with swaps := satInc 16 v.swaps, takeFailed := false }) s))
    else s

/-- A RENEW received (R365, R367, R369, R370). -/
def renewAct (f : LeaseBits) (s : State) : State :=
  let s1 := leaseIn true f s
  if s1.tw.holds then renewConflict f s1
  else if s1.tw.slotClash ∨ (s1.tw.claiming ∧ s1.pw.slotSel = 0) then s1
  else
    swapTaken (modTw (fun w => { w with claiming := false, lastRenew := s1.clock,
                                        unacked := if w.claiming then none else w.unacked }) s1)

/-- Whether a RENEW is acknowledged (R365, R370). -/
def acksRenew (s : State) : Bool := !s.tw.holds && !s.tw.slotClash && !(s.tw.claiming && s.pw.slotSel == 0)

/-- RENEW: the first copy is acted on; every copy is acknowledged on its own path (R357, R365). -/
def renewIn (path : TwinPath) (f : LeaseBits) (s : State) : State :=
  if leaseRuns s = false then s
  else
    let s1 := frameIn 1 path f (renewAct f) s
    if acksRenew s then (if acksRenew s1 then sendAck path f s1 else s1) else s1

/-- An ACK received: the lease starts or goes on from it (R366), or the claim takes the Chuck (R367); the ACK of the last
RENEW later than 1 us is counted (Table TW-14). Log entry 65 (DESIGN CHOICE). -/
def ackAct (f : LeaseBits) (s : State) : State :=
  let s1 := claimEval (leaseIn false f s)
  let late := match s1.tw.unacked with
    | some at_ => decide (at_ + uPerUs < s1.clock)
    | none => false
  let s2 := if f.seq = (s1.tw.seq + 63) % 64 then
      modTw (fun w => { w with unacked := none, ackMissed := if late then satInc 16 w.ackMissed else w.ackMissed }) s1
    else s1
  let fin := some (s2.clock + leaseEff s2 * uPerUs)
  if s2.tw.holds then setRole .active (modTw (fun w => { w with leaseEnd := fin }) s2)
  else if s2.tw.claiming then takeChuck 3 .active fin s2
  else s2

def ackIn (path : TwinPath) (f : LeaseBits) (s : State) : State := frameIn 2 path f (ackAct f) s

/-- A RELEASE received (R367): an eligible STANDBY takes, and renews at once; from the instant of an accepted swap on the
cause is the swap. -/
def releaseAct (f : LeaseBits) (s : State) : State :=
  let s1 := leaseIn false f s
  let swap := match s1.tw.swapTake with
    | some at_ => decide (at_ ≤ s1.spindle)
    | none => false
  if mayTake s1 then renewSend (takeChuck (if swap then 4 else 1) .solo none s1) else s1

def releaseIn (path : TwinPath) (f : LeaseBits) (s : State) : State := frameIn 3 path f (releaseAct f) s

/-- A WAIVE received (R366, R368): the lease of a holder has no end any more. -/
def waiveAct (f : LeaseBits) (s : State) : State :=
  let s1 := leaseIn false f s
  if s1.tw.holds then setRole .solo (swapEnd 3 (modTw (fun w => { w with leaseEnd := none, lastCause := 6, unacked := none }) s1))
  else s1

def waiveIn (path : TwinPath) (f : LeaseBits) (s : State) : State := frameIn 4 path f (waiveAct f) s

/-- A NULL received (R370). -/
def nullIn (path : TwinPath) (f : LeaseBits) (s : State) : State := frameIn 0 path f (leaseIn false f) s

/-- LEASE_END (R366): the holder's fence closes, it becomes FENCED and raises an ALARM. -/
def leaseOver (s : State) : State :=
  match s.tw.holds, s.tw.leaseEnd with
  | true, some e =>
    if e ≤ s.clock then
      setRole .fenced (swapEnd 3 (raiseAlarm blkTW (modTw (fun w => { w with holds := false, leaseEnd := none, lastCause := 8, unacked := none }) s)))
    else s
  | _, _ => s

/-- EXPIRY_TAKEOVER (R367): L_eff + 2 us after the latest ACK sent, no RENEW having come since. -/
def expiryTake (s : State) : State :=
  match s.tw.ackSent with
  | none => s
  | some a =>
    if mayTake s = true ∧ a + (leaseEff s + 2) * uPerUs ≤ s.clock ∧ s.tw.lastRenew ≤ a then
      renewSend (takeChuck 2 .solo none s)
    else s

/-- ARBITRATION_CLAIM (R367): no holder on a link that has been healthy for 50 ms; the winner sends RENEW.
Log entry 65 (DESIGN CHOICE). -/
def arbitrate (s : State) : State :=
  match s.tw.healthySince with
  | none => s
  | some h =>
    let quiet := s.tw.peerHoldAt ≤ h || decide (s.tw.peerHoldAt + 50 * uPerMs ≤ s.clock)
    if mayTake s = true ∧ s.tw.claiming = false ∧ h + 50 * uPerMs ≤ s.clock ∧ quiet = true ∧ s.tw.peerH = false ∧ arbWinner s = true then
      renewSend (modTw (fun w => { w with claiming := true }) s)
    else s

/-- PARTING_TOOL_TRIP (R371): FCLK has shown no edge for 0.5 us, and the fence stays closed until a FULL, pin or power-on
reset. Log entry 5 (DESIGN CHOICE). -/
def partingTrip (s : State) : State := fenceEval (modTw (fun w => { w with partingTool := true }) s)

/-! ### Lane messages sent (R359, Table TW-5) -/

/-- A message on one lane. -/
def laneSendOn (lane typ : Nat) (content : Bytes) (s : State) : State :=
  let m : LaneMsg := { typ, level := s.tw.level.getD (unitLevel s), seq := s.tw.msgSeq, content }
  { s with out := .lane lane m :: s.out, tw := { s.tw with msgSeq := (s.tw.msgSeq + 1) % 2 ^ 32 } }

/-- A time in ps in the full form. -/
def fullOfPs (t : Int) : Bytes := fullForm (t * (uPerNs : Nat) / 1000).toNat

def timeContent (lane : Nat) (s : State) : Bytes :=
  let p := nth (0, 0) s.tw.timeStamps lane
  fullForm s.spindle ++ fullOfPs p.1 ++ fullOfPs p.2

/-- Generation, digest and boundary of the pending commit, zeros when there is none. -/
def pendNow (s : State) : Nat × Nat × Nat :=
  match s.mb.pend with
  | some p => (p.gen, p.digest, p.boundary)
  | none => (0, 0, 0)

/-- The generations as held now: the committed one, the pending one. -/
def gensNow (s : State) : (Nat × Nat) × (Nat × Nat × Nat) := ((s.mb.gen, s.mb.digest), pendNow s)

/-- The generations as held at the start of this Spindle millisecond (R362). -/
def gensHeld (s : State) : (Nat × Nat) × (Nat × Nat × Nat) :=
  if s.tw.msAt = some (s.spindle / uPerMs) then s.tw.msHeld else gensNow s

/-- Log entry 63 (DESIGN CHOICE). -/
def stateContent (s : State) : Bytes :=
  let g := gensHeld s
  le 1 (roleCode s.role) ++ le 1 (modeCode s.mode) ++ le 1 (b2n s.tw.hot) ++ le 1 s.live.tw.leaseUs ++ le 4 g.1.1 ++ le 8 g.1.2 ++
    le 4 g.2.1 ++ le 8 g.2.2.1 ++ fullForm g.2.2.2

/-- Picoseconds of the move that a group still owes. -/
def groupOwed (s : State) (g : Group) : Int :=
  let y := getSyn s (groupSyn g)
  if y.moving then owedPs s.hs.rootHz y.word y.owed else 0

/-- Words, tap phases (measured: free values), kept offsets, owed moves and mean path delays.
Log entry 63 (DESIGN CHOICE). Log entry 64 (DESIGN CHOICE). -/
def mirrorSend (s : State) : State :=
  let a := drawFree s
  let b := drawFree a.2
  let c := drawFree b.2
  let i : Int → Bytes := fun v => leInt 4 (satInt 32 v)
  laneSend 4 (le 8 s.hs.msyn.word ++ le 8 s.hs.vsyn.word ++ le 8 s.hs.nsyn.word ++ le 4 a.1 ++ le 4 b.1 ++ le 4 c.1 ++
    i s.tk.kMedia ++ i s.tk.kVideo ++ i s.tk.kNetwork ++ i (groupOwed s .media) ++ i (groupOwed s .video) ++ i (groupOwed s .network) ++
    i s.nw.ptp0.mpd ++ i s.nw.ptp1.mpd) c.2

/-- The partner's measurement of its own selected reference with its theta of the media group added (R118). -/
def relaySend (s : State) : State :=
  match s.tk.selected with
  | some i =>
    if (candSt s i).st = .qualified then
      laneSend 5 (leInt 8 ((candSt s i).phase + s.tw.alignPs) ++ leInt 8 (candSt s i).freq ++ le 1 s.fp.acc) s
    else s
  | none => s

/-- HOT of R361 at this instant. Log entry 66 (DEDUCED). -/
def hotNow (s : State) : Bool :=
  s.role == .standby && s.tw.genMatch && eligible s && s.tw.ledgerInStep && !s.tw.resync &&
    (match s.tw.alignSince with
      | some t => decide (t + uPerS ≤ s.clock)
      | none => false)

/-- TW_HOT follows R361; without a lane it stays until TW_HOT_TIMEOUT. When it sets, TW_RESYNC is answered (R382).
Log entry 66 (DEDUCED). -/
def hotEval (s : State) : State :=
  if hotNow s = false then modTw (fun w => { w with hot := false }) s
  else if s.tw.hot ∨ lanesUp s = [] then s
  else
    let ns := s.tw.resyncCmds
    respondAll ns stDone [] (modTw (fun w => { w with hot := true, resyncCmds := [] }) s)

/-- TWIN_MS_TICK (R359): once for each Spindle millisecond. -/
def msTick (s : State) : State :=
  if twinPos s = false ∨ s.mode = .boot ∨ s.tw.msAt = some (s.spindle / uPerMs) then s
  else
    let s1 := hotEval (modTw (fun w => { w with msAt := some (s.spindle / uPerMs), msHeld := gensNow s }) s)
    let s2 := (lanesUp s1).foldl (fun (t : State) l => laneSendOn l 2 (timeContent l t) t) s1
    let s3 := laneSend 3 (stateContent s2) s2
    let s4 := if s3.tw.holds then mirrorSend s3 else if s3.role = .standby then relaySend s3 else s3
    if s4.spindle / uPerMs % 1000 = 0 then relayAcc s4 else s4

/-! ### Alignment (R360) -/

/-- The first valid message decides the level in use (R444); a partner whose major level differs by more than one keeps the
unit FENCED. -/
def laneIn (level : Nat) (s : State) : State :=
  match s.tw.level with
  | some _ => s
  | none =>
    let own := unitLevel s
    let s1 := modTw (fun w => { w with level := some (if level < own then level else own) }) s
    if absDiff (level / 16) (own / 16) > 1 then
      let s2 := raiseAlarm blkTW (modTw (fun w => { w with levelBad := true }) s1)
      if s2.role = .standby then setRole .fenced s2 else s2
    else s1

/-- A message of the partner is taken: in a twin position, once the lanes have trained. -/
def laneTakes (s : State) : Bool := twinPos s && s.mode != .boot

/-- The word of TWIN steering: the holder's with the correction of the alignment loop, a free value, in steps of at most
50 ppm of the word in use. Log entry 64 (DESIGN CHOICE). -/
def twinWord (x : Syn) (w : Nat) (s : State) : State :=
  let d := drawFree s
  let cur := (getSyn s x).word
  let room := w / 5000
  let target : Int := (w : Int) + ((d.1 % (2 * room + 1) : Nat) : Int) - room
  let step : Int := ((cur * 50 / 1000000 : Nat) : Int)
  if s.firstLive = true ∧ (getSyn s x).lock ≠ 0 then applyWord x (clampInt (cur - step) (cur + step) target).toNat d.2 else d.2

/-- The y of the words that TWIN steering runs (R509). -/
def followY (s : State) : State := { s with tk := { s.tk with y := yOfWord s .msyn } }

/-- Theta of each group (R360): the offset of Spindle time combined with the tap phases of both units.
Log entry 64 (DESIGN CHOICE). -/
def groupThetas (th : Int) (m : Option MirrorMsg) : Int × Int × Int :=
  match m with
  | none => (th, th, th)
  | some m => (th + m.tapMedia - m.ownMedia, th + m.tapVideo - m.ownVideo, th + m.tapNetwork - m.ownNetwork)

/-- TIME received by a STANDBY: Spindle time is loaded once where it is off by a cycle or more, or the data plane is dark
(R137); then theta of each group is updated, and the words follow. Log entry 68 (DESIGN CHOICE). Log entry 64 (DESIGN CHOICE). -/
def standbyTime (th : Int) (s : State) : State :=
  let load := !s.tw.timeLoaded && (s.dataPlane == .dark || decide (toPs (mclkLen (f441 s)) ≤ th.natAbs))
  if load then
    spindleStep { absTime := none, addPs := -th, setValid := true, cmd := none } (modTw (fun w => { w with timeLoaded := true, theta := 0 }) s)
  else
    let g := groupThetas th s.tw.mirror
    let near := decide (g.1.natAbs ≤ 20) && decide (g.2.1.natAbs ≤ 20) && decide (g.2.2.natAbs ≤ 20)
    let s1 := modTw (fun w => { w with timeLoaded := true, theta := th, alignPs := g.1, alignVideo := g.2.1, alignNetwork := g.2.2,
                                       alignSince := if near then some (w.alignSince.getD s.clock) else none }) s
    let s2 := match s1.tw.mirror with
      | some m => followY (twinWord .nsyn m.nWord (twinWord .vsyn m.vWord (twinWord .msyn m.mWord s1)))
      | none => s1
    hotEval s2

/-- TIME received (R360). -/
def timeIn (lane level : Nat) (t1 t2 t3 t4 : Int) (s : State) : State :=
  if laneTakes s = false then s
  else
    let s1 := laneIn level s
    let got := if s1.tw.holds then (t3, t4) else (t1, t2)
    let s2 := modTw (fun w => { w with timeStamps := modNth (fun _ => got) w.timeStamps lane }) s1
    if s2.role = .standby then
      let asym := if lane = 0 then s2.live.tw.asym0 else s2.live.tw.asym1
      let a := if s2.pw.slotSel = 1 then asym else -asym
      standbyTime (roundDiv ((t2 - t1) - (t4 - t3) - a) 2) s2
    else s2

/-- TW_HOT_TIMEOUT (R360): no lane in service for 10 ms; the step that a takeover would carry is a free value.
Log entry 64 (DESIGN CHOICE). -/
def hotTimeout (s : State) : State :=
  if lanesUp s = [] ∧ s.role = .standby ∧ s.tw.laneLostAt + 10 * uPerMs ≤ s.clock then
    let d := drawFree s
    modTw (fun w => { w with hot := false, alignSince := none, stepPs := toSigned 16 d.1 }) d.2
  else s

/-! ### STATE and resynchronisation (R362, R376) -/

/-- The comparison of Sequence TW-6: what differs from the holder is asked for; an own pending commit that differs ends. -/
def resyncCompare (m : PeerState) (s : State) : State :=
  let due := s.role == .standby && s.tw.resync && (m.role == .active || m.role == .solo) &&
    (!s.tw.asked || s.tw.askedGen != (m.gen, m.digest))
  if due then
    let pd := pendNow s
    let pendDiff := (pd.1, pd.2.1) != (m.pendGen, m.pendDigest)
    let s1 := if pendDiff then cancelPend s else s
    let s2 := modTw (fun w => { w with asked := true, askedGen := (m.gen, m.digest),
                                       needImage := !s.firstLive || (s.mb.gen, s.mb.digest) != (m.gen, m.digest),
                                       needPend := pendDiff && m.pendGen != 0, ledgerInStep := false }) (resyncRestart s1)
    laneSend 9 (le 4 s2.mb.gen ++ le 8 s2.mb.digest ++ le 4 s2.tw.peerWserial) s2
  else s

/-- The alarms of R362, each raised when its difference appears. -/
def matchEval (m : PeerState) (s : State) : State :=
  let own := gensHeld s
  let g := own.1 != (m.gen, m.digest)
  let p := (own.2.1, own.2.2.1) != (m.pendGen, m.pendDigest)
  let s1 := if (g && !s.tw.genAlarmed) || (p && !s.tw.pendAlarmed) then raiseAlarm blkTW s else s
  modTw (fun w => { w with genAlarmed := g, pendAlarmed := p, genMatch := !g && !p, hot := w.hot && !g && !p }) s1

/-- The twin candidate is lost when the partner is not LOCKED on a reference of its own (Table TK-1). -/
def twinCandCheck (m : PeerState) (s : State) : State :=
  if m.mode = .locked then s
  else match presentCand s 0x0A with
    | some i => loseCand i s
    | none => s

/-- A swap ends before its instant when the partner is no longer an eligible, HOT STANDBY (Table TW-9). -/
def swapCheck (m : PeerState) (s : State) : State :=
  match s.tw.swap with
  | some w => if w.released ∨ (m.role = .standby ∧ m.hot = true) then s else swapEnd 3 s
  | none => s

/-- STATE received (R362). -/
def stateIn (level : Nat) (m : PeerState) (s : State) : State :=
  if laneTakes s = false then s
  else
    let s1 := laneIn level s
    let s2 := modTw (fun w => { w with peerRole := some m.role, peerMode := some m.mode, peerHot := m.hot, peerLease := some m.leaseUs,
                                       peerGen := (m.gen, m.digest), peerPend := (m.pendGen, m.pendDigest, m.pendTime) }) s1
    hotEval (resyncCompare m (swapCheck m (twinCandCheck m (matchEval m s2))))

/-- MIRROR received (R135, R164): a STANDBY adopts the kept offsets; words and owed moves are kept for it. -/
def mirrorIn (level : Nat) (m : MirrorMsg) (s : State) : State :=
  if laneTakes s = false then s
  else
    let s1 := modTw (fun w => { w with mirror := some m }) (laneIn level s)
    if s1.role = .standby then { s1 with tk := { s1.tk with kMedia := m.kMedia, kVideo := m.kVideo, kNetwork := m.kNetwork } } else s1

/-- RELAY received (R118, R318): the active unit forms the twin entry's phase from it; FP_ACC is adopted.
Log entry 102 (DESIGN CHOICE). -/
def relayIn (level : Nat) (m : RelayMsg) (s : State) : State :=
  if laneTakes s = false then s
  else
    let s1 := laneIn level s
    let s2 := match m.ref, presentCand s1 0x0A with
      | some r, some i =>
        if s1.role = .active then
          setMeas i (r.1 + s1.tk.kMedia) { s1 with tk := { s1.tk with twinPeriod := m.period } }
        else s1
      | _, _ => s1
    match m.facc with
    | some a => adoptAcc a s2
    | none => s2

/-- LEDGER received (R466): the entry is mirrored; a gap in the writer's count takes the mirror out of step.
Log entry 66 (DEDUCED). -/
def ledgerIn (level : Nat) (entry : Bytes) (s : State) : State :=
  if laneTakes s = false then s
  else
    let s1 := laneIn level s
    let e := lgRead entry
    let gap := decide (e.wserial ≠ (s1.tw.peerWserial + 1) % 2 ^ 32)
    hotEval (modTw (fun w => { w with peerWserial := e.wserial, ledgerInStep := w.ledgerInStep && !gap }) (lgPutMirror e s1))

/-! ### The commanded swap (R381) -/

/-- SWAP_REQ received: R32 and TW_HOT are checked, and SWAP_ACK answers. Log entry 67 (DEDUCED). -/
def swapReqIn (level at_ : Nat) (s : State) : State :=
  if laneTakes s = false then s
  else
    let s1 := laneIn level s
    let ok := mayTake s1 && s1.tw.hot
    laneSend 8 (fullForm at_ ++ le 1 (b2n ok)) (modTw (fun w => { w with swapTake := if ok then some at_ else none }) s1)

/-- SWAP_ACK received. -/
def swapAckIn (level at_ : Nat) (ok : Bool) (s : State) : State :=
  if laneTakes s = false then s
  else
    let s1 := laneIn level s
    match s1.tw.swap with
    | some w =>
      if w.at_ ≠ at_ ∨ w.released = true then s1
      else if ok then modTw (fun v => { v with swap := some { w with acked := true } }) s1 else swapEnd 3 s1
    | none => s1

/-- The partner can still take (Table TW-9). -/
def peerReady (s : State) : Bool :=
  s.tw.peerRole == some .standby && s.tw.peerHot && s.tw.peerE && !(lanesUp s).isEmpty

/-- SWAP_INSTANT (Sequence TW-4 step 2): a commit of this boundary goes first; then the fence closes and RELEASE is sent. -/
def swapInstant (s : State) : State :=
  match s.tw.swap with
  | none => s
  | some w =>
    if w.released ∨ s.spindle < w.at_ then s
    else
      let s1 := commitLive s
      if s1.tw.holds && w.acked && peerReady s1 then
        releaseChuck 4 (modTw (fun v => { v with swap := some { w with released := true, releasedAt := s1.clock } }) s1)
      else swapEnd 3 s1

/-- SWAP_TAKE_TIMEOUT (R377): no RENEW within 1 ms. Log entry 67 (DEDUCED). -/
def swapTimeout (s : State) : State :=
  match s.tw.swap with
  | some w =>
    if w.released = true ∧ w.releasedAt + uPerMs ≤ s.clock then
      let s1 := swapEnd 1 (modTw (fun v => { v with takeFailed := true, takeFailedAt := s.clock }) s)
      roleEval s1
    else s
  | none => s

/-! ### RESYNC_REQ, RESYNC_DATA, RESYNC_COMMIT -/

/-- Segments of at most 8,000 bytes, with their positions. -/
def segments : Nat → Nat → Bytes → List (Nat × Bytes)
  | 0, _, _ => []
  | n + 1, pos, p => if p = [] then [] else (pos, p.take 8000) :: segments n (pos + 8000) (p.drop 8000)

/-- An image in RESYNC_DATA messages: kind, position, whole length, bytes. Log entry 63 (DESIGN CHOICE). -/
def sendImage (kind : Nat) (img : Bytes) (s : State) : State :=
  (segments (img.length / 8000 + 1) 0 img).foldl
    (fun (t : State) x => laneSend 0x0A (le 1 kind ++ le 4 x.1 ++ le 4 img.length ++ x.2) t) s

/-- The entries of the holder's own that follow a count of its own, oldest first. -/
def ledgerTail (last : Nat) (s : State) : List LgEntry :=
  ((s.lg.flash.filter (fun e => !e.2.mirror && decide ((e.2.wserial + 2 ^ 32 - last) % 2 ^ 32 < 2 ^ 31) && e.2.wserial != last)).map
    (fun e => e.2)).reverse

/-- RESYNC_DATA messages of up to 250 entries: kind 2, whether it holds the newest entry, the entries. -/
def sendEntries : Nat → List LgEntry → State → State
  | 0, _, s => s
  | n + 1, es, s =>
    let rest := es.drop 250
    let t := laneSend 0x0A ([2] ++ le 1 (b2n rest.isEmpty) ++ (es.take 250).flatMap lgBytes) s
    if rest.isEmpty then t else sendEntries n rest t

/-- RESYNC_REQ received by the holder (R376). -/
def resyncReqIn (level gen digest last : Nat) (s : State) : State :=
  if laneTakes s = false then s
  else
    let s1 := laneIn level s
    if s1.tw.holds = false then s1
    else
      let s2 := if s1.firstLive = true ∧ (s1.mb.gen, s1.mb.digest) ≠ (gen, digest) then sendImage 0 (snapshotImage s1) s1 else s1
      let s3 := match s2.mb.pend with
        | some p => sendImage 1 (pendingImage p s2) s2
        | none => s2
      let es := ledgerTail last s3
      sendEntries (es.length / 250 + 1) es s3

/-- A direct write of a SNAPSHOT image (R412): its value, without a response. The words of a STANDBY are TWIN (R93). -/
def directSilent (r : Rec) (s : State) : State :=
  let p := r.payload
  match r.opcode with
  | 0x0317 => setSlew p s
  | 0x0318 => setSpread p s
  | 0x0418 => setDiag (u16 p 0 % 4096) s.clock s
  | 0x0419 => micGain p s
  | 0x0513 => holdStage p s
  | 0x0522 => writeSeg p s
  | 0x0525 => writeTables (setZone (u8 p 0) (i16 p 2)) s
  | 0x0612 => writeDp p s
  | 0x0624 => writeCoef p s
  | 0x0625 => writeTables (putEnables p) s
  | 0x0626 => writeGain p s
  | 0x0627 => writeBand p s
  | 0x0628 => writeTap p s
  | 0x0715 => flowEnable p s
  | 0x0812 => writeTables (fun t => { t with hp := { t.hp with atten := u8 p 0 } }) s
  | _ => s

/-- The resynchronisation ends when nothing is left to pull. -/
def resyncEnd (s : State) : State :=
  if s.tw.resync && s.tw.asked && !s.tw.needImage && !s.tw.needPend && s.tw.ledgerInStep then
    hotEval (modTw (fun w => { w with resync := false }) s)
  else s

/-- A pulled pending commit is staged for its scheduled time (R376). -/
def installPend (s : State) : State :=
  match imageForm false s.tw.pullPend with
  | none => s
  | some rs =>
    let full := u8 s.tw.pullPend 8 == 1
    let p : PendCommit :=
      { tables := buildTables (if full then {} else s.live) rs, gen := nextGen s.mb.gen,
        digest := commitDigest (if full then 0 else s.mb.digest) rs, boundary := frameAtOrAfter (f441 s) s.tw.peerPend.2.2, cmd := none,
        recs := rs, full }
    modTw (fun w => { w with needPend := false, pulledPend := false, pullPend := [] }) { s with mb := { s.mb with pend := some p } }

/-- The records of a pulled image are good (R376): direct writes only in a SNAPSHOT image. -/
def pulledGood (snapshot : Bool) (img : Bytes) : Bool :=
  match imageForm snapshot img with
  | none => false
  | some rs => (imageRecs (rs.filter (fun r => !r.direct))).isNone

/-- A whole SNAPSHOT image has come: it commits at the first frame boundary at least 10 ms after its verification. -/
def pullImage (pos total : Nat) (data : Bytes) (s : State) : State :=
  let old := if pos = 0 then [] else s.tw.pullImage
  if s.tw.needImage = false ∨ s.tw.pulled = true ∨ old.length ≠ pos then s
  else
    let img := old ++ data
    if img.length < total then modTw (fun w => { w with pullImage := img }) s
    else if pulledGood true img then
      modTw (fun w => { w with pullImage := img, pulled := true, resyncAt := some (frameAtOrAfter (f441 s) (s.spindle + 10 * uPerMs)) }) s
    else resyncRestart s

/-- A whole image of the pending commit has come: staged at once, or after the SNAPSHOT image. -/
def pullPending (pos total : Nat) (data : Bytes) (s : State) : State :=
  let old := if pos = 0 then [] else s.tw.pullPend
  if s.tw.needPend = false ∨ s.tw.pulledPend = true ∨ old.length ≠ pos then s
  else
    let img := old ++ data
    let s1 := modTw (fun w => { w with pullPend := img }) s
    if img.length < total then s1
    else if pulledGood false img = false then resyncRestart s
    else
      let s2 := modTw (fun w => { w with pulledPend := true }) s1
      if s2.tw.needImage then s2 else resyncEnd (installPend s2)

/-- RESYNC_DATA received by a STANDBY that has asked (R376). -/
def resyncDataIn (level : Nat) (d : ResyncBody) (s : State) : State :=
  if laneTakes s = false then s
  else
    let s1 := laneIn level s
    if (s1.role == .standby && s1.tw.resync && s1.tw.asked) = false then s1
    else match d with
      | .committed pos total data => pullImage pos total data s1
      | .pending pos total data => pullPending pos total data s1
      | .ledger es last =>
        let take : State → Bytes → State := fun t b => modTw (fun w => { w with peerWserial := (lgRead b).wserial }) (lgPutMirror (lgRead b) t)
        let s2 := es.foldl take s1
        resyncEnd (modTw (fun w => { w with ledgerInStep := w.ledgerInStep || last }) s2)

/-- RESYNC_COMMIT (R376, R412): the pulled configuration becomes live with the holder's generation and digest, and the
direct writes act in the same frame. Log entry 29 (DESIGN CHOICE). -/
def resyncLive (s : State) : State :=
  match s.tw.pulled, s.tw.resyncAt with
  | true, some b =>
    if s.role = .standby ∧ b ≤ s.spindle ∧ s.spindle % frameLen (f441 s) = 0 ∧ (s.dataPlane = .running ∨ s.dataPlane = .dark) then
      let img := s.tw.pullImage
      let rs := (imageForm true img).getD []
      let recs := rs.filter (fun r => !r.direct)
      let direct := rs.filter (fun r => r.direct)
      let t := buildTables {} recs
      let s1 := goLive t recs s
      let s2 : State := { s1 with mb := { s1.mb with gen := u32 img 12, digest := u64 img 16, committed := t, direct } }
      let s3 := direct.foldl (fun (u : State) r => directSilent r u) s2
      let s4 := modTw (fun w => { w with needImage := false, pulled := false, pullImage := [], resyncAt := none }) s3
      resyncEnd (if s4.tw.pulledPend then installPend s4 else s4)
    else s
  | _, _ => s

/-! ### Commands -/

/-- TW_SWAP (R381, Table TW-13): the role is check 6 of R397, the time check 7, the other conditions after it. -/
def runSwap (c : Cmd) (s : State) : State :=
  let earliest := s.spindle + 100 * uPerUs
  let t := if u64 c.payload 4 = 0 then some earliest else readCompact s.spindle c.payload 4
  if twinPos s = false ∨ s.role ≠ .active then respond c stState [] s
  else match t with
    | none => respond c stBad [] s
    | some t =>
      if t < earliest then respond c stBad [] s
      else if s.tw.peerRole = some .standby ∧ s.tw.peerHot = true ∧ s.tw.genMatch = true ∧ lanesUp s ≠ [] ∧ s.tw.swap = none then
        let at_ := frameAtOrAfter (f441 s) t
        let w : SwapState := { at_, cmd := c.n, acked := false, released := false, releasedAt := 0 }
        laneSend 7 (fullForm at_) (setPhase c.n .running (modTw (fun v => { v with swap := some w }) s))
      else respond c stState [] s

/-- TW_FORCE_SOLO (R372, R382). -/
def chkForceSolo (p : Bytes) (s : State) : Option Nat :=
  if twinPos s = false ∨ (s.role ≠ .fenced ∧ s.role ≠ .standby) ∨ s.mode = .boot ∨ s.mode = .configure ∨ s.mode = .safe then some stState
  else if u8 p 0 ≠ 1 then some stBad
  else if pathsUp s ≠ [] then some stState
  else none

/-- At the next frame boundary the unit takes the Chuck as SOLO (Table TW-7). -/
def applyForceSolo (c : Cmd) (s : State) : State :=
  if s.tw.holds || s.mode == .safe then respond c stState [] s else respond c stDone [] (takeChuck 5 .solo none s)

/-- TW_RESYNC (R382): answered DONE when TW_HOT sets. Log entry 66 (DEDUCED). -/
def runResync (c : Cmd) (s : State) : State :=
  if twinPos s = false ∨ s.role ≠ .standby ∨ lanesUp s = [] then respond c stState [] s
  else
    let s1 := modTw (fun w => { w with resync := true, hot := false, ledgerInStep := false, resyncCmds := w.resyncCmds ++ [c.n] }) (resyncRestart s)
    setPhase c.n .running s1

/-- TW_STATUS (Table TW-14). -/
def twStatus (s : State) : Bytes :=
  let w := s.tw
  let role := match w.peerRole with | some r => roleCode r | none => 15
  let mode := match w.peerMode with | some m => modeCode m | none => 15
  le 1 (64 * b2n w.witness + 32 * b2n w.tsl1 + 16 * b2n w.tsl0 + 8 * b2n w.hot + 4 * b2n w.genMatch + 2 * b2n w.takeFailed +
      b2n (s.pw.slotSel == 1)) ++
    le 1 (16 * role + mode) ++ le 1 (leaseEff s) ++ le 1 w.lastCause ++ leInt 2 (satInt 16 w.alignPs) ++ leInt 2 (satInt 16 w.stepPs) ++
    le 2 w.takeovers ++ le 2 w.lastGap ++ le 2 w.ackMissed ++ le 2 w.swaps

/-! ### The meanings of the rows -/

def execTwCfg (k : OrdClass) (s : State) : Host.Outcome State Fault Refusal := .next (startStaged k 0x0910 okTwCfg s)
def execTwSwap (k : OrdClass) (s : State) : Host.Outcome State Fault Refusal := .next (startNow k 0x0911 runSwap s)
def execTwForceSolo (k : OrdClass) (s : State) : Host.Outcome State Fault Refusal := .next (startDirect k 0x0912 chkForceSolo s)
def execTwResync (k : OrdClass) (s : State) : Host.Outcome State Fault Refusal := .next (startNow k 0x0913 runResync s)
def execTwStatus (k : OrdClass) (s : State) : Host.Outcome State Fault Refusal :=
  .next (startStatus k 0x0E80 (fun _ => true) (fun _ t => twStatus t) s)
def execRenewDue (x : Liveness) (s : State) : Host.Outcome State Fault Refusal := .next (renewDue x.ctl x.data s)
def execLeaseRenew (path : TwinPath) (f : LeaseBits) (s : State) : Host.Outcome State Fault Refusal := .next (renewIn path f s)
def execLeaseAck (path : TwinPath) (f : LeaseBits) (s : State) : Host.Outcome State Fault Refusal := .next (ackIn path f s)
def execLeaseRelease (path : TwinPath) (f : LeaseBits) (s : State) : Host.Outcome State Fault Refusal := .next (releaseIn path f s)
def execLeaseWaive (path : TwinPath) (f : LeaseBits) (s : State) : Host.Outcome State Fault Refusal := .next (waiveIn path f s)
def execLeaseNull (path : TwinPath) (f : LeaseBits) (s : State) : Host.Outcome State Fault Refusal := .next (nullIn path f s)
def execLeaseEnd (s : State) : Host.Outcome State Fault Refusal := .next (leaseOver s)
def execExpiryTakeover (s : State) : Host.Outcome State Fault Refusal := .next (expiryTake s)
def execArbitrationClaim (s : State) : Host.Outcome State Fault Refusal := .next (arbitrate s)
def execPartingToolTrip (s : State) : Host.Outcome State Fault Refusal := .next (partingTrip s)
def execPathServiceChange (path : TwinPath) (delay : Nat) (s : State) : Host.Outcome State Fault Refusal :=
  .next (if twinPos s then pathChange path delay s else s)
def execTwinMsTick (s : State) : Host.Outcome State Fault Refusal := .next (msTick s)
def execTwTime (lane : Nat) (level : Nat) (t1 t2 t3 t4 : Int) (s : State) : Host.Outcome State Fault Refusal :=
  .next (timeIn lane level t1 t2 t3 t4 s)
def execTwState (_lane : Nat) (level : Nat) (m : PeerState) (s : State) : Host.Outcome State Fault Refusal := .next (stateIn level m s)
def execTwMirror (_lane : Nat) (level : Nat) (m : MirrorMsg) (s : State) : Host.Outcome State Fault Refusal := .next (mirrorIn level m s)
def execTwRelay (_lane : Nat) (level : Nat) (m : RelayMsg) (s : State) : Host.Outcome State Fault Refusal := .next (relayIn level m s)
def execTwLedger (_lane : Nat) (level : Nat) (entry : Bytes) (s : State) : Host.Outcome State Fault Refusal :=
  .next (ledgerIn level entry s)
def execTwSwapReq (_lane : Nat) (level : Nat) (at_time : Nat) (s : State) : Host.Outcome State Fault Refusal :=
  .next (swapReqIn level at_time s)
def execTwSwapAck (_lane : Nat) (level : Nat) (at_time : Nat) (accept : Bool) (s : State) : Host.Outcome State Fault Refusal :=
  .next (swapAckIn level at_time accept s)
def execSwapInstant (s : State) : Host.Outcome State Fault Refusal := .next (swapInstant s)
def execSwapTakeTimeout (s : State) : Host.Outcome State Fault Refusal := .next (swapTimeout s)
def execResyncReq (_lane : Nat) (level : Nat) (gen : Nat) (digest : Nat) (lastWserial : Nat) (s : State) :
    Host.Outcome State Fault Refusal := .next (resyncReqIn level gen digest lastWserial s)
def execResyncData (_lane : Nat) (level : Nat) (d : ResyncBody) (s : State) : Host.Outcome State Fault Refusal :=
  .next (resyncDataIn level d s)
def execResyncCommit (s : State) : Host.Outcome State Fault Refusal := .next (resyncLive s)
def execTwHotTimeout (s : State) : Host.Outcome State Fault Refusal := .next (hotTimeout s)

end Sys2Proof.Machine
end

