-- ==== Sys2Proof/Machine/Ring.lean ====
section
/-! DEFINITION. The Igtis ring (chapter 14): frames received, forwarded and sent, addresses, host access over the ring, ring
time, barriers, snapshots, and the ring commands. -/
namespace Sys2Proof.Machine

def modIg (f : IgState → IgState) (s : State) : State := { s with ig := f s.ig }

/-! ### Frames (R424 to R427) -/

/-- Forwarding runs from step 4 of Sequence PW-1 until the internal reset asserts (R423). -/
def ringRuns (s : State) : Bool := s.ig.forwarding && !s.pw.inReset

/-- A frame leaves IGR_OUT. Log entry 84 (DESIGN CHOICE). -/
def ringOut (f : RingFrame) (s : State) : State := { s with out := .ring f :: s.out }

/-- The oldest own frame leaves IGR_OUT: each received frame takes longer than one of them (log entry 70). -/
def ringDrain (s : State) : State :=
  match s.ig.own with
  | [] => s
  | f :: fs => ringOut f.2 (modIg (fun g => { g with own := fs }) s)

/-- A frame with its hop count raised and the payload `p` (R426). -/
def hopWith (p : Bytes) (f : RingFrame) : RingFrame := { f with hops := f.hops + 1, payload := p }

/-- A frame of the unit's own that is broadcast, with hop count `hops`. -/
def ringCast (typ hops : Nat) (payload : Bytes) (s : State) : State :=
  let f : RingFrame := { rsv := (0, 0, 0), dst := 63, src := s.ig.addr, typ, hops, len := payload.length, fseq := s.ig.fseq, payload,
                         crcOk := true }
  ringOut f (modIg (fun g => { g with fseq := (g.fseq + 1) % 65536 }) s)

/-- A NAK (R432). Log entry 71 (DEDUCED). -/
def ringNak (reason tag typ : Nat) (s : State) : State := ringSend 0 0x05 (le 1 reason ++ le 1 tag ++ le 2 typ ++ zeros 8) s

/-- Rule 1 of R426, outside HUSH. Log entry 69 (DEDUCED). -/
def ringBad (f : RingFrame) (s : State) : Bool := s.mode != .hush && (!f.crcOk || f.hops == 63)

def ringCrcErr (s : State) : State := modIg (fun g => { g with crcErrs := satInc 16 g.crcErrs }) s

/-- A frame goes on as it came: unchanged in HUSH (R73), else with one hop more. Log entry 69 (DEDUCED). -/
def ringPass (f : RingFrame) (s : State) : State := ringOut (if s.mode = .hush then f else hopWith f.payload f) s

/-- A frame of type `typ` arrives (R426). `own`: what it does when it is addressed to this unit. `cast`: what it does as a
broadcast, with the payload that goes on, or none when the frame is held. Log entry 69 (DEDUCED). -/
def ringRow (typ : Nat) (f : RingFrame) (own : State → State) (cast : State → State × Option Bytes) (s : State) : State :=
  if ringRuns s = false ∨ f.typ ≠ typ then s
  else if ringBad f s then ringCrcErr s
  else
    let s1 := ringDrain s
    if f.crcOk = false then ringPass f s1
    else if f.dst = 63 then
      if f.src ≠ 0 then ringPass f s1
      else
        let r := cast s1
        match r.2 with
        | none => r.1
        | some p => ringOut (if s1.mode = .hush then f else hopWith p f) r.1
    else if f.dst = s.ig.addr then (if f.src = 0 then own s1 else s1)
    else ringPass f s1

/-- A broadcast that acts outside HUSH and goes on unchanged in HUSH (R73); a wrong length is answered with a NAK (R432).
Log entry 71 (DEDUCED). -/
def castOf (len : Nat) (f : RingFrame) (act : State → State × Option Bytes) (s : State) : State × Option Bytes :=
  if s.mode = .hush then (s, some f.payload)
  else if f.len ≠ len then (ringNak 5 0 f.typ s, some f.payload)
  else act s

/-- A type that is not allowed as a broadcast (R432). -/
def castRefused (tag : Nat) (f : RingFrame) (s : State) : State × Option Bytes :=
  if s.mode = .hush then (s, some f.payload) else (ringNak 4 tag f.typ s, some f.payload)

/-- RING_FRAME_FORWARD (R425, R426): a frame that no other row takes. Log entry 69 (DEDUCED). -/
def ringForward (f : RingFrame) (s : State) : State :=
  if ringRuns s = false then s
  else if ringBad f s then ringCrcErr s
  else
    let known := decide (1 ≤ f.typ) && decide (f.typ ≤ 0x10)
    if f.crcOk = false then ringPass f (ringDrain s)
    else if f.dst = s.ig.addr ∧ f.dst ≠ 63 then
      if known then s else modIg (fun g => { g with unknown := satInc 16 g.unknown }) (ringDrain s)
    else if f.dst = 63 ∧ f.typ ≤ 0x0D ∧ known = true ∧ (f.src = 0 ∨ f.typ = 0x0D) then s
    else ringPass f (ringDrain s)

/-! ### Addresses (R428 to R431) -/

/-- ENUMERATE (R428, R430); a unit that gets the address of the ring time master has no ring-time candidate (R118). Log entry 74 (DEDUCED). Log entry 69 (DEDUCED). -/
def enumerate (f : RingFrame) (s : State) : State × Option Bytes :=
  if s.ig.resetting.isSome then (s, some f.payload)
  else
    let next := u8 f.payload 0
    let bare := s.ig.addr == 63
    let takes := bare && decide (next ≤ 62)
    let past := bare && next == 63
    let flags := Nat.lor (u8 f.payload 1) (b2n past + 2 * b2n s.pw.ringEnd)
    (dropUnusable (modIg (fun g => { g with pos := f.hops + 1, addr := if takes then next else g.addr,
                                            overflow := g.overflow || next == 63 }) s),
     some (le 1 (if takes then next + 1 else next) ++ le 1 flags ++ f.payload.drop 2))

/-- RING_RESET (R431): commands run on without a response. -/
def ringResetRun (f : RingFrame) (s : State) : State × Option Bytes :=
  let mute : Cmd → Cmd := fun c => if c.origin = 1 then { c with mute := true } else c
  let s1 : State := { s with mb := { s.mb with cmds := s.mb.cmds.map mute, seqRing := none } }
  (modIg (fun g => { g with addr := 63, queue := [], own := g.own.filter (fun o => o.2.typ != 0x04), barrier := none, snapId := 0,
                            snapState := 0, snapAt := 0, snapTime := 0, snapParts := [], resetting := some s.clock }) s1, some f.payload)

/-- 2 ms after RING_RESET every unit accepts ENUMERATE (R431). -/
def ringResetOver (s : State) : State :=
  match s.ig.resetting with
  | some t => if t + 2 * uPerMs ≤ s.clock then modIg (fun g => { g with resetting := none }) s else s
  | none => s

/-- JOIN (R429): once a second from an unaddressed unit. Log entry 73 (DEDUCED). -/
def ringJoinSend (s : State) : State :=
  let due := match s.ig.joinLast with
    | some t => decide (t + uPerS ≤ s.clock)
    | none => true
  if ringRuns s && s.ig.addr == 63 && due then
    let lv := unitLevel s
    let s1 := ringSend 0 0x0F (le 8 Config.unitIdentity ++ le 1 (lv / 16) ++ le 1 (lv % 16) ++ le 1 s.pw.slotSel ++ zeros 1) s
    modIg (fun g => { g with joinLast := some s.clock }) s1
  else s

/-! ### Host access (R432 to R435) -/

/-- COMMAND (R432). Log entry 71 (DEDUCED). -/
def ringCmd (f : RingFrame) (s : State) : State :=
  let tag := u8 f.payload 2
  if s.mode = .hush then ringNak 3 tag 0x03 s
  else if f.len ≠ 64 then ringNak 5 tag 0x03 s
  else if ringReady s = false then ringNak 2 tag 0x03 s
  else if 32 ≤ s.ig.queue.length then ringNak 1 tag 0x03 (modIg (fun g => { g with drops := satInc 16 g.drops }) s)
  else consume (modIg (fun g => { g with rcvd := g.rcvd + 1, queue := g.queue ++ [(g.rcvd + 1, f.payload)] }) s)

/-- WREAD (R433). Log entry 71 (DEDUCED). -/
def ringRead (f : RingFrame) (s : State) : State :=
  let a := u32 f.payload 0
  let n := u16 f.payload 4
  if s.mode = .hush then ringNak 3 0 0x06 s
  else if f.len ≠ 12 ∨ n = 0 ∨ 1024 < n ∨ 0x18000 < a + n then ringNak 5 0 0x06 s
  else ringSend 0 0x07 (le 4 a ++ winRead s a n) s

/-- WWRITE (R433). Log entry 71 (DEDUCED). -/
def ringWrite (f : RingFrame) (s : State) : State :=
  let a := u32 f.payload 0
  let d := f.payload.drop 4
  if s.mode = .hush then ringNak 3 0 0x08 s
  else if d.length = 0 ∨ 1024 < d.length ∨ f.len ≠ 4 + d.length ∨ a < 0x8000 ∨ 0x18000 < a + d.length then ringNak 5 0 0x08 s
  else ringSend 0 0x07 (le 4 a) (memWriteList a d s)

/-- The scope whose keys a RESET carries (R434). -/
def ringKeys (f : RingFrame) : Option Nat :=
  let nn := u8 f.payload 0
  if u32 f.payload 0 = 0xA5A50000 + nn ∧ u32 f.payload 4 = 0x5A5A0000 + nn ∧ 1 ≤ nn ∧ nn ≤ 3 then some nn else none

/-- RESET addressed to the unit (R434). -/
def ringResetOwn (f : RingFrame) (s : State) : State :=
  if f.len ≠ 12 then ringNak 5 0 0x0A s
  else match ringKeys f with
    | some nn => runScope nn true s
    | none => s

/-- RESET as a broadcast acts only for SESSION (R434). -/
def ringResetCast (f : RingFrame) (s : State) : State × Option Bytes :=
  match ringKeys f with
  | some 1 => (runScope 1 true s, some f.payload)
  | some _ => (ringNak 4 0 0x0A s, some f.payload)
  | none => (s, some f.payload)

/-- EVENT (R435): at most one a millisecond. Log entry 73 (DEDUCED). -/
def ringEventSend (s : State) : State :=
  let due := match s.ig.evtLast with
    | some t => decide (t + uPerMs ≤ s.clock)
    | none => true
  if ringRuns s && s.ig.evtBits != 0 && due then
    let s1 := ringSend 0 0x0E (le 2 s.ig.evtBits ++ zeros 10) s
    modIg (fun g => { g with evtBits := 0, evtLast := some s.clock }) s1
  else s

def breakSend (s : State) : State :=
  let s1 := ringSend 0 0x10 (zeros 12) s
  modIg (fun g => { g with breakLast := some s.clock }) s1

/-- IGR_IN_DOWN: no valid idle ordered set for 10 us (R422), and a BREAK at once (R435). Log entry 5 (DESIGN CHOICE). -/
def inDown (s : State) : State :=
  if ringRuns s = false ∨ (s.ig.inUp = false ∧ s.ig.breakLast ≠ none) then s
  else breakSend (modIg (fun g => { g with inUp := false }) s)

/-- IGR_IN_UP: three valid idle ordered sets in a row (R422). Log entry 5 (DESIGN CHOICE). -/
def inUpNow (s : State) : State :=
  if ringRuns s then modIg (fun g => { g with inUp := true, breakLast := none }) s else s

/-- BREAK again, once a millisecond while the link stays down. -/
def breakAgain (s : State) : State :=
  match s.ig.breakLast with
  | some t => if ringRuns s = true ∧ s.ig.inUp = false ∧ t + uPerMs ≤ s.clock then breakSend s else s
  | none => s

/-! ### Ring time (R436 to R438) -/

/-- The unit is the master and sends TIME. Log entry 73 (DEDUCED). -/
def sendsTime (s : State) : Bool :=
  s.live.igMaster != 0 && s.ig.addr == s.live.igMaster && s.timeValid && s.ig.pos != 0 && (s.mode == .locked || s.mode == .holdover)

/-- RING_TIME_DUE (R436): once for each whole Spindle millisecond; after a commit that names another master, from the next
one on (Table IG-6). Log entry 72 (DEDUCED). -/
def timeDue (s : State) : State :=
  let ms := s.spindle / uPerMs
  if ringRuns s && sendsTime s && s.ig.timeMs != some ms then
    ringCast 0x0D s.ig.pos (fullForm s.spindle) (modIg (fun g => { g with timeMs := some ms }) s)
  else s

/-- A TIME frame passes the hop check and is measured (R437, R438): the carried time plus IG_IN_DELAY is the master's time
at the arrival, which is timestamped to 50 ps. -/
def timeAccept (f : RingFrame) (master arrival : Nat) (s : State) : State :=
  let toPs : Nat → Int := fun u => roundDiv ((u : Int) * 1000) uPerNs
  let diff : Int := toPs master - stamp (toPs arrival)
  let s1 := modIg (fun g => { g with lastTime := some s.clock, timeHops := f.hops, timeOffset := diff }) s
  match presentCand s1 0x0B with
  | some i => setMeas i diff s1
  | none => s1

/-- RING_TIME (R437): checked, measured, and forwarded with the master's time at the departure. Log entry 72 (DEDUCED). -/
def timeRow (f : RingFrame) (arrival departure : Nat) (s : State) : State :=
  if ringRuns s = false ∨ f.typ ≠ 0x0D then s
  else if ringBad f s then ringCrcErr s
  else
    let s1 := ringDrain s
    if s1.mode = .hush ∨ f.dst ≠ 63 then (if f.dst = s.ig.addr ∧ f.dst ≠ 63 ∧ f.crcOk = true then s1 else ringPass f s1)
    else
      match readFull f.payload 0 with
      | none => ringPass f s1
      | some t =>
        let master := t + s1.ig.inDelay * uPerNs / 1000
        let s2 := if s1.ig.pos = 0 ∨ f.hops + 1 ≠ s1.ig.pos then modIg (fun g => { g with bypassed := satInc 16 g.bypassed }) s1
          else timeAccept f master arrival s1
        ringOut (hopWith (fullForm (master + (departure - arrival))) f) s2

/-! ### Barriers (R439) -/

/-- Every ring command received before phase 1 has its final response, and its RESPONSE frame has gone out. -/
def barrierDone (mark : Nat) (s : State) : Bool :=
  s.mb.cmds.all (fun c => c.origin != 1 || c.mute || decide (mark < c.ringNo)) &&
    s.ig.queue.all (fun q => decide (mark < q.1)) && s.ig.own.all (fun o => o.1 == 0 || decide (mark < o.1))

/-- The payload of phase 2 with this unit counted. -/
def barrierCount (p : Bytes) : Bytes := p.take 5 ++ le 1 (u8 p 5 + 1) ++ p.drop 6

def noBarrier (s : State) : State := modIg (fun g => { g with barrier := none }) s

/-- A phase 2 that is held when another phase 1 comes goes on uncounted: its own phase 1 is recorded no more. -/
def barrierLost (s : State) : State :=
  match s.ig.barrier with
  | some b => match b.held with
    | some f => ringOut (hopWith f.payload f) (noBarrier s)
    | none => s
  | none => s

/-- BARRIER: phase 1 is recorded; phase 2 is held until the earlier commands are done. Log entry 72 (DEDUCED). -/
def barrierRow (f : RingFrame) (s0 : State) : State × Option Bytes :=
  let s := if u8 f.payload 4 = 1 ∧ s0.ig.addr ≠ 63 then barrierLost s0 else s0
  let p := f.payload
  if s.ig.addr = 63 then (s, some p)
  else if u8 p 4 = 1 then
    (modIg (fun g => { g with barrier := some { id := u32 p 0, mark := g.rcvd, held := none, heldAt := 0 } }) s, some p)
  else match s.ig.barrier with
    | none => (s, some p)
    | some b =>
      if u8 p 4 ≠ 2 ∨ b.id ≠ u32 p 0 then (s, some p)
      else if barrierDone b.mark s then (noBarrier s, some (barrierCount p))
      else (modIg (fun g => { g with barrier := some { b with held := some f, heldAt := s.clock } }) s, none)

/-- BARRIER_RELEASE. -/
def barrierRelease (s : State) : State :=
  match s.ig.barrier with
  | none => s
  | some b =>
    match b.held with
    | none => s
    | some f => if ringRuns s && barrierDone b.mark s then ringOut (hopWith (barrierCount f.payload) f) (noBarrier s) else s

/-- BARRIER_TIMEOUT: held for 1 s. -/
def barrierTimeout (s : State) : State :=
  match s.ig.barrier with
  | none => s
  | some b =>
    match b.held with
    | none => s
    | some f =>
      if ringRuns s = true ∧ b.heldAt + uPerS ≤ s.clock then
        ringOut (hopWith f.payload f) (modIg (fun g => { g with drops := satInc 16 g.drops }) (noBarrier s))
      else s

/-! ### Snapshots (R440) -/

/-- SNAPSHOT: armed at least 100 us before its time, else MISSED. Log entry 72 (DEDUCED). -/
def snapshotRow (f : RingFrame) (s : State) : State × Option Bytes :=
  let p := f.payload
  let t := (readCompact s.spindle p 0).getD 0
  let armed := decide (s.spindle + 100 * uPerUs ≤ t)
  (modIg (fun g => { g with snapId := u32 p 8, snapState := if armed then 1 else 3, snapAt := t, snapTime := 0, snapParts := [] }) s, some p)

/-- The results of Table IG-3, parts 1 to 8. -/
def snapParts (s : State) : List Bytes :=
  [hsStatus .msyn s, hsStatus .vsyn s, hsStatus .nsyn s, tkStatus s, tkOffsets s, nwPtpStatus 0 s, nwPtpStatus 1 s, twStatus s]

/-- SNAPSHOT_CAPTURE: at the first MCLK edge at or after T, while the data plane runs. -/
def capture (s : State) : State :=
  if s.ig.snapState = 1 ∧ s.ig.snapAt ≤ s.spindle ∧ s.dataPlane = .running then
    modIg (fun g => { g with snapState := 2, snapTime := s.spindle, snapParts := snapParts s }) s
  else s

/-! ### Ring commands (R447, R448) -/

def chkEvtSet (_ : Bytes) (_ : State) : Option Nat := none
def applyEvtSet (c : Cmd) (s : State) : State :=
  let m := u16 c.payload 0 % 512
  respond c stDone [] (modIg (fun g => { g with evtMask := m, evtBits := Nat.land g.evtBits m }) s)

def chkDelaySet (p : Bytes) (_ : State) : Option Nat := if u32 p 4 ≤ 1000000 then none else some stBad
def applyDelaySet (c : Cmd) (s : State) : State := respond c stDone [] (modIg (fun g => { g with inDelay := u32 c.payload 4 }) s)

/-- IG_STATUS (Table IG-10). -/
def igStatus (s : State) : Bytes :=
  let g := s.ig
  let ok := match g.lastTime with
    | some t => decide (s.clock ≤ t + 10 * uPerMs)
    | none => false
  le 1 g.addr ++ le 1 (128 * b2n g.inUp + 64 * b2n ok + 32 * b2n (sendsTime s) + 16 * b2n s.pw.ringEnd + 8 * b2n g.overflow) ++
    le 1 g.timeHops ++ le 1 g.queue.length ++ le 2 g.crcErrs ++ le 2 g.drops ++ le 2 g.unknown ++ le 2 g.bypassed ++
    leInt 4 (satInt 32 g.timeOffset)

/-- IG_SNAP_READ (Table IG-9, Table IG-3). Log entry 72 (DEDUCED). -/
def snapRead (part : Nat) (s : State) : Bytes :=
  if part = 0 then le 4 s.ig.snapId ++ le 1 s.ig.snapState ++ zeros 3 ++ (if s.ig.snapState = 2 then compactForm s.ig.snapTime else zeros 8)
  else nth (zeros 16) s.ig.snapParts (part - 1)

/-! ### The meanings of the rows -/

def execIgCfg (k : OrdClass) (s : State) : Host.Outcome State Fault Refusal := .next (startStaged k 0x0A10 okIgCfg s)
def execIgEvtSet (k : OrdClass) (s : State) : Host.Outcome State Fault Refusal := .next (startDirect k 0x0A11 chkEvtSet s)
def execIgDelaySet (k : OrdClass) (s : State) : Host.Outcome State Fault Refusal := .next (startDirect k 0x0A12 chkDelaySet s)
def execIgStatus (k : OrdClass) (s : State) : Host.Outcome State Fault Refusal :=
  .next (startStatus k 0x0E90 (fun _ => true) (fun _ t => igStatus t) s)
def execIgSnapRead (k : OrdClass) (s : State) : Host.Outcome State Fault Refusal :=
  .next (startStatus k 0x0E91 (fun p => decide (u8 p 0 ≤ 8)) (fun p t => snapRead (u8 p 0) t) s)
def execRingFrameForward (f : RingFrame) (s : State) : Host.Outcome State Fault Refusal := .next (ringForward f s)
def execRingEnumerate (f : RingFrame) (s : State) : Host.Outcome State Fault Refusal :=
  .next (ringRow 0x01 f id (castOf 12 f (enumerate f)) s)
def execRingReset (f : RingFrame) (s : State) : Host.Outcome State Fault Refusal :=
  .next (ringRow 0x02 f id (castOf 12 f (ringResetRun f)) s)
def execRingResetComplete (s : State) : Host.Outcome State Fault Refusal := .next (ringResetOver s)
def execRingCommand (f : RingFrame) (s : State) : Host.Outcome State Fault Refusal :=
  .next (ringRow 0x03 f (ringCmd f) (castRefused (u8 f.payload 2) f) s)
def execRingWread (f : RingFrame) (s : State) : Host.Outcome State Fault Refusal :=
  .next (ringRow 0x06 f (ringRead f) (castRefused 0 f) s)
def execRingWwrite (f : RingFrame) (s : State) : Host.Outcome State Fault Refusal :=
  .next (ringRow 0x08 f (ringWrite f) (castRefused 0 f) s)
def execRingDoorbell (f : RingFrame) (s : State) : Host.Outcome State Fault Refusal :=
  let bell : State → State := fun t => if f.len = 12 then doorbell 0 t else ringNak 5 0 0x09 t
  .next (ringRow 0x09 f bell (fun t => (bell t, some f.payload)) s)
def execRingResetFrame (f : RingFrame) (s : State) : Host.Outcome State Fault Refusal :=
  .next (ringRow 0x0A f (ringResetOwn f) (castOf 12 f (ringResetCast f)) s)
def execRingBarrier (f : RingFrame) (s : State) : Host.Outcome State Fault Refusal :=
  .next (ringRow 0x0B f id (castOf 12 f (barrierRow f)) s)
def execRingBarrierRelease (s : State) : Host.Outcome State Fault Refusal := .next (barrierRelease s)
def execRingBarrierTimeout (s : State) : Host.Outcome State Fault Refusal := .next (barrierTimeout s)
def execRingSnapshot (f : RingFrame) (s : State) : Host.Outcome State Fault Refusal :=
  .next (ringRow 0x0C f id (castOf 12 f (snapshotRow f)) s)
def execSnapshotCapture (s : State) : Host.Outcome State Fault Refusal := .next (capture s)
def execRingTime (f : RingFrame) (arrival departure : Nat) (s : State) : Host.Outcome State Fault Refusal :=
  .next (timeRow f arrival departure s)
def execRingTimeDue (s : State) : Host.Outcome State Fault Refusal := .next (timeDue s)
def execRingEvent (s : State) : Host.Outcome State Fault Refusal := .next (ringEventSend s)
def execRingJoin (s : State) : Host.Outcome State Fault Refusal := .next (ringJoinSend s)
def execIgrInUp (s : State) : Host.Outcome State Fault Refusal := .next (inUpNow s)
def execIgrInDown (s : State) : Host.Outcome State Fault Refusal := .next (inDown s)
def execRingBreak (s : State) : Host.Outcome State Fault Refusal := .next (breakAgain s)

end Sys2Proof.Machine
end

