-- ==== Sys2Proof/Machine/Protection.lean ====
section
/-! DEFINITION. Protection and firmware (chapter 15): change records and two-party changes, credential slots, firmware slots
and their verification, PT_ZEROISE and PT_STATUS. -/
namespace Sys2Proof.Machine

def modPt (f : PtState → PtState) (s : State) : State := { s with pt := f s.pt }

/-! ### Change records (R457, Table PT-13) -/

/-- The fields of one record, as check 7 of R397 looks at them. -/
def changeFieldsOk (r : Rec) : Bool :=
  let p := r.payload
  !r.expert && !r.direct &&
    (match r.opcode with
      | 0x0B20 => p.length == 40 && decide (u8 p 0 ≤ 7) && decide (u8 p 1 ≤ 3)
      | 0x0B21 => p.length == 4 && decide (2 ≤ u8 p 0) && decide (u8 p 0 ≤ 14)
      | 0x0B22 => p.length == 4
      | 0x0B23 => p.length == 100 && decide (u8 p 0 ≤ 3)
      | 0x0B24 => p.length == 4
      | _ => false)

/-- A release lies between LG_OLDEST and LG_EXPORTED (R465). -/
def releaseOk (s : State) (r : Rec) : Bool :=
  r.opcode != 0x0B24 || (decide (s.lg.oldest ≤ u32 r.payload 0) && decide (u32 r.payload 0 ≤ s.lg.exported))

/-- The secret of a record: masked under the secret of the proposing slot (R459), in clear from an unauthenticated
proposal. -/
def recSecret (key : Option Bytes) (seq : Nat) (p : Bytes) : Bytes :=
  let x := slice p 8 32
  match key with
  | none => x
  | some k => xorBytes x (hmacSha256 k ([0x56, 0x44, 0x50, 0x54] ++ le 1 (u8 p 0) ++ le 4 seq))

/-- A credential slot is written: a new secret clears its sequence number (R453). Log entry 76 (DEDUCED). -/
def putCred (key : Option Bytes) (seq : Nat) (p : Bytes) (c : CredSlot) : CredSlot :=
  if u8 p 1 = 0 then { c with cls := 0, secret := [], seq := none } else { c with cls := u8 p 1, secret := recSecret key seq p, seq := none }

/-- One record applied. -/
def putChange (key : Option Bytes) (seq : Nat) (s : State) (r : Rec) : State :=
  let p := r.payload
  match r.opcode with
  | 0x0B20 => modCred (u8 p 0) (putCred key seq p) s
  | 0x0B21 => modPt (fun t => { t with allow := tabSet 0x0111 t.allow (u8 p 0) (u16 p 2 % 4096) }) s
  | 0x0B22 => modPt (fun t => { t with splitOrigin := bit p 0 2, signedCfg := bit p 0 1, retain := bit p 0 0 }) s
  | 0x0B23 =>
    let k := slice p 4 96
    modPt (fun t => { t with keys := modNth (fun _ => if k = zeros 96 then [] else k) t.keys (u8 p 0) }) s
  | 0x0B24 => { s with lg := { s.lg with released := if s.lg.released < u32 p 0 + 1 then u32 p 0 + 1 else s.lg.released } }
  | _ => s

def putChanges (key : Option Bytes) (seq : Nat) (rs : List Rec) (s : State) : State := rs.foldl (putChange key seq) s

def officers (cs : List CredSlot) : Nat := (cs.filter (fun c => c.cls == 3)).length

/-- The record set leaves none, or two or more OFFICER slots (R451). -/
def officersOk (rs : List Rec) (s : State) : Bool := officers (putChanges none 0 rs s).pt.cred != 1

/-! ### PT_PROPOSE, PT_CONFIRM, PT_WITHDRAW (R458, R477) -/

/-- The records of a PT_PROPOSE, when their number and form are right. -/
def proposeRecs (p : Bytes) : Option (List Rec) :=
  let n := u16 p 0
  match readRecs (p.length) (p.drop 8) with
  | none => none
  | some rs => if 1 ≤ n ∧ n ≤ 64 ∧ rs.length = n ∧ rs.all changeFieldsOk = true then some rs else none

/-- K_p: the secret of the slot that authenticated the proposal. -/
def proposerKey (c : Cmd) (s : State) : Option Bytes := if c.auth then some (credSlot s c.cred).secret else none

/-- Log entry 75 (DEDUCED). -/
def proposeRun (c : Cmd) (s : State) : State :=
  match proposeRecs c.payload with
  | none => respond c stBad [] s
  | some rs =>
    if s.pt.proposal.isSome then respond c stState [] s
    else if (rs.all (releaseOk s) && officersOk rs s) = false then respond c stBad [] s
    else
      let id := s.pt.nextProp
      let digest := digest64 (le 4 id ++ c.payload.drop 8)
      let s1 := modPt (fun t => { t with nextProp := (id + 1) % 2 ^ 32, expired := none }) s
      if isProtected s.pt.cred then
        let q : Proposal := { id, digest, recs := rs, slot := c.cred, origin := c.origin, seq := c.seq, until_ := s.clock + 120 * uPerS }
        respond c stDone (le 4 id ++ le 8 digest ++ compactForm (s.spindle + 120 * uPerS)) (modPt (fun t => { t with proposal := some q }) s1)
      else
        let d := drawFree (putChanges (proposerKey c s) c.seq rs s1)
        respond c stDone (le 4 id ++ le 8 digest ++ le 8 d.1) d.2

/-- Table PT-4. Log entry 75 (DEDUCED). -/
def confirmRun (c : Cmd) (s : State) : State :=
  match s.pt.proposal with
  | none => respond c (if s.pt.expired = some (u32 c.payload 0) then stWindow else stState) [] s
  | some q =>
    if q.until_ ≤ s.clock then respond c stWindow [] (cancelProposal s)
    else if c.auth = false ∨ c.cred = q.slot ∨ (s.pt.splitOrigin = true ∧ c.origin = q.origin) then respond c stAccess [] s
    else if u32 c.payload 0 ≠ q.id ∨ u64 c.payload 8 ≠ q.digest then
      respond c stBad [] (modPt (fun t => { t with proposal := none }) s)
    else
      let s1 := putChanges (some (credSlot s q.slot).secret) q.seq q.recs (modPt (fun t => { t with proposal := none }) s)
      respond c stDone [] s1

/-- Log entry 75 (DEDUCED). -/
def withdrawRun (c : Cmd) (s : State) : State :=
  match s.pt.proposal with
  | none => respond c stState [] s
  | some q => if u32 c.payload 0 = q.id then respond c stDone [] (cancelProposal s) else respond c stBad [] s

/-- PROPOSAL_EXPIRY: 120 s after the proposal's DONE (R458). -/
def proposalExpire (s : State) : State :=
  match s.pt.proposal with
  | none => s
  | some q => if q.until_ ≤ s.clock then modPt (fun t => { t with expired := some q.id }) (cancelProposal s) else s

/-- CREDENTIAL_SLOT_UNLOCK: a lock lasts 10 s (R454). -/
def slotUnlock (i : Nat) (s : State) : State :=
  modCred i (fun c => match c.lockedAt with
    | some t => if t + 10 * uPerS ≤ s.clock then { c with lockedAt := none } else c
    | none => c) s

/-! ### Firmware slots (R469 to R471, R479) -/

/-- The slot taken as running: in recovery boot, where nothing runs, the preferred one (log entry 79). -/
def runningB (s : State) : Bool := if s.pw.boot = .recovery then prefB s.pt else s.pt.runB

/-- What verification says of an image: 0 good, 1 its signature fails, 2 anything else (R469). Log entry 81 (DEDUCED). -/
def fwCheck (img : Bytes) : Nat :=
  let len := u32 img 16
  let body := slice img 512 len
  let key := slice img 112 96
  if img.take 4 != [0x56, 0x44, 0x46, 0x57] || u16 img 4 != 1 || decide (12582400 < len) || body.length != len ||
      sha384 body != slice img 64 48 || decide (3 < u8 img 12) || sha384 key != Config.fuseKeyDigest (u8 img 12) then 2
  else if ecdsaVerify key (img.take 208) (slice img 208 96) then 0 else 1

/-- A whole image has come: the slot's header is what it says. -/
def fwStored (img : Bytes) (f : FwSlot) : FwSlot :=
  { f with levelMaj := u8 img 6, levelMin := u8 img 7, build := u32 img 8, verifies := fwCheck img == 0, image := some img }

def noWriting (s : State) : State := modPt (fun t => { t with writing := none }) s

/-- PT_FW_WRITE: the order rule of R419; a segment at position 0 erases the slot first. Log entry 77 (DEDUCED). -/
def fwWriteRun (c : Cmd) (s : State) : State :=
  let pos := u32 c.payload 0
  let total := u32 c.payload 4
  let seg := c.payload.drop 8
  let b := !runningB s
  if 12582912 < total then respond c stBad [] s
  else if prefB s.pt = b then respond c stState [] s
  else
    let s1 := if pos = 0 then modFwSlot b (fun f => { f with verifies := false, image := none, build := 0 }) s else s
    let had : Option (Bool × Nat × Bytes) := if pos = 0 then some (b, total, []) else s1.pt.writing
    match had with
    | none => respond c stBad [] s1
    | some (w, t, got) =>
      if w ≠ b ∨ t ≠ total ∨ got.length ≠ pos ∨ total < pos + seg.length then respond c stBad [] (noWriting s1)
      else if pos + seg.length < total then respond c stDone [] (modPt (fun v => { v with writing := some (b, total, got ++ seg) }) s1)
      else respond c stDone [] (modFwSlot b (fwStored (got ++ seg)) (noWriting s1))

/-- The answer to an activation of a slot. Log entry 77 (DEDUCED). -/
def fwVerdict (f : FwSlot) : Option Nat :=
  match f.image with
  | none => if f.verifies then none else some stBad
  | some img => (match fwCheck img with
    | 0 => none
    | 1 => some stAccess
    | _ => some stBad)

/-- PT_FW_ACTIVATE (R470, R479). -/
def fwActivateRun (c : Cmd) (s : State) : State :=
  let b := if u8 c.payload 0 = 0 then !runningB s else runningB s
  let busy := match s.pt.writing with
    | some w => w.1 == b
    | none => false
  if u8 c.payload 0 > 1 ∨ u8 c.payload 1 > 3 then respond c stBad [] s
  else if busy then respond c stState [] s
  else match fwVerdict (fwSlot s b) with
    | some st => respond c st [] s
    | none => respond c stDone [] (modPt (writeHeader (u8 c.payload 1) b) s)

/-- PT_ZEROISE (R474, R479): only in recovery boot. Log entry 78 (DEDUCED). -/
def zeroiseRun (c : Cmd) (s : State) : State :=
  if u16 c.payload 0 ≠ 0x5A4E ∨ s.pw.boot ≠ .recovery then respond c stBad [] s
  else if s.pw.panelKey = true ∧ s.pw.panelNow = false then respond c stAccess [] s
  else
    let s1 := modPt (fun t => { t with cred := List.replicate 8 {}, allow := [], retain := false, signedCfg := false, splitOrigin := false,
                                       keys := List.replicate 4 [] }) s
    respond c stDone [] (lgEvent 0xFF0B 0 s1)

/-! ### PT_STATUS (Table PT-14) -/

def ptStatus (part : Nat) (s : State) : Bytes :=
  let t := s.pt
  let left := match t.proposal with
    | some q => (q.until_ - s.clock) / uPerS
    | none => 0
  let seqs : Nat → Bytes := fun i => le 4 ((credSlot s i).seq.getD 0)
  match part with
  | 0 =>
    le 2 ((List.range 8).foldl (fun a i => a + (credSlot s i).cls * 4 ^ i) 0) ++
      le 1 (8 * b2n (isProtected t.cred) + 4 * b2n t.splitOrigin + 2 * b2n t.signedCfg + b2n t.retain) ++
      le 1 (packBits ((List.range 8).map (credLocked s))) ++ le 4 (match t.proposal with | some q => q.id | none => 0) ++
      le 2 left ++ le 2 t.authFails ++ le 1 (packBits (t.keys.map (fun k => k != []))) ++ zeros 3
  | 1 =>
    le 1 (b2n t.runB) ++ le 1 (b2n (prefB t)) ++ le 1 (b2n t.slotA.verifies + 2 * b2n t.slotB.verifies + 4 * b2n t.rolledBack.isSome) ++
      zeros 1 ++ le 4 t.slotA.build ++ le 4 t.slotB.build ++ zeros 4
  | 2 => seqs 0 ++ seqs 1 ++ seqs 2 ++ seqs 3
  | _ => seqs 4 ++ seqs 5 ++ seqs 6 ++ seqs 7

/-! ### The meanings of the rows -/

def execPtPropose (k : OrdClass) (s : State) : Host.Outcome State Fault Refusal := .next (startNow k 0x0B10 proposeRun s)
def execPtConfirm (k : OrdClass) (s : State) : Host.Outcome State Fault Refusal := .next (startNow k 0x0B11 confirmRun s)
def execPtWithdraw (k : OrdClass) (s : State) : Host.Outcome State Fault Refusal := .next (startNow k 0x0B12 withdrawRun s)
/-- Log entry 5 (DESIGN CHOICE). -/
def execProposalExpiry (s : State) : Host.Outcome State Fault Refusal := .next (proposalExpire s)
def execCredentialSlotUnlock (slot : Nat) (s : State) : Host.Outcome State Fault Refusal := .next (slotUnlock slot s)
def execPtFwWrite (k : OrdClass) (s : State) : Host.Outcome State Fault Refusal := .next (startNow k 0x0D10 fwWriteRun s)
def execPtFwActivate (k : OrdClass) (s : State) : Host.Outcome State Fault Refusal := .next (startNow k 0x0D11 fwActivateRun s)
def execPtZeroise (k : OrdClass) (s : State) : Host.Outcome State Fault Refusal := .next (startNow k 0x0D12 zeroiseRun s)
def execPtStatus (k : OrdClass) (s : State) : Host.Outcome State Fault Refusal :=
  .next (startStatus k 0x0EA0 (fun p => decide (u8 p 0 ≤ 3)) (fun p t => ptStatus (u8 p 0) t) s)

end Sys2Proof.Machine
end

