-- ==== Sys2Proof/Machine/Frame.lean ====
section
/-! DEFINITION. The frame boundary (R6, R8, R272), the restart of the data plane (R23, R92, R127), and the tick of the
block's own clock on an empty queue. -/
namespace Sys2Proof.Machine

/-! ### Direct commands at the boundary -/

/-- What a direct command does at its frame boundary, by opcode; one that cannot act yet leaves the state alone and waits. -/
def applyDirect (c : Cmd) (s : State) : State :=
  match c.opcode with
  | 0x0311 => atFrame chkRootSelect applyRootSelect c s
  | 0x0312 => atFrame chkSetFrac applySetFrac c s
  | 0x0314 => atFrame chkFreqOffset applyFreqOffset c s
  | 0x0315 => atFrame chkPhaseMove applyMove c s
  | 0x0316 => atFrame chkPhaseRaw applyMove c s
  | 0x0317 => atFrame chkSlew applySlew c s
  | 0x0318 => atFrame chkSpread applySpread c s
  | 0x031A => atFrame chkRelock applyRelock c s
  | 0x0324 => atFrame chkSetTime applySetTime c s
  | 0x0325 => atFrame chkLeap applyLeap c s
  | 0x0326 => atFrame chkRefSelect applyRefSelect c s
  | 0x0327 => atFrame chkRealign applyRealign c s
  | 0x0416 => atFrame chkAdAlarm applyAdAlarm c s
  | 0x0417 => atFrame chkAdTrigger applyAdTrigger c s
  | 0x0418 => atFrame chkAdDiag applyAdDiag c s
  | 0x0419 => atFrame chkAdMicGain applyAdMicGain c s
  | 0x041A => atFrame chkAdClear applyAdClear c s
  | 0x0513 => atFrame chkDaHold applyDaHold c s
  | 0x0514 => atFrame chkDaLoad applyDaLoad c s
  | 0x0522 => atFrame chkPsSegWrite applyPsSegWrite c s
  | 0x0525 => atFrame chkPsLtcZone applyPsLtcZone c s
  | 0x0612 => atFrame chkXbDpSet applyXbDpSet c s
  | 0x0624 => atFrame chkTeCoef applyTeCoef c s
  | 0x0625 => atFrame chkTeEnable applyTeEnable c s
  | 0x0626 => atFrame chkTeGainDb applyTeGainDb c s
  | 0x0627 => atFrame chkTeEqBand applyTeEqBand c s
  | 0x0628 => atFrame chkTeDelaySet applyTeDelaySet c s
  | 0x0715 => atFrame chkFlowEnable applyFlowEnable c s
  | 0x0716 => atFrame chkSfpRead applySfpRead c s
  | 0x0811 => atFrame chkHpEnable applyHpEnable c s
  | 0x0812 => atFrame chkHpAttenSet applyHpAttenSet c s
  | 0x0814 => atFrame chkIdentify applyIdentify c s
  | 0x0817 => atFrame chkSnAck applySnAck c s
  | 0x0912 => atFrame chkForceSolo applyForceSolo c s
  | 0x0A11 => atFrame chkEvtSet applyEvtSet c s
  | 0x0A12 => atFrame chkDelaySet applyDelaySet c s
  | 0x0D20 => atFrame chkHush applyHush c s
  | 0x0D21 => atFrame chkPwDomain applyPwDomain c s
  | _ => s

/-- The place of an accepted direct command in the order of acceptance. -/
def frameOrder (c : Cmd) : Option Nat :=
  match c.phase with
  | .frame i => some i
  | _ => none

/-- A command is put into a list in order of acceptance. -/
def putOrder (c : Cmd) (i : Nat) : List (Nat × Cmd) → List (Nat × Cmd)
  | [] => [(i, c)]
  | e :: es => if i < e.1 then (i, c) :: e :: es else e :: putOrder c i es

/-- The direct commands that wait for a boundary, in order of acceptance. -/
def frameCmds (s : State) : List Cmd :=
  let add : List (Nat × Cmd) → Cmd → List (Nat × Cmd) := fun l c =>
    match frameOrder c with
    | some i => putOrder c i l
    | none => l
  (s.mb.cmds.foldl add []).map (fun e => e.2)

/-- A command that another one at the same boundary has answered acts no more. -/
def stillWaits (s : State) (c : Cmd) : Bool := s.mb.cmds.any (fun d => d.n == c.n && d.phase == c.phase)

/-- The codes of every DA_HOLD are staged before any strobe of the boundary, in order of acceptance (R235).
Log entry 46 (DEDUCED). -/
def stageHolds (s : State) : State :=
  (frameCmds s).foldl (fun (t : State) c => if c.opcode = 0x0513 ∧ u8 c.payload 0 ≤ 1 then holdStage c.payload t else t) s

/-- TK_SET_TIME goes first at its boundary: the step stops the frame that the other commands would act in (R138, R223). -/
def stepsFirst (cs : List Cmd) : List Cmd := cs.filter (fun c => c.opcode == 0x0324) ++ cs.filter (fun c => c.opcode != 0x0324)

/-- The direct commands act, in order of acceptance (R12, R293); none in HUSH or while the firmware is away. -/
def applyDirects (s : State) : State :=
  if serving s then
    (stepsFirst (frameCmds s)).foldl (fun (t : State) c => if stillWaits t c then applyDirect c t else t) (stageHolds s)
  else s

/-! ### One frame of the data plane -/

/-- The frame that ends: every consumer reads what the frame before wrote, every producer writes the buffer of this frame,
and a slot that nothing writes reads zero (R272). Log entry 6 (DESIGN CHOICE). -/
def planeFrame (inp : FrameInput) (s : State) : State :=
  let s1 := readFlows (dacFrame inp (txFrames s))
  let e := enginesFrame inp s1 []
  let b := pdmSlots inp e.1 (adcSlots inp e.1 e.2)
  let r := playFlows e.1 b
  let s2 := fpFrame (adcFrame inp (rxFrame inp r.1))
  { s2 with xb := { s2.xb with buf := r.2 } }

/-- The Spindle time counter runs: from step 4 of Sequence PW-1 on (R18, R62). -/
def spindleRuns (s : State) : Bool := s.ig.forwarding && !s.pw.inReset

/-- An amount of time passes on the device clock and on the Spindle time counter. Log entry 2 (DESIGN CHOICE). -/
def passTime (d : Nat) (s : State) : State :=
  { s with clock := s.clock + d, spindle := if spindleRuns s then s.spindle + d else s.spindle }

/-- Spindle time reaches the next frame boundary. -/
def toBoundary (s : State) : State := passTime (nextFrame (f441 s) s.spindle - s.spindle) s

/-- A gratuitous ARP is due at the first frame boundary with the fence open (R154). -/
def garpArm (s : State) : State :=
  { s with nw := { s.nw with garp := s.nw.garp || (s.fenceOpen && !s.nw.fenceSeen), fenceSeen := s.fenceOpen,
                             dueAt := s.clock + 4 * uPerUs } }

/-- The Spindle step that the tracking loop has asked for is loaded (R127). -/
def loadStep (s : State) : State :=
  match s.tk.step with
  | some q => spindleStep q s
  | none => s

/-- The data plane may restart now: at a frame boundary with MSYN locked after a relock (R92); at a whole second with every
residual move complete after a Spindle step or a change of family (R23, R127). -/
def restartDue (s : State) : Bool :=
  s.hs.msyn.lock == 4 &&
    (match s.dataPlane with
      | .relock => s.spindle % frameLen (f441 s) == 0
      | .second => s.spindle % uPerS == 0 && residualsDone s
      | _ => false)

/-- The data plane runs again: transmitters, sequencers and 1PPS_OUT wait for their next start, and TK_SET_TIME is answered
(R138). -/
def restartPlane (s : State) : State :=
  let ns := s.tk.stepCmds
  let s1 : State := { s with dataPlane := .running, tk := { s.tk with stepCmds := [] } }
  respondAll ns stDone [] (ppsRestart (txStart (s1.spindle / frameLen (f441 s1)) (psWait false s1)))

/-- The commands and strobes of a frame boundary: a Spindle step is loaded first, since the frame that it stops is the one
that the commands would act in (R223); then the direct commands act, and FRAME strobes fire. -/
def boundaryActs (s : State) : State := daFrame (applyDirects (loadStep s))

/-- What happens at a frame boundary: moves go on, a data plane that may restart does, and the commands act.
Log entry 6 (DESIGN CHOICE). -/
def atBoundary (s : State) : State :=
  let s1 := allSyn.foldl (fun (t : State) x => progressMove x t) s
  let s2 := garpArm (leapSource s1)
  let s3 := if restartDue s2 then restartPlane s2 else s2
  allSyn.foldl (fun (t : State) x => setFrameSlew x t) (boundaryActs s3)

/-- FRAME_BOUNDARY: the frame ends. A commit and media packets whose instant the frame held are done before, if no step of
their own has done them. Log entry 6 (DESIGN CHOICE). -/
def frameBoundary (inp : FrameInput) (s : State) : State :=
  let s1 := mediaDue (ptpFrame (fecCount inp (commitLive s)))
  let s2 := if s1.dataPlane = .running then planeFrame inp s1 else s1
  atBoundary (adSettle (toBoundary s2))

/-- DATA_PLANE_RESTART: at a frame boundary whose own step came before the lock or the last residual move. The writes
accepted in the stop act in the first frame, on the old tables first (R12), and a commit whose boundary fell in the stop
becomes live (R406). -/
def planeRestart (s : State) : State := if restartDue s then commitLive (boundaryActs (restartPlane s)) else s

/-! ### The tick -/

/-- A cycle of MCLK passes, never over a frame boundary, and one waiting frame leaves IGR_OUT. -/
def tick (s : State) : State :=
  let m := mclkLen (f441 s)
  let s1 := adSettle (if s.spindle + m < nextFrame (f441 s) s.spindle then passTime m s else s)
  if ringRuns s1 then ringDrain s1 else s1

/-- One step on an empty queue: no time passes over a commit that is due, so it becomes live first; then the tick.
Log entry 2 (DESIGN CHOICE). Log entry 70 (DEDUCED). -/
def idleStep (s : State) : State := tick (commitLive s)

/-! ### The meanings of the rows -/

def execFrameBoundary (input : FrameInput) (s : State) : Host.Outcome State Fault Refusal := .next (frameBoundary input s)
def execDataPlaneRestart (s : State) : Host.Outcome State Fault Refusal := .next (planeRestart s)

end Sys2Proof.Machine
end

