-- ==== Sys2Proof/Machine/Dispatch.lean ====
section
/-! DEFINITION. The effect of each command and event of the table on everything but the queue. -/
namespace Sys2Proof.Machine

def exec (i : Instr) (s : State) : Host.Outcome State Fault Refusal :=
  match i with
  | .hostWindowWrite addr data => Sys2Proof.Machine.execHostWindowWrite addr data s
  | .hwDoorbell value => Sys2Proof.Machine.execHwDoorbell value s
  | .hwRspTail value => Sys2Proof.Machine.execHwRspTail value s
  | .hwIrqStatus value => Sys2Proof.Machine.execHwIrqStatus value s
  | .hwIrqEnable value => Sys2Proof.Machine.execHwIrqEnable value s
  | .resetKeyFirst value => Sys2Proof.Machine.execResetKeyFirst value s
  | .sessionReset value => Sys2Proof.Machine.execSessionReset value s
  | .controlReset value => Sys2Proof.Machine.execControlReset value s
  | .fullReset value => Sys2Proof.Machine.execFullReset value s
  | .powerUp bankHigh => Sys2Proof.Machine.execPowerUp bankHigh s
  | .powerOnResetAssert aonInRange => Sys2Proof.Machine.execPowerOnResetAssert aonInRange s
  | .supplyMonitorTrip rail => Sys2Proof.Machine.execSupplyMonitorTrip rail s
  | .rstNLow ns => Sys2Proof.Machine.execRstNLow ns s
  | .internalResetRelease straps => Sys2Proof.Machine.execInternalResetRelease straps s
  | .slotVerifyComplete slotB ok => Sys2Proof.Machine.execSlotVerifyComplete slotB ok s
  | .bootComplete selfTestOk => Sys2Proof.Machine.execBootComplete selfTestOk s
  | .panelKeyChange key => Sys2Proof.Machine.execPanelKeyChange key s
  | .frameBoundary input => Sys2Proof.Machine.execFrameBoundary input s
  | .eccError uncorrectable => Sys2Proof.Machine.execEccError uncorrectable s
  | .dieTempSample centi => Sys2Proof.Machine.execDieTempSample centi s
  | .dieTemperatureTrip centi => Sys2Proof.Machine.execDieTemperatureTrip centi s
  | .pwHush k => Sys2Proof.Machine.execPwHush k s
  | .hushExitRestart scrubOk => Sys2Proof.Machine.execHushExitRestart scrubOk s
  | .pwDomain k => Sys2Proof.Machine.execPwDomain k s
  | .domainStartupComplete d => Sys2Proof.Machine.execDomainStartupComplete d s
  | .domainShutdownComplete d => Sys2Proof.Machine.execDomainShutdownComplete d s
  | .hsRootCfg k => Sys2Proof.Machine.execHsRootCfg k s
  | .hsRootSelect k => Sys2Proof.Machine.execHsRootSelect k s
  | .hsSetFrac k => Sys2Proof.Machine.execHsSetFrac k s
  | .hsSynthCfg k => Sys2Proof.Machine.execHsSynthCfg k s
  | .hsFreqOffset k => Sys2Proof.Machine.execHsFreqOffset k s
  | .hsPhaseMove k => Sys2Proof.Machine.execHsPhaseMove k s
  | .hsPhaseRaw k => Sys2Proof.Machine.execHsPhaseRaw k s
  | .hsSlew k => Sys2Proof.Machine.execHsSlew k s
  | .hsSpread k => Sys2Proof.Machine.execHsSpread k s
  | .hsToolrest k => Sys2Proof.Machine.execHsToolrest k s
  | .hsRelock k => Sys2Proof.Machine.execHsRelock k s
  | .hsStatus k => Sys2Proof.Machine.execHsStatus k s
  | .synthLockDeclared syn => Sys2Proof.Machine.execSynthLockDeclared syn s
  | .synthLockTimeout syn => Sys2Proof.Machine.execSynthLockTimeout syn s
  | .synthLossOfLock syn => Sys2Proof.Machine.execSynthLossOfLock syn s
  | .phaseMoveComplete syn => Sys2Proof.Machine.execPhaseMoveComplete syn s
  | .rootDisqualified root => Sys2Proof.Machine.execRootDisqualified root s
  | .rootConditionClear root => Sys2Proof.Machine.execRootConditionClear root s
  | .rootQualified root => Sys2Proof.Machine.execRootQualified root s
  | .rootRatioUpdate ratioDev devA devB => Sys2Proof.Machine.execRootRatioUpdate ratioDev devA devB s
  | .toolrestWindow out count => Sys2Proof.Machine.execToolrestWindow out count s
  | .toolrestGateOpen out => Sys2Proof.Machine.execToolrestGateOpen out s
  | .tkCfg k => Sys2Proof.Machine.execTkCfg k s
  | .tkCand k => Sys2Proof.Machine.execTkCand k s
  | .tkPolicy k => Sys2Proof.Machine.execTkPolicy k s
  | .tkRootChar k => Sys2Proof.Machine.execTkRootChar k s
  | .tkSetTime k => Sys2Proof.Machine.execTkSetTime k s
  | .tkLeap k => Sys2Proof.Machine.execTkLeap k s
  | .tkRefSelect k => Sys2Proof.Machine.execTkRefSelect k s
  | .tkRealign k => Sys2Proof.Machine.execTkRealign k s
  | .tkStatus k => Sys2Proof.Machine.execTkStatus k s
  | .tkOffsets k => Sys2Proof.Machine.execTkOffsets k s
  | .tkCandStatus k => Sys2Proof.Machine.execTkCandStatus k s
  | .candidateSignalAppear idx => Sys2Proof.Machine.execCandidateSignalAppear idx s
  | .candidateIntervalEval idx freq delta => Sys2Proof.Machine.execCandidateIntervalEval idx freq delta s
  | .candidateQualified idx delta => Sys2Proof.Machine.execCandidateQualified idx delta s
  | .referenceLoss loss => Sys2Proof.Machine.execReferenceLoss loss s
  | .loopUpdate delta => Sys2Proof.Machine.execLoopUpdate delta s
  | .holdoverUpdate centi => Sys2Proof.Machine.execHoldoverUpdate centi s
  | .ppsInEdge fraction => Sys2Proof.Machine.execPpsInEdge fraction s
  | .wclkInEdge at_ps => Sys2Proof.Machine.execWclkInEdge at_ps s
  | .videoRefWindow w => Sys2Proof.Machine.execVideoRefWindow w s
  | .nwPortCfg k => Sys2Proof.Machine.execNwPortCfg k s
  | .nwPtpCfg k => Sys2Proof.Machine.execNwPtpCfg k s
  | .nwPtpPort k => Sys2Proof.Machine.execNwPtpPort k s
  | .nwRxFlow k => Sys2Proof.Machine.execNwRxFlow k s
  | .nwTxFlow k => Sys2Proof.Machine.execNwTxFlow k s
  | .nwFlowEnable k => Sys2Proof.Machine.execNwFlowEnable k s
  | .nwSfpRead k => Sys2Proof.Machine.execNwSfpRead k s
  | .nwPortStatus k => Sys2Proof.Machine.execNwPortStatus k s
  | .nwPtpStatus k => Sys2Proof.Machine.execNwPtpStatus k s
  | .nwFlowStatus k => Sys2Proof.Machine.execNwFlowStatus k s
  | .sfpModuleInserted port identity => Sys2Proof.Machine.execSfpModuleInserted port identity s
  | .sfpModuleRemoved port => Sys2Proof.Machine.execSfpModuleRemoved port s
  | .linkTrainingAlternate port => Sys2Proof.Machine.execLinkTrainingAlternate port s
  | .linkUp lock => Sys2Proof.Machine.execLinkUp lock s
  | .linkDown fail => Sys2Proof.Machine.execLinkDown fail s
  | .mediaPacketReceived port p => Sys2Proof.Machine.execMediaPacketReceived port p s
  | .frameDiscarded f => Sys2Proof.Machine.execFrameDiscarded f s
  | .arpRequestReceived port target sender senderMac => Sys2Proof.Machine.execArpRequestReceived port target sender senderMac s
  | .arpReplyReceived port ip mac => Sys2Proof.Machine.execArpReplyReceived port ip mac s
  | .arpEntryAge port ip => Sys2Proof.Machine.execArpEntryAge port ip s
  | .arpRetry port ip => Sys2Proof.Machine.execArpRetry port ip s
  | .icmpEchoReceived port path payload => Sys2Proof.Machine.execIcmpEchoReceived port path payload s
  | .igmpQueryReceived port query => Sys2Proof.Machine.execIgmpQueryReceived port query s
  | .igmpReport port => Sys2Proof.Machine.execIgmpReport port s
  | .ptpSyncReceived port h twoStep origin arrival => Sys2Proof.Machine.execPtpSyncReceived port h twoStep origin arrival s
  | .ptpFollowUpReceived port h origin => Sys2Proof.Machine.execPtpFollowUpReceived port h origin s
  | .ptpAnnounceReceived port h a => Sys2Proof.Machine.execPtpAnnounceReceived port h a s
  | .ptpDelayReqReceived port h arrival => Sys2Proof.Machine.execPtpDelayReqReceived port h arrival s
  | .ptpDelayRespReceived port h requester receipt => Sys2Proof.Machine.execPtpDelayRespReceived port h requester receipt s
  | .ptpAnnounceTimeout port => Sys2Proof.Machine.execPtpAnnounceTimeout port s
  | .ptpSyncDue port => Sys2Proof.Machine.execPtpSyncDue port s
  | .ptpAnnounceDue port => Sys2Proof.Machine.execPtpAnnounceDue port s
  | .ptpDelayReqDue port departure => Sys2Proof.Machine.execPtpDelayReqDue port departure s
  | .flowLost flow => Sys2Proof.Machine.execFlowLost flow s
  | .flowPathLost flow pathB => Sys2Proof.Machine.execFlowPathLost flow pathB s
  | .adCfg k => Sys2Proof.Machine.execAdCfg k s
  | .adPairCfg k => Sys2Proof.Machine.execAdPairCfg k s
  | .adSeqCfg k => Sys2Proof.Machine.execAdSeqCfg k s
  | .adSlot k => Sys2Proof.Machine.execAdSlot k s
  | .adPreset k => Sys2Proof.Machine.execAdPreset k s
  | .adTimer k => Sys2Proof.Machine.execAdTimer k s
  | .adAlarm k => Sys2Proof.Machine.execAdAlarm k s
  | .adTrigger k => Sys2Proof.Machine.execAdTrigger k s
  | .adDiag k => Sys2Proof.Machine.execAdDiag k s
  | .adMicGain k => Sys2Proof.Machine.execAdMicGain k s
  | .adClear k => Sys2Proof.Machine.execAdClear k s
  | .adStatus k => Sys2Proof.Machine.execAdStatus k s
  | .adResult k => Sys2Proof.Machine.execAdResult k s
  | .triggerPinEdge pin edge => Sys2Proof.Machine.execTriggerPinEdge pin edge s
  | .measurementTimerFire n => Sys2Proof.Machine.execMeasurementTimerFire n s
  | .spindleAlarmFire n => Sys2Proof.Machine.execSpindleAlarmFire n s
  | .slotStart q => Sys2Proof.Machine.execSlotStart q s
  | .windowPublish q samples => Sys2Proof.Machine.execWindowPublish q samples s
  | .daOutCfg k => Sys2Proof.Machine.execDaOutCfg k s
  | .daBankCfg k => Sys2Proof.Machine.execDaBankCfg k s
  | .daDdsCfg k => Sys2Proof.Machine.execDaDdsCfg k s
  | .daHold k => Sys2Proof.Machine.execDaHold k s
  | .daLoad k => Sys2Proof.Machine.execDaLoad k s
  | .daFaultValues k => Sys2Proof.Machine.execDaFaultValues k s
  | .psCfg k => Sys2Proof.Machine.execPsCfg k s
  | .psSeg k => Sys2Proof.Machine.execPsSeg k s
  | .psSegWrite k => Sys2Proof.Machine.execPsSegWrite k s
  | .psShape k => Sys2Proof.Machine.execPsShape k s
  | .psPreset k => Sys2Proof.Machine.execPsPreset k s
  | .psLtcZone k => Sys2Proof.Machine.execPsLtcZone k s
  | .daStatus k => Sys2Proof.Machine.execDaStatus k s
  | .psStatus k => Sys2Proof.Machine.execPsStatus k s
  | .loadInEdge edge => Sys2Proof.Machine.execLoadInEdge edge s
  | .rangeChangeEnd dac => Sys2Proof.Machine.execRangeChangeEnd dac s
  | .sequencerStart n => Sys2Proof.Machine.execSequencerStart n s
  | .segmentEntry n => Sys2Proof.Machine.execSegmentEntry n s
  | .ltcFrameWrite n => Sys2Proof.Machine.execLtcFrameWrite n s
  | .dgClkCfg k => Sys2Proof.Machine.execDgClkCfg k s
  | .dgPpsCfg k => Sys2Proof.Machine.execDgPpsCfg k s
  | .dgTxCfg k => Sys2Proof.Machine.execDgTxCfg k s
  | .dgCsRaw k => Sys2Proof.Machine.execDgCsRaw k s
  | .dgRxCfg k => Sys2Proof.Machine.execDgRxCfg k s
  | .dgClkStatus k => Sys2Proof.Machine.execDgClkStatus k s
  | .dgRxStatus k => Sys2Proof.Machine.execDgRxStatus k s
  | .clockOutputRephase out => Sys2Proof.Machine.execClockOutputRephase out s
  | .ppsOutPulse edge => Sys2Proof.Machine.execPpsOutPulse edge s
  | .aes3RxLock rx good => Sys2Proof.Machine.execAes3RxLock rx good s
  | .aes3RxLoss bad => Sys2Proof.Machine.execAes3RxLoss bad s
  | .xbRoute k => Sys2Proof.Machine.execXbRoute k s
  | .xbDpCfg k => Sys2Proof.Machine.execXbDpCfg k s
  | .xbDpSet k => Sys2Proof.Machine.execXbDpSet k s
  | .teCfg k => Sys2Proof.Machine.execTeCfg k s
  | .teOps k => Sys2Proof.Machine.execTeOps k s
  | .teOperands k => Sys2Proof.Machine.execTeOperands k s
  | .teCoefInit k => Sys2Proof.Machine.execTeCoefInit k s
  | .teCoef k => Sys2Proof.Machine.execTeCoef k s
  | .teEnable k => Sys2Proof.Machine.execTeEnable k s
  | .teGainDb k => Sys2Proof.Machine.execTeGainDb k s
  | .teEqBand k => Sys2Proof.Machine.execTeEqBand k s
  | .teDelaySet k => Sys2Proof.Machine.execTeDelaySet k s
  | .tePreset k => Sys2Proof.Machine.execTePreset k s
  | .teStatus k => Sys2Proof.Machine.execTeStatus k s
  | .teMeterRead k => Sys2Proof.Machine.execTeMeterRead k s
  | .engineFrameOverrun eng doneOps => Sys2Proof.Machine.execEngineFrameOverrun eng doneOps s
  | .asrcLock rx ratio => Sys2Proof.Machine.execAsrcLock rx ratio s
  | .fpHpCfg k => Sys2Proof.Machine.execFpHpCfg k s
  | .fpHpEnable k => Sys2Proof.Machine.execFpHpEnable k s
  | .fpHpAttenSet k => Sys2Proof.Machine.execFpHpAttenSet k s
  | .fpJackCfg k => Sys2Proof.Machine.execFpJackCfg k s
  | .fpIdentify k => Sys2Proof.Machine.execFpIdentify k s
  | .fpPdmCfg k => Sys2Proof.Machine.execFpPdmCfg k s
  | .snCfg k => Sys2Proof.Machine.execSnCfg k s
  | .snAck k => Sys2Proof.Machine.execSnAck k s
  | .fpStatus k => Sys2Proof.Machine.execFpStatus k s
  | .snStatus k => Sys2Proof.Machine.execSnStatus k s
  | .jackDetChange level => Sys2Proof.Machine.execJackDetChange level s
  | .identificationComplete biasA biasB loadOhm => Sys2Proof.Machine.execIdentificationComplete biasA biasB loadOhm s
  | .buttonWindow minUa maxUa => Sys2Proof.Machine.execButtonWindow minUa maxUa s
  | .sentinelBlock b => Sys2Proof.Machine.execSentinelBlock b s
  | .twCfg k => Sys2Proof.Machine.execTwCfg k s
  | .twSwap k => Sys2Proof.Machine.execTwSwap k s
  | .twForceSolo k => Sys2Proof.Machine.execTwForceSolo k s
  | .twResync k => Sys2Proof.Machine.execTwResync k s
  | .twStatus k => Sys2Proof.Machine.execTwStatus k s
  | .renewDue live => Sys2Proof.Machine.execRenewDue live s
  | .leaseRenew path f => Sys2Proof.Machine.execLeaseRenew path f s
  | .leaseAck path f => Sys2Proof.Machine.execLeaseAck path f s
  | .leaseRelease path f => Sys2Proof.Machine.execLeaseRelease path f s
  | .leaseWaive path f => Sys2Proof.Machine.execLeaseWaive path f s
  | .leaseNull path f => Sys2Proof.Machine.execLeaseNull path f s
  | .pathServiceChange path delay => Sys2Proof.Machine.execPathServiceChange path delay s
  | .twTime lane level t1 t2 t3 t4 => Sys2Proof.Machine.execTwTime lane level t1 t2 t3 t4 s
  | .twState lane level m => Sys2Proof.Machine.execTwState lane level m s
  | .twMirror lane level m => Sys2Proof.Machine.execTwMirror lane level m s
  | .twRelay lane level m => Sys2Proof.Machine.execTwRelay lane level m s
  | .twLedger lane level entry => Sys2Proof.Machine.execTwLedger lane level entry s
  | .twSwapReq lane level at_time => Sys2Proof.Machine.execTwSwapReq lane level at_time s
  | .twSwapAck lane level at_time accept => Sys2Proof.Machine.execTwSwapAck lane level at_time accept s
  | .resyncReq lane level gen digest lastWserial => Sys2Proof.Machine.execResyncReq lane level gen digest lastWserial s
  | .resyncData lane level d => Sys2Proof.Machine.execResyncData lane level d s
  | .igCfg k => Sys2Proof.Machine.execIgCfg k s
  | .igEvtSet k => Sys2Proof.Machine.execIgEvtSet k s
  | .igDelaySet k => Sys2Proof.Machine.execIgDelaySet k s
  | .igStatus k => Sys2Proof.Machine.execIgStatus k s
  | .igSnapRead k => Sys2Proof.Machine.execIgSnapRead k s
  | .ringFrameForward f => Sys2Proof.Machine.execRingFrameForward f s
  | .ringEnumerate f => Sys2Proof.Machine.execRingEnumerate f s
  | .ringReset f => Sys2Proof.Machine.execRingReset f s
  | .ringCommand f => Sys2Proof.Machine.execRingCommand f s
  | .ringWread f => Sys2Proof.Machine.execRingWread f s
  | .ringWwrite f => Sys2Proof.Machine.execRingWwrite f s
  | .ringDoorbell f => Sys2Proof.Machine.execRingDoorbell f s
  | .ringResetFrame f => Sys2Proof.Machine.execRingResetFrame f s
  | .ringBarrier f => Sys2Proof.Machine.execRingBarrier f s
  | .ringSnapshot f => Sys2Proof.Machine.execRingSnapshot f s
  | .ringTime f arrival departure => Sys2Proof.Machine.execRingTime f arrival departure s
  | .mbHello k => Sys2Proof.Machine.execMbHello k s
  | .mbDrain k => Sys2Proof.Machine.execMbDrain k s
  | .mbStageBegin k => Sys2Proof.Machine.execMbStageBegin k s
  | .mbStageAbort k => Sys2Proof.Machine.execMbStageAbort k s
  | .mbCommit k => Sys2Proof.Machine.execMbCommit k s
  | .mbCancel k => Sys2Proof.Machine.execMbCancel k s
  | .mbImageLoad k => Sys2Proof.Machine.execMbImageLoad k s
  | .mbSummary k => Sys2Proof.Machine.execMbSummary k s
  | .mbConfigStatus k => Sys2Proof.Machine.execMbConfigStatus k s
  | .ptPropose k => Sys2Proof.Machine.execPtPropose k s
  | .ptConfirm k => Sys2Proof.Machine.execPtConfirm k s
  | .ptWithdraw k => Sys2Proof.Machine.execPtWithdraw k s
  | .credentialSlotUnlock slot => Sys2Proof.Machine.execCredentialSlotUnlock slot s
  | .lgExport k => Sys2Proof.Machine.execLgExport k s
  | .lgFlush k => Sys2Proof.Machine.execLgFlush k s
  | .ptFwWrite k => Sys2Proof.Machine.execPtFwWrite k s
  | .ptFwActivate k => Sys2Proof.Machine.execPtFwActivate k s
  | .ptZeroise k => Sys2Proof.Machine.execPtZeroise k s
  | .ptStatus k => Sys2Proof.Machine.execPtStatus k s
  | .lgStatus k => Sys2Proof.Machine.execLgStatus k s
  | .refSettled pair => Sys2Proof.Machine.execRefSettled pair s
  | .vrefInRangeChange inRange => Sys2Proof.Machine.execVrefInRangeChange inRange s
  | .hpCurrentLimit right => Sys2Proof.Machine.execHpCurrentLimit right s
  | .bootRootActivity a b => Sys2Proof.Machine.execBootRootActivity a b s
  | .mbResetDone => Sys2Proof.Machine.execMbResetDone s
  | .commitLive => Sys2Proof.Machine.execCommitLive s
  | .faultCodeLoad => Sys2Proof.Machine.execFaultCodeLoad s
  | .lockstepMismatch => Sys2Proof.Machine.execLockstepMismatch s
  | .watchdogExpiry => Sys2Proof.Machine.execWatchdogExpiry s
  | .scrubCrcFailure => Sys2Proof.Machine.execScrubCrcFailure s
  | .hushEntryComplete => Sys2Proof.Machine.execHushEntryComplete s
  | .hushWake => Sys2Proof.Machine.execHushWake s
  | .dataPlaneRestart => Sys2Proof.Machine.execDataPlaneRestart s
  | .rootRevert => Sys2Proof.Machine.execRootRevert s
  | .acquisitionComplete => Sys2Proof.Machine.execAcquisitionComplete s
  | .holdoverAged => Sys2Proof.Machine.execHoldoverAged s
  | .leapApplied => Sys2Proof.Machine.execLeapApplied s
  | .gratuitousArp => Sys2Proof.Machine.execGratuitousArp s
  | .mediaPacketDue => Sys2Proof.Machine.execMediaPacketDue s
  | .faultValuesFlashWrite => Sys2Proof.Machine.execFaultValuesFlashWrite s
  | .meterWindowEnd => Sys2Proof.Machine.execMeterWindowEnd s
  | .hpEnableComplete => Sys2Proof.Machine.execHpEnableComplete s
  | .hpDisableComplete => Sys2Proof.Machine.execHpDisableComplete s
  | .hpSafeOff => Sys2Proof.Machine.execHpSafeOff s
  | .jackConfirmed => Sys2Proof.Machine.execJackConfirmed s
  | .hpClampRelease => Sys2Proof.Machine.execHpClampRelease s
  | .micbiasFenceOff => Sys2Proof.Machine.execMicbiasFenceOff s
  | .micbiasFenceOn => Sys2Proof.Machine.execMicbiasFenceOn s
  | .buttonDeclared => Sys2Proof.Machine.execButtonDeclared s
  | .alarmOutHoldExpiry => Sys2Proof.Machine.execAlarmOutHoldExpiry s
  | .leaseEnd => Sys2Proof.Machine.execLeaseEnd s
  | .expiryTakeover => Sys2Proof.Machine.execExpiryTakeover s
  | .arbitrationClaim => Sys2Proof.Machine.execArbitrationClaim s
  | .partingToolTrip => Sys2Proof.Machine.execPartingToolTrip s
  | .twinMsTick => Sys2Proof.Machine.execTwinMsTick s
  | .swapInstant => Sys2Proof.Machine.execSwapInstant s
  | .swapTakeTimeout => Sys2Proof.Machine.execSwapTakeTimeout s
  | .resyncCommit => Sys2Proof.Machine.execResyncCommit s
  | .twHotTimeout => Sys2Proof.Machine.execTwHotTimeout s
  | .ringResetComplete => Sys2Proof.Machine.execRingResetComplete s
  | .ringBarrierRelease => Sys2Proof.Machine.execRingBarrierRelease s
  | .ringBarrierTimeout => Sys2Proof.Machine.execRingBarrierTimeout s
  | .snapshotCapture => Sys2Proof.Machine.execSnapshotCapture s
  | .ringTimeDue => Sys2Proof.Machine.execRingTimeDue s
  | .ringEvent => Sys2Proof.Machine.execRingEvent s
  | .ringJoin => Sys2Proof.Machine.execRingJoin s
  | .igrInUp => Sys2Proof.Machine.execIgrInUp s
  | .igrInDown => Sys2Proof.Machine.execIgrInDown s
  | .ringBreak => Sys2Proof.Machine.execRingBreak s
  | .proposalExpiry => Sys2Proof.Machine.execProposalExpiry s
  | .ledgerEntryClose => Sys2Proof.Machine.execLedgerEntryClose s
  | .ledgerFlashWrite => Sys2Proof.Machine.execLedgerFlashWrite s
  | .ledgerSectorErase => Sys2Proof.Machine.execLedgerSectorErase s

end Sys2Proof.Machine
end

