-- ==== Sys2Proof/Safety.lean ====
section
/-! DEFINITION. What counts as safe, and how the rows of the table are sorted: the terms in which the statements speak. -/
namespace Sys2Proof.Machine

/-- How a row goes on: the four kinds of mailbox command with their opcodes, and events. -/
inductive RowKind where
  /-- Staged and answered ACCEPTED (R401). -/
  | staged (op : Nat)
  /-- Accepted, and acting at the next frame (R105, R399). -/
  | direct (op : Nat)
  /-- Answered with the state of the device at once (R413). -/
  | status (op : Nat)
  /-- Acting when it starts. -/
  | immediate (op : Nat)
  /-- An event, a register write or a frame: no opcode of the mailbox. -/
  | event
deriving DecidableEq, Repr

/-- The kind of each row, with the ordering class whose next command it starts. -/
def rowKind : Instr → OrdClass × RowKind
  | .pwHush k => (k, .direct 0x0D20)
  | .pwDomain k => (k, .direct 0x0D21)
  | .hsRootCfg k => (k, .staged 0x0310)
  | .hsRootSelect k => (k, .direct 0x0311)
  | .hsSetFrac k => (k, .direct 0x0312)
  | .hsSynthCfg k => (k, .staged 0x0313)
  | .hsFreqOffset k => (k, .direct 0x0314)
  | .hsPhaseMove k => (k, .direct 0x0315)
  | .hsPhaseRaw k => (k, .direct 0x0316)
  | .hsSlew k => (k, .direct 0x0317)
  | .hsSpread k => (k, .direct 0x0318)
  | .hsToolrest k => (k, .staged 0x0319)
  | .hsRelock k => (k, .direct 0x031A)
  | .hsStatus k => (k, .status 0x0E10)
  | .tkCfg k => (k, .staged 0x0320)
  | .tkCand k => (k, .staged 0x0321)
  | .tkPolicy k => (k, .staged 0x0322)
  | .tkRootChar k => (k, .staged 0x0323)
  | .tkSetTime k => (k, .direct 0x0324)
  | .tkLeap k => (k, .direct 0x0325)
  | .tkRefSelect k => (k, .direct 0x0326)
  | .tkRealign k => (k, .direct 0x0327)
  | .tkStatus k => (k, .status 0x0E11)
  | .tkOffsets k => (k, .status 0x0E12)
  | .tkCandStatus k => (k, .status 0x0E13)
  | .nwPortCfg k => (k, .staged 0x0710)
  | .nwPtpCfg k => (k, .staged 0x0711)
  | .nwPtpPort k => (k, .staged 0x0712)
  | .nwRxFlow k => (k, .staged 0x0713)
  | .nwTxFlow k => (k, .staged 0x0714)
  | .nwFlowEnable k => (k, .direct 0x0715)
  | .nwSfpRead k => (k, .direct 0x0716)
  | .nwPortStatus k => (k, .status 0x0E20)
  | .nwPtpStatus k => (k, .status 0x0E21)
  | .nwFlowStatus k => (k, .status 0x0E22)
  | .adCfg k => (k, .staged 0x0410)
  | .adPairCfg k => (k, .staged 0x0411)
  | .adSeqCfg k => (k, .staged 0x0412)
  | .adSlot k => (k, .staged 0x0413)
  | .adPreset k => (k, .staged 0x0414)
  | .adTimer k => (k, .staged 0x0415)
  | .adAlarm k => (k, .direct 0x0416)
  | .adTrigger k => (k, .direct 0x0417)
  | .adDiag k => (k, .direct 0x0418)
  | .adMicGain k => (k, .direct 0x0419)
  | .adClear k => (k, .direct 0x041A)
  | .adStatus k => (k, .immediate 0x0E30)
  | .adResult k => (k, .immediate 0x0E31)
  | .daOutCfg k => (k, .staged 0x0510)
  | .daBankCfg k => (k, .staged 0x0511)
  | .daDdsCfg k => (k, .staged 0x0512)
  | .daHold k => (k, .direct 0x0513)
  | .daLoad k => (k, .direct 0x0514)
  | .daFaultValues k => (k, .staged 0x0515)
  | .psCfg k => (k, .staged 0x0520)
  | .psSeg k => (k, .staged 0x0521)
  | .psSegWrite k => (k, .direct 0x0522)
  | .psShape k => (k, .staged 0x0523)
  | .psPreset k => (k, .staged 0x0524)
  | .psLtcZone k => (k, .direct 0x0525)
  | .daStatus k => (k, .status 0x0E40)
  | .psStatus k => (k, .status 0x0E41)
  | .dgClkCfg k => (k, .staged 0x0530)
  | .dgPpsCfg k => (k, .staged 0x0531)
  | .dgTxCfg k => (k, .staged 0x0532)
  | .dgCsRaw k => (k, .staged 0x0533)
  | .dgRxCfg k => (k, .staged 0x0534)
  | .dgClkStatus k => (k, .status 0x0E70)
  | .dgRxStatus k => (k, .status 0x0E71)
  | .xbRoute k => (k, .staged 0x0610)
  | .xbDpCfg k => (k, .staged 0x0611)
  | .xbDpSet k => (k, .direct 0x0612)
  | .teCfg k => (k, .staged 0x0620)
  | .teOps k => (k, .staged 0x0621)
  | .teOperands k => (k, .staged 0x0622)
  | .teCoefInit k => (k, .staged 0x0623)
  | .teCoef k => (k, .direct 0x0624)
  | .teEnable k => (k, .direct 0x0625)
  | .teGainDb k => (k, .direct 0x0626)
  | .teEqBand k => (k, .direct 0x0627)
  | .teDelaySet k => (k, .direct 0x0628)
  | .tePreset k => (k, .staged 0x0630)
  | .teStatus k => (k, .status 0x0E50)
  | .teMeterRead k => (k, .status 0x0E51)
  | .fpHpCfg k => (k, .staged 0x0810)
  | .fpHpEnable k => (k, .direct 0x0811)
  | .fpHpAttenSet k => (k, .direct 0x0812)
  | .fpJackCfg k => (k, .staged 0x0813)
  | .fpIdentify k => (k, .direct 0x0814)
  | .fpPdmCfg k => (k, .staged 0x0815)
  | .snCfg k => (k, .staged 0x0816)
  | .snAck k => (k, .direct 0x0817)
  | .fpStatus k => (k, .status 0x0E60)
  | .snStatus k => (k, .status 0x0E61)
  | .twCfg k => (k, .staged 0x0910)
  | .twSwap k => (k, .immediate 0x0911)
  | .twForceSolo k => (k, .direct 0x0912)
  | .twResync k => (k, .immediate 0x0913)
  | .twStatus k => (k, .status 0x0E80)
  | .igCfg k => (k, .staged 0x0A10)
  | .igEvtSet k => (k, .direct 0x0A11)
  | .igDelaySet k => (k, .direct 0x0A12)
  | .igStatus k => (k, .status 0x0E90)
  | .igSnapRead k => (k, .status 0x0E91)
  | .mbHello k => (k, .immediate 0x0110)
  | .mbDrain k => (k, .immediate 0x0111)
  | .mbStageBegin k => (k, .immediate 0x0210)
  | .mbStageAbort k => (k, .immediate 0x0211)
  | .mbCommit k => (k, .immediate 0x0212)
  | .mbCancel k => (k, .immediate 0x0213)
  | .mbImageLoad k => (k, .immediate 0x0214)
  | .mbSummary k => (k, .immediate 0x0E00)
  | .mbConfigStatus k => (k, .status 0x0E01)
  | .ptPropose k => (k, .immediate 0x0B10)
  | .ptConfirm k => (k, .immediate 0x0B11)
  | .ptWithdraw k => (k, .immediate 0x0B12)
  | .lgExport k => (k, .immediate 0x0C10)
  | .lgFlush k => (k, .immediate 0x0C11)
  | .ptFwWrite k => (k, .immediate 0x0D10)
  | .ptFwActivate k => (k, .immediate 0x0D11)
  | .ptZeroise k => (k, .immediate 0x0D12)
  | .ptStatus k => (k, .status 0x0EA0)
  | .lgStatus k => (k, .status 0x0EB0)
  | .hostWindowWrite _ _ | .hwDoorbell _ | .hwRspTail _ | .hwIrqStatus _ | .hwIrqEnable _ => (.zero, .event)
  | .resetKeyFirst _ | .sessionReset _ | .controlReset _ | .fullReset _ | .powerUp _ => (.zero, .event)
  | .powerOnResetAssert _ | .supplyMonitorTrip _ | .rstNLow _ | .internalResetRelease _ | .slotVerifyComplete _ _ => (.zero, .event)
  | .bootComplete _ | .panelKeyChange _ | .frameBoundary _ | .eccError _ | .dieTempSample _ => (.zero, .event)
  | .dieTemperatureTrip _ | .hushExitRestart _ | .domainStartupComplete _ | .domainShutdownComplete _ | .synthLockDeclared _ => (.zero, .event)
  | .synthLockTimeout _ | .synthLossOfLock _ | .phaseMoveComplete _ | .rootDisqualified _ | .rootConditionClear _ => (.zero, .event)
  | .rootQualified _ | .rootRatioUpdate _ _ _ | .toolrestWindow _ _ | .toolrestGateOpen _ | .candidateSignalAppear _ => (.zero, .event)
  | .candidateIntervalEval _ _ _ | .candidateQualified _ _ | .referenceLoss _ | .loopUpdate _ | .holdoverUpdate _ => (.zero, .event)
  | .ppsInEdge _ | .wclkInEdge _ | .videoRefWindow _ | .sfpModuleInserted _ _ | .sfpModuleRemoved _ => (.zero, .event)
  | .linkTrainingAlternate _ | .linkUp _ | .linkDown _ | .mediaPacketReceived _ _ | .frameDiscarded _ => (.zero, .event)
  | .arpRequestReceived _ _ _ _ | .arpReplyReceived _ _ _ | .arpEntryAge _ _ | .arpRetry _ _ | .icmpEchoReceived _ _ _ => (.zero, .event)
  | .igmpQueryReceived _ _ | .igmpReport _ | .ptpSyncReceived _ _ _ _ _ | .ptpFollowUpReceived _ _ _ | .ptpAnnounceReceived _ _ _ => (.zero, .event)
  | .ptpDelayReqReceived _ _ _ | .ptpDelayRespReceived _ _ _ _ | .ptpAnnounceTimeout _ | .ptpSyncDue _ | .ptpAnnounceDue _ => (.zero, .event)
  | .ptpDelayReqDue _ _ | .flowLost _ | .flowPathLost _ _ | .triggerPinEdge _ _ | .measurementTimerFire _ => (.zero, .event)
  | .spindleAlarmFire _ | .slotStart _ | .windowPublish _ _ | .loadInEdge _ | .rangeChangeEnd _ => (.zero, .event)
  | .sequencerStart _ | .segmentEntry _ | .ltcFrameWrite _ | .clockOutputRephase _ | .ppsOutPulse _ => (.zero, .event)
  | .aes3RxLock _ _ | .aes3RxLoss _ | .engineFrameOverrun _ _ | .asrcLock _ _ | .jackDetChange _ => (.zero, .event)
  | .identificationComplete _ _ _ | .buttonWindow _ _ | .sentinelBlock _ | .renewDue _ | .leaseRenew _ _ => (.zero, .event)
  | .leaseAck _ _ | .leaseRelease _ _ | .leaseWaive _ _ | .leaseNull _ _ | .pathServiceChange _ _ => (.zero, .event)
  | .twTime _ _ _ _ _ _ | .twState _ _ _ | .twMirror _ _ _ | .twRelay _ _ _ | .twLedger _ _ _ => (.zero, .event)
  | .twSwapReq _ _ _ | .twSwapAck _ _ _ _ | .resyncReq _ _ _ _ _ | .resyncData _ _ _ | .ringFrameForward _ => (.zero, .event)
  | .ringEnumerate _ | .ringReset _ | .ringCommand _ | .ringWread _ | .ringWwrite _ => (.zero, .event)
  | .ringDoorbell _ | .ringResetFrame _ | .ringBarrier _ | .ringSnapshot _ | .ringTime _ _ _ => (.zero, .event)
  | .credentialSlotUnlock _ | .refSettled _ | .vrefInRangeChange _ | .hpCurrentLimit _ | .bootRootActivity _ _ => (.zero, .event)
  | .mbResetDone | .commitLive | .faultCodeLoad | .lockstepMismatch | .watchdogExpiry => (.zero, .event)
  | .scrubCrcFailure | .hushEntryComplete | .hushWake | .dataPlaneRestart | .rootRevert => (.zero, .event)
  | .acquisitionComplete | .holdoverAged | .leapApplied | .gratuitousArp | .mediaPacketDue => (.zero, .event)
  | .faultValuesFlashWrite | .meterWindowEnd | .hpEnableComplete | .hpDisableComplete | .hpSafeOff => (.zero, .event)
  | .jackConfirmed | .hpClampRelease | .micbiasFenceOff | .micbiasFenceOn | .buttonDeclared => (.zero, .event)
  | .alarmOutHoldExpiry | .leaseEnd | .expiryTakeover | .arbitrationClaim | .partingToolTrip => (.zero, .event)
  | .twinMsTick | .swapInstant | .swapTakeTimeout | .resyncCommit | .twHotTimeout => (.zero, .event)
  | .ringResetComplete | .ringBarrierRelease | .ringBarrierTimeout | .snapshotCapture | .ringTimeDue => (.zero, .event)
  | .ringEvent | .ringJoin | .igrInUp | .igrInDown | .ringBreak => (.zero, .event)
  | .proposalExpiry | .ledgerEntryClose | .ledgerFlashWrite | .ledgerSectorErase => (.zero, .event)

/-- The safety property of the twin (R16, R17): outputs reach the pins only in a unit that has the right to drive them. -/
abbrev FenceInv (s : State) : Prop := s.fenceOpen = true → fenceWanted s = true

/-- The byte memory of the host window is in canonical form. -/
abbrev memWf (s : State) : Prop := tabWf 0 s.mem = true

/-- The state without the mailbox, the ledger, the ring interface and the window's bytes: everything that a response or an
acceptance does not touch. -/
def State.plant (s : State) : State := { s with mb := {}, lg := {}, ig := {}, mem := [] }

/-- Every list that stands for a fixed number of like parts has that number of entries: the domains of Table PW-6, the
clock outputs, the candidates, the AES3 ports, the ADCs, the alarms, the DACs, the sequencers, the PDM channels, the
credential slots and the signing keys. -/
abbrev Sized (s : State) : Prop :=
  s.pw.domains.length = 11 ∧ s.hs.gate.length = 12 ∧ s.tk.cand.length = 12 ∧ s.dg.tx.length = 8 ∧ s.dg.rx.length = 4 ∧
    s.ad.alarms.length = 4 ∧ s.ad.pairs.length = 4 ∧ s.ad.sel.length = 8 ∧ s.ad.mute.length = 8 ∧ s.da.dac.length = 8 ∧
    s.da.flash.length = 8 ∧ s.ps.length = 4 ∧ s.xb.asrc.length = 4 ∧ s.fp.pdmMute.length = 2 ∧ s.tw.timeStamps.length = 2 ∧
    s.pt.cred.length = 8 ∧ s.pt.keys.length = 4

/-- Check 7 of R397 of a direct command at its frame boundary, by opcode. -/
def directCheck (op : Nat) (p : Bytes) (s : State) : Option Nat :=
  match op with
  | 0x0311 => chkRootSelect p s
  | 0x0312 => chkSetFrac p s
  | 0x0314 => chkFreqOffset p s
  | 0x0315 => chkPhaseMove p s
  | 0x0316 => chkPhaseRaw p s
  | 0x0317 => chkSlew p s
  | 0x0318 => chkSpread p s
  | 0x031A => chkRelock p s
  | 0x0324 => chkSetTime p s
  | 0x0325 => chkLeap p s
  | 0x0326 => chkRefSelect p s
  | 0x0327 => chkRealign p s
  | 0x0416 => chkAdAlarm p s
  | 0x0417 => chkAdTrigger p s
  | 0x0418 => chkAdDiag p s
  | 0x0419 => chkAdMicGain p s
  | 0x041A => chkAdClear p s
  | 0x0513 => chkDaHold p s
  | 0x0514 => chkDaLoad p s
  | 0x0522 => chkPsSegWrite p s
  | 0x0525 => chkPsLtcZone p s
  | 0x0612 => chkXbDpSet p s
  | 0x0624 => chkTeCoef p s
  | 0x0625 => chkTeEnable p s
  | 0x0626 => chkTeGainDb p s
  | 0x0627 => chkTeEqBand p s
  | 0x0628 => chkTeDelaySet p s
  | 0x0715 => chkFlowEnable p s
  | 0x0716 => chkSfpRead p s
  | 0x0811 => chkHpEnable p s
  | 0x0812 => chkHpAttenSet p s
  | 0x0814 => chkIdentify p s
  | 0x0817 => chkSnAck p s
  | 0x0912 => chkForceSolo p s
  | 0x0A11 => chkEvtSet p s
  | 0x0A12 => chkDelaySet p s
  | 0x0D20 => chkHush p s
  | 0x0D21 => chkPwDomain p s
  | _ => none

/-- Check 7 of R397 when a direct command starts: PW_HUSH is checked at its frame boundary only (R71). -/
def startCheck (op : Nat) (p : Bytes) (s : State) : Option Nat := if op = 0x0D20 then none else directCheck op p s

/-- A response to the command can be written to the response ring at once, and no MB_DRAIN waits for it. -/
abbrev HostReady (s : State) (c : Cmd) : Prop :=
  c.origin ≠ 1 ∧ c.mute = false ∧ c.doomed = false ∧ s.mb.held = [] ∧ rspUnread s < 256 ∧ memWf s ∧
    ∀ d ∈ s.mb.cmds, d.opcode ≠ 0x0111

/-- The command has its final response: the next slot of the response ring holds it, and its tag is free. -/
abbrev Answered (s t : State) (c : Cmd) (status : Nat) (res : Bytes) : Prop :=
  memReadList t (0x5000 + 32 * (s.mb.rspHead % 256)) 32 = rspSlot s c.tag status c.opcode true false false res ∧
    t.mb.rspHead = (s.mb.rspHead + 1) % 65536 ∧ ∀ d ∈ t.mb.cmds, d.n ≠ c.n

/-- The state in which the direct commands of a frame boundary act: the frame is over, Spindle time is at the boundary, a data
plane that may restart has done so, and a Spindle step that was asked for is loaded. -/
def atDirects (inp : FrameInput) (s : State) : State :=
  let s1 := mediaDue (ptpFrame (fecCount inp (commitLive s)))
  let s2 := adSettle (toBoundary (if s1.dataPlane = .running then planeFrame inp s1 else s1))
  let s3 := garpArm (leapSource (allSyn.foldl (fun (t : State) x => progressMove x t) s2))
  loadStep (if restartDue s3 then restartPlane s3 else s3)

/-- The end of a frame boundary: FRAME strobes fire, and the slew of every move is fixed for the coming frame. -/
def endBoundary (s : State) : State := allSyn.foldl (fun (t : State) x => setFrameSlew x t) (daFrame s)

/-- The row completes: `exec` answers a next state, and that state has the property. -/
def Next (c : Instr) (s : State) (p : State → Prop) : Prop := ∃ t, exec c s = .next t ∧ p t

end Sys2Proof.Machine
end

