-- ==== Sys2Proof/WellFormed.lean ====
section
/-! DEFINITION. Which commands and events can occur at all: the ranges that the manual gives the numbers an event carries. A
row that starts a mailbox command is always well formed: its payload is checked by the device itself (R397). -/
namespace Sys2Proof

/-- The codes of 8 ADCs (R189, R191), one run of MCLK cycles after the other, for the 5,120 cycles of a frame (R24). -/
def wfCodes (runs : List (Nat × List Int)) : Bool :=
  (runs.map (fun r => r.1)).sum == 5120 &&
    runs.all (fun r => r.2.length == 8 && r.2.all (fun x => decide (-8192 ≤ x) && decide (x ≤ 8191)))

/-- Measured inputs of a frame: ADC codes, FEC counts of 2 ports, 4 receivers, 4 ASRCs of two subframes. -/
def wfInput (i : FrameInput) : Bool :=
  wfCodes i.codes && i.fec.length == 2 && decide (i.adcOver < 256) && i.rx.all (fun r => decide (r.1 < 4)) &&
    i.asrc.all (fun a => decide (a.1 < 8) && a.2.all (fun v => decide (-(2 ^ 31) ≤ v) && decide (v < 2 ^ 31)))

/-- Trigger pins: four PWM outputs and two TRIG_IN balls (Table AD-5). -/
def wfPin : TrigPin → Bool
  | .pwm n => decide (n < 4)
  | .trigIn n => decide (n < 2)

def wfIp (a : Nat) : Bool := decide (a < 2 ^ 32)
def wfMac (a : Nat) : Bool := decide (a < 2 ^ 48)

/-- Field widths of the UDP and RTP headers (R174). -/
def wfRtp (p : RtpPacket) : Bool :=
  wfIp p.dst && wfIp p.src && decide (p.udp < 65536) && decide (p.version < 4) && decide (p.cc < 16) && decide (p.pt < 128) && decide (p.ssrc < 2 ^ 32) &&
    decide (p.seq < 65536) && decide (p.ts < 2 ^ 32)

/-- Field widths of a received frame (R153). -/
def wfFrame (f : NetFrame) : Bool :=
  f.tags.all (fun v => decide (v < 4096)) &&
    (match f.body with
      | .ptp _ typ => decide (typ < 16)
      | .rtp p => wfRtp p
      | _ => true)

/-- Field widths of a ring frame (Table IG-1). -/
def wfRing (f : RingFrame) : Bool :=
  decide (f.dst < 64) && decide (f.src < 64) && decide (f.typ < 256) && decide (f.hops < 64) && decide (f.fseq < 65536) &&
    decide (f.len ≤ 1028) && f.payload.length == f.len

/-- The lanes are 0 and 1; a level is one byte (Table TW-4). -/
def wfLane (lane level : Nat) : Bool := decide (lane < 2) && decide (level < 256)

/-- The checks of every row. -/
def wellFormed : Instr → Bool
  | .hostWindowWrite addr data => decide (1 ≤ data.length) && decide (addr + data.length ≤ 0x18000)
  | .powerUp bankHigh => bankHigh.length == 4
  | .frameBoundary input => wfInput input
  | .domainStartupComplete d => decide (d < 11)
  | .domainShutdownComplete d => decide (d < 11)
  | .toolrestWindow out _ => decide (out < 12)
  | .toolrestGateOpen out => decide (out < 12)
  | .candidateSignalAppear idx => decide (idx < 12)
  | .candidateIntervalEval idx _ _ => decide (idx < 12)
  | .candidateQualified idx _ => decide (idx < 12)
  | .referenceLoss x => decide (x.idx < 12)
  | .sfpModuleInserted port identity => decide (port < 2) && decide (identity.length ≤ 512)
  | .sfpModuleRemoved port => decide (port < 2)
  | .linkTrainingAlternate port => decide (port < 2)
  | .linkUp x => decide (x.port < 2)
  | .linkDown x => decide (x.port < 2)
  | .mediaPacketReceived port p => decide (port < 2) && wfRtp p
  | .frameDiscarded f => decide (f.port < 2) && wfFrame f.frame
  | .arpRequestReceived port target sender mac => decide (port < 2) && wfIp target && wfIp sender && wfMac mac
  | .arpReplyReceived port ip mac => decide (port < 2) && wfIp ip && wfMac mac
  | .arpEntryAge port ip => decide (port < 2) && wfIp ip
  | .arpRetry port ip => decide (port < 2) && wfIp ip
  | .icmpEchoReceived port path _ => decide (port < 2) && wfIp path.src && wfIp path.dst
  | .igmpQueryReceived port q => decide (port < 2) && decide (1 ≤ q.version) && decide (q.version ≤ 3) && wfIp q.group
  | .igmpReport port => decide (port < 2)
  | .ptpSyncReceived port _ _ _ _ => decide (port < 2)
  | .ptpFollowUpReceived port _ _ => decide (port < 2)
  | .ptpAnnounceReceived port _ _ => decide (port < 2)
  | .ptpDelayReqReceived port _ _ => decide (port < 2)
  | .ptpDelayRespReceived port _ _ _ => decide (port < 2)
  | .ptpAnnounceTimeout port => decide (port < 2)
  | .ptpSyncDue port => decide (port < 2)
  | .ptpAnnounceDue port => decide (port < 2)
  | .ptpDelayReqDue port _ => decide (port < 2)
  | .flowLost flow => decide (flow < 512)
  | .flowPathLost flow _ => decide (flow < 512)
  | .triggerPinEdge pin _ => wfPin pin
  | .measurementTimerFire n => decide (n < 4)
  | .spindleAlarmFire n => decide (n < 4)
  | .windowPublish _ samples => samples.all (fun x => decide (x.adc < 8) && decide (x.recov ≤ 51))
  | .rangeChangeEnd dac => decide (dac < 8)
  | .sequencerStart n => decide (n < 4)
  | .segmentEntry n => decide (n < 4)
  | .ltcFrameWrite n => decide (n < 4)
  | .clockOutputRephase out => decide (out < 12)
  | .aes3RxLock rx _ => decide (rx < 4)
  | .aes3RxLoss x => decide (x.rx < 4)
  | .engineFrameOverrun eng _ => decide (eng < 32)
  | .asrcLock rx ratio => decide (rx < 4) && decide (ratio < 2 ^ 32)
  | .buttonWindow lo hi => decide (lo ≤ hi)
  | .leaseRenew _ f => decide (f.seq < 64)
  | .leaseAck _ f => decide (f.seq < 64)
  | .leaseRelease _ f => decide (f.seq < 64)
  | .leaseWaive _ f => decide (f.seq < 64)
  | .leaseNull _ f => decide (f.seq < 64)
  | .twTime lane level _ _ _ _ => wfLane lane level
  | .twState lane level _ => wfLane lane level
  | .twMirror lane level _ => wfLane lane level
  | .twRelay lane level _ => wfLane lane level
  | .twLedger lane level entry => wfLane lane level && entry.length == 32
  | .twSwapReq lane level _ => wfLane lane level
  | .twSwapAck lane level _ _ => wfLane lane level
  | .resyncReq lane level _ _ _ => wfLane lane level
  | .resyncData lane level _ => wfLane lane level
  | .ringFrameForward f => wfRing f
  | .ringEnumerate f => wfRing f
  | .ringReset f => wfRing f
  | .ringCommand f => wfRing f
  | .ringWread f => wfRing f
  | .ringWwrite f => wfRing f
  | .ringDoorbell f => wfRing f
  | .ringResetFrame f => wfRing f
  | .ringBarrier f => wfRing f
  | .ringSnapshot f => wfRing f
  | .ringTime f _ _ => wfRing f
  | .credentialSlotUnlock slot => decide (slot < 8)
  | .refSettled pair => decide (pair < 4)
  | .hwDoorbell _ | .hwRspTail _ | .hwIrqStatus _ | .hwIrqEnable _ | .resetKeyFirst _ => true
  | .sessionReset _ | .controlReset _ | .fullReset _ | .powerOnResetAssert _ | .supplyMonitorTrip _ => true
  | .rstNLow _ | .internalResetRelease _ | .slotVerifyComplete _ _ | .bootComplete _ | .panelKeyChange _ => true
  | .eccError _ | .dieTempSample _ | .dieTemperatureTrip _ | .pwHush _ | .hushExitRestart _ => true
  | .pwDomain _ | .hsRootCfg _ | .hsRootSelect _ | .hsSetFrac _ | .hsSynthCfg _ => true
  | .hsFreqOffset _ | .hsPhaseMove _ | .hsPhaseRaw _ | .hsSlew _ | .hsSpread _ => true
  | .hsToolrest _ | .hsRelock _ | .hsStatus _ | .synthLockDeclared _ | .synthLockTimeout _ => true
  | .synthLossOfLock _ | .phaseMoveComplete _ | .rootDisqualified _ | .rootConditionClear _ | .rootQualified _ => true
  | .rootRatioUpdate _ _ _ | .tkCfg _ | .tkCand _ | .tkPolicy _ | .tkRootChar _ => true
  | .tkSetTime _ | .tkLeap _ | .tkRefSelect _ | .tkRealign _ | .tkStatus _ => true
  | .tkOffsets _ | .tkCandStatus _ | .loopUpdate _ | .holdoverUpdate _ | .ppsInEdge _ => true
  | .videoRefWindow w => decide (w.j < 16)
  | .wclkInEdge _ | .nwPortCfg _ | .nwPtpCfg _ | .nwPtpPort _ => true
  | .nwRxFlow _ | .nwTxFlow _ | .nwFlowEnable _ | .nwSfpRead _ | .nwPortStatus _ => true
  | .nwPtpStatus _ | .nwFlowStatus _ | .adCfg _ | .adPairCfg _ | .adSeqCfg _ => true
  | .adSlot _ | .adPreset _ | .adTimer _ | .adAlarm _ | .adTrigger _ => true
  | .adDiag _ | .adMicGain _ | .adClear _ | .adStatus _ | .adResult _ => true
  | .slotStart _ | .daOutCfg _ | .daBankCfg _ | .daDdsCfg _ | .daHold _ => true
  | .daLoad _ | .daFaultValues _ | .psCfg _ | .psSeg _ | .psSegWrite _ => true
  | .psShape _ | .psPreset _ | .psLtcZone _ | .daStatus _ | .psStatus _ => true
  | .loadInEdge _ | .dgClkCfg _ | .dgPpsCfg _ | .dgTxCfg _ | .dgCsRaw _ => true
  | .dgRxCfg _ | .dgClkStatus _ | .dgRxStatus _ | .ppsOutPulse _ | .xbRoute _ => true
  | .xbDpCfg _ | .xbDpSet _ | .teCfg _ | .teOps _ | .teOperands _ => true
  | .teCoefInit _ | .teCoef _ | .teEnable _ | .teGainDb _ | .teEqBand _ => true
  | .teDelaySet _ | .tePreset _ | .teStatus _ | .teMeterRead _ | .fpHpCfg _ => true
  | .fpHpEnable _ | .fpHpAttenSet _ | .fpJackCfg _ | .fpIdentify _ | .fpPdmCfg _ => true
  | .snCfg _ | .snAck _ | .fpStatus _ | .snStatus _ | .jackDetChange _ => true
  | .identificationComplete _ _ _ | .sentinelBlock _ | .twCfg _ | .twSwap _ | .twForceSolo _ => true
  | .twResync _ | .twStatus _ | .renewDue _ | .pathServiceChange _ _ | .igCfg _ => true
  | .igEvtSet _ | .igDelaySet _ | .igStatus _ | .igSnapRead _ | .mbHello _ => true
  | .mbDrain _ | .mbStageBegin _ | .mbStageAbort _ | .mbCommit _ | .mbCancel _ => true
  | .mbImageLoad _ | .mbSummary _ | .mbConfigStatus _ | .ptPropose _ | .ptConfirm _ => true
  | .ptWithdraw _ | .lgExport _ | .lgFlush _ | .ptFwWrite _ | .ptFwActivate _ => true
  | .ptZeroise _ | .ptStatus _ | .lgStatus _ | .vrefInRangeChange _ | .hpCurrentLimit _ => true
  | .bootRootActivity _ _ | .mbResetDone | .commitLive | .faultCodeLoad | .lockstepMismatch => true
  | .watchdogExpiry | .scrubCrcFailure | .hushEntryComplete | .hushWake | .dataPlaneRestart => true
  | .rootRevert | .acquisitionComplete | .holdoverAged | .leapApplied | .gratuitousArp => true
  | .mediaPacketDue | .faultValuesFlashWrite | .meterWindowEnd | .hpEnableComplete | .hpDisableComplete => true
  | .hpSafeOff | .jackConfirmed | .hpClampRelease | .micbiasFenceOff | .micbiasFenceOn => true
  | .buttonDeclared | .alarmOutHoldExpiry | .leaseEnd | .expiryTakeover | .arbitrationClaim => true
  | .partingToolTrip | .twinMsTick | .swapInstant | .swapTakeTimeout | .resyncCommit => true
  | .twHotTimeout | .ringResetComplete | .ringBarrierRelease | .ringBarrierTimeout | .snapshotCapture => true
  | .ringTimeDue | .ringEvent | .ringJoin | .igrInUp | .igrInDown => true
  | .ringBreak | .proposalExpiry | .ledgerEntryClose | .ledgerFlashWrite | .ledgerSectorErase => true

end Sys2Proof
end

