-- ==== Sys2Proof/Certificates/Slice0/Obligations.lean ====
section
/-! DEFINITION. The statements for the provers: what the commands and events of the block do, by the rules of the manual.
A statement that several rows share names them in its docstring. `Next c s p` says that the row completes and that its next
state has the property. -/
open Sys2Proof Sys2Proof.Machine

/-- For every state whose queue of waiting commands is c followed by q, step is exec of c on the state with q as its
queue. Rules: 13_host_mailbox.md, 95_what_each_step_holds.md. -/
def Obligations.StepRunsFrontCommand : Prop :=
  ∀ (s : State) (c : Instr) (q : List Instr), s.pending = c :: q → 
      step s = exec c { s with pending := q }

/-- On an empty queue step answers a next state. While no commit is due, unless a frame boundary lies within the cycle,
the device clock moves on by one MCLK cycle (1/5120 of a frame, R24); else it stays, and in either case nothing but
the clock, Spindle time, the ring interface and the record of what was sent changes, and, where a trigger of the
Calipers was still to be recognised, the Calipers with the ALARM of a trigger that is lost. A commit that is due becomes
live before time passes. That the empty queue lets time pass is the choice of log entry 2. Rules:
01_planes_and_modes.md, R24. -/
def Obligations.IdleTick : Prop :=
  (∀ (s : State), s.pending = [] → (∀ p, s.mb.pend = some p → s.spindle < p.boundary) → 
      ∃ t, step s = .next t ∧
      t.clock = (if s.spindle + mclkLen (f441 s) < nextFrame (f441 s) s.spindle then s.clock + mclkLen (f441 s) else s.clock) ∧
      { t with clock := s.clock, spindle := s.spindle, ig := s.ig, out := s.out, ad := s.ad, mb := s.mb, lg := s.lg } = s ∧
      (s.ad.late = [] → { t with clock := s.clock, spindle := s.spindle, ig := s.ig, out := s.out } = s)) ∧
  (∀ (s : State) (p : PendCommit), s.pending = [] → s.mb.pend = some p → p.boundary ≤ s.spindle → s.spindle % frameLen (f441 s) = 0 → s.dataPlane = .running → s.firstLive = true → 
      ∃ t, step s = .next t ∧ t.mb.gen = p.gen ∧ t.mb.digest = p.digest ∧ t.mb.pend = none ∧ t.live = p.tables)

/-- State.reset has the internal reset asserted and mode BOOT, the fence closed, every host register of Table MB-3 and
every byte of the rings and of the bulk buffer at zero, no pending commit, no generation, time not valid, and an empty
queue. Rules: R25, R57, R59, R387, Table MB-3, Table PW-3. -/
def Obligations.ResetState : Prop :=
  State.reset.pw.inReset = true ∧ State.reset.mode = .boot ∧ State.reset.fenceOpen = false ∧ State.reset.timeValid = false ∧
      State.reset.mb = {} ∧ (∀ a, memRead State.reset a = 0) ∧ State.reset.live = {} ∧ State.reset.pending = []

/-- In State.reset the fence is not open without the right to be open (R17). Rules: R16, R17. -/
def Obligations.FenceInvReset : Prop :=
  FenceInv State.reset

/-- For every state in which an open fence is rightly open (role ACTIVE or SOLO, mode not HUSH, not a fenced ACQUIRE,
parting tool not tripped, internal reset not asserted), every next state of step has the same property. Rules: R16,
R17, R26, R31, R371, Table PW-2. -/
def Obligations.FenceInvKept : Prop :=
  ∀ (s t : State), FenceInv s → step s = .next t → 
      FenceInv t

/-- Every row that writes bytes of the host window (host writes, ring WWRITE frames, the responses that MB_RESET_DONE and
HW_RSP_TAIL write, and the clearing of the rings by a reset scope) keeps the memory canonical: addresses rising, no
listed zero. Rules: R385, R387, R395, R68, R433, Table MB-2. -/
def Obligations.MemWfKept : Prop :=
  (∀ (s : State) (a : Nat) (d : Bytes), memWf s → 
      Next (.hostWindowWrite a d) s memWf) ∧
  (∀ (s : State) (f : RingFrame), memWf s → 
      Next (.ringWwrite f) s memWf) ∧
  (∀ (s : State) (v : Word32), memWf s → 
      Next (.hwRspTail v) s memWf) ∧
  (∀ (s : State), memWf s → 
      Next .mbResetDone s memWf) ∧
  (∀ (s : State) (v : Word32), memWf s → 
      Next (.sessionReset v) s memWf) ∧
  (∀ (s : State) (v : Word32), memWf s → 
      Next (.controlReset v) s memWf) ∧
  (∀ (s : State) (v : Word32), memWf s → 
      Next (.fullReset v) s memWf)

/-- HOST_WINDOW_WRITE: bytes in the command ring and in the bulk buffer take the values written, every other byte and
everything else is unchanged. HW_DOORBELL: a post of n = 1-256 slots that fits advances HW_CMD_HEAD by n; one that
does not fit, or n above 256, is dropped whole: the head stays, HW_OVERFLOWS counts and HW_IRQ_OVF sets. HW_RSP_TAIL
moves the tail forward up to the head; other values change nothing. HW_IRQ_STATUS clears the bits written as 1.
HW_IRQ_ENABLE takes bits 8-0. A first key opens a sequence for its scope. All of it outside HUSH and with the window
ready. Rules: R385, R386, R390, R391, R394, R395, Table MB-2, Table MB-6. Rows: hostWindowWrite, hwDoorbell,
hwRspTail, hwIrqStatus, hwIrqEnable, resetKeyFirst. -/
def Obligations.HostWindow : Prop :=
  (∀ (s : State) (addr : Nat) (data : Bytes), windowReady s = true → s.mode ≠ .hush → memWf s → 
      Next (.hostWindowWrite addr data) s fun t =>
      (∀ a, memRead t a = if addr ≤ a ∧ a < addr + data.length ∧ (0x1000 ≤ a ∧ a < 0x5000 ∨ 0x8000 ≤ a ∧ a < 0x18000)
        then nth 0 data (a - addr) else memRead s a) ∧ { t with mem := s.mem } = s) ∧
  (∀ (s : State) (v : Word32), windowReady s = true → s.mode ≠ .hush → s.mb.resetBusy = none → 1 ≤ v.toNat % 512 → v.toNat % 512 ≤ 256 → (s.mb.cmdHead + 65536 - s.mb.cmdTail) % 65536 + v.toNat % 512 ≤ 256 → 
      Next (.hwDoorbell v) s fun t => t.mb.cmdHead = (s.mb.cmdHead + v.toNat % 512) % 65536 ∧ t.mb.overflows = s.mb.overflows) ∧
  (∀ (s : State) (v : Word32), windowReady s = true → s.mode ≠ .hush → s.mb.resetBusy = none → (256 < v.toNat % 512 ∨ 1 ≤ v.toNat % 512 ∧ 256 < (s.mb.cmdHead + 65536 - s.mb.cmdTail) % 65536 + v.toNat % 512) → 
      Next (.hwDoorbell v) s fun t => t.mb.cmdHead = s.mb.cmdHead ∧ t.mb.overflows = satInc 8 s.mb.overflows ∧ nbit t.mb.irqStatus 7 = true) ∧
  (∀ (s : State) (v : Word32), windowReady s = true → s.mode ≠ .hush → (v.toNat % 65536 + 65536 - s.mb.rspTail) % 65536 ≤ (s.mb.rspHead + 65536 - s.mb.rspTail) % 65536 → 
      Next (.hwRspTail v) s fun t => t.mb.rspTail = v.toNat % 65536) ∧
  (∀ (s : State) (v : Word32), windowReady s = true → (s.mb.rspHead + 65536 - s.mb.rspTail) % 65536 < (v.toNat % 65536 + 65536 - s.mb.rspTail) % 65536 → 
      exec (.hwRspTail v) s = .next s) ∧
  (∀ (s : State) (v : Word32), windowReady s = true → s.mode ≠ .hush → 
      Next (.hwIrqStatus v) s fun t => (∀ b, b < 9 → nbit t.mb.irqStatus b = (nbit s.mb.irqStatus b && !nbit v.toNat b)) ∧
      { t with mb := { t.mb with irqStatus := s.mb.irqStatus } } = s) ∧
  (∀ (s : State) (v : Word32), windowReady s = true → s.mode ≠ .hush → 
      exec (.hwIrqEnable v) s = .next { s with mb := { s.mb with irqEnable := v.toNat % 512 } }) ∧
  (∀ (s : State) (nn : Nat), windowReady s = true → 1 ≤ nn → nn ≤ 3 → 
      exec (.resetKeyFirst (BitVec.ofNat 32 (0xA5A50000 + nn))) s = .next { s with mb := { s.mb with resetKey := some (nn, s.clock) } })

/-- The second key of the scope that the first key named, within 1 ms, performs the scope. SESSION and CONTROL: the rings,
tags, sequence numbers, interrupt registers, staging area and reset key are cleared, the reset shows as busy, the
committed configuration, its generation and digest, a pending commit, the mode and the role are kept. FULL: the fence
closes and the internal reset is asserted with the configuration, the generation and the window bytes cleared.
MB_RESET_DONE writes the two slots of the reset-complete response, ends the busy state and sets HW_IRQ_RESET. Rules:
R67, R68, R69, R391, R414, R410, Table PW-3. Rows: sessionReset, controlReset, fullReset, mbResetDone. -/
def Obligations.ResetScopes : Prop :=
  (∀ (s : State) (t0 : Nat), windowReady s = true → s.mb.resetKey = some (1, t0) → s.clock ≤ t0 + uPerMs → s.mode ≠ .hush → 
      Next (.sessionReset 0x5A5A0001#32) s fun t => t.mb.resetBusy = some .session ∧ t.mb.cmdHead = 0 ∧ t.mb.cmdTail = 0 ∧ t.mb.rspHead = 0 ∧
      t.mb.rspTail = 0 ∧ t.mb.irqStatus = 0 ∧ t.mb.irqEnable = 0 ∧ t.mb.staging = none ∧ t.mb.seqHost = none ∧
      (∀ a, 0x1000 ≤ a → a < 0x7000 → memRead t a = 0) ∧ t.live = s.live ∧ t.mb.gen = s.mb.gen ∧ t.mb.digest = s.mb.digest ∧
      t.mb.pend = s.mb.pend ∧ t.mode = s.mode ∧ t.role = s.role) ∧
  (∀ (s : State) (t0 : Nat), windowReady s = true → s.mb.resetKey = some (2, t0) → s.clock ≤ t0 + uPerMs → s.mode ≠ .hush → 
      Next (.controlReset 0x5A5A0002#32) s fun t => t.mb.resetBusy = some .control ∧ t.mb.cmdHead = 0 ∧ t.mb.cmdTail = 0 ∧ t.mb.rspHead = 0 ∧
      t.mb.rspTail = 0 ∧ t.mb.irqStatus = 0 ∧ t.mb.irqEnable = 0 ∧ t.mb.staging = none ∧ t.mb.seqHost = none ∧
      (∀ a, 0x1000 ≤ a → a < 0x7000 → memRead t a = 0) ∧ t.live = s.live ∧ t.mb.gen = s.mb.gen ∧ t.mb.digest = s.mb.digest ∧
      t.mb.pend = s.mb.pend ∧ t.mode = s.mode ∧ t.role = s.role) ∧
  (∀ (s : State) (t0 : Nat), windowReady s = true → s.mb.resetKey = some (3, t0) → s.clock ≤ t0 + uPerMs → 
      Next (.fullReset 0x5A5A0003#32) s fun t => t.pw.inReset = true ∧ t.pw.resetCause = 2 ∧ t.fenceOpen = false ∧ t.mode = .boot ∧
      t.live = {} ∧ t.mb = {} ∧ (∀ a, memRead t a = 0) ∧ t.pending = s.pending) ∧
  (∀ (s : State) (k : Scope), s.mb.resetBusy = some k → 
      Next .mbResetDone s fun t => t.mb.resetBusy = none ∧ t.mb.rspHead = ((s.mb.rspHead + 1) % 65536 + 1) % 65536 ∧ nbit t.mb.irqStatus 8 = true ∧
      t.plant = s.plant)

/-- POWER_UP brings the rails into range with the sensed bank voltages, and the internal reset may release 2.5 ms later.
POWER_ON_RESET_ASSERT and an RST_N low pulse of at least 1 us assert the internal reset with the fence closed, mode BOOT,
the configuration at its defaults and the reset cause; a pulse below 200 ns changes nothing. INTERNAL_RESET_RELEASE, when
its time has come, latches the straps, with the slot read by thirds of VDDIO4. The first active root takes the boot on, a
slot that verifies boots, a first slot that fails makes the other one be tried, a second failure is BOOT_FAILURE, and
BOOT_COMPLETE reaches CONFIGURE when VSYN and NSYN are locked, or stays in BOOT when the self-test failed. Rules: R40, R42, R43, R54, R55, R57, R58, R59, R60, R62, R64, R471. Rows: powerUp,
powerOnResetAssert, rstNLow, internalResetRelease, bootRootActivity, slotVerifyComplete, bootComplete. -/
def Obligations.ResetsAndBoot : Prop :=
  (∀ (s : State) (b : List Bool), s.pw.railsUp = false → 
      exec (.powerUp b) s = .next { s with pw := { s.pw with railsUp := true, bankHigh := b.take 4, releaseAt := s.clock + 2 * uPerMs + riseDelay } }) ∧
  (∀ (s : State) (r : Bool), 
      Next (.powerOnResetAssert r) s fun t => t.pw.railsUp = false ∧ t.pw.inReset = true ∧ t.pw.resetCause = 0 ∧ t.fenceOpen = false ∧
      t.mode = .boot ∧ t.live = {} ∧ t.mb = {}) ∧
  (∀ (s : State) (ns : Nat), s.pw.inReset = false → 1000 ≤ ns → 
      Next (.rstNLow ns) s fun t => t.pw.inReset = true ∧ t.pw.resetCause = 1 ∧ t.fenceOpen = false ∧
      t.mode = .boot ∧ t.live = {} ∧ t.mb = {}) ∧
  (∀ (s : State) (ns : Nat), ns < 200 → 
      exec (.rstNLow ns) s = .next s) ∧
  (∀ (s : State) (x : Straps), s.pw.inReset = true → s.pw.railsUp = true → s.pw.releaseAt ≤ s.clock → 
      Next (.internalResetRelease x) s fun t => t.pw.inReset = false ∧ t.mode = .boot ∧ t.pw.boot = .released ∧
      t.pw.slotSel = (if 3 * x.slotMv < x.vddio4Mv then 0 else if 3 * x.slotMv > 2 * x.vddio4Mv then 1 else 2) ∧
      t.role = (if t.pw.slotSel = 2 then .solo else .fenced) ∧ t.pw.bootSel = x.bootSel ∧ t.pw.ringEnd = x.ringEnd ∧
      t.pw.panelKey = x.panelKey) ∧
  (∀ (s : State) (a b : Bool), s.pw.boot = .released → (a || b) = true → 
      Next (.bootRootActivity a b) s fun t => t.pw.boot = .rooted ∧ t.pw.bootRoot = some (if a then .a else .b) ∧ t.hs.nowB = !a ∧
      t.hs.ssyn.lock = 1 ∧ t.hs.msyn.lock = 1) ∧
  (∀ (s : State), s.pw.boot = .ready → 
      Next (.slotVerifyComplete (bootSlot s) true) s fun t => t.pw.boot = .verified ∧ t.pt.runB = bootSlot s) ∧
  (∀ (s : State), s.pw.boot = .ready → s.pt.rolledBack = none → 
      Next (.slotVerifyComplete (bootSlot s) false) s fun t => t.pw.boot = .ready ∧ bootSlot t = !bootSlot s) ∧
  (∀ (s : State) (k : Nat), s.pw.boot = .ready → s.pt.rolledBack = some k → 
      Next (.slotVerifyComplete (bootSlot s) false) s fun t => t.pw.boot = .failed ∧ t.pw.bootFail = 1 ∧ t.mode = s.mode) ∧
  (∀ (s : State), s.pw.boot = .verified → s.hs.vsyn.lock = 4 → s.hs.nsyn.lock = 4 → 
      Next (.bootComplete true) s fun t => t.mode = .configure ∧ t.pw.boot = .done) ∧
  (∀ (s : State), s.pw.boot = .verified → 
      exec (.bootComplete false) s = .next { s with pw := { s.pw with boot := .failed, bootFail := 2 } })

/-- In CONFIGURE, FREERUN, ACQUIRE, LOCKED and HOLDOVER each FAULT event enters SAFE, reports its cause in MB_SAFE_CAUSE,
sets HW_IRQ_SAFE, ends the pending commit and the staging area, and leaves a SOLO unit SOLO. FAULT events in later fabric
cycles of SAFE are counted and change neither the mode nor the cause; one of the cycle of the entry adds its cause to it
(log entry 88). A correctable ECC error is an ALARM. Rules: R14, R15, R35,
R417, R57, R486, Table AH-3, Table MB-19. Rows: lockstepMismatch, eccError, scrubCrcFailure, supplyMonitorTrip,
watchdogExpiry, dieTemperatureTrip. -/
def Obligations.FaultRows : Prop :=
  (∀ (s : State), (s.mode = .configure ∨ s.mode = .freerun ∨ s.mode = .acquire ∨ s.mode = .locked ∨ s.mode = .holdover) → 
      Next (.lockstepMismatch) s fun t => t.mode = .safe ∧ t.safeCause = 1 ∧ nbit t.mb.irqStatus 3 = true ∧ t.mb.pend = none ∧ t.mb.staging = none ∧
      (s.role = .solo → s.pw.slotSel = 2 → t.role = .solo)) ∧
  (∀ (s : State), (s.mode = .configure ∨ s.mode = .freerun ∨ s.mode = .acquire ∨ s.mode = .locked ∨ s.mode = .holdover) → 
      Next (.eccError true) s fun t => t.mode = .safe ∧ t.safeCause = 2 ∧ nbit t.mb.irqStatus 3 = true ∧ t.mb.pend = none ∧ t.mb.staging = none ∧
      (s.role = .solo → s.pw.slotSel = 2 → t.role = .solo)) ∧
  (∀ (s : State), (s.mode = .configure ∨ s.mode = .freerun ∨ s.mode = .acquire ∨ s.mode = .locked ∨ s.mode = .holdover) → 
      Next (.scrubCrcFailure) s fun t => t.mode = .safe ∧ t.safeCause = 4 ∧ nbit t.mb.irqStatus 3 = true ∧ t.mb.pend = none ∧ t.mb.staging = none ∧
      (s.role = .solo → s.pw.slotSel = 2 → t.role = .solo)) ∧
  (∀ (s : State) (r : Rail), s.pw.inReset = false → (s.mode = .configure ∨ s.mode = .freerun ∨ s.mode = .acquire ∨ s.mode = .locked ∨ s.mode = .holdover) → 
      Next (.supplyMonitorTrip r) s fun t => t.mode = .safe ∧ t.safeCause = 32 ∧ nbit t.mb.irqStatus 3 = true ∧ t.mb.pend = none ∧ t.mb.staging = none ∧
      (s.role = .solo → s.pw.slotSel = 2 → t.role = .solo)) ∧
  (∀ (s : State), (s.mode = .configure ∨ s.mode = .freerun ∨ s.mode = .acquire ∨ s.mode = .locked ∨ s.mode = .holdover) → 
      Next (.watchdogExpiry) s fun t => t.mode = .safe ∧ t.safeCause = 256 ∧ nbit t.mb.irqStatus 3 = true ∧ t.mb.pend = none ∧ t.mb.staging = none ∧
      (s.role = .solo → s.pw.slotSel = 2 → t.role = .solo)) ∧
  (∀ (s : State) (c p : Int), s.pw.inReset = false → (s.mode = .configure ∨ s.mode = .freerun ∨ s.mode = .acquire ∨ s.mode = .locked ∨ s.mode = .holdover) → 11500 ≤ c → s.pw.temp = some p → 11500 ≤ p → 
      Next (.dieTemperatureTrip c) s fun t => t.mode = .safe ∧ t.safeCause = 64 ∧ nbit t.mb.irqStatus 3 = true) ∧
  (∀ (s : State), s.mode = .safe → s.evtAt < fabricCycle s → 
      Next .lockstepMismatch s fun t => t.mode = .safe ∧ t.safeCause = s.safeCause ∧ t.faultCount = s.faultCount + 1 ∧
      { t with faultCount := s.faultCount, lg := s.lg, evtAt := s.evtAt, evtRank := s.evtRank } = s) ∧
  (∀ (s : State), s.mode = .safe → fabricCycle s ≤ s.evtAt → s.evtRank = rankFault → s.safeAt = s.evtAt → 
      Next .lockstepMismatch s fun t => t.mode = .safe ∧ t.safeCause = Nat.lor s.safeCause fLockstep ∧ t.faultCount = s.faultCount ∧
      { t with safeCause := s.safeCause, lg := s.lg } = s) ∧
  (∀ (s : State), s.mode = .boot → 
      exec .watchdogExpiry s = .next s) ∧
  (∀ (s : State), s.mode ≠ .boot → s.mode ≠ .hush → 
      Next (.eccError false) s fun t => t.mode = s.mode ∧ nbit t.mb.alarmBlocks 13 = true ∧ nbit t.mb.irqStatus 2 = true ∧ t.plant = s.plant)

/-- PANEL_KEY_CHANGE changes the present level where the origin is in use and the pin has stood there for 20 ms, and
nothing before. A die-sensor reading below 108 C is stored, and
re-arms the ALARM below 103 C; a reading of 108 C or more raises the ALARM once. The end of a domain's start-up or
shutdown, after the time of Table PW-6, leaves the domain on or off. HUSH entry 20 ms after its boundary, waking, and
the restart at a frame boundary. Rules: R46, R71, R72, R74, R75, R77, R78, R486, R510, Table PW-6. Rows:
panelKeyChange, dieTempSample, domainStartupComplete, domainShutdownComplete, hushEntryComplete, hushWake,
hushExitRestart. -/
def Obligations.PowerAndHush : Prop :=
  (∀ (s : State) (l : Bool) (ms : Nat), s.pw.panelKey = true → s.pw.inReset = false → 20 ≤ ms → 
      exec (.panelKeyChange ⟨l, ms⟩) s = .next { s with pw := { s.pw with panelNow := l } }) ∧
  (∀ (s : State) (l : Bool) (ms : Nat), ms < 20 → 
      exec (.panelKeyChange ⟨l, ms⟩) s = .next s) ∧
  (∀ (s : State) (c : Int), s.pw.inReset = false → c < 10800 → 
      exec (.dieTempSample c) s = .next { s with pw := { s.pw with temp := some c, tempAlarmed := if c < 10300 then false else s.pw.tempAlarmed } }) ∧
  (∀ (s : State) (c : Int), s.pw.inReset = false → 10800 ≤ c → c < 11500 → s.pw.tempAlarmed = false → 
      Next (.dieTempSample c) s fun t => t.pw.temp = some c ∧ t.pw.tempAlarmed = true ∧ nbit t.mb.alarmBlocks 13 = true ∧ t.mode = s.mode) ∧
  (∀ (s : State) (d : Nat), d ≤ 10 → Sized s → (getDom s d).run = some true → (getDom s d).since + domTime s.live d true ≤ s.clock → 
      Next (.domainStartupComplete d) s fun t => (getDom t d).on = true) ∧
  (∀ (s : State) (d : Nat), d ≤ 10 → Sized s → (getDom s d).run = some false → (getDom s d).since + domTime s.live d false ≤ s.clock → 
      Next (.domainShutdownComplete d) s fun t => (getDom t d).on = false) ∧
  (∀ (s : State) (n : Nat), s.pw.hush = .entering n → s.pw.hushAt + 20 * uPerMs ≤ s.clock → FenceInv s → 
      Next .hushEntryComplete s fun t => t.mode = .hush ∧ t.pw.hush = .hushed ∧ t.dataPlane = .dark ∧ t.fenceOpen = false ∧ t.hs.vsyn.lock = 0 ∧
      t.hs.nsyn.lock = 0 ∧ t.hs.ssyn.lock = 0 ∧ t.live = s.live) ∧
  (∀ (s : State), s.pw.hush = .hushed → s.pw.wakeHeld = true → 
      Next .hushWake s fun t => t.pw.hush = .waking ∧ t.pw.wakeHeld = false ∧ t.hs.ssyn.lock = 1 ∧ t.hs.nsyn.lock = 1 ∧ t.mode = s.mode) ∧
  (∀ (s : State), s.pw.hush = .waking → s.mode = .hush → wakeLocked s = true → s.spindle % frameLen (f441 s) = 0 → s.pw.safeOnWake = false → 
      Next (.hushExitRestart true) s fun t => t.mode = .freerun ∧ t.pw.hush = .awake ∧ t.dataPlane = .running) ∧
  (∀ (s : State), s.pw.hush = .waking → s.mode = .hush → wakeLocked s = true → s.spindle % frameLen (f441 s) = 0 → s.pw.safeOnWake = true → s.safeCause ≠ 0 → 
      Next (.hushExitRestart true) s fun t => t.mode = .safe ∧ t.pw.hush = .awake ∧ t.safeCause = s.safeCause)

/-- A declared lock makes the synthesiser LOCKED with its pull range centred on the word in use, which it keeps. No lock
within 1 ms is the unlock FAULT of a running device, and a failed boot step in BOOT. A loss of lock leaves LOCKED and
is the unlock FAULT; of MSYN it also stops a running data plane. The end of a phase move, when the whole amount has been
added, leaves nothing owed and the word at its base value; before, the move goes on with the rest. Rules: R90, R91, R95, R97, R14, Table HS-4. Rows: synthLockDeclared, synthLockTimeout,
synthLossOfLock, phaseMoveComplete. -/
def Obligations.Synthesisers : Prop :=
  (∀ (s : State) (x : Syn), (getSyn s x).lock ≠ 0 → (getSyn s x).lock ≠ 4 → 
      Next (.synthLockDeclared x) s fun t => (getSyn t x).lock = 4 ∧ (getSyn t x).word = (getSyn s x).word ∧ (getSyn t x).lockWord = (getSyn s x).word ∧
      (getSyn t x).suspended = false ∧ t.mode = s.mode) ∧
  (∀ (s : State) (x : Syn), (getSyn s x).lock ≠ 0 → (getSyn s x).lock ≠ 4 → (getSyn s x).lockFrom + uPerMs ≤ s.clock → (s.mode = .configure ∨ s.mode = .freerun ∨ s.mode = .acquire ∨ s.mode = .locked ∨ s.mode = .holdover) → 
      Next (.synthLockTimeout x) s fun t => t.mode = .safe ∧ t.safeCause = 8) ∧
  (∀ (s : State) (x : Syn), (getSyn s x).lock ≠ 0 → (getSyn s x).lock ≠ 4 → (getSyn s x).lockFrom + uPerMs ≤ s.clock → s.mode = .boot → 
      exec (.synthLockTimeout x) s = .next { s with pw := { s.pw with boot := .failed, bootFail := 3 } }) ∧
  (∀ (s : State) (x : Syn), (getSyn s x).lock = 4 → (s.mode = .configure ∨ s.mode = .freerun ∨ s.mode = .acquire ∨ s.mode = .locked ∨ s.mode = .holdover) → 
      Next (.synthLossOfLock x) s fun t => t.mode = .safe ∧ t.safeCause = 8 ∧ (getSyn t x).lock = 2 ∧ (x = .msyn → t.dataPlane ≠ .running)) ∧
  (∀ (s : State) (x : Syn), (getSyn s x).moving = true → (getSyn s x).suspended = false → (getSyn s x).owed = 0 → 
      Next (.phaseMoveComplete x) s fun t => (getSyn t x).moving = false ∧ (getSyn t x).owed = 0 ∧ (getSyn t x).word = (getSyn s x).word ∧
      { t with hs := s.hs, tk := s.tk } = s) ∧
  (∀ (s : State) (x : Syn), moveRuns (getSyn s x) = true →
      moveTaken (getSyn s x) (((getSyn s x).cyc + s.hs.rootHz * (s.clock - (getSyn s x).moveAt)) / uPerS) = (getSyn s x).owed → 
      Next (.phaseMoveComplete x) s fun t => (getSyn t x).moving = false ∧ (getSyn t x).owed = 0 ∧ (getSyn t x).word = (getSyn s x).word ∧
      { t with hs := s.hs, tk := s.tk } = s) ∧
  (∀ (s : State) (x : Syn), moveRuns (getSyn s x) = true →
      moveTaken (getSyn s x) (((getSyn s x).cyc + s.hs.rootHz * (s.clock - (getSyn s x).moveAt)) / uPerS) ≠ (getSyn s x).owed → 
      Next (.phaseMoveComplete x) s fun t => (getSyn t x).moving = true ∧ (getSyn t x).owed ≠ 0 ∧ (getSyn t x).word = (getSyn s x).word)

/-- A root in QUALIFIED or REQUALIFYING that meets a disqualifying condition becomes DISQUALIFIED: the other QUALIFIED
root takes over, with an ALARM, or, when it was in use and no other is QUALIFIED, the FAULT follows. When the
condition clears it is REQUALIFYING, and QUALIFIED after a clean second. Automatic selection then takes it into use
when the root in use is not QUALIFIED, and leaves the root in use otherwise. With HS_ROOT_REVERT and no forced root
the preferred root comes back into use after 10 s. The 1 ms ratio update records the ratio and raises an ALARM when it
first exceeds the tolerance. Rules: R81, R82, R83, R84, R86, R14, Table HS-1. Rows: rootDisqualified,
rootConditionClear, rootQualified, rootRevert, rootRatioUpdate. -/
def Obligations.Roots : Prop :=
  (∀ (s : State) (r : RootId), ((getRoot s r).st = .qualified ∨ (getRoot s r).st = .requalifying) → (getRoot s (otherRoot r)).st = .qualified → rootNow s = r → 
      Next (.rootDisqualified r) s fun t => (getRoot t r).st = .disqualified ∧ rootNow t = otherRoot r ∧ t.hs.force = none ∧ nbit t.mb.alarmBlocks 0 = true ∧ t.mode = s.mode) ∧
  (∀ (s : State) (r : RootId), ((getRoot s r).st = .qualified ∨ (getRoot s r).st = .requalifying) → (getRoot s (otherRoot r)).st ≠ .qualified → rootNow s = r → (s.mode = .configure ∨ s.mode = .freerun ∨ s.mode = .acquire ∨ s.mode = .locked ∨ s.mode = .holdover) → 
      Next (.rootDisqualified r) s fun t => (getRoot t r).st = .disqualified ∧ t.mode = .safe ∧ t.safeCause = 16) ∧
  (∀ (s : State) (r : RootId), (getRoot s r).st = .disqualified → 
      Next (.rootConditionClear r) s fun t => getRoot t r = { st := .requalifying, since := s.clock } ∧ getRoot t (otherRoot r) = getRoot s (otherRoot r) ∧
      { t with hs := { t.hs with rootA := s.hs.rootA, rootB := s.hs.rootB } } = s) ∧
  (∀ (s : State) (r : RootId), (getRoot s r).st = .requalifying → (getRoot s r).since + uPerS ≤ s.clock → s.hs.heldUnfit = false → (rootNow s = r ∨ (getRoot s (rootNow s)).st = .qualified) → 
      Next (.rootQualified r) s fun t => getRoot t r = { st := .qualified, since := s.clock } ∧ rootNow t = rootNow s ∧
      { t with hs := { t.hs with rootA := s.hs.rootA, rootB := s.hs.rootB } } = s) ∧
  (∀ (s : State) (r : RootId), (getRoot s r).st = .requalifying → (getRoot s r).since + uPerS ≤ s.clock → s.hs.heldUnfit = false → s.hs.force = none → rootNow s ≠ r → (getRoot s (rootNow s)).st ≠ .qualified → 
      Next (.rootQualified r) s fun t => getRoot t r = { st := .qualified, since := s.clock } ∧ rootNow t = r ∧ t.mode = s.mode ∧ t.live = s.live) ∧
  (∀ (s : State), s.live.root.revert = true → s.hs.force = none → rootNow s ≠ rootPref s.live → (getRoot s (rootPref s.live)).st = .qualified → (getRoot s (rootPref s.live)).since + 10 * uPerS ≤ s.clock → 
      Next .rootRevert s fun t => rootNow t = rootPref s.live ∧ t.mode = s.mode ∧ t.live = s.live) ∧
  (∀ (s : State) (d a b : Int), d.natAbs ≤ s.live.root.tol * 1000 → 
      exec (.rootRatioUpdate d a b) s = .next { s with hs := { s.hs with ratioDev := d, disagree := false } }) ∧
  (∀ (s : State) (d a b : Int), s.live.root.tol * 1000 < d.natAbs → s.hs.disagree = false → s.mode ≠ .locked → 
      Next (.rootRatioUpdate d a b) s fun t => t.hs = { s.hs with ratioDev := d, disagree := true } ∧ nbit t.mb.alarmBlocks 0 = true ∧ t.mode = s.mode)

/-- A 100 us window with more edges than the limit closes the gate of its output, counts a trip and raises an ALARM; a
window within the limit counts towards the ten clean windows. A gate opens with its synthesiser locked and the divider
loaded 16 output cycles before; after a trip only with ten clean windows. Rules: R103, R104, R339, Table HS-18. Rows:
toolrestWindow, toolrestGateOpen. -/
def Obligations.ToolRest : Prop :=
  (∀ (s : State) (o n : Nat), o < 12 → Sized s → s.firstLive = true → (clkOf s.live o).mode ≠ 0 → windowLimit s.live o < n → 
      Next (.toolrestWindow o n) s fun t => (nth {} t.hs.gate o).gate = 2 ∧ (nth {} t.hs.gate o).clean = 0 ∧ (nth {} t.hs.gate o).lastCount = n ∧
      (nth {} t.hs.gate o).trips = satInc 16 (nth {} s.hs.gate o).trips ∧ nbit t.mb.alarmBlocks 0 = true ∧
      ∀ p, p ≠ o → nth {} t.hs.gate p = nth {} s.hs.gate p) ∧
  (∀ (s : State) (o n : Nat), o < 12 → Sized s → s.firstLive = true → (clkOf s.live o).mode ≠ 0 → n ≤ windowLimit s.live o → 
      Next (.toolrestWindow o n) s fun t => (nth {} t.hs.gate o).gate = (nth {} s.hs.gate o).gate ∧ (nth {} t.hs.gate o).clean = (nth {} s.hs.gate o).clean + 1 ∧
      (nth {} t.hs.gate o).lastCount = n ∧ { t with hs := { t.hs with gate := s.hs.gate } } = s) ∧
  (∀ (s : State) (o a : Nat), o < 12 → Sized s → s.firstLive = true → (clkOf s.live o).mode ≠ 0 → (getSyn s (tapSyn (clkOf s.live o).tap)).lock = 4 → cyclesPassed s.live o (getSyn s (tapSyn (clkOf s.live o).tap)).lockAt s.clock = true → (nth {} s.hs.gate o).aligned = some a → cyclesPassed s.live o a s.clock = true → clkHeld s = false → ((nth {} s.hs.gate o).gate = 2 → ∃ b, (nth {} s.hs.gate o).cleanAt = some b ∧ cyclesPassed s.live o b s.clock = true) → 
      Next (.toolrestGateOpen o) s fun t => (nth {} t.hs.gate o).gate = 0 ∧ (∀ p, p ≠ o → nth {} t.hs.gate p = nth {} s.hs.gate p) ∧
      { t with hs := { t.hs with gate := s.hs.gate } } = s)

/-- A signal that appears takes a usable candidate from NO_SIGNAL to QUALIFYING with the qualification time of the
configuration, with an ALARM. An interval within every criterion counts the qualification down, and an interval that
fails one rejects a candidate that is not in use and records the criterion. The candidate whose time has run out is
QUALIFIED, and from FREERUN the device enters ACQUIRE on the first QUALIFIED candidate. A loss declaration takes a
candidate that is not in use, and that has been silent for its time, to NO_SIGNAL, counted and with an ALARM; before that
time it changes nothing. Two seconds of the criteria of R128 end ACQUIRE in LOCKED at a frame boundary. Rules: R117, R118, R119, R120, R121, R128, Table TK-2. Rows: candidateSignalAppear, candidateIntervalEval,
candidateQualified, referenceLoss, acquisitionComplete. -/
def Obligations.Candidates : Prop :=
  (∀ (s : State) (i : Nat), Sized s → i < 12 → (candSt s i).st = .noSignal → candUsable s i = true → 
      Next (.candidateSignalAppear i) s fun t => (candSt t i).st = .qualifying ∧ (candSt t i).qualLeft = s.live.tk.qualS ∧ nbit t.mb.alarmBlocks 1 = true ∧ t.mode = s.mode) ∧
  (∀ (s : State) (i : Nat) (f d : Int), Sized s → i < 12 → (candSt s i).st = .qualifying → failedCriterion s i f (deltaOf s i (measNow s i d)) = 0 → 
      Next (.candidateIntervalEval i f d) s fun t => (candSt t i).st = .qualifying ∧ (candSt t i).qualLeft = (candSt s i).qualLeft - 1 ∧ (candSt t i).freq = f ∧
      { t with tk := { t.tk with cand := s.tk.cand } } = s) ∧
  (∀ (s : State) (i : Nat) (f d : Int), Sized s → i < 12 → (candSt s i).st = .qualifying → s.tk.selected ≠ some i → failedCriterion s i f (deltaOf s i (measNow s i d)) ≠ 0 → 
      Next (.candidateIntervalEval i f d) s fun t => (candSt t i).st = .rejected ∧ (candSt t i).fail = failedCriterion s i f (deltaOf s i (measNow s i d)) ∧
      { t with tk := { t.tk with cand := s.tk.cand } } = s) ∧
  (∀ (s : State) (d : Int), Sized s → (candSt s 0).st = .qualifying → (candSt s 0).qualLeft = 0 → s.mode = .freerun → 
      Next (.candidateQualified 0 d) s fun t => t.mode = .acquire ∧ t.tk.selected = some 0 ∧ t.acquireFenced = s.live.tk.fast) ∧
  (∀ (s : State) (i : Nat) (d : Int), Sized s → i < 12 → (candSt s i).st = .qualifying → (candSt s i).qualLeft = 0 → s.mode = .configure → 
      Next (.candidateQualified i d) s fun t => (candSt t i).st = .qualified ∧ (candSt t i).phase = deltaOf s i (measNow s i d) ∧ { t with tk := { t.tk with cand := s.tk.cand }, evtAt := s.evtAt, evtRank := s.evtRank } = s) ∧
  (∀ (s : State) (i : Nat) (b : Bool), Sized s → i < 12 → (candSt s i).st ≠ .off → (candSt s i).st ≠ .noSignal → s.tk.selected ≠ some i → lossDue s i b = true → 
      Next (.referenceLoss ⟨i, b⟩) s fun t => (candSt t i).st = .noSignal ∧ t.tk.losses = modNth (satInc 16) s.tk.losses (candCfg s.live i).typ ∧ nbit t.mb.alarmBlocks 1 = true ∧ t.mode = s.mode) ∧
  (∀ (s : State) (i : Nat) (b : Bool), lossDue s i b = false → 
      exec (.referenceLoss ⟨i, b⟩) s = .next s) ∧
  (∀ (s : State) (u : Nat), s.mode = .acquire → s.tk.lockSince = some u → u + 2 * uPerS ≤ s.clock → s.spindle % frameLen (f441 s) = 0 → 
      Next .acquisitionComplete s fun t => t.mode = .locked ∧ t.acquireFenced = false ∧ nbit t.mb.irqStatus 4 = true)

/-- A loop update, once in a millisecond, records the phase of the selected candidate; without one nothing happens. In HOLDOVER the 1 s update
moves the estimate in use by at most 1e-11 and keeps it within 50 ppm. An estimate that has aged past TK_HO_AGE raises
an ALARM and keeps the mode. A leap changes the UTC offset by one second and ends the pending leap, and Spindle time
does not step. The edges of PPS_IN and WCLK_IN and the windows of the video reference give the phase of their
candidate. Rules: R28, R117, R123, R129, R130, R131, R132, R139, R350, R511. Rows: loopUpdate, holdoverUpdate,
holdoverAged, leapApplied, ppsInEdge, wclkInEdge, videoRefWindow. -/
def Obligations.LoopAndHoldover : Prop :=
  (∀ (s : State) (i : Nat) (d : Int), s.mb.resetBusy = none → loopDue s = true → s.tk.selected = some i → (candSt s i).st = .qualified → Sized s → i < 12 → (s.mode = .acquire ∨ s.mode = .locked) → 
      Next (.loopUpdate d) s fun t => (candSt t i).phase = deltaOf s i (measNow s i d) ∧ t.tk.loopLast = some s.clock ∧ t.mode = s.mode ∧ t.spindle = s.spindle) ∧
  (∀ (s : State) (d : Int), loopDue s = false → 
      exec (.loopUpdate d) s = .next s) ∧
  (∀ (s : State) (d : Int), s.tk.selected = none → 
      exec (.loopUpdate d) s = .next s) ∧
  (∀ (s : State) (c : Int), s.mode = .holdover → s.mb.resetBusy = none → s.role ≠ .standby → -50000000000000000000 ≤ s.tk.yh → s.tk.yh ≤ 50000000000000000000 → 
      Next (.holdoverUpdate c) s fun t => t.tk.yh = t.tk.y ∧ s.tk.yh - 10000000000000 ≤ t.tk.y ∧ t.tk.y ≤ s.tk.yh + 10000000000000 ∧
      -50000000000000000000 ≤ t.tk.y ∧ t.tk.y ≤ 50000000000000000000 ∧ t.mode = .holdover) ∧
  (∀ (s : State), s.tk.hoAged = false → s.tk.hoList ≠ [] → s.tk.hoLast + s.live.tk.hoAge * 3600 * uPerS < s.clock → 
      Next .holdoverAged s fun t => t.tk = { s.tk with hoAged := true } ∧ nbit t.mb.alarmBlocks 1 = true ∧ t.mode = s.mode) ∧
  (∀ (s : State), s.tk.leapPend = 1 → s.tk.leapAt ≤ secOf s.spindle → 
      Next .leapApplied s fun t => t.tk.utcNow = s.tk.utcNow + 1 ∧ t.tk.leapPend = 0 ∧ t.spindle = s.spindle) ∧
  (∀ (s : State), s.tk.leapPend = 2 → s.tk.leapAt ≤ secOf s.spindle → 
      Next .leapApplied s fun t => t.tk.utcNow = s.tk.utcNow - 1 ∧ t.tk.leapPend = 0 ∧ t.spindle = s.spindle) ∧
  (∀ (s : State) (i : Nat) (f : Int), presentCand s 3 = some i → Sized s → i < 12 → 
      Next (.ppsInEdge f) s fun t => (candSt t i).phase = deltaOf s i (-f) ∧ t.tk.ppsLast = some s.clock ∧ (candSt t i).st = (candSt s i).st ∧ { t with tk := s.tk } = s) ∧
  (∀ (s : State) (i a : Nat), presentCand s 4 = some i → Sized s → i < 12 → wclkBad (vfmtRate (candCfg s.live i).vfmt) ((a :: s.dg.wclk).take 5) = false → 
      Next (.wclkInEdge a) s fun t => (candSt t i).phase = deltaOf { s with dg := { s.dg with wclk := (a :: s.dg.wclk).take 5 } } i (-(a : Int)) ∧
      t.dg.wclk = (a :: s.dg.wclk).take 5 ∧ (candSt t i).st = (candSt s i).st) ∧
  (∀ (s : State) (i : Nat) (w : VideoWindow), presentCand s 9 = some i → Sized s → i < 12 → w.bad = false → w.template = true → 
      Next (.videoRefWindow w) s fun t => t.tk.videoMisses = 0 ∧ (w.j = 0 → t.tk.videoCoarse = some w.late ∧ t.tk.cand = s.tk.cand) ∧
      (w.j ≠ 0 → ∀ a, s.tk.videoCoarse = some a → (candSt t i).phase = deltaOf s i (-(videoLate (candCfg s.live i).vfmt a w.icorr w.qcorr))) ∧ { t with tk := s.tk } = s) ∧
  (∀ (s : State) (i : Nat) (w : VideoWindow), presentCand s 9 = some i → Sized s → i < 12 → w.bad = false → w.template = false → 1 ≤ s.tk.videoMisses → s.tk.selected ≠ some i → 
      Next (.videoRefWindow w) s fun t => (candSt t i).st = .noSignal ∧ nbit t.mb.alarmBlocks 1 = true ∧ t.mode = s.mode)

/-- Inserting a module stores its management data and starts the port seeking lock, where its domain is on and its mode is
not off. Before the first commit a port without lock for 500 ms tries the other rate. Block lock for 100 ms
gives the link with the rate of its mode, and its PTP port starts in LISTENING, or DISABLED. SFPn_LOS, or the loss of block
lock for more than 1 ms, loses the link: it is counted and seeks lock again, and its PTP port is INITIALIZING, or DISABLED.
A shorter time changes nothing. Removing the module idles the port and clears the data. Rules: R151, R152, R160, Table NW-18.
Rows: sfpModuleInserted, sfpModuleRemoved, linkTrainingAlternate, linkUp, linkDown. -/
def Obligations.NetworkLinks : Prop :=
  (∀ (s : State) (n : Nat) (id : Bytes), n < 2 → (getPort s n).modabs = true → portPowered s n = true → s.mode ≠ .boot → s.mode ≠ .hush → portMode s.live n ≠ 0 → 
      Next (.sfpModuleInserted n id) s fun t => (getPort t n).modabs = false ∧ (getPort t n).module = id ∧ (getPort t n).link = 1 ∧ (getPort t n).txdis = false ∧
      (getPort t n).tryAt = s.clock ∧ getPort t (1 - n) = getPort s (1 - n) ∧ { t with nw := s.nw } = s) ∧
  (∀ (s : State) (n : Nat), n < 2 → (getPort s n).modabs = false → 
      Next (.sfpModuleRemoved n) s fun t => (getPort t n).modabs = true ∧ (getPort t n).txdis = true ∧ (getPort t n).link = 0 ∧ (getPort t n).module = [] ∧
      (getPort t n).linkDowns = (if linkUp s n then satInc 16 (getPort s n).linkDowns else (getPort s n).linkDowns) ∧ getPort t (1 - n) = getPort s (1 - n)) ∧
  (∀ (s : State) (n : Nat), n < 2 → s.firstLive = false → (getPort s n).link = 1 → (getPort s n).tryAt + 500 * uPerMs ≤ s.clock → 
      Next (.linkTrainingAlternate n) s fun t => (getPort t n).try10 = !(getPort s n).try10 ∧ (getPort t n).tryAt = s.clock ∧ (getPort t n).link = 1 ∧ { t with nw := s.nw } = s) ∧
  (∀ (s : State) (n ms : Nat), n < 2 → (getPort s n).link = 1 → 100 ≤ ms → 
      Next (.linkUp ⟨n, ms⟩) s fun t => (getPort t n).link = linkCode s n ∧ (getPort t n).los = false ∧ (getPtp t n).st = (if (ptpPortCfg s.live n).role = 0 then 3 else 4)) ∧
  (∀ (s : State) (n ms : Nat), ms < 100 → 
      exec (.linkUp ⟨n, ms⟩) s = .next s) ∧
  (∀ (s : State) (n us : Nat), us ≤ 1000 → 
      exec (.linkDown ⟨n, false, us⟩) s = .next s) ∧
  (∀ (s : State) (n us : Nat) (b : Bool), n < 2 → linkUp s n = true → (b = true ∨ 1000 < us) → 
      Next (.linkDown ⟨n, b, us⟩) s fun t => (getPort t n).los = ((getPort s n).los || b) ∧ (getPort t n).link = 1 ∧ (getPort t n).linkDowns = satInc 16 (getPort s n).linkDowns ∧ (getPort t n).tryAt = s.clock ∧
      (getPtp t n).st = (if (ptpPortCfg s.live n).role = 0 then 3 else 1))

/-- On a port that serves: a frame that Table NW-2 handles is not discarded, and any other is counted and changes nothing
else. An ARP request for the service address
is answered with the service MAC while the fence is open, and not while it is closed; one for the unit address is
answered always. A reply is cached as the newest entry, of at most 64. An entry whose 300 s are over leaves the cache
and no other does. An unresolved next hop of an enabled flow is requested once a second. The opening of the fence
sends one gratuitous ARP on each port. An echo of at most 1,472 bytes to the unit address, or to the service address
with the fence open, is answered, up to 100 a second, and beyond that discarded and counted. Membership queries are answered with, and due reports are sent
as, one report for each group. Rules: R153, R154, R155, R172. Rows: frameDiscarded, arpRequestReceived,
arpReplyReceived, arpEntryAge, arpRetry, gratuitousArp, icmpEchoReceived, igmpQueryReceived, igmpReport. -/
def Obligations.NetworkFrames : Prop :=
  (∀ (s : State) (n : Nat) (f : NetFrame), portServes s n = true → frameHandled s n f = true → 
      exec (.frameDiscarded ⟨n, f⟩) s = .next s) ∧
  (∀ (s : State) (n : Nat) (f : NetFrame), portServes s n = true → frameHandled s n f = false → 
      Next (.frameDiscarded ⟨n, f⟩) s fun t => (getPort t n).rxDrops = satInc 32 (getPort s n).rxDrops ∧ getPort t (1 - n) = getPort s (1 - n) ∧
      { (getPort t n) with rxDrops := (getPort s n).rxDrops } = getPort s n ∧ { t with nw := s.nw } = s) ∧
  (∀ (s : State) (n a b : Nat), portServes s n = true → s.fenceOpen = true → 
      exec (.arpRequestReceived n (portCfg s.live n).serviceIp a b) s =
      .next { s with out := .net n (serviceHdr (portCfg s.live n) 0 0 0) (.arpReply (portCfg s.live n).serviceIp (portCfg s.live n).mac a b) :: s.out }) ∧
  (∀ (s : State) (n a b : Nat), s.fenceOpen = false → (portCfg s.live n).serviceIp ≠ (portCfg s.live n).unitIp → 
      exec (.arpRequestReceived n (portCfg s.live n).serviceIp a b) s = .next s) ∧
  (∀ (s : State) (n a b : Nat), portServes s n = true → (portCfg s.live n).serviceIp ≠ (portCfg s.live n).unitIp → 
      exec (.arpRequestReceived n (portCfg s.live n).unitIp a b) s =
      .next { s with out := .net n (unitHdr (portCfg s.live n) 0 0) (.arpReply (portCfg s.live n).unitIp Config.unitMac a b) :: s.out }) ∧
  (∀ (s : State) (n ip mac : Nat), portServes s n = true → 
      Next (.arpReplyReceived n ip mac) s fun t => (getPort t n).arp.head? = some (ip, mac, s.clock) ∧ (getPort t n).arp.length ≤ 64 ∧
      (∀ e ∈ (getPort t n).arp.tail, e ∈ (getPort s n).arp ∧ e.1 ≠ ip) ∧ { t with nw := s.nw } = s) ∧
  (∀ (s : State) (n ip : Nat), n < 2 → (getPort s n).arp.all (fun e => e.1 != ip || decide (e.2.2 + 300 * uPerS ≤ s.clock)) = true → 
      Next (.arpEntryAge n ip) s fun t => (getPort t n).arp = (getPort s n).arp.filter (fun e => e.1 != ip) ∧
      getPort t (1 - n) = getPort s (1 - n) ∧ { t with nw := s.nw } = s) ∧
  (∀ (s : State) (n ip : Nat), portServes s n = true → (hopsWanted s n).contains ip = true → arpKnown s n ip = false → (getPort s n).arpReq = [] → 
      Next (.arpRetry n ip) s fun t => t.out = .net n (unitHdr (portCfg s.live n) 0 0) (.arpRequest (portCfg s.live n).unitIp Config.unitMac ip) :: s.out ∧ (getPort t n).arpReq = [(ip, s.clock)] ∧ { t with nw := s.nw, out := s.out } = s) ∧
  (∀ (s : State) (n ip t0 : Nat), (getPort s n).arpReq = [(ip, t0)] → s.clock < t0 + uPerS → 
      exec (.arpRetry n ip) s = .next s) ∧
  (∀ (s : State), s.nw.garp = true → s.fenceOpen = true → portServes s 0 = true → portServes s 1 = true → 
      exec .gratuitousArp s = .next { s with nw := { s.nw with garp := false }, out := .net 1 (serviceHdr (portCfg s.live 1) 0 0 0) (.gratuitousArp (portCfg s.live 1).serviceIp (portCfg s.live 1).mac) :: .net 0 (serviceHdr (portCfg s.live 0) 0 0 0) (.gratuitousArp (portCfg s.live 0).serviceIp (portCfg s.live 0).mac) :: s.out }) ∧
  (∀ (s : State) (n src dst : Nat) (d : Bytes), portServes s n = true → d.length ≤ 1472 → (getPort s n).icmpSec = s.clock / uPerS → (getPort s n).icmpCount < 100 → dst = (portCfg s.live n).serviceIp → s.fenceOpen = true → 
      Next (.icmpEchoReceived n ⟨src, dst⟩ d) s fun t => t.out = .net n (serviceHdr (portCfg s.live n) src 0 0) (.icmpReply d) :: s.out ∧ (getPort t n).icmpCount = (getPort s n).icmpCount + 1 ∧ { t with nw := s.nw, out := s.out } = s) ∧
  (∀ (s : State) (n src dst : Nat) (d : Bytes), portServes s n = true → d.length ≤ 1472 → (getPort s n).icmpSec = s.clock / uPerS → (getPort s n).icmpCount < 100 → dst = (portCfg s.live n).unitIp → dst ≠ (portCfg s.live n).serviceIp → 
      Next (.icmpEchoReceived n ⟨src, dst⟩ d) s fun t => t.out = .net n (unitHdr (portCfg s.live n) src 0) (.icmpReply d) :: s.out ∧ (getPort t n).icmpCount = (getPort s n).icmpCount + 1 ∧ { t with nw := s.nw, out := s.out } = s) ∧
  (∀ (s : State) (n src dst : Nat) (d : Bytes), portServes s n = true → dst = (portCfg s.live n).unitIp → (1472 < d.length ∨ (getPort s n).icmpSec = s.clock / uPerS ∧ 100 ≤ (getPort s n).icmpCount) → 
      Next (.icmpEchoReceived n ⟨src, dst⟩ d) s fun t => t.out = s.out ∧ (getPort t n).rxDrops = satInc 32 (getPort s n).rxDrops ∧ { t with nw := s.nw } = s) ∧
  (∀ (s : State) (n src dst : Nat) (d : Bytes), dst ≠ (portCfg s.live n).unitIp → (dst ≠ (portCfg s.live n).serviceIp ∨ s.fenceOpen = false) → 
      exec (.icmpEchoReceived n ⟨src, dst⟩ d) s = .next s) ∧
  (∀ (s : State) (n g : Nat), portServes s n = true → igmpVersion s n = 3 → 
      Next (.igmpQueryReceived n ⟨3, g⟩) s fun t => (∀ m ∈ members s.live, m.1 = n → g = 0 ∨ m.2.1 = g →
        .net n (unitHdr (portCfg s.live n) 0xE0000016 48) (.igmp 3 m.2.1 m.2.2 true) ∈ t.out) ∧ { t with out := s.out } = s) ∧
  (∀ (s : State) (n : Nat), portServes s n = true → igmpVersion s n = 3 → 
      Next (.igmpReport n) s fun t => (∀ d ∈ s.nw.igmp, d.port = n → d.due ≤ s.clock →
        .net n (unitHdr (portCfg s.live n) 0xE0000016 48) (.igmp 3 d.group d.src d.join) ∈ t.out) ∧ { t with nw := s.nw, out := s.out } = s)

/-- A packet that no flow takes is counted as discarded. A packet of a flow, in time and not a copy, is stored for playout
and counted, and clears a loss; one that comes too late is accepted as well, counts as late, and is not stored. The
packets that are due go out on the ports of their flow with the fence open, and are dropped with it closed. A flow
without packets for the loss interval is lost, with an ALARM; of a dual-path flow one path is. Rules: R153, R172,
R174, R175, R176. Rows: mediaPacketReceived, mediaPacketDue, flowLost, flowPathLost. -/
def Obligations.MediaPackets : Prop :=
  (∀ (s : State) (n : Nat) (p : RtpPacket), portServes s n = true → s.live.rx.all (fun e => match e.2 with | some c => !flowTakes c n p | none => true) = true → 
      Next (.mediaPacketReceived n p) s fun t => (getPort t n).rxDrops = satInc 32 (getPort s n).rxDrops ∧ { t with nw := s.nw } = s) ∧
  (∀ (s : State) (n i : Nat) (c : FlowCfg) (p : RtpPacket), portServes s n = true → s.dataPlane = .running → s.live.rx = [(i, some c)] → flowTakes c n p = true → mediaCount s c ≤ fullCount (mediaCount s c) p.ts + flowL c → fullCount (mediaCount s c) p.ts + flowN c ≤ mediaCount s c + flowDs c → (rxState s i).buf.any (fun e => e.1 == fullCount (mediaCount s c) p.ts) = false → (rxState s i).played.contains (fullCount (mediaCount s c) p.ts) = false → 
      Next (.mediaPacketReceived n p) s fun t => (rxState t i).buf = (fullCount (mediaCount s c) p.ts, p.payload) :: (rxState s i).buf ∧
      (rxState t i).pkts = ((rxState s i).pkts + 1) % 2 ^ 32 ∧ (rxState t i).lost = false ∧ (rxState t i).lastTs = p.ts ∧ { t with nw := s.nw } = s) ∧
  (∀ (s : State) (n i : Nat) (c : FlowCfg) (p : RtpPacket), portServes s n = true → s.dataPlane = .running → s.live.rx = [(i, some c)] → flowTakes c n p = true → fullCount (mediaCount s c) p.ts + flowL c < mediaCount s c → (rxState s i).buf.any (fun e => e.1 == fullCount (mediaCount s c) p.ts) = false → (rxState s i).played.contains (fullCount (mediaCount s c) p.ts) = false → 
      Next (.mediaPacketReceived n p) s fun t => (rxState t i).late = satInc 16 (rxState s i).late ∧ (rxState t i).buf = (rxState s i).buf ∧ (rxState t i).pkts = ((rxState s i).pkts + 1) % 2 ^ 32 ∧ (rxState t i).lost = false ∧ { t with nw := s.nw } = s) ∧
  (∀ (s : State) (p : RtpOut), s.nw.dueAt ≤ s.clock → s.nw.due = [p] → mediaSends s = true → nbit p.ports 0 = true → nbit p.ports 1 = false → portServes s 0 = true → resolved s 0 p.dstA = true → 
      Next .mediaPacketDue s fun t => t.out = .net 0 (serviceHdr (portCfg s.live 0) p.dstA p.dscp p.udpA) (.rtp p (rtpDatagram p (portCfg s.live 0).serviceIp p.dstA p.udpA)) :: s.out ∧ t.nw.due = [] ∧ (txFlowState t p.flow).pkts = ((txFlowState s p.flow).pkts + 1) % 2 ^ 32 ∧ { t with nw := s.nw, out := s.out } = s) ∧
  (∀ (s : State), s.nw.dueAt ≤ s.clock → s.fenceOpen = false → 
      exec .mediaPacketDue s = .next { s with nw := { s.nw with due := [] } }) ∧
  (∀ (s : State) (i : Nat) (c : FlowCfg), rxFlow s.live i = some c → c.en = true → (rxState s i).lost = false → s.firstLive = true → s.mode ≠ .hush → (rxState s i).aLast + lossTime c ≤ s.clock → (rxState s i).bLast + lossTime c ≤ s.clock → 
      Next (.flowLost i) s fun t => rxState t i = { rxState s i with lost := true, aOk := false, bOk := false, buf := [] } ∧ nbit t.mb.alarmBlocks 2 = true ∧ t.mode = s.mode) ∧
  (∀ (s : State) (i : Nat) (c : FlowCfg), rxFlow s.live i = some c → c.en = true → c.ports = 3 → (rxState s i).bOk = true → (rxState s i).bLast + lossTime c ≤ s.clock → 
      Next (.flowPathLost i true) s fun t => t.nw.rx = tabMod {} s.nw.rx i (fun f => { f with bOk := false }) ∧ nbit t.mb.alarmBlocks 2 = true ∧ t.mode = s.mode)

/-- On a port that takes part, a message of the device itself is discarded and counted. From the parent, a one-step Sync
and a Follow_Up give the difference of arrival and origin, corrected for the corrections and the asymmetry, and a
two-step Sync waits for its Follow_Up. The response to the last Delay_Req gives the mean path delay and makes the port
SLAVE. An Announce becomes the newest entry of the list of foreign masters. A MASTER port that transmits answers a
Delay_Req, up to 32,768 a second. Rules: R156, R158, R159, R160, R163, R164, R166. Rows: ptpSyncReceived,
ptpFollowUpReceived, ptpDelayRespReceived, ptpAnnounceReceived, ptpDelayReqReceived. -/
def Obligations.PtpReceived : Prop :=
  (∀ (s : State) (n : Nat) (h : PtpHeader) (b : Bool) (x y : Int), ptpOn s n = true → h.source.clock = clockId s.live → 
      Next (.ptpSyncReceived n h b x y) s fun t => getPtp t n = { getPtp s n with ownDiscards := satInc 16 (getPtp s n).ownDiscards } ∧ { t with nw := s.nw } = s) ∧
  (∀ (s : State) (n : Nat) (h : PtpHeader) (x y : Int), ptpOn s n = true → h.source.clock ≠ clockId s.live → h.domain = s.live.ptp.domain → fromParent s n h = true → 
      Next (.ptpSyncReceived n h false x y) s fun t => (getPtp t n).t21 = some (stamp y - (ptpPortCfg s.live n).asymRx - h.correction - x) ∧ (getPtp t n).sync = none ∧
      (getPtp t n).lastSync = some s.clock) ∧
  (∀ (s : State) (n : Nat) (h : PtpHeader) (x y : Int), ptpOn s n = true → h.source.clock ≠ clockId s.live → h.domain = s.live.ptp.domain → fromParent s n h = true → 
      Next (.ptpSyncReceived n h true x y) s fun t => (getPtp t n).sync = some (h.seq, stamp y - (ptpPortCfg s.live n).asymRx - h.correction) ∧ (getPtp t n).t21 = (getPtp s n).t21 ∧ { t with nw := s.nw } = s) ∧
  (∀ (s : State) (n : Nat) (h : PtpHeader) (x y : Int), ptpOn s n = true → h.source.clock ≠ clockId s.live → h.domain = s.live.ptp.domain → fromParent s n h = true → (getPtp s n).sync = some (h.seq, y) → 
      Next (.ptpFollowUpReceived n h x) s fun t => (getPtp t n).t21 = some (y - x - h.correction) ∧ (getPtp t n).sync = none) ∧
  (∀ (s : State) (n : Nat) (h : PtpHeader) (q : Nat) (x y : Int), ptpOn s n = true → h.source.clock ≠ clockId s.live → h.domain = s.live.ptp.domain → fromParent s n h = true → (getPtp s n).sync = some (q, y) → q ≠ h.seq → 
      exec (.ptpFollowUpReceived n h x) s = .next s) ∧
  (∀ (s : State) (n : Nat) (h : PtpHeader) (x d t3 : Int), ptpOn s n = true → h.source.clock ≠ clockId s.live → h.domain = s.live.ptp.domain → fromParent s n h = true → (getPtp s n).dreq = some (h.seq, t3) → (getPtp s n).t21 = some d → s.role ≠ .standby → s.role ≠ .fenced → 
      Next (.ptpDelayRespReceived n h { clock := clockId s.live, port := n + 1 } x) s fun t => (getPtp t n).mpd = (d + (x - h.correction - t3)) / 2 ∧ (getPtp t n).hasMpd = true ∧ (getPtp t n).dreq = none ∧
      (getPtp t n).st = 9 ∧ (getPtp t n).offset = d - (d + (x - h.correction - t3)) / 2) ∧
  (∀ (s : State) (n : Nat) (h : PtpHeader) (a : Announce), ptpOn s n = true → h.source.clock ≠ clockId s.live → h.domain = s.live.ptp.domain → 
      Next (.ptpAnnounceReceived n h a) s fun t => ((getPtp t n).foreign.head?.map (fun f => (f.id, f.ann, f.at_))) = some (h.source, a, s.clock) ∧ (getPtp t n).foreign.length ≤ 5) ∧
  (∀ (s : State) (n : Nat) (h : PtpHeader) (x : Int), ptpOn s n = true → h.source.clock ≠ clockId s.live → h.domain = s.live.ptp.domain → masterSends s n = true → (getPtp s n).dreqSec = s.clock / uPerS → (getPtp s n).dreqCount < 32768 → 
      Next (.ptpDelayReqReceived n h x) s fun t => t.out = .net n (serviceHdr (portCfg s.live n) 0xE0000181 (portCfg s.live n).dscp 320)
        (.delayResp (sentHdr s n h.seq h.correction (ptpPortCfg s.live n).logDreq) h.source (stamp x - (ptpPortCfg s.live n).asymRx)) :: s.out ∧ (getPtp t n).dreqCount = (getPtp s n).dreqCount + 1 ∧ { t with nw := s.nw, out := s.out } = s) ∧
  (∀ (s : State) (n : Nat) (h : PtpHeader) (x : Int), ptpOn s n = true → h.source.clock ≠ clockId s.live → h.domain = s.live.ptp.domain → masterSends s n = true → (getPtp s n).dreqSec = s.clock / uPerS → 32768 ≤ (getPtp s n).dreqCount → 
      Next (.ptpDelayReqReceived n h x) s fun t => getPtp t n = { getPtp s n with dreqDrops := satInc 16 (getPtp s n).dreqDrops } ∧ { t with nw := s.nw } = s)

/-- A MASTER port sends its Sync, numbered by Spindle time, at its place 2 us after the instant and its Follow_Up after it,
and Announces at theirs, only with time valid, the fence open and an eligible mode. A port that follows a master sends a
Delay_Req each interval, with the fence open. A LISTENING port that may be master becomes MASTER when its announce
timeout ends. Rules: R159, R160, R161, R164, R165. Rows: ptpSyncDue, ptpAnnounceDue, ptpDelayReqDue,
ptpAnnounceTimeout. -/
def Obligations.PtpSent : Prop :=
  (∀ (s : State) (n : Nat), masterSends s n = true → (getPtp s n).followUp = none → placeNow s (syncPlace s n).2 = true → (getPtp s n).syncNo ≠ some (syncPlace s n).1 → 
      Next (.ptpSyncDue n) s fun t => t.out = .net n (serviceHdr (portCfg s.live n) 0xE0000181 (portCfg s.live n).dscp 319)
        (.sync (sentHdr s n ((syncPlace s n).1 % 65536) 0 (ptpPortCfg s.live n).logSync) (syncPlace s n).2) :: s.out ∧
      getPtp t n = { getPtp s n with syncNo := some (syncPlace s n).1, followUp := some ((syncPlace s n).1 % 65536, (syncPlace s n).2) } ∧ { t with nw := s.nw, out := s.out } = s) ∧
  (∀ (s : State) (n q t0 : Nat), masterSends s n = true → (getPtp s n).followUp = some (q, t0) → (getPtp s n).syncNo = some (syncPlace s n).1 → 
      Next (.ptpSyncDue n) s fun t => t.out = .net n (serviceHdr (portCfg s.live n) 0xE0000181 (portCfg s.live n).dscp 320)
        (.followUp (sentHdr s n q 0 (ptpPortCfg s.live n).logSync) t0) :: s.out ∧
      getPtp t n = { getPtp s n with followUp := none } ∧ { t with nw := s.nw, out := s.out } = s) ∧
  (∀ (s : State) (n : Nat), (getPtp s n).st ≠ 5 → (getPtp s n).followUp = none → (s.fenceOpen = false ∨ s.timeValid = false ∨ eligible s = false) → 
      exec (.ptpSyncDue n) s = .next s ∧ exec (.ptpAnnounceDue n) s = .next s) ∧
  (∀ (s : State) (n : Nat), masterSends s n = true → (getPtp s n).followUp = none → placeNow s (annPlace s n).2 = true → (getPtp s n).annNo ≠ some (annPlace s n).1 → 
      Next (.ptpAnnounceDue n) s fun t => t.out = .net n (serviceHdr (portCfg s.live n) 0xE0000181 (portCfg s.live n).dscp 320)
        (.announce (sentHdr s n ((annPlace s n).1 % 65536) 0 (ptpPortCfg s.live n).logAnn) (announceNow s) s.live.ptp.tlv) :: s.out ∧
      getPtp t n = { getPtp s n with annNo := some (annPlace s n).1 } ∧ { t with nw := s.nw, out := s.out } = s) ∧
  (∀ (s : State) (n : Nat), placeNow s (syncPlace s n).2 = false → (getPtp s n).st ≠ 5 → (getPtp s n).followUp = none → 
      exec (.ptpSyncDue n) s = .next s) ∧
  (∀ (s : State) (n : Nat) (x : Int), ptpOn s n = true → ((getPtp s n).st = 8 ∨ (getPtp s n).st = 9) → s.fenceOpen = true → s.mode ≠ .safe → (getPtp s n).dreqAt = none → 
      Next (.ptpDelayReqDue n x) s fun t => t.out = .net n (serviceHdr (portCfg s.live n) 0xE0000181 (portCfg s.live n).dscp 319)
        (.delayReq (sentHdr s n (getPtp s n).dreqSeq 0 127)) :: s.out ∧ (getPtp t n).dreq = some ((getPtp s n).dreqSeq, stamp x + (ptpPortCfg s.live n).asymTx) ∧
      (getPtp t n).dreqAt = some s.clock ∧ { t with nw := s.nw, out := s.out } = s) ∧
  (∀ (s : State) (n : Nat), ptpOn s n = true → (getPtp s n).st = 4 → (getPtp s n).foreign = [] → ((ptpPortCfg s.live n).role = 1 ∨ (ptpPortCfg s.live n).role = 3 ∧ (getPtp s (1 - n)).foreign = []) → (getPtp s n).listenFrom + (ptpPortCfg s.live n).tmo * logTime (ptpPortCfg s.live n).logAnn ≤ s.clock → 
      Next (.ptpAnnounceTimeout n) s fun t => (getPtp t n).st = 6 ∧ getPtp t (1 - n) = getPtp s (1 - n) ∧ t.mode = s.mode)

/-- An edge on a trigger pin, the edges of an enabled timer and the firing of a Spindle alarm start a waiting sequence
that selects them: its first slot is due after the delay of the sequence. A trigger that finds the regular sequence
running is counted as an overrun, and one that finds the injected sequence running as a drop, and neither changes the
pass. An alarm fires once. The reference of a pair is settled when its settling time is over. VREF_IN out of range
takes the settled state of every pair on EXT, with an ALARM; back in range, the pairs whose domain is on have it
again. Rules: R195, R204, R205, R206, R207, R208, R210, Table AD-5, Table AD-6. Rows: triggerPinEdge,
measurementTimerFire, spindleAlarmFire, refSettled, vrefInRangeChange. -/
def Obligations.CalipersTriggers : Prop :=
  (∀ (s : State) (n : Nat) (e : Edge), n < 2 → s.live.seqReg.src = 0x0D + n → s.live.seqInj.src ≠ 0x0D + n → edgeFits s.live.seqReg e = true → s.live.seqReg.len ≠ 0 → s.dataPlane = .running → (∀ x ∈ s.ad.late, s.clock < x.2) → s.ad.reg.phase = 0 → (∀ u, s.ad.reg.endAt = some u → u < s.clock) → s.ad.reg.lastTrig ≠ some s.clock → 
      exec (.triggerPinEdge (.trigIn n) e) s = .next { s with ad := { s.ad with reg := { s.ad.reg with lastTrig := some s.clock, phase := 1, slot := 0, due := s.clock + s.live.seqReg.delay * mclkLen (f441 s) } } }) ∧
  (∀ (s : State) (n : Nat) (e : Edge), n < 4 → s.live.seqReg.src = 5 + n → s.live.seqInj.src ≠ 5 + n → edgeFits s.live.seqReg e = true → s.live.seqReg.len ≠ 0 → s.dataPlane = .running → (∀ x ∈ s.ad.late, s.clock < x.2) → s.ad.reg.phase ≠ 0 → s.ad.reg.lastTrig ≠ some s.clock → 
      Next (.triggerPinEdge (.pwm n) e) s fun t => t.ad.overruns = satInc 16 s.ad.overruns ∧ { t.ad.reg with lastTrig := s.ad.reg.lastTrig } = s.ad.reg ∧ t.ad.inj = s.ad.inj ∧ t.mode = s.mode) ∧
  (∀ (s : State) (n : Nat) (e : Edge), n < 4 → s.live.seqInj.src = 5 + n → s.live.seqReg.src ≠ 5 + n → edgeFits s.live.seqInj e = true → s.live.seqInj.len ≠ 0 → s.dataPlane = .running → (∀ x ∈ s.ad.late, s.clock < x.2) → s.ad.inj.phase ≠ 0 → s.ad.inj.lastTrig ≠ some s.clock → 
      Next (.triggerPinEdge (.pwm n) e) s fun t => t.ad.injDrops = satInc 16 s.ad.injDrops ∧ { t.ad.inj with lastTrig := s.ad.inj.lastTrig } = s.ad.inj ∧ t.ad.reg = s.ad.reg ∧ t.mode = s.mode) ∧
  (∀ (s : State) (n : Nat), n < 4 → (tabGet {} s.live.timers n).en = true → s.dataPlane = .running → secCycles s = (tabGet {} s.live.timers n).phase + 3 * (tabGet {} s.live.timers n).period → s.live.seqReg.src = 1 + n → s.live.seqInj.src ≠ 1 + n → s.live.seqReg.len ≠ 0 → (∀ x ∈ s.ad.late, s.clock < x.2) → s.ad.reg.phase = 0 → (∀ u, s.ad.reg.endAt = some u → u < s.clock) → s.ad.reg.lastTrig ≠ some s.clock → 
      Next (.measurementTimerFire n) s fun t => t.ad.reg.phase = 1 ∧ t.ad.reg.due = s.clock + s.live.seqReg.delay * mclkLen (f441 s) ∧ { t with ad := s.ad } = s) ∧
  (∀ (s : State) (n : Nat), (tabGet {} s.live.timers n).en = false → 
      exec (.measurementTimerFire n) s = .next s) ∧
  (∀ (s : State) (n t0 : Nat), Sized s → n < 4 → nth none s.ad.alarms n = some t0 → t0 ≤ s.spindle → s.dataPlane = .running → 
      Next (.spindleAlarmFire n) s fun t => nth none t.ad.alarms n = none ∧ (∀ m, m < 4 → m ≠ n → nth none t.ad.alarms m = nth none s.ad.alarms m) ∧
      (s.live.seqReg.src = 0x0F + n → s.live.seqReg.len ≠ 0 → (∀ x ∈ s.ad.late, s.clock < x.2) → s.ad.reg.phase = 0 →
        (∀ u, s.ad.reg.endAt = some u → u < s.clock) → s.ad.reg.lastTrig ≠ some s.clock → t.ad.reg.phase = 1) ∧
      { t with ad := s.ad, da := s.da, mb := s.mb, ig := s.ig } = s) ∧
  (∀ (s : State) (n t0 : Nat), nth none s.ad.alarms n = some t0 → s.spindle < t0 → 
      exec (.spindleAlarmFire n) s = .next s) ∧
  (∀ (s : State) (p t0 : Nat), Sized s → p < 4 → (nth {} s.ad.pairs p).due = some t0 → t0 ≤ s.clock → (nth {} s.pw.domains p).on = true → refBad s p = false → 
      Next (.refSettled p) s fun t => (nth {} t.ad.pairs p).settled = true ∧ (nth {} t.ad.pairs p).due = none ∧
      (∀ c ∈ (nth {} t.ad.pairs p).clears.take 1, c.2 ≠ none) ∧
      (∀ q, q ≠ p → nth {} t.ad.pairs q = nth {} s.ad.pairs q) ∧ { t with ad := s.ad } = s) ∧
  (∀ (s : State) (p : Nat), Sized s → p < 4 → refOf s.live p = 1 → 
      Next (.vrefInRangeChange false) s fun t => t.ad.vrefOut = true ∧ (nth {} t.ad.pairs p).settled = false ∧ nbit t.mb.alarmBlocks 3 = true ∧ t.mode = s.mode) ∧
  (∀ (s : State) (p : Nat), Sized s → p < 4 → refOf s.live p = 1 → (nth {} s.pw.domains p).on = true → (nth {} s.ad.pairs p).due = none → 
      Next (.vrefInRangeChange true) s fun t => t.ad.vrefOut = false ∧ (nth {} t.ad.pairs p).settled = true ∧ { t with ad := s.ad } = s)

/-- While the data plane runs, a due regular slot starts at its edge, or after the last injected sample, unless an
injected slot goes first; a due injected slot starts at its edge. The slot that starts is the one whose turn it is.
When a window has closed and its 17 cycles are over, the ADC that took part has in the bank of the slot the sum of the
calibrated codes of the samples after the settling ones (as slotSamples converts the voltages, R191), their number, the
length of the window, and the next epoch. Rules: R200, R202, R204, R205, R209. Rows: slotStart, windowPublish. -/
def Obligations.CalipersSlots : Prop :=
  (∀ (s : State), s.dataPlane = .running → s.ad.reg.phase = 1 → s.ad.reg.due ≤ s.clock → s.ad.injEnd ≤ s.clock → s.ad.inj.phase = 0 → s.ad.late = [] → 
      Next (.slotStart .regular) s fun t => t.ad.reg.phase = 2 ∧ t.ad.reg.slot = s.ad.reg.slot ∧
      t.ad.reg.cur.map (fun r => (r.idx, r.cfg, r.start, r.inj)) = some (s.ad.reg.slot, slotCfg s.live false s.ad.reg.slot, (if s.ad.reg.due < s.ad.injEnd then s.ad.injEnd else s.ad.reg.due), false) ∧
      { t with ad := s.ad } = s) ∧
  (∀ (s : State), s.dataPlane = .running → s.ad.inj.phase = 1 → s.ad.inj.due ≤ s.clock → s.ad.late = [] → 
      Next (.slotStart .injected) s fun t => t.ad.inj.phase = 2 ∧ t.ad.inj.slot = s.ad.inj.slot ∧
      t.ad.inj.cur.map (fun r => (r.idx, r.cfg, r.start, r.inj)) = some (s.ad.inj.slot, slotCfg s.live true s.ad.inj.slot, s.ad.inj.due, true) ∧
      { t with ad := s.ad } = s) ∧
  (∀ (s : State) (q : SeqId), s.dataPlane ≠ .running → s.ad.late = [] → 
      exec (.slotStart q) s = .next s) ∧
  (∀ (s : State) (q : SeqId) (r : SlotRun) (x : AdcSamples), s.ad.late = [] → nextPub (q == .injected) s = some r → slotEnd s r + 17 * mclkLen (f441 s) ≤ s.clock → r.adcs = [x.adc] → r.dead = [] → x.values.length = r.cfg.settle + r.cfg.win + 1 → 
      Next (.windowPublish q [x]) s fun t => (tabGet {} t.ad.banks (8 * r.cfg.bank + x.adc)).sum = (((slotSamples s r x).drop r.cfg.settle).map (fun v => adcCode v.2.2)).sum ∧
      (tabGet {} t.ad.banks (8 * r.cfg.bank + x.adc)).count = r.cfg.win + 1 ∧ (tabGet {} t.ad.banks (8 * r.cfg.bank + x.adc)).win = r.cfg.win + 1 ∧
      (tabGet {} t.ad.banks (8 * r.cfg.bank + x.adc)).epoch = nextEpoch (tabGet {} s.ad.banks (8 * r.cfg.bank + x.adc)).epoch ∧
      (tabGet {} t.ad.banks (8 * r.cfg.bank + x.adc)).slot = r.idx ∧ { t with ad := s.ad } = s)

/-- An edge of LOAD_IN strobes the groups that select it, while the data plane runs: the strobe is counted, and every HOLD
DAC of the group outside a range change and outside SAFE takes its staged code. The 4 us of a range change end with
the new full scale in force. The fault codes that the SAFE entry took from the flash are loaded once in SAFE, with a
strobe on both groups, and the committed ones reach the flash once. A waiting sequencer starts at its start instant with
its first segment, a running one enters the segment that its repeat counts and its loop give, and an LTC sequencer writes
the next frame into the half that does not play, the first one with the label of its instant. Rules: R233, R234, R237,
R238, R247, R249, R250, R255, Table DA-2. Rows: loadInEdge, rangeChangeEnd, faultCodeLoad, faultValuesFlashWrite,
sequencerStart, segmentEntry, ltcFrameWrite. -/
def Obligations.DacAndProfile : Prop :=
  (∀ (s : State) (d : Nat), s.firstLive = true → s.dataPlane = .running → s.live.bank.lg0 = 1 → s.live.bank.lg1 ≠ 1 → strobeNear s 0 = false → Sized s → d < 4 → (outCfg s.live d).src = 5 → dacSafe s d = false → (dacState s d).rangeEnd = none → 
      Next (.loadInEdge .rise) s fun t => t.da.strobes0 = (s.da.strobes0 + 1) % 2 ^ 32 ∧ t.da.strobes1 = s.da.strobes1 ∧ (dacState t d).active = (dacState s d).staged ∧
      (dacState t d).wait = false ∧ (∀ e, 4 ≤ e → dacState t e = dacState s e) ∧ { t with da := s.da } = s) ∧
  (∀ (s : State) (e : Edge), s.dataPlane ≠ .running → 
      exec (.loadInEdge e) s = .next s) ∧
  (∀ (s : State) (d e : Nat), Sized s → d < 8 → (dacState s d).rangeEnd = some e → e ≤ s.clock → (outCfg s.live d).src ≠ 5 → 
      Next (.rangeChangeEnd d) s fun t => dacState t d = { dacState s d with rangeEnd := none, ifs := (outCfg s.live d).ifs } ∧
      (∀ f, f ≠ d → dacState t f = dacState s f) ∧ { t with da := { t.da with dac := s.da.dac } } = s) ∧
  (∀ (s : State), Sized s → s.da.safe = 2 → s.firstLive = true → Nat.land s.safeCause 257 = 0 → strobeNear s 0 = false → strobeNear s 1 = false → 
      Next .faultCodeLoad s fun t => t.da.safe = 3 ∧ t.da.strobes0 = (s.da.strobes0 + 1) % 2 ^ 32 ∧ t.da.strobes1 = (s.da.strobes1 + 1) % 2 ^ 32 ∧
      (∀ d, d < 8 → (dacState t d).fault = if (outCfg s.live d).src = 0 then (dacState s d).fault else some (nth 0 s.da.safeCodes d)) ∧ { t with da := s.da } = s) ∧
  (∀ (s : State) (codes : List Int), s.da.flashDue = some codes → 
      exec .faultValuesFlashWrite s = .next { s with da := { s.da with flashDue := none, flash := codes } }) ∧
  (∀ (s : State) (q u : Nat), Sized s → q < 4 → (psState s q).st = 1 → psClocked s q = true → (psCfg s.live q).pre = none → startInstant s q = some u → scaleUnits s (psV s.live q) (psState s q).since < u → 
      Next (.sequencerStart q) s fun t => (psState t q).st = 2 ∧ (psState t q).seg = (psCfg s.live q).first ∧ (psState t q).segStart = ((u : Int) + psOff s q).toNat ∧ (psState t q).starts = satInc 32 (psState s q).starts ∧
      (psState t q).cur = segOf s.live q (psCfg s.live q).first ∧ (∀ r, r ≠ q → psState t r = psState s r) ∧ { t with ps := s.ps, ad := s.ad, mb := s.mb, ig := s.ig, freeCount := s.freeCount } = s) ∧
  (∀ (s : State) (q : Nat), Sized s → q < 4 → (psState s q).st = 2 → psClocked s q = true → (psState s q).segStart + segLen (psState s q).cur ≤ clkEdge s (psV s.live q) s.spindle * 65536 → 
      Next (.segmentEntry q) s fun t => (psState t q).seg = (nextSeg (psCfg s.live q) (psState s q)).1 ∧ (psState t q).reps = (nextSeg (psCfg s.live q) (psState s q)).2 ∧
      (psState t q).segStart = (psState s q).segStart + segLen (psState s q).cur ∧ (psState t q).cur = segOf s.live q (nextSeg (psCfg s.live q) (psState s q)).1 ∧
      (psState t q).st = 2 ∧ (∀ r, r ≠ q → psState t r = psState s r) ∧ { t with ps := s.ps, ad := s.ad, mb := s.mb, ig := s.ig, freeCount := s.freeCount } = s) ∧
  (∀ (s : State) (q : Nat), psClocked s q = false → 
      exec (.sequencerStart q) s = .next s ∧ exec (.segmentEntry q) s = .next s) ∧
  (∀ (s : State) (q : Nat) (p : PsPreset), Sized s → q < 4 → (psCfg s.live q).pre = some p → isLtc p.id = true → (psCfg s.live q).en = true → (psState s q).wrote < ltcNext s q → 
      Next (.ltcFrameWrite q) s fun t => (psState t q).wrote = ltcNext s q ∧ (psState t q).st = (psState s q).st ∧
      ((psState s q).last = none →
       let f := ((ltcNext s q : Int) + ltcShift s q).toNat
       let l := ltcLabel p p.zone (ltcUtc s p.id f) f
       (psState t q).last = some l ∧
       (if ltcNext s q % 2 = 1 then (psState t q).half1 else (psState t q).half0) = labelCode l.hh l.mm l.ss l.ff) ∧
      { t with ps := s.ps, live := { t.live with segs := s.live.segs } } = s)

/-- A divider whose tap is locked, with no phase still to restore, and that waits for it is loaded at that edge. 1PPS_OUT
rises on a whole second of a running device and falls after its width. A lock of a running receiver stores its rate; four
silent frame periods or more than eight errors in a block are a loss and clear the lock, and less is none. An engine that
overruns its frame is the FAULT, with its frame abandoned. The ratio of a locked receiver is stored within its limits. A
meter window that has ended is published with the next epoch, and one that has not is not. Rules: R286, R287, R291, R340, R341, R349. Rows: clockOutputRephase, ppsOutPulse, aes3RxLock,
aes3RxLoss, engineFrameOverrun, asrcLock, meterWindowEnd. -/
def Obligations.OutputsAndEngines : Prop :=
  (∀ (s : State) (o : Nat), Sized s → o < 12 → s.firstLive = true → (clkOf s.live o).mode ≠ 0 → (getSyn s (tapSyn (clkOf s.live o).tap)).lock = 4 → (getSyn s (tapSyn (clkOf s.live o).tap)).resOwed = 0 → (nth {} s.hs.gate o).aligned = none → 
      Next (.clockOutputRephase o) s fun t => nth {} t.hs.gate o = { nth {} s.hs.gate o with aligned := some s.clock } ∧ (∀ p, p ≠ o → nth {} t.hs.gate p = nth {} s.hs.gate p) ∧ { t with hs := { t.hs with gate := s.hs.gate } } = s) ∧
  (∀ (s : State) (t0 : Nat), s.dg.ppsFrom = some t0 → t0 ≤ s.spindle → s.dataPlane = .running → s.spindle % uPerS = 0 → s.timeValid = true → s.da.safe = 0 → s.mode ≠ .hush → 
      exec (.ppsOutPulse .rise) s = .next { s with dg := { s.dg with ppsHigh := true, ppsWidth := s.live.pps.width } }) ∧
  (∀ (s : State), s.dg.ppsHigh = true → s.dg.ppsWidth * uPerUs ≤ s.spindle % uPerS → 
      exec (.ppsOutPulse .fall) s = .next { s with dg := { s.dg with ppsHigh := false } }) ∧
  (∀ (s : State) (n r : Nat), Sized s → n < 4 → rxRuns s.live n = true → 30000000 ≤ r → r ≤ 200000000 → 
      Next (.aes3RxLock n ⟨r, 2⟩) s fun t => (nth {} t.dg.rx n).lock = true ∧ (nth {} t.dg.rx n).rate = rxRate r ∧ (∀ m, m ≠ n → nth {} t.dg.rx m = nth {} s.dg.rx m) ∧ { t with dg := { t.dg with rx := s.dg.rx } } = s) ∧
  (∀ (s : State) (n k e : Nat), Sized s → n < 4 → (nth {} s.dg.rx n).lock = true → (4 ≤ k ∨ 8 < e) → 
      Next (.aes3RxLoss ⟨n, k, e⟩) s fun t => (nth {} t.dg.rx n).lock = false ∧ (nth {} t.dg.rx n).rate = 7) ∧
  (∀ (s : State) (n k e : Nat), k < 4 → e ≤ 8 → 
      exec (.aes3RxLoss ⟨n, k, e⟩) s = .next s) ∧
  (∀ (s : State) (e k : Nat), (teCfg s.live e).en = true → s.dataPlane = .running → k < (teCfg s.live e).len → (s.mode = .configure ∨ s.mode = .freerun ∨ s.mode = .acquire ∨ s.mode = .locked ∨ s.mode = .holdover) → 
      Next (.engineFrameOverrun e k) s fun t => t.mode = .safe ∧ t.safeCause = 128 ∧ t.xb.abandon = (e, k) :: s.xb.abandon) ∧
  (∀ (s : State) (n r : Nat), Sized s → n < 4 → (nth {} s.dg.rx n).lock = true → 2684355 ≤ r → r ≤ 73819750 → s.dataPlane = .running → (List.range 32).any (fun e => (teCfg s.live e).en && (asrcOf s.live e).any (fun a => a % 4 == n)) = true → 
      Next (.asrcLock n r) s fun t => nth {} t.xb.asrc n = { nth {} s.xb.asrc n with lock := true, ratio := r } ∧ (∀ m, m ≠ n → nth {} t.xb.asrc m = nth {} s.xb.asrc m) ∧ { t with xb := { t.xb with asrc := s.xb.asrc } } = s) ∧
  (∀ (s : State) (k c n : Nat) (a b : Int), (tabGet {} s.xb.op k).ended = some (a, b, c, n) → 
      Next .meterWindowEnd s fun t => tabGet {} t.xb.op k = { tabGet {} s.xb.op k with ended := none, pMin := a, pMax := b, pSum := c, pCount := n, epoch := nextEpoch (tabGet {} s.xb.op k).epoch } ∧
      { t with xb := { t.xb with op := s.xb.op } } = s) ∧
  (∀ (s : State) (k : Nat), (tabGet {} s.xb.op k).ended = none → 
      Next .meterWindowEnd s fun t => tabGet {} t.xb.op k = tabGet {} s.xb.op k)

/-- A change of JACK_DET restarts the debounce and nothing else. A level that holds for the debounce time counts: an
insertion without identification releases the clamp 20 ms later, one with identification and the fence open starts it,
with the clamp held, and a removal ends everything the accessory had. The identification gives the result of Table
FP-1 39 ms after its start. The clamp of R314 is released at its instant. MICBIAS goes off 1 ms after the fence of a
twin unit has closed, and on 2 ms after it has opened. A window of one band decides for that band, with a current
between its limits (its value is free), one each millisecond, and a decision of enough windows is declared, with the press
counted. Rules:
R314, R316, R317, R318, R319, Table FP-1. Rows: jackDetChange, jackConfirmed, identificationComplete, hpClampRelease,
micbiasFenceOff, micbiasFenceOn, buttonWindow, buttonDeclared. -/
def Obligations.FrontPanelJack : Prop :=
  (∀ (s : State) (l : Bool), l ≠ s.fp.jackLevel → 
      exec (.jackDetChange l) s = .next { s with fp := { s.fp with jackLevel := l, jackSince := s.clock } }) ∧
  (∀ (s : State), jackIn s = true → s.fp.jack = false → s.fp.jackSince + s.live.jack.deb * uPerMs ≤ s.clock → s.pw.inReset = false → s.live.jack.acc = false → 
      exec .jackConfirmed s = .next { s with fp := { s.fp with jack := true, jackEvents := satInc 16 s.fp.jackEvents, releaseAt := some (s.clock + 20 * uPerMs) } }) ∧
  (∀ (s : State), jackIn s = true → s.fp.jack = false → s.fp.jackSince + s.live.jack.deb * uPerMs ≤ s.clock → s.pw.inReset = false → s.live.jack.acc = true → s.mode ≠ .hush → s.mode ≠ .safe → s.fenceOpen = true → s.firstLive = true → 
      Next .jackConfirmed s fun t => t.fp.jack = true ∧ t.fp.identAt = some s.clock ∧ t.fp.acc = 1 ∧ t.fp.hold = true ∧ { t with fp := s.fp } = s) ∧
  (∀ (s : State), jackIn s = false → s.fp.jack = true → s.fp.jackSince + s.live.jack.deb * uPerMs ≤ s.clock → s.pw.inReset = false → 
      Next .jackConfirmed s fun t => t.fp.jack = false ∧ t.fp.acc = 0 ∧ t.fp.identAt = none ∧ t.fp.bias = false ∧ t.fp.hold = true ∧ t.fp.btn = 0 ∧
      t.fp.jackEvents = satInc 16 s.fp.jackEvents ∧ t.mode = s.mode) ∧
  (∀ (s : State) (t0 a b ld : Nat), s.fp.identAt = some t0 → t0 + 39 * uPerMs ≤ s.clock → 
      Next (.identificationComplete a b ld) s fun t => t.fp.acc = identResult (biasBand s a) (biasBand s b) ld ∧ t.fp.identAt = none ∧ nbit t.mb.irqStatus 2 = true ∧
      t.fp.releaseAt = (if accFrees t.fp.acc = true ∨ s.live.hp.automute = false then some (s.clock + 20 * uPerMs) else none) ∧ t.mode = s.mode) ∧
  (∀ (s : State) (t0 : Nat), s.fp.releaseAt = some t0 → t0 ≤ s.clock → 
      exec .hpClampRelease s = .next { s with fp := { s.fp with hold := false, releaseAt := none } }) ∧
  (∀ (s : State), twinPos s = true → s.fenceOpen = false → s.fp.fenceClosed + uPerMs ≤ s.clock → 
      exec .micbiasFenceOff s = .next { s with fp := { s.fp with bias := false } }) ∧
  (∀ (s : State), biasWanted s = true → s.fenceOpen = true → s.fp.fenceOpened + 2 * uPerMs ≤ s.clock → 
      exec .micbiasFenceOn s = .next { s with fp := { s.fp with bias := true } }) ∧
  (∀ (s : State) (a b : Nat), apart s.fp.btnAt uPerMs s = true → s.live.jack.btn = true → s.fp.acc = 3 → s.fp.bias = true → s.dataPlane = .running → a ≤ b → b < 65536 → btnBand s.live.jack (nodeUv s.live.jack a) = btnBand s.live.jack (nodeUv s.live.jack b) → 
      Next (.buttonWindow a b) s fun t => t.fp.btnNew = btnBand s.live.jack (nodeUv s.live.jack a) ∧ t.fp.btnRun = (if t.fp.btnNew = s.fp.btnNew then s.fp.btnRun + 1 else 1) ∧
      a ≤ t.fp.biasUa ∧ t.fp.biasUa ≤ b ∧ t.fp.btn = s.fp.btn ∧ { t with fp := s.fp, freeCount := s.freeCount } = s) ∧
  (∀ (s : State) (a b : Nat), apart s.fp.btnAt uPerMs s = false → 
      exec (.buttonWindow a b) s = .next s) ∧
  (∀ (s : State), s.fp.btnNew ≠ s.fp.btn → s.live.jack.btnDeb ≤ s.fp.btnRun → 
      Next .buttonDeclared s fun t => t.fp.btn = s.fp.btnNew ∧ t.fp.presses = (if s.fp.btnNew = 0 then s.fp.presses else satInc 16 s.fp.presses) ∧ nbit t.mb.irqStatus 2 = true ∧ t.mode = s.mode) ∧
  (∀ (s : State), s.fp.btnNew = s.fp.btn → 
      exec .buttonDeclared s = .next s)

/-- The end of an enable or of a disable, 20 ms after its start, leaves the amplifier on or off with the machine's clamp
open. 20 ms after SAFE entry with role SOLO it is off. A current limit of a powered amplifier is counted. A block that
completes temporal-three is a detection: ALARM_OUT rises, the signature, the time and the count are stored, and
HW_IRQ_SN sets. A block without audio goes on with the detectors as R328 says. A second block within 10 ms is none.
Outside its modes the sentinel does nothing. ALARM_OUT falls at the end of its hold. Rules: R310, R312, R313, R323, R325, R326, R328, Table FP-2. Rows:
hpEnableComplete, hpDisableComplete, hpSafeOff, hpCurrentLimit, sentinelBlock, alarmOutHoldExpiry. -/
def Obligations.HeadphoneAndSentinel : Prop :=
  (∀ (s : State), s.fp.hp.run = some true → s.fp.hp.queue = [] → s.fp.hp.since + 20 * uPerMs ≤ s.clock → s.fp.hpSafe = false → 
      Next .hpEnableComplete s fun t => t.fp.hp.on = true ∧ t.fp.hp.run = none ∧ t.fp.clamp = false ∧ t.mode = s.mode) ∧
  (∀ (s : State), s.fp.hp.run = some false → s.fp.hp.queue = [] → s.fp.hp.since + 20 * uPerMs ≤ s.clock → s.fp.hpSafe = false → 
      Next .hpDisableComplete s fun t => t.fp.hp.on = false ∧ t.fp.hp.run = none ∧ t.fp.clamp = false ∧ t.mode = s.mode) ∧
  (∀ (s : State), s.fp.hp.run = none → 
      exec .hpEnableComplete s = .next s ∧ exec .hpDisableComplete s = .next s) ∧
  (∀ (s : State), s.fp.hpSafe = true → s.da.safeAt + 20 * uPerMs ≤ s.clock → 
      Next .hpSafeOff s fun t => t.fp.hp = {} ∧ t.fp.clamp = false ∧ t.mode = s.mode) ∧
  (∀ (s : State) (r : Bool), s.fp.hp.on = true → 
      exec (.hpCurrentLimit r) s = .next { s with fp := { s.fp with ilim := satInc 16 s.fp.ilim } }) ∧
  (∀ (s : State) (b : SentinelBlock), snWorks s = true → apart s.sn.blockAt (10 * uPerMs) s = true → b.audio = true → s.live.sn.t3 = true → s.live.sn.cont = false → s.live.sn.glass = false → t3Complete s.live.sn.groups (tonePresent s.live.sn b) s.sn = true → 
      Next (.sentinelBlock b) s fun t => t.sn.alarmOut = true ∧ t.sn.last = 1 ∧ t.sn.detections = satInc 16 s.sn.detections ∧ t.sn.lastTime = s.spindle ∧ nbit t.mb.irqStatus 6 = true ∧
      t.sn.holdEnd = (if s.live.sn.holdS = 0 then none else some (s.clock + s.live.sn.holdS * uPerS)) ∧ t.mode = s.mode) ∧
  (∀ (s : State) (b : SentinelBlock), snWorks s = true → apart s.sn.blockAt (10 * uPerMs) s = true → b.audio = false → 
      exec (.sentinelBlock b) s = .next { s with sn := lossBlock { s.sn with blockAt := some s.clock } }) ∧
  (∀ (s : State) (b : SentinelBlock), apart s.sn.blockAt (10 * uPerMs) s = false → 
      exec (.sentinelBlock b) s = .next s) ∧
  (∀ (s : State) (b : SentinelBlock), (s.mode = .boot ∨ s.mode = .configure ∨ s.live.sn.en = false) → 
      exec (.sentinelBlock b) s = .next s) ∧
  (∀ (s : State) (t0 : Nat), s.sn.holdEnd = some t0 → t0 ≤ s.clock → 
      exec .alarmOutHoldExpiry s = .next { s with sn := { s.sn with alarmOut := false, holdEnd := none } })

/-- A path that enters or leaves service is that from then on, and a path that leaves raises an ALARM. A holder that has
seen liveness within t_W sends RENEW on every path in service, with the next number, and one without sends nothing; any
other unit sends NULL. A unit that is no holder acknowledges a RENEW of its partner on the path on which it came, and
stores it; a further copy is acknowledged on its own path and not acted on. A holder that receives a RENEW raises an
ALARM; slot B closes its fence and becomes FENCED, slot A goes on. The ACK of the last RENEW makes the holder ACTIVE with
a new lease end. A RELEASE lets an eligible STANDBY take the Chuck as SOLO and renew at once. A WAIVE makes the holder
SOLO without a lease end. A NULL says what the partner is, a further copy of it is only noted, and a partner that states
the own slot is the slot clash. Rules: R357, R358, R364, R365, R366, R367, R368, R369, R370. Rows: pathServiceChange,
renewDue, leaseRenew, leaseAck, leaseRelease, leaseWaive, leaseNull. -/
def Obligations.LeaseFrames : Prop :=
  (∀ (s : State) (p : TwinPath) (d : Nat), twinPos s = true → pathUp s p = true → pathServes p d s = false → 
      Next (.pathServiceChange p d) s fun t => pathUp t p = false ∧ nbit t.mb.alarmBlocks 9 = true ∧ (∀ q, q ∈ [TwinPath.tsl0, .tsl1, .witness] → q ≠ p → pathUp t q = pathUp s q) ∧ t.mode = s.mode) ∧
  (∀ (s : State) (p : TwinPath) (d : Nat), twinPos s = true → pathUp s p = false → pathServes p d s = true → 
      Next (.pathServiceChange p d) s fun t => pathUp t p = true ∧ t.mode = s.mode) ∧
  (∀ (s : State) (c d : Nat), leaseRuns s = true → renewNow s = true → s.tw.holds = true → c ≤ 1500 → d ≤ 1500 → 
      Next (.renewDue ⟨c, d⟩) s fun t => (∀ p ∈ pathsUp s, leaseOut 1 s.tw.seq s p ∈ t.out) ∧ t.tw.seq = (s.tw.seq + 1) % 64 ∧ t.tw.unacked = some s.clock ∧ t.role = s.role) ∧
  (∀ (s : State) (c d : Nat), leaseRuns s = true → renewNow s = true → s.tw.holds = true → (1500 < c ∨ 1500 < d) → 
      Next (.renewDue ⟨c, d⟩) s fun t => t.out = s.out ∧ t.role = s.role) ∧
  (∀ (s : State) (c d : Nat), leaseRuns s = true → renewNow s = true → s.tw.holds = false → s.tw.claiming = false → 
      Next (.renewDue ⟨c, d⟩) s fun t => (∀ p ∈ pathsUp s, leaseOut 0 0 s p ∈ t.out) ∧ t.tw.seq = s.tw.seq ∧ t.tw.sentAt = some s.clock) ∧
  (∀ (s : State) (p : TwinPath) (f : LeaseBits), leaseRuns s = true → frameCopy 1 p f s = false → s.tw.holds = false → s.tw.claiming = false → s.tw.slotClash = false → s.tw.swap = none → f.slotB ≠ (s.pw.slotSel == 1) → pathUp s p = true → s.mode ≠ .boot → 
      Next (.leaseRenew p f) s fun t => t.out = leaseOut 2 f.seq s p :: s.out ∧ t.tw.ackSent = some s.clock ∧
      t.tw.lastRenew = s.clock ∧ t.tw.peerH = f.h ∧ t.tw.peerE = f.e ∧ { t with tw := s.tw, out := s.out } = s) ∧
  (∀ (s : State) (p : TwinPath) (f : LeaseBits), leaseRuns s = true → frameCopy 1 p f s = true → s.tw.holds = false → s.tw.claiming = false → s.tw.slotClash = false → pathUp s p = true → s.mode ≠ .boot → 
      Next (.leaseRenew p f) s fun t => t.out = leaseOut 2 f.seq s p :: s.out ∧ t.tw.ackSent = some s.clock ∧ t.tw.lastRenew = s.tw.lastRenew ∧ { t with tw := s.tw, out := s.out } = s) ∧
  (∀ (s : State) (p : TwinPath) (f : LeaseBits), leaseRuns s = true → frameCopy 1 p f s = false → s.tw.holds = true → s.pw.slotSel = 1 → f.slotB = false → 
      Next (.leaseRenew p f) s fun t => t.tw.holds = false ∧ t.role = .fenced ∧ t.fenceOpen = false ∧ nbit t.mb.alarmBlocks 9 = true) ∧
  (∀ (s : State) (p : TwinPath) (f : LeaseBits), leaseRuns s = true → frameCopy 1 p f s = false → s.tw.holds = true → s.pw.slotSel = 0 → f.slotB = true → 
      Next (.leaseRenew p f) s fun t => t.tw.holds = true ∧ t.role = s.role ∧ t.fenceOpen = s.fenceOpen ∧ nbit t.mb.alarmBlocks 9 = true) ∧
  (∀ (s : State) (p : TwinPath) (f : LeaseBits) (u : Nat), leaseRuns s = true → frameCopy 2 p f s = false → s.tw.holds = true → s.tw.claiming = false → f.slotB ≠ (s.pw.slotSel == 1) → s.tw.unacked = some u → f.seq = (s.tw.seq + 63) % 64 → 
      Next (.leaseAck p f) s fun t => t.role = .active ∧ t.tw.holds = true ∧ t.tw.unacked = none ∧ t.tw.leaseEnd = some (s.clock + leaseEff s * uPerUs) ∧
      t.tw.ackMissed = (if u + uPerUs < s.clock then satInc 16 s.tw.ackMissed else s.tw.ackMissed)) ∧
  (∀ (s : State) (p : TwinPath) (f : LeaseBits), leaseRuns s = true → frameCopy 3 p f s = false → f.slotB ≠ (s.pw.slotSel == 1) → mayTake s = true → 
      Next (.leaseRelease p f) s fun t => t.role = .solo ∧ t.tw.holds = true ∧ t.tw.leaseEnd = none ∧ t.tw.unacked = some s.clock ∧ t.tw.takeovers = satInc 16 s.tw.takeovers ∧
      t.fenceOpen = fenceWanted t ∧ (∀ q ∈ pathsUp s, leaseOut 1 s.tw.seq { s with tw := { s.tw with holds := true } } q ∈ t.out)) ∧
  (∀ (s : State) (p : TwinPath) (f : LeaseBits), leaseRuns s = true → frameCopy 4 p f s = false → f.slotB ≠ (s.pw.slotSel == 1) → s.tw.holds = true → 
      Next (.leaseWaive p f) s fun t => t.role = .solo ∧ t.tw.holds = true ∧ t.tw.leaseEnd = none) ∧
  (∀ (s : State) (p : TwinPath) (f : LeaseBits), leaseRuns s = true → frameCopy 0 p f s = false → f.slotB ≠ (s.pw.slotSel == 1) → 
      Next (.leaseNull p f) s fun t => t.tw.peerH = f.h ∧ t.tw.peerE = f.e ∧ t.tw.holds = s.tw.holds ∧ { t with tw := s.tw } = s) ∧
  (∀ (s : State) (p : TwinPath) (f : LeaseBits), leaseRuns s = true → frameCopy 0 p f s = true → 
      Next (.leaseNull p f) s fun t => { t with tw := { t.tw with heard := s.tw.heard, lastFrame := s.tw.lastFrame } } = s) ∧
  (∀ (s : State) (p : TwinPath) (f : LeaseBits), leaseRuns s = true → frameCopy 0 p f s = false → f.slotB = (s.pw.slotSel == 1) → s.tw.slotClash = false → s.role = .standby → 
      Next (.leaseNull p f) s fun t => t.tw.slotClash = true ∧ t.role = .fenced ∧ nbit t.mb.alarmBlocks 9 = true)

/-- At the end of its lease the holder closes its fence, becomes FENCED and raises an ALARM. A STANDBY that may take does
so when its acknowledgements have run out, as SOLO and renewing at once; after 50 ms without a holder the winner of
the arbitration claims with a RENEW. A trip of the parting tool closes the fence whatever the role. At the instant of an acknowledged swap the holder closes its fence, gives up the Chuck and sends
RELEASE; a swap that cannot go on ends, and one whose partner does not take within 1 ms has failed. Rules: R366, R367, R371, R377, R381, Table TW-7. Rows:
leaseEnd, expiryTakeover, arbitrationClaim, partingToolTrip, swapInstant, swapTakeTimeout, twHotTimeout. -/
def Obligations.TakeoversAndFence : Prop :=
  (∀ (s : State) (e : Nat), s.tw.holds = true → s.tw.leaseEnd = some e → e ≤ s.clock → 
      Next .leaseEnd s fun t => t.tw.holds = false ∧ t.role = .fenced ∧ t.fenceOpen = false ∧ nbit t.mb.alarmBlocks 9 = true ∧ t.tw.lastCause = 8 ∧ t.mode = s.mode) ∧
  (∀ (s : State) (e : Nat), s.tw.leaseEnd = some e → s.clock < e → 
      exec .leaseEnd s = .next s) ∧
  (∀ (s : State) (a : Nat), mayTake s = true → s.tw.ackSent = some a → a + (leaseEff s + 2) * uPerUs ≤ s.clock → s.tw.lastRenew ≤ a → 
      Next .expiryTakeover s fun t => t.tw.holds = true ∧ t.role = .solo ∧ t.fenceOpen = fenceWanted t ∧ t.tw.lastCause = 2 ∧ t.tw.unacked = some s.clock) ∧
  (∀ (s : State), mayTake s = false → 
      exec .expiryTakeover s = .next s ∧ exec .arbitrationClaim s = .next s) ∧
  (∀ (s : State) (h : Nat), mayTake s = true → s.tw.healthySince = some h → h + 50 * uPerMs ≤ s.clock → s.tw.peerHoldAt ≤ h → s.tw.peerH = false → s.tw.claiming = false → arbWinner s = true → 
      Next .arbitrationClaim s fun t => t.tw.claiming = true ∧ t.tw.holds = false ∧ t.tw.unacked = some s.clock ∧ t.fenceOpen = s.fenceOpen ∧ (∀ p ∈ pathsUp s, leaseOut 1 s.tw.seq s p ∈ t.out)) ∧
  (∀ (s : State), 
      Next .partingToolTrip s fun t => t.tw.partingTool = true ∧ t.fenceOpen = false ∧ t.role = s.role ∧ t.mode = s.mode) ∧
  (∀ (s : State) (w : SwapState), s.tw.swap = some w → w.released = false → w.acked = true → w.at_ ≤ s.spindle → s.mb.pend = none → s.tw.holds = true → peerReady s = true → 
      Next .swapInstant s fun t => t.tw.holds = false ∧ t.role = .fenced ∧ t.fenceOpen = false ∧ t.tw.swap = some { w with released := true, releasedAt := s.clock } ∧
      (∀ p ∈ pathsUp s, leaseOut 3 0 { s with tw := { s.tw with holds := false } } p ∈ t.out)) ∧
  (∀ (s : State) (w : SwapState), s.tw.swap = some w → w.released = false → w.acked = false → w.at_ ≤ s.spindle → s.mb.pend = none → 
      Next .swapInstant s fun t => t.tw.swap = none ∧ t.tw.holds = s.tw.holds ∧ t.role = s.role ∧ t.fenceOpen = s.fenceOpen) ∧
  (∀ (s : State) (w : SwapState), s.tw.swap = some w → w.released = true → w.releasedAt + uPerMs ≤ s.clock → 
      Next .swapTakeTimeout s fun t => t.tw.swap = none ∧ t.tw.takeFailed = true ∧ t.tw.takeFailedAt = s.clock) ∧
  (∀ (s : State), lanesUp s = [] → s.role = .standby → s.tw.laneLostAt + 10 * uPerMs ≤ s.clock → 
      Next .twHotTimeout s fun t => t.tw.hot = false ∧ t.tw.alignSince = none ∧ t.role = .standby ∧ { t with tw := s.tw, freeCount := s.freeCount } = s)

/-- Every millisecond TIME and STATE go out on each lane in service, and MIRROR from the holder. TIME gives the holder the
stamps of its partner, and a STANDBY whose time is loaded the offset of R360. STATE stores what the partner is and
whether the generations match. MIRROR gives a STANDBY the kept offsets. RELAY gives the active unit the phase of the
twin entry, and a unit with a closed fence the accessory. A LEDGER entry is mirrored. SWAP_REQ is accepted by an
eligible HOT STANDBY and answered. SWAP_ACK marks or ends the swap. A holder answers RESYNC_REQ with messages of
RESYNC_DATA alone. The parts of RESYNC_DATA are collected, the end of the ledger ends a resynchronisation that needs
nothing more, and the pulled configuration becomes live with the generation and digest of the holder. Rules: R118,
R135, R318, R359, R360, R362, R376, R381, R412, R466, Table TW-5. Rows: twinMsTick, twTime, twState, twMirror,
twRelay, twLedger, twSwapReq, twSwapAck, resyncReq, resyncData, resyncCommit. -/
def Obligations.LaneMessages : Prop :=
  (∀ (s : State), twinPos s = true → s.mode ≠ .boot → s.tw.msAt ≠ some (s.spindle / uPerMs) → 
      Next .twinMsTick s fun t => (∀ l ∈ lanesUp s, t.out.any (fun o => match o with | .lane k m => k == l && m.typ == 2 | _ => false) = true) ∧
      (∀ l ∈ lanesUp s, t.out.any (fun o => match o with | .lane k m => k == l && m.typ == 3 | _ => false) = true) ∧ (s.tw.holds = true → (∀ l ∈ lanesUp s, t.out.any (fun o => match o with | .lane k m => k == l && m.typ == 4 | _ => false) = true)) ∧ t.mode = s.mode ∧ t.role = s.role) ∧
  (∀ (s : State) (lane lv v : Nat) (a b c d : Int), laneTakes s = true → s.tw.level = some v → Sized s → lane < 2 → s.tw.holds = true → s.role ≠ .standby → 
      Next (.twTime lane lv a b c d) s fun t => nth (0, 0) t.tw.timeStamps lane = (c, d) ∧ t.tw.theta = s.tw.theta ∧ { t with tw := s.tw } = s) ∧
  (∀ (s : State) (lane lv v : Nat) (a b c d : Int), laneTakes s = true → s.tw.level = some v → s.role = .standby → s.tw.timeLoaded = true → lane < 2 → 
      Next (.twTime lane lv a b c d) s fun t => t.tw.theta = roundDiv ((b - a) - (d - c) - (if s.pw.slotSel = 1 then (if lane = 0 then s.live.tw.asym0 else s.live.tw.asym1) else -(if lane = 0 then s.live.tw.asym0 else s.live.tw.asym1))) 2 ∧
      t.spindle = s.spindle ∧ t.role = s.role ∧ t.mode = s.mode) ∧
  (∀ (s : State) (lane lv v : Nat) (m : PeerState), laneTakes s = true → s.tw.level = some v → 
      Next (.twState lane lv m) s fun t => t.tw.peerRole = some m.role ∧ t.tw.peerMode = some m.mode ∧ t.tw.peerHot = m.hot ∧ t.tw.peerLease = some m.leaseUs ∧
      t.tw.genMatch = ((gensHeld s).1 == (m.gen, m.digest) && ((gensHeld s).2.1, (gensHeld s).2.2.1) == (m.pendGen, m.pendDigest)) ∧ t.role = s.role) ∧
  (∀ (s : State) (lane lv v : Nat) (m : MirrorMsg), laneTakes s = true → s.tw.level = some v → s.role = .standby → 
      Next (.twMirror lane lv m) s fun t => t.tw.mirror = some m ∧ t.tk.kMedia = m.kMedia ∧ t.tk.kVideo = m.kVideo ∧ t.tk.kNetwork = m.kNetwork ∧ { t with tw := s.tw, tk := s.tk } = s) ∧
  (∀ (s : State) (lane lv v a : Nat) (m : RelayMsg), laneTakes s = true → s.tw.level = some v → m.ref = none → m.facc = some a → s.fenceOpen = false → s.fp.identAt = none → 
      Next (.twRelay lane lv m) s fun t => t.fp.acc = a ∧ t.tw.peerAcc = some a ∧ { t with tw := s.tw, fp := s.fp } = s) ∧
  (∀ (s : State) (lane lv v i : Nat) (d f : Int) (n : Option (Nat × Nat)), laneTakes s = true → s.tw.level = some v → Sized s → i < 12 → s.role = .active → presentCand s 0x0A = some i → 
      Next (.twRelay lane lv { ref := some (d, f), period := n, facc := none }) s fun t => (candSt t i).phase = deltaOf { s with tk := { s.tk with twinPeriod := n } } i (d + s.tk.kMedia) ∧ (candSt t i).st = (candSt s i).st ∧ { t with tk := s.tk } = s) ∧
  (∀ (s : State) (lane lv v : Nat) (e : Bytes), laneTakes s = true → s.tw.level = some v → s.lg.queue.length < 4096 → s.pt.retain = false → s.role ≠ .standby → 
      Next (.twLedger lane lv e) s fun t => t.lg.queue = s.lg.queue ++ [{ lgRead e with mirror := true }] ∧ t.lg.wserial = s.lg.wserial ∧ t.tw.peerWserial = (lgRead e).wserial ∧ { t with lg := s.lg, tw := s.tw } = s) ∧
  (∀ (s : State) (lane lv v at_ : Nat), laneTakes s = true → s.tw.level = some v → 
      Next (.twSwapReq lane lv at_) s fun t => t.tw.swapTake = (if mayTake s && s.tw.hot then some at_ else none) ∧ (∀ l ∈ lanesUp s, t.out.any (fun o => match o with | .lane k m => k == l && m.typ == 8 | _ => false) = true) ∧ { t with tw := s.tw, out := s.out } = s) ∧
  (∀ (s : State) (lane lv v at_ : Nat) (w : SwapState), laneTakes s = true → s.tw.level = some v → s.tw.swap = some w → w.at_ = at_ → w.released = false → 
      exec (.twSwapAck lane lv at_ true) s = .next { s with tw := { s.tw with swap := some { w with acked := true } } }) ∧
  (∀ (s : State) (lane lv v at_ : Nat) (w : SwapState), laneTakes s = true → s.tw.level = some v → s.tw.swap = some w → w.at_ = at_ → w.released = false → 
      Next (.twSwapAck lane lv at_ false) s fun t => t.tw.swap = none ∧ t.tw.holds = s.tw.holds ∧ t.role = s.role) ∧
  (∀ (s : State) (lane lv v g d n : Nat), laneTakes s = true → s.tw.level = some v → s.tw.holds = true → 
      Next (.resyncReq lane lv g d n) s fun t => (∀ l ∈ lanesUp s, t.out.any (fun o => match o with | .lane k m => k == l && m.typ == 10 | _ => false) = true) ∧ { t with tw := s.tw, out := s.out } = s) ∧
  (∀ (s : State) (lane lv v g d n : Nat), laneTakes s = true → s.tw.level = some v → s.tw.holds = false → 
      exec (.resyncReq lane lv g d n) s = .next s) ∧
  (∀ (s : State) (lane lv v : Nat), laneTakes s = true → s.tw.level = some v → s.role = .standby → s.tw.resync = true → s.tw.asked = true → s.tw.needImage = false → s.tw.needPend = false → 
      Next (.resyncData lane lv (.ledger [] true)) s fun t => t.tw.resync = false ∧ t.tw.ledgerInStep = true ∧ t.role = .standby ∧ t.live = s.live) ∧
  (∀ (s : State) (lane lv v n : Nat) (d : Bytes), laneTakes s = true → s.tw.level = some v → s.role = .standby → s.tw.resync = true → s.tw.asked = true → s.tw.needImage = true → s.tw.pulled = false → d.length < n → 
      exec (.resyncData lane lv (.committed 0 n d)) s = .next { s with tw := { s.tw with pullImage := d } }) ∧
  (∀ (s : State) (b : Nat), s.tw.pulled = true → s.tw.resyncAt = some b → s.role = .standby → b ≤ s.spindle → s.spindle % frameLen (f441 s) = 0 → s.dataPlane = .running → s.firstLive = true → 
      Next .resyncCommit s fun t => t.mb.gen = u32 s.tw.pullImage 12 ∧ t.mb.digest = u64 s.tw.pullImage 16 ∧ t.tw.pulled = false ∧ t.tw.resyncAt = none ∧ t.tw.needImage = false ∧ t.role = s.role)

/-- A frame for another unit goes on with one hop more and nothing but the ring interface changes. A frame with a bad CRC,
or with 63 hops, is counted and goes no further. A frame of an unknown type for this unit is counted. ENUMERATE gives
an unaddressed unit the next address and its position, and goes on with the address after it; an addressed unit keeps
its own. RING_RESET takes the address, the queue, the barrier, the snapshot and the sequence number of the ring away,
and lets ring commands go on without a response; 2 ms later ENUMERATE is accepted again. An unaddressed unit sends
JOIN once a second. When IGR_IN goes down the unit sends BREAK, and again each millisecond until it is up. Rules: R422, R426, R427, R428, R429, R430, R431, R435. Rows: ringFrameForward,
ringEnumerate, ringReset, ringResetComplete, ringJoin, igrInUp, igrInDown, ringBreak. -/
def Obligations.RingForwarding : Prop :=
  (∀ (s : State) (f : RingFrame), ringRuns s = true → f.crcOk = true → f.hops ≠ 63 → s.mode ≠ .hush → f.dst ≠ s.ig.addr → f.dst ≠ 63 → 
      Next (.ringFrameForward f) s fun t => t.out.head? = some (.ring (hopWith f.payload f)) ∧ t.ig.addr = s.ig.addr ∧ { t with ig := s.ig, out := s.out } = s) ∧
  (∀ (s : State) (f : RingFrame), ringRuns s = true → (f.crcOk = false ∨ f.hops = 63) → s.mode ≠ .hush → 
      exec (.ringFrameForward f) s = .next { s with ig := { s.ig with crcErrs := satInc 16 s.ig.crcErrs } }) ∧
  (∀ (s : State) (f : RingFrame), ringRuns s = true → f.crcOk = true → f.hops ≠ 63 → f.dst = s.ig.addr → f.dst ≠ 63 → (f.typ = 0 ∨ 16 < f.typ) → 
      Next (.ringFrameForward f) s fun t => t.ig.unknown = satInc 16 s.ig.unknown ∧ { t with ig := s.ig, out := s.out } = s) ∧
  (∀ (s : State) (f : RingFrame), ringRuns s = true → f.typ = 1 → f.crcOk = true → f.hops ≠ 63 → s.mode ≠ .hush → f.dst = 63 → f.src = 0 → f.len = 12 → s.ig.resetting = none → s.ig.addr = 63 → u8 f.payload 0 ≤ 62 → (∀ i < 12, (candCfg s.live i).typ ≠ 0x0A ∧ (candCfg s.live i).typ ≠ 0x0B) → 
      Next (.ringEnumerate f) s fun t => t.ig.addr = u8 f.payload 0 ∧ t.ig.pos = f.hops + 1 ∧
      t.out.head? = some (.ring (hopWith (le 1 (u8 f.payload 0 + 1) ++ le 1 (Nat.lor (u8 f.payload 1) (2 * b2n s.pw.ringEnd)) ++ f.payload.drop 2) f)) ∧ { t with ig := s.ig, out := s.out } = s) ∧
  (∀ (s : State) (f : RingFrame), ringRuns s = true → f.typ = 1 → f.crcOk = true → f.hops ≠ 63 → s.mode ≠ .hush → f.dst = 63 → f.src = 0 → f.len = 12 → s.ig.resetting = none → s.ig.addr ≠ 63 → 
      Next (.ringEnumerate f) s fun t => t.ig.addr = s.ig.addr ∧ t.ig.pos = f.hops + 1 ∧ t.live = s.live ∧ t.mem = s.mem) ∧
  (∀ (s : State) (f : RingFrame), ringRuns s = true → f.typ = 2 → f.crcOk = true → f.hops ≠ 63 → s.mode ≠ .hush → f.dst = 63 → f.src = 0 → f.len = 12 → 
      Next (.ringReset f) s fun t => t.ig.addr = 63 ∧ t.ig.queue = [] ∧ t.ig.barrier = none ∧ t.ig.snapState = 0 ∧ t.ig.resetting = some s.clock ∧ t.mb.seqRing = none ∧
      (∀ c ∈ t.mb.cmds, c.origin = 1 → c.mute = true) ∧ t.out.head? = some (.ring (hopWith f.payload f)) ∧ { t with mb := s.mb, ig := s.ig, out := s.out } = s) ∧
  (∀ (s : State) (t0 : Nat), s.ig.resetting = some t0 → t0 + 2 * uPerMs ≤ s.clock → 
      exec .ringResetComplete s = .next { s with ig := { s.ig with resetting := none } }) ∧
  (∀ (s : State), ringRuns s = true → s.ig.addr = 63 → s.ig.joinLast = none → s.ig.own.length < 16 → 
      Next .ringJoin s fun t => t.ig.own.getLast?.map (fun o => o.2.typ) = some 0x0F ∧ t.ig.own.length = s.ig.own.length + 1 ∧ t.ig.joinLast = some s.clock ∧ { t with ig := s.ig } = s) ∧
  (∀ (s : State), s.ig.addr ≠ 63 → 
      exec .ringJoin s = .next s) ∧
  (∀ (s : State), ringRuns s = true → 
      exec .igrInUp s = .next { s with ig := { s.ig with inUp := true, breakLast := none } }) ∧
  (∀ (s : State), ringRuns s = true → s.ig.inUp = true → s.ig.own.length < 16 → 
      Next .igrInDown s fun t => t.ig.inUp = false ∧ t.ig.breakLast = some s.clock ∧ t.ig.own.getLast?.map (fun o => o.2.typ) = some 0x10 ∧ { t with ig := s.ig } = s) ∧
  (∀ (s : State) (t0 : Nat), ringRuns s = true → s.ig.inUp = false → s.ig.breakLast = some t0 → t0 + uPerMs ≤ s.clock → s.ig.own.length < 16 → 
      Next .ringBreak s fun t => t.ig.breakLast = some s.clock ∧ t.ig.own.getLast?.map (fun o => o.2.typ) = some 0x10 ∧ { t with ig := s.ig } = s)

/-- A COMMAND for this unit joins the ring queue, of at most 32 slots: one more is counted and answered with NAK 1, one in
HUSH with NAK 3. WREAD is answered with the bytes of the window. WWRITE changes the bytes named in the bulk buffer and
no other, and is answered. A DOORBELL posts nothing, and wakes a device in HUSH. The keys of a RESET start its scope,
with the answer on the ring as well. EVENT carries the bits that were selected and set since the last one. Rules: R73,
R431, R432, R433, R434, R435. Rows: ringCommand, ringWread, ringWwrite, ringDoorbell, ringResetFrame, ringEvent. -/
def Obligations.RingHostAccess : Prop :=
  (∀ (s : State) (f : RingFrame), ringRuns s = true → f.typ = 3 → f.crcOk = true → f.hops ≠ 63 → s.mode ≠ .hush → f.dst = s.ig.addr → f.dst ≠ 63 → f.src = 0 → f.len = 64 → ringReady s = true → s.ig.queue = [] → s.mb.held ≠ [] → 
      Next (.ringCommand f) s fun t => t.ig.queue = [(s.ig.rcvd + 1, f.payload)] ∧ t.ig.rcvd = s.ig.rcvd + 1 ∧ { t with ig := s.ig, out := s.out } = s) ∧
  (∀ (s : State) (f : RingFrame), ringRuns s = true → f.typ = 3 → f.crcOk = true → f.hops ≠ 63 → s.mode ≠ .hush → f.dst = s.ig.addr → f.dst ≠ 63 → f.src = 0 → f.len = 64 → ringReady s = true → s.ig.queue.length < 32 → 
      Next (.ringCommand f) s fun t => t.ig.rcvd = s.ig.rcvd + 1) ∧
  (∀ (s : State) (f : RingFrame), ringRuns s = true → f.typ = 3 → f.crcOk = true → f.hops ≠ 63 → s.mode ≠ .hush → f.dst = s.ig.addr → f.dst ≠ 63 → f.src = 0 → f.len = 64 → ringReady s = true → 32 ≤ s.ig.queue.length → s.ig.own = [] → 
      Next (.ringCommand f) s fun t => t.ig.drops = satInc 16 s.ig.drops ∧ t.ig.queue = s.ig.queue ∧ t.ig.own.getLast?.map (fun o => o.2.typ) = some 5 ∧ { t with ig := s.ig } = s) ∧
  (∀ (s : State) (f : RingFrame), ringRuns s = true → f.typ = 3 → f.crcOk = true → f.dst = s.ig.addr → f.dst ≠ 63 → f.src = 0 → s.mode = .hush → s.ig.own = [] → 
      Next (.ringCommand f) s fun t => t.ig.queue = s.ig.queue ∧ t.ig.own.getLast?.map (fun o => (o.2.typ, o.2.payload.head?)) = some (5, some 3) ∧ { t with ig := s.ig } = s) ∧
  (∀ (s : State) (f : RingFrame), ringRuns s = true → f.typ = 6 → f.crcOk = true → f.hops ≠ 63 → s.mode ≠ .hush → f.dst = s.ig.addr → f.dst ≠ 63 → f.src = 0 → f.len = 12 → 1 ≤ u16 f.payload 4 → u16 f.payload 4 ≤ 1024 → u32 f.payload 0 + u16 f.payload 4 ≤ 0x18000 → s.ig.own = [] → 
      Next (.ringWread f) s fun t => t.ig.own.getLast?.map (fun o => (o.2.typ, o.2.payload)) = some (7, le 4 (u32 f.payload 0) ++ winRead s (u32 f.payload 0) (u16 f.payload 4)) ∧ { t with ig := s.ig } = s) ∧
  (∀ (s : State) (f : RingFrame), ringRuns s = true → f.typ = 8 → f.crcOk = true → f.hops ≠ 63 → s.mode ≠ .hush → f.dst = s.ig.addr → f.dst ≠ 63 → f.src = 0 → 1 ≤ (f.payload.drop 4).length → (f.payload.drop 4).length ≤ 1024 → f.len = 4 + (f.payload.drop 4).length → 0x8000 ≤ u32 f.payload 0 → u32 f.payload 0 + (f.payload.drop 4).length ≤ 0x18000 → memWf s → s.ig.own = [] → 
      Next (.ringWwrite f) s fun t => (∀ a, memRead t a = if u32 f.payload 0 ≤ a ∧ a < u32 f.payload 0 + (f.payload.drop 4).length then nth 0 (f.payload.drop 4) (a - u32 f.payload 0) else memRead s a) ∧
      t.ig.own.getLast?.map (fun o => o.2.typ) = some 7 ∧ { t with ig := s.ig, mem := s.mem } = s) ∧
  (∀ (s : State) (f : RingFrame), ringRuns s = true → f.typ = 9 → f.crcOk = true → f.dst = s.ig.addr → f.dst ≠ 63 → f.src = 0 → f.len = 12 → s.mode = .hush → s.pw.hush = .hushed → 
      Next (.ringDoorbell f) s fun t => t.pw.wakeHeld = true ∧ t.mode = .hush ∧ t.mb = s.mb ∧ { t with pw := s.pw, ig := s.ig, out := s.out } = s) ∧
  (∀ (s : State) (f : RingFrame), ringRuns s = true → f.typ = 9 → f.crcOk = true → f.hops ≠ 63 → s.mode ≠ .hush → f.dst = s.ig.addr → f.dst ≠ 63 → f.src = 0 → f.len = 12 → s.pw.hush = .awake → 
      Next (.ringDoorbell f) s fun t => { t with ig := s.ig, out := s.out } = s) ∧
  (∀ (s : State) (f : RingFrame), ringRuns s = true → f.typ = 0x0A → f.crcOk = true → f.hops ≠ 63 → s.mode ≠ .hush → f.dst = s.ig.addr → f.dst ≠ 63 → f.src = 0 → f.len = 12 → ringKeys f = some 1 → 
      Next (.ringResetFrame f) s fun t => t.mb.resetBusy = some .session ∧ t.mb.cmdHead = 0 ∧ t.mb.rspHead = 0 ∧ t.ig.resetOverRing = true ∧ t.ig.queue = [] ∧ t.live = s.live ∧
      t.mode = s.mode ∧ t.role = s.role) ∧
  (∀ (s : State), ringRuns s = true → s.ig.evtBits ≠ 0 → s.ig.evtLast = none → s.ig.own.length < 16 → 
      Next .ringEvent s fun t => t.ig.evtBits = 0 ∧ t.ig.evtLast = some s.clock ∧ t.ig.own.getLast?.map (fun o => (o.2.typ, o.2.payload)) = some (0x0E, le 2 s.ig.evtBits ++ zeros 10) ∧ { t with ig := s.ig } = s)

/-- The master sends TIME with its Spindle time and its position. A TIME frame whose hop count fits is measured: the time
carried, with the delay of the input, against the arrival; one whose hop count does not fit is counted; both go on.
Phase 1 of a barrier is recorded, phase 2 goes on with this unit counted when the commands before it are done, and is
held until they are, or for 1 s. A SNAPSHOT in time is armed and captured at its instant while the data plane runs,
one that is late has been missed. Rules: R436, R437, R438, R439, R440, Table IG-3. Rows: ringTimeDue, ringTime,
ringBarrier, ringBarrierRelease, ringBarrierTimeout, ringSnapshot, snapshotCapture. -/
def Obligations.RingTimeAndBarriers : Prop :=
  (∀ (s : State), ringRuns s = true → sendsTime s = true → 
      Next .ringTimeDue s fun t => t.out = .ring { rsv := (0, 0, 0), dst := 63, src := s.ig.addr, typ := 13, hops := s.ig.pos, len := (fullForm s.spindle).length, fseq := s.ig.fseq, payload := fullForm s.spindle, crcOk := true } :: s.out ∧
      t.ig.fseq = (s.ig.fseq + 1) % 65536 ∧ { t with ig := s.ig, out := s.out } = s) ∧
  (∀ (s : State), sendsTime s = false → 
      exec .ringTimeDue s = .next s) ∧
  (∀ (s : State) (f : RingFrame) (a d t0 : Nat), ringRuns s = true → f.typ = 0x0D → f.crcOk = true → f.hops ≠ 63 → s.mode ≠ .hush → f.dst = 63 → f.hops + 1 = s.ig.pos → readFull f.payload 0 = some t0 → presentCand s 0x0B = none → 
      Next (.ringTime f a d) s fun t => t.ig.lastTime = some s.clock ∧ t.ig.timeHops = f.hops ∧ t.ig.timeOffset = roundDiv (((t0 + s.ig.inDelay * uPerNs / 1000 : Nat) : Int) * 1000) uPerNs - stamp (roundDiv ((a : Int) * 1000) uPerNs) ∧
      t.ig.bypassed = s.ig.bypassed ∧ t.out.head? = some (.ring (hopWith (fullForm (t0 + s.ig.inDelay * uPerNs / 1000 + (d - a))) f)) ∧ { t with ig := s.ig, out := s.out } = s) ∧
  (∀ (s : State) (f : RingFrame) (a d t0 : Nat), ringRuns s = true → f.typ = 0x0D → f.crcOk = true → f.hops ≠ 63 → s.mode ≠ .hush → f.dst = 63 → f.hops + 1 ≠ s.ig.pos → readFull f.payload 0 = some t0 → 
      Next (.ringTime f a d) s fun t => t.ig.bypassed = satInc 16 s.ig.bypassed ∧ t.ig.timeOffset = s.ig.timeOffset ∧ t.ig.lastTime = s.ig.lastTime ∧ { t with ig := s.ig, out := s.out } = s) ∧
  (∀ (s : State) (f : RingFrame), ringRuns s = true → f.typ = 0x0B → f.crcOk = true → f.hops ≠ 63 → s.mode ≠ .hush → f.dst = 63 → f.src = 0 → f.len = 12 → s.ig.addr ≠ 63 → u8 f.payload 4 = 1 → 
      Next (.ringBarrier f) s fun t => t.ig.barrier = some { id := u32 f.payload 0, mark := s.ig.rcvd, held := none, heldAt := 0 } ∧ t.out.head? = some (.ring (hopWith f.payload f)) ∧ { t with ig := s.ig, out := s.out } = s) ∧
  (∀ (s : State) (f : RingFrame) (b : BarrierState), ringRuns s = true → f.typ = 0x0B → f.crcOk = true → f.hops ≠ 63 → s.mode ≠ .hush → f.dst = 63 → f.src = 0 → f.len = 12 → s.ig.addr ≠ 63 → u8 f.payload 4 = 2 → s.ig.barrier = some b → b.id = u32 f.payload 0 → s.ig.own = [] → barrierDone b.mark s = true → 
      Next (.ringBarrier f) s fun t => t.ig.barrier = none ∧ t.out = .ring (hopWith (barrierCount f.payload) f) :: s.out ∧ { t with ig := s.ig, out := s.out } = s) ∧
  (∀ (s : State) (f : RingFrame) (b : BarrierState), ringRuns s = true → f.typ = 0x0B → f.crcOk = true → f.hops ≠ 63 → s.mode ≠ .hush → f.dst = 63 → f.src = 0 → f.len = 12 → s.ig.addr ≠ 63 → u8 f.payload 4 = 2 → s.ig.barrier = some b → b.id = u32 f.payload 0 → s.ig.own = [] → barrierDone b.mark s = false → 
      exec (.ringBarrier f) s = .next { s with ig := { s.ig with barrier := some { b with held := some f, heldAt := s.clock } } }) ∧
  (∀ (s : State) (f : RingFrame) (b : BarrierState), ringRuns s = true → s.ig.barrier = some b → b.held = some f → barrierDone b.mark s = true → 
      exec .ringBarrierRelease s = .next { s with ig := { s.ig with barrier := none }, out := .ring (hopWith (barrierCount f.payload) f) :: s.out }) ∧
  (∀ (s : State) (f : RingFrame) (b : BarrierState), ringRuns s = true → s.ig.barrier = some b → b.held = some f → b.heldAt + uPerS ≤ s.clock → 
      exec .ringBarrierTimeout s = .next { s with ig := { s.ig with barrier := none, drops := satInc 16 s.ig.drops }, out := .ring (hopWith f.payload f) :: s.out }) ∧
  (∀ (s : State) (f : RingFrame) (x : Nat), ringRuns s = true → f.typ = 0x0C → f.crcOk = true → f.hops ≠ 63 → s.mode ≠ .hush → f.dst = 63 → f.src = 0 → f.len = 12 → readCompact s.spindle f.payload 0 = some x → 
      Next (.ringSnapshot f) s fun t => t.ig.snapId = u32 f.payload 8 ∧ t.ig.snapState = (if s.spindle + 100 * uPerUs ≤ x then 1 else 3) ∧ t.ig.snapAt = x ∧ t.ig.snapParts = [] ∧ t.out.head? = some (.ring (hopWith f.payload f)) ∧ { t with ig := s.ig, out := s.out } = s) ∧
  (∀ (s : State), s.ig.snapState = 1 → s.ig.snapAt ≤ s.spindle → s.dataPlane = .running → 
      exec .snapshotCapture s = .next { s with ig := { s.ig with snapState := 2, snapTime := s.spindle, snapParts := snapParts s } })

/-- LEDGER_ENTRY_CLOSE moves an open entry that has been open for 100 ms to the end of the queue for flash, with the count
of its writer, and leaves alone one that has not; a full queue counts it in LG_LOST. LEDGER_FLASH_WRITE gives the
entry that waits longest the next serial, and answers a command LG_FLUSH that waits for this entry alone.
LEDGER_SECTOR_ERASE drops the oldest sector of 2,048 entries when every entry of it is released, and nothing
otherwise. Rules: R460, R462, R463, R464, R465, R466, R478. Rows: ledgerEntryClose, ledgerFlashWrite,
ledgerSectorErase. -/
def Obligations.LedgerEvents : Prop :=
  (∀ (s : State) (o : OpenEntry), s.lg.open_ = [o] → o.first + 100 * uPerMs ≤ s.clock → s.lg.queue.length < 4096 → s.pt.retain = false → 
      Next .ledgerEntryClose s fun t => t.lg.open_ = [] ∧ t.lg.queue = s.lg.queue ++ [{ o.e with wserial := s.lg.wserial + 1 }] ∧
      t.lg.wserial = (s.lg.wserial + 1) % 2 ^ 32 ∧ { t with lg := s.lg } = s) ∧
  (∀ (s : State) (o : OpenEntry), s.lg.open_ = [o] → s.clock < o.first + 100 * uPerMs → 
      exec .ledgerEntryClose s = .next s) ∧
  (∀ (s : State) (o : OpenEntry), s.lg.open_ = [o] → o.first + 100 * uPerMs ≤ s.clock → 4096 ≤ s.lg.queue.length → 
      exec .ledgerEntryClose s = .next { s with lg := { s.lg with open_ := [], lost := satInc 16 s.lg.lost } }) ∧
  (∀ (s : State) (e : LgEntry) (q : List LgEntry), s.pw.inReset = false → s.lg.queue = e :: q → s.pt.retain = false → s.lg.flush = [] → 
      Next .ledgerFlashWrite s fun t => t.lg.next = s.lg.next + 1 ∧ t.lg.flash.head? = some (s.lg.next, e) ∧ t.lg.queue = q ∧
      t.lg.open_ = s.lg.open_ ∧ t.lg.lost = s.lg.lost) ∧
  (∀ (s : State) (e : LgEntry) (q : List LgEntry) (c : Cmd), s.pw.inReset = false → s.lg.queue = e :: q → s.pt.retain = false → s.lg.flush = [(c.n, 1)] → s.mb.cmds = [c] → c.opcode = 0x0C11 → 
      Next .ledgerFlashWrite s fun t => t.lg.flush = [] ∧ t.mb.cmds = []) ∧
  (∀ (s : State), s.lg.queue = [] → 
      exec .ledgerFlashWrite s = .next s) ∧
  (∀ (s : State) (n : Nat), s.pw.inReset = false → n = (s.lg.oldest / 2048 + 1) * 2048 → n ≤ s.lg.released → n ≤ s.lg.next → 
      Next .ledgerSectorErase s fun t => t.lg.oldest = n ∧ t.lg.flash = s.lg.flash.filter (fun e => decide (n ≤ e.1)) ∧
      t.lg.next = s.lg.next ∧ t.lg.queue = s.lg.queue ∧ t.lg.released = s.lg.released) ∧
  (∀ (s : State), s.lg.released < (s.lg.oldest / 2048 + 1) * 2048 → 
      exec .ledgerSectorErase s = .next s)

/-- PROPOSAL_EXPIRY: a proposal whose window of 120 s has ended is discarded with a ledger event, and its identifier is
kept as the one that expired; one whose window has not ended stays. CREDENTIAL_SLOT_UNLOCK: a slot locked 10 s ago or
more is unlocked, one locked for less stays locked, and no other slot changes. Rules: R454, R458, R472. Rows:
proposalExpiry, credentialSlotUnlock. -/
def Obligations.ProtectionEvents : Prop :=
  (∀ (s : State) (q : Proposal), s.pt.proposal = some q → q.until_ ≤ s.clock → 
      Next .proposalExpiry s fun t => t.pt.proposal = none ∧ t.pt.expired = some q.id ∧
      { t with lg := s.lg, pt := { t.pt with proposal := s.pt.proposal, expired := s.pt.expired } } = s) ∧
  (∀ (s : State) (q : Proposal), s.pt.proposal = some q → s.clock < q.until_ → 
      exec .proposalExpiry s = .next s) ∧
  (∀ (s : State) (i n : Nat), Sized s → i < 8 → (credSlot s i).lockedAt = some n → n + 10 * uPerS ≤ s.clock → 
      Next (.credentialSlotUnlock i) s fun t => (credSlot t i).lockedAt = none ∧ (credSlot t i).secret = (credSlot s i).secret ∧
      (credSlot t i).cls = (credSlot s i).cls ∧ (credSlot t i).seq = (credSlot s i).seq ∧ (∀ j < 8, j ≠ i → credSlot t j = credSlot s j) ∧
      { t with pt := { t.pt with cred := s.pt.cred } } = s) ∧
  (∀ (s : State) (i n : Nat), (credSlot s i).lockedAt = some n → s.clock < n + 10 * uPerS → 
      Next (.credentialSlotUnlock i) s fun t => (credSlot t i).lockedAt = some n ∧ t = s)

/-- COMMIT_LIVE at a frame boundary at or after the boundary of the pending commit, with the data plane not stopped: the
committed generation and digest are those of the commit, its configuration is the live one, nothing is pending, a
SNAPSHOT starts from it with no direct writes, and the first commit starts the data plane and FREERUN. Before its
boundary, off a boundary, or in a stop of the data plane nothing happens. Rules: R10, R25, R404, R405, R406, R412,
R26. Rows: commitLive. -/
def Obligations.CommitLiveRow : Prop :=
  (∀ (s : State) (p : PendCommit), s.mb.pend = some p → p.boundary ≤ s.spindle → s.spindle % frameLen (f441 s) = 0 → s.dataPlane = .running → s.firstLive = true → 
      Next .commitLive s fun t => t.mb.gen = p.gen ∧ t.mb.digest = p.digest ∧ t.mb.pend = none ∧ t.live = p.tables ∧ t.mb.committed = p.tables ∧ t.mb.direct = [] ∧ t.firstLive = true ∧ t.spindle = s.spindle) ∧
  (∀ (s : State) (p : PendCommit), s.mb.pend = some p → p.boundary ≤ s.spindle → s.spindle % frameLen (f441 s) = 0 → s.dataPlane = .dark → s.firstLive = false → 
      Next .commitLive s fun t => t.mb.gen = p.gen ∧ t.mb.digest = p.digest ∧ t.mb.pend = none ∧ t.live = p.tables ∧ t.mb.committed = p.tables ∧ t.firstLive = true) ∧
  (∀ (s : State) (p : PendCommit), s.mb.pend = some p → (s.spindle < p.boundary ∨ s.spindle % frameLen (f441 s) ≠ 0 ∨ s.dataPlane = .relock ∨ s.dataPlane = .second) → 
      exec .commitLive s = .next s)

/-- FRAME_BOUNDARY takes Spindle time to the next multiple of the frame, and the device clock on by the same amount.
DATA_PLANE_RESTART starts a data plane that stands still for a relock of MSYN at a frame boundary with MSYN locked,
and one that stands still for a Spindle step or a change of family at a whole second with MSYN locked and no residual
move owed; otherwise nothing happens. Rules: R6, R8, R18, R23, R92, R127, R154, R406. Rows: frameBoundary,
dataPlaneRestart. -/
def Obligations.FrameAndRestart : Prop :=
  (∀ (inp : FrameInput) (s : State), spindleRuns s = true → s.tk.step = none → s.mb.pend = none → frameCmds s = [] → 
      Next (.frameBoundary inp) s fun t => t.spindle = nextFrame (f441 s) s.spindle ∧ s.spindle < t.spindle ∧ t.spindle % frameLen (f441 s) = 0 ∧
      t.clock + s.spindle = s.clock + t.spindle ∧ t.live = s.live ∧ t.mb.gen = s.mb.gen ∧ t.mb.cmds = s.mb.cmds) ∧
  (∀ (inp : FrameInput) (s : State), spindleRuns s = true → s.mb.pend = none → frameCmds s = [] → s.tk.step = none → s.fenceOpen = true → s.nw.fenceSeen = false → 
      Next (.frameBoundary inp) s fun t => t.nw.fenceSeen = true ∧ t.nw.garp = true) ∧
  (∀ (s : State), s.dataPlane = .relock → s.hs.msyn.lock = 4 → s.spindle % frameLen (f441 s) = 0 → s.tk.step = none → s.tk.stepCmds = [] → s.mb.pend = none → frameCmds s = [] → 
      Next .dataPlaneRestart s fun t => t.dataPlane = .running ∧ t.spindle = s.spindle ∧ t.mode = s.mode ∧ t.live = s.live ∧ t.hs = s.hs) ∧
  (∀ (s : State), s.dataPlane = .second → s.hs.msyn.lock = 4 → s.spindle % uPerS = 0 → residualsDone s = true → s.tk.step = none → s.tk.stepCmds = [] → s.mb.pend = none → frameCmds s = [] → 
      Next .dataPlaneRestart s fun t => t.dataPlane = .running ∧ t.spindle = s.spindle ∧ t.mode = s.mode ∧ t.live = s.live ∧ t.hs = s.hs) ∧
  (∀ (s : State), (s.hs.msyn.lock ≠ 4 ∨ s.dataPlane = .running ∨ s.dataPlane = .dark ∨ (s.dataPlane = .second ∧ (s.spindle % uPerS ≠ 0 ∨ residualsDone s = false)) ∨ (s.dataPlane = .relock ∧ s.spindle % frameLen (f441 s) ≠ 0)) → 
      exec .dataPlaneRestart s = .next s)

/-- The row of a command, with the ordering class that it starts, changes nothing when the oldest command of that class
that may start is not of its opcode: behind a command of the class that has neither its final nor an intermediate
response, with no command of the class waiting, or while the control plane is away (HUSH, a reset). Rules: R399, R73,
R68, Table MB-11. -/
def Obligations.CommandsStartInOrder : Prop :=
  (∀ (i : Instr) (k : OrdClass) (op : Nat) (s : State), (rowKind i = (k, .staged op) ∨ rowKind i = (k, .direct op) ∨ rowKind i = (k, .status op) ∨ rowKind i = (k, .immediate op)) → starting k op s = none → 
      exec i s = .next s) ∧
  (∀ (i : Instr) (k : OrdClass) (op : Nat) (s : State) (d : Cmd) (cs : List Cmd), (rowKind i = (k, .staged op) ∨ rowKind i = (k, .direct op) ∨ rowKind i = (k, .status op) ∨ rowKind i = (k, .immediate op)) → s.mb.cmds = d :: cs → d.order = k → d.phase ≠ .waiting → d.phase ≠ .mid → 
      exec i s = .next s) ∧
  (∀ (i : Instr) (k : OrdClass) (op : Nat) (s : State), (rowKind i = (k, .staged op) ∨ rowKind i = (k, .direct op) ∨ rowKind i = (k, .status op) ∨ rowKind i = (k, .immediate op)) → serving s = false → 
      exec i s = .next s)

/-- In BOOT (recovery) a command outside the set that recovery serves is answered REFUSED_STATE; in SAFE one that is not
served there is answered FAULT; before the first commit is live a direct command that needs it is answered
REFUSED_STATE. While 4,096 entries wait for flash a command, other than a staging command, whose DONE would be logged
is answered RESOURCE. Nothing but the mailbox, the ledger and the window changes. Rules: R397, R463, R464, R474, R506,
Table MB-11, Table MB-23. -/
def Obligations.CommandsRefusedByMode : Prop :=
  (∀ (i : Instr) (k : OrdClass) (op : Nat) (s : State) (c : Cmd), (rowKind i = (k, .staged op) ∨ rowKind i = (k, .direct op) ∨ rowKind i = (k, .status op) ∨ rowKind i = (k, .immediate op)) → starting k op s = some c → s.mode = .boot → recoveryOps.contains op = false → HostReady s c → (lgLogged op 0 && lgBlocked op s) = false → 
      Next i s fun t => Answered s t c stState [] ∧ t.plant = s.plant ∧ t.mb.staging = s.mb.staging ∧ t.mb.pend = s.mb.pend) ∧
  (∀ (i : Instr) (k : OrdClass) (op : Nat) (s : State) (c : Cmd), (rowKind i = (k, .staged op) ∨ rowKind i = (k, .direct op) ∨ rowKind i = (k, .status op) ∨ rowKind i = (k, .immediate op)) → starting k op s = some c → s.mode = .safe → servedInSafe op = false → HostReady s c → (lgLogged op 0 && lgBlocked op s) = false → 
      Next i s fun t => Answered s t c stFault [] ∧ t.plant = s.plant ∧ t.mb.staging = s.mb.staging ∧ t.mb.pend = s.mb.pend) ∧
  (∀ (i : Instr) (k : OrdClass) (op : Nat) (s : State) (c : Cmd), (rowKind i = (k, .staged op) ∨ rowKind i = (k, .direct op) ∨ rowKind i = (k, .status op) ∨ rowKind i = (k, .immediate op)) → starting k op s = some c → s.mode ≠ .boot → s.mode ≠ .safe → s.firstLive = false → needsLive.contains op = true → HostReady s c → (lgLogged op 0 && lgBlocked op s) = false → 
      Next i s fun t => Answered s t c stState [] ∧ t.plant = s.plant ∧ t.mb.staging = s.mb.staging ∧ t.mb.pend = s.mb.pend) ∧
  (∀ (i : Instr) (k : OrdClass) (op : Nat) (s : State) (c : Cmd), (rowKind i = (k, .direct op) ∨ rowKind i = (k, .immediate op)) → starting k op s = some c → lgLogged op 0 = true → 4096 ≤ s.lg.queue.length → HostReady s c → 
      Next i s fun t => Answered s t c stResource [] ∧ t.plant = s.plant ∧ t.mb.staging = s.mb.staging ∧ t.mb.pend = s.mb.pend)

/-- Every staging command that starts with right fields, while there is room in the staging area of 4 MiB and unsigned
changes are taken, is appended to the staging area, opening DELTA staging where none is open, and answered ACCEPTED;
wrong fields, and a port of a twin position whose unit address is its service address, are answered BAD_ARGUMENT, a full staging area RESOURCE, and a device that takes only signed images
REFUSED_ACCESS, with the staging area as it was. The live tables, the pending commit and every block stay as they are.
Rules: R10, R105, R401, R409, R472. Rows: hsRootCfg, hsSynthCfg, hsToolrest, tkCfg, tkCand, tkPolicy, tkRootChar,
nwPortCfg, nwPtpCfg, nwPtpPort, nwRxFlow, nwTxFlow, adCfg, adPairCfg, adSeqCfg, adSlot, adPreset, adTimer, daOutCfg,
daBankCfg, daDdsCfg, daFaultValues, psCfg, psSeg, psShape, psPreset, dgClkCfg, dgPpsCfg, dgTxCfg, dgCsRaw, dgRxCfg,
xbRoute, xbDpCfg, teCfg, teOps, teOperands, teCoefInit, tePreset, fpHpCfg, fpJackCfg, fpPdmCfg, snCfg, twCfg, igCfg. -/
def Obligations.StagedRows : Prop :=
  (∀ (i : Instr) (k : OrdClass) (op : Nat) (s : State) (c : Cmd), rowKind i = (k, .staged op) → starting k op s = some c → modeGate s op = none → s.pt.signedCfg = false → recFieldsOk op c.payload = true → (op = 0x0710 → portAddrOk (twinPos s) c.payload = true) → s.mb.stageBytes + recSize c.payload.length ≤ 4194304 → 
      Next i s fun t => t.mb.staging = some { (s.mb.staging.getD { full := false, recs := [] }) with recs := { opcode := op, expert := c.expert, direct := false, payload := c.payload } :: (s.mb.staging.getD { full := false, recs := [] }).recs } ∧
      t.mb.stageBytes = s.mb.stageBytes + recSize c.payload.length ∧ t.mb.pend = s.mb.pend ∧ t.plant = s.plant ∧ (HostReady s c → Answered s t c stAccepted [])) ∧
  (∀ (i : Instr) (k : OrdClass) (op : Nat) (s : State) (c : Cmd), rowKind i = (k, .staged op) → starting k op s = some c → modeGate s op = none → s.pt.signedCfg = false → recFieldsOk op c.payload = false → HostReady s c → 
      Next i s fun t => Answered s t c stBad [] ∧ t.plant = s.plant ∧ t.mb.staging = s.mb.staging ∧ t.mb.pend = s.mb.pend) ∧
  (∀ (k : OrdClass) (s : State) (c : Cmd), starting k 0x0710 s = some c → modeGate s 0x0710 = none → s.pt.signedCfg = false → portAddrOk (twinPos s) c.payload = false → HostReady s c → 
      Next (.nwPortCfg k) s fun t => Answered s t c stBad [] ∧ t.plant = s.plant ∧ t.mb.staging = s.mb.staging ∧ t.mb.pend = s.mb.pend) ∧
  (∀ (i : Instr) (k : OrdClass) (op : Nat) (s : State) (c : Cmd), rowKind i = (k, .staged op) → starting k op s = some c → modeGate s op = none → s.pt.signedCfg = true → HostReady s c → 
      Next i s fun t => Answered s t c stAccess [] ∧ t.plant = s.plant ∧ t.mb.staging = s.mb.staging ∧ t.mb.pend = s.mb.pend) ∧
  (∀ (i : Instr) (k : OrdClass) (op : Nat) (s : State) (c : Cmd), rowKind i = (k, .staged op) → starting k op s = some c → modeGate s op = none → s.pt.signedCfg = false → recFieldsOk op c.payload = true → (op = 0x0710 → portAddrOk (twinPos s) c.payload = true) → 4194304 < s.mb.stageBytes + recSize c.payload.length → HostReady s c → 
      Next i s fun t => Answered s t c stResource [] ∧ t.plant = s.plant ∧ t.mb.staging = s.mb.staging ∧ t.mb.pend = s.mb.pend)

/-- Every direct command that starts and that its own fields and conditions do not refuse is put at the end of the order
of acceptance and waits for the frame boundary, where it acts (DirectEffects statements); nothing else changes and it
has no response yet. One that they refuse is answered with the status they give, and no block changes. Rules: R96,
R105, R397, R399. Rows: pwHush, pwDomain, hsRootSelect, hsSetFrac, hsFreqOffset, hsPhaseMove, hsPhaseRaw, hsSlew,
hsSpread, hsRelock, tkSetTime, tkLeap, tkRefSelect, tkRealign, nwFlowEnable, nwSfpRead, adAlarm, adTrigger, adDiag,
adMicGain, adClear, daHold, daLoad, psSegWrite, psLtcZone, xbDpSet, teCoef, teEnable, teGainDb, teEqBand, teDelaySet,
fpHpEnable, fpHpAttenSet, fpIdentify, snAck, twForceSolo, igEvtSet, igDelaySet. -/
def Obligations.DirectRows : Prop :=
  (∀ (i : Instr) (k : OrdClass) (op : Nat) (s : State) (c : Cmd), rowKind i = (k, .direct op) → starting k op s = some c → startGate s op = none → startCheck op c.payload s = none → 
      Next i s fun t => t.mb.accepts = s.mb.accepts + 1 ∧ t.mb.cmds = s.mb.cmds.map (fun d => if d.n = c.n then { d with phase := .frame s.mb.accepts } else d) ∧
      { t with mb := { t.mb with accepts := s.mb.accepts, cmds := s.mb.cmds } } = s) ∧
  (∀ (i : Instr) (k : OrdClass) (op : Nat) (s : State) (c : Cmd) (n : Nat), rowKind i = (k, .direct op) → starting k op s = some c → startGate s op = none → startCheck op c.payload s = some n → HostReady s c → 
      Next i s fun t => Answered s t c n [] ∧ t.plant = s.plant ∧ t.mb.staging = s.mb.staging ∧ t.mb.pend = s.mb.pend)

/-- FRAME_BOUNDARY takes the device through the frame to the boundary and loads a Spindle step that was asked for; there the
accepted direct command acts (applyDirect), or two of them one after the other, in order of acceptance but for
TK_SET_TIME, which goes first; then the FRAME strobes fire. With none, or while the control plane is away, none acts. At
the boundary a command whose conditions no longer hold is answered with the status they give, and changes no block (the
model's reading, log entry 8). Rules: R96, R105, R235, R293, R397, R73. Rows: frameBoundary. -/
def Obligations.FrameAppliesDirects : Prop :=
  (∀ (inp : FrameInput) (s x : State) (c : Cmd), x = atDirects inp s → serving x = true → frameCmds x = [c] → 
      exec (.frameBoundary inp) s = .next (endBoundary (applyDirect c (stageHolds x)))) ∧
  (∀ (inp : FrameInput) (s x : State) (c d : Cmd), x = atDirects inp s → serving x = true → frameCmds x = [c, d] → (c.opcode = 0x0324 ∨ d.opcode ≠ 0x0324) → stillWaits (applyDirect c (stageHolds x)) d = true → 
      exec (.frameBoundary inp) s = .next (endBoundary (applyDirect d (applyDirect c (stageHolds x))))) ∧
  (∀ (inp : FrameInput) (s x : State) (c d : Cmd), x = atDirects inp s → serving x = true → frameCmds x = [c, d] → c.opcode ≠ 0x0324 → d.opcode = 0x0324 → stillWaits (applyDirect d (stageHolds x)) c = true → 
      exec (.frameBoundary inp) s = .next (endBoundary (applyDirect c (applyDirect d (stageHolds x))))) ∧
  (∀ (inp : FrameInput) (s x : State), x = atDirects inp s → (frameCmds x = [] ∨ serving x = false) → 
      exec (.frameBoundary inp) s = .next (endBoundary x)) ∧
  (∀ (s : State) (c : Cmd) (n : Nat), directCheck c.opcode c.payload s = some n → HostReady s c → 
      Answered s (applyDirect c s) c n [] ∧ (applyDirect c s).plant = s.plant)

/-- HS_ROOT_SELECT forces a root or ends the forcing; HS_SET_FRAC and HS_FREQ_OFFSET load the word, or leave it to a later
write at the same boundary; HS_PHASE_MOVE and HS_PHASE_RAW add to the phase that a locked synthesiser owes and wait
for one that is not locked; HS_SLEW, HS_SPREAD and HS_RELOCK; TK_SET_TIME loads Spindle time and validity, TK_LEAP the
leap record, TK_REF_SELECT forces a candidate or ends the forcing, TK_REALIGN leaves the mode. Rules: R80, R93, R94,
R96, R97, R100, R112, R114, R127, R138, R141, R142. Rows: hsRootSelect, hsSetFrac, hsFreqOffset, hsPhaseMove,
hsPhaseRaw, hsSlew, hsSpread, hsRelock, tkSetTime, tkLeap, tkRefSelect, tkRealign. -/
def Obligations.DirectClocks : Prop :=
  (∀ (s : State) (c : Cmd), c.opcode = 0x0311 → directCheck c.opcode c.payload s = none → u8 c.payload 0 = 0 → 
      (applyDirect c s).hs.force = none ∧ (applyDirect c s).live = s.live ∧ (applyDirect c s).mode = s.mode) ∧
  (∀ (s : State) (c : Cmd), c.opcode = 0x0311 → directCheck c.opcode c.payload s = none → u8 c.payload 0 = 0 → rootNow s = rootPref s.live → rootQualified s (rootNow s) = true → 
      (applyDirect c s).plant = { s with hs := { s.hs with force := none } }.plant) ∧
  (∀ (s : State) (c : Cmd), c.opcode = 0x0311 → directCheck c.opcode c.payload s = none → u8 c.payload 0 = 1 → 
      (applyDirect c s).hs.force = some .a ∧ rootNow (applyDirect c s) = .a ∧ (applyDirect c s).live = s.live ∧ (applyDirect c s).mode = s.mode) ∧
  (∀ (s : State) (c : Cmd), c.opcode = 0x0311 → directCheck c.opcode c.payload s = none → u8 c.payload 0 = 2 → 
      (applyDirect c s).hs.force = some .b ∧ rootNow (applyDirect c s) = .b ∧ (applyDirect c s).live = s.live ∧ (applyDirect c s).mode = s.mode) ∧
  (∀ (s : State) (c : Cmd), c.opcode = 0x0312 → directCheck c.opcode c.payload s = none → laterWrite c s = false → 
      (getSyn (applyDirect c s) (synOf (u8 c.payload 0))).word = fracWord c.payload) ∧
  (∀ (s : State) (c : Cmd), c.opcode = 0x0314 → directCheck c.opcode c.payload s = none → laterWrite c s = false → 
      (getSyn (applyDirect c s) (synOf (u8 c.payload 0))).word = offsetWord s.live s.hs.rootHz (synOf (u8 c.payload 0)) (i32 c.payload 4)) ∧
  (∀ (s : State) (c : Cmd), (c.opcode = 0x0312 ∨ c.opcode = 0x0314) → laterWrite c s = true → 
      (applyDirect c s).plant = s.plant) ∧
  (∀ (s : State) (c : Cmd), c.opcode = 0x0315 → directCheck c.opcode c.payload s = none → (getSyn s (synOf (u8 c.payload 0))).lock = 4 → 
      (getSyn (applyDirect c s) (synOf (u8 c.payload 0))).owed = (getSyn s (synOf (u8 c.payload 0))).owed + hostMoveUnits s c * 2 ^ 32 ∧
      (getSyn (applyDirect c s) (synOf (u8 c.payload 0))).moving = true ∧ (getSyn (applyDirect c s) (synOf (u8 c.payload 0))).fixedSlew = none ∧ { (applyDirect c s).plant with hs := s.hs } = s.plant) ∧
  (∀ (s : State) (c : Cmd), c.opcode = 0x0316 → directCheck c.opcode c.payload s = none → (getSyn s (synOf (u8 c.payload 0))).lock = 4 → 
      (getSyn (applyDirect c s) (synOf (u8 c.payload 0))).owed = (getSyn s (synOf (u8 c.payload 0))).owed + hostMoveUnits s c * 2 ^ 32 ∧
      (getSyn (applyDirect c s) (synOf (u8 c.payload 0))).moving = true ∧ (getSyn (applyDirect c s) (synOf (u8 c.payload 0))).fixedSlew = none ∧ { (applyDirect c s).plant with hs := s.hs } = s.plant) ∧
  (∀ (s : State) (c : Cmd), c.opcode = 0x0315 → directCheck c.opcode c.payload s = none → (getSyn s (synOf (u8 c.payload 0))).lock ≠ 4 → 
      (applyDirect c s) = s) ∧
  (∀ (s : State) (c : Cmd), c.opcode = 0x0317 → directCheck c.opcode c.payload s = none → 
      (getSyn (applyDirect c s) (synOf (u8 c.payload 0))).slew = u16 c.payload 2 ∧ (getSyn (applyDirect c s) (synOf (u8 c.payload 0))).word = (getSyn s (synOf (u8 c.payload 0))).word ∧ { (applyDirect c s).plant with hs := s.hs } = s.plant) ∧
  (∀ (s : State) (c : Cmd), c.opcode = 0x0318 → directCheck c.opcode c.payload s = none → 
      (applyDirect c s).hs.spreadNext = some (u8 c.payload 1, spreadTurn (spreadView s).1 (spreadView s).2 s.clock) ∧ (applyDirect c s).hs.spreadMode = (spreadView s).1 ∧ (applyDirect c s).hs.spreadFrom = (spreadView s).2 ∧ { (applyDirect c s).plant with hs := s.hs } = s.plant) ∧
  (∀ (s : State) (c : Cmd), c.opcode = 0x031A → directCheck c.opcode c.payload s = none → 
      (getSyn (applyDirect c s) (synOf (u8 c.payload 0))).lock = 1 ∧ (getSyn (applyDirect c s) (synOf (u8 c.payload 0))).relockCmd = some c.n ∧ (getSyn (applyDirect c s) (synOf (u8 c.payload 0))).word = (getSyn s (synOf (u8 c.payload 0))).word ∧ (applyDirect c s).mode = s.mode) ∧
  (∀ (s : State) (c : Cmd) (n : Nat), c.opcode = 0x0324 → directCheck c.opcode c.payload s = none → readFull c.payload 0 = some n → s.dataPlane ≠ .dark → 
      (applyDirect c s).spindle = n ∧ (applyDirect c s).timeValid = (s.timeValid || bit c.payload 12 0) ∧ (applyDirect c s).dataPlane = .second ∧ (applyDirect c s).tk.stepCmds = s.tk.stepCmds ++ [c.n] ∧ (applyDirect c s).mode = s.mode) ∧
  (∀ (s : State) (c : Cmd) (n : Nat), c.opcode = 0x0324 → directCheck c.opcode c.payload s = none → readFull c.payload 0 = some n → s.dataPlane = .dark → 
      (applyDirect c s).spindle = n ∧ (applyDirect c s).timeValid = (s.timeValid || bit c.payload 12 0) ∧ (applyDirect c s).dataPlane = .dark ∧ (applyDirect c s).mode = s.mode) ∧
  (∀ (s : State) (c : Cmd), c.opcode = 0x0325 → directCheck c.opcode c.payload s = none → s.tk.leapPort.isSome = true → 
      (applyDirect c s).plant = { s with tk := { s.tk with utcSet := true, hostUtc := i16 c.payload 0, hostPend := fld c.payload 2 1 0, hostLeapAt := u48 c.payload 4 } }.plant) ∧
  (∀ (s : State) (c : Cmd), c.opcode = 0x0325 → directCheck c.opcode c.payload s = none → s.tk.leapPort = none → 
      (applyDirect c s).tk.utcNow = i16 c.payload 0 ∧ (applyDirect c s).tk.leapPend = fld c.payload 2 1 0 ∧ (applyDirect c s).tk.leapAt = u48 c.payload 4 ∧ { (applyDirect c s).plant with tk := s.tk } = s.plant) ∧
  (∀ (s : State) (c : Cmd), c.opcode = 0x0326 → directCheck c.opcode c.payload s = none → u8 c.payload 0 = 255 → 
      (applyDirect c s).tk.forced = false ∧ (applyDirect c s).mode = s.mode ∧ (applyDirect c s).live = s.live) ∧
  (∀ (s : State) (c : Cmd), c.opcode = 0x0326 → directCheck c.opcode c.payload s = none → u8 c.payload 0 ≠ 255 → (s.mode = .acquire ∨ s.mode = .locked) → 
      (applyDirect c s).tk.forced = true ∧ (applyDirect c s).tk.selected = some (u8 c.payload 0) ∧ (applyDirect c s).mode = s.mode ∧ (applyDirect c s).live = s.live) ∧
  (∀ (s : State) (c : Cmd), c.opcode = 0x0326 → directCheck c.opcode c.payload s = none → u8 c.payload 0 ≠ 255 → s.mode ≠ .acquire → s.mode ≠ .locked → 
      (applyDirect c s).plant = { s with tk := { s.tk with forced := true } }.plant) ∧
  (∀ (s : State) (c : Cmd), c.opcode = 0x0327 → directCheck c.opcode c.payload s = none → 
      (applyDirect c s).mode = s.mode ∧ (applyDirect c s).live = s.live ∧ (applyDirect c s).spindle = s.spindle ∧ { (applyDirect c s).plant with hs := s.hs, tk := s.tk } = s.plant)

/-- AD_ALARM sets or clears the alarm time; AD_TRIGGER starts an idle sequence of a running data plane and is refused on a
sequence of length 0; AD_DIAG the diagnostic input; AD_MIC_GAIN the gain in the live tables; AD_CLEAR the overrange
bits and, where asked, the counters; DA_HOLD stages its codes before any strobe of the boundary; DA_LOAD strobes, and
waits while the data plane does not run; PS_SEG_WRITE and PS_LTC_ZONE write the live tables. Rules: R198, R199, R202,
R208, R211, R228, R234, R235, R253, R262. Rows: adAlarm, adTrigger, adDiag, adMicGain, adClear, daHold, daLoad,
psSegWrite, psLtcZone. -/
def Obligations.DirectConverters : Prop :=
  (∀ (s : State) (c : Cmd), c.opcode = 0x0416 → directCheck c.opcode c.payload s = none → Sized s → bit c.payload 1 0 = false → 
      (applyDirect c s).plant = { s with ad := { s.ad with alarms := modNth (fun _ => none) s.ad.alarms (u8 c.payload 0) } }.plant ∧ nth (some 0) (applyDirect c s).ad.alarms (u8 c.payload 0) = none) ∧
  (∀ (s : State) (c : Cmd), c.opcode = 0x0416 → directCheck c.opcode c.payload s = none → Sized s → bit c.payload 1 0 = true → 
      nth none (applyDirect c s).ad.alarms (u8 c.payload 0) = readCompact s.spindle c.payload 4 ∧ { (applyDirect c s).plant with ad := s.ad } = s.plant) ∧
  (∀ (s : State) (c : Cmd), c.opcode = 0x0417 → directCheck c.opcode c.payload s = none → (seqCfg s.live (bit c.payload 0 0)).len ≠ 0 → s.dataPlane = .running → (getSeq (bit c.payload 0 0) s).phase = 0 → (∀ u, (getSeq (bit c.payload 0 0) s).endAt = some u → u < s.clock) → (getSeq (bit c.payload 0 0) s).lastTrig ≠ some s.clock → 
      (getSeq (bit c.payload 0 0) (applyDirect c s)).phase = 1 ∧ (getSeq (bit c.payload 0 0) (applyDirect c s)).slot = 0 ∧
      (getSeq (bit c.payload 0 0) (applyDirect c s)).due = s.clock + (seqCfg s.live (bit c.payload 0 0)).delay * mclkLen (f441 s) ∧ { (applyDirect c s).plant with ad := s.ad } = s.plant) ∧
  (∀ (s : State) (c : Cmd), c.opcode = 0x0417 → directCheck c.opcode c.payload s = none → ((seqCfg s.live (bit c.payload 0 0)).len = 0 ∨ s.dataPlane ≠ .running) → HostReady s c → 
      Answered s (applyDirect c s) c stState [] ∧ (applyDirect c s).plant = s.plant) ∧
  (∀ (s : State) (c : Cmd), c.opcode = 0x0418 → directCheck c.opcode c.payload s = none → 
      (applyDirect c s).ad.diag = u16 c.payload 0 % 4096 ∧ { (applyDirect c s).plant with ad := s.ad } = s.plant) ∧
  (∀ (s : State) (c : Cmd), c.opcode = 0x0419 → directCheck c.opcode c.payload s = none → 
      (applyDirect c s).live.adc = tabMod {} s.live.adc (u8 c.payload 0) (fun a => { a with mic := u8 c.payload 1 }) ∧ { (applyDirect c s).plant with ad := s.ad, live := s.live } = s.plant) ∧
  (∀ (s : State) (c : Cmd), c.opcode = 0x041A → directCheck c.opcode c.payload s = none → bit c.payload 1 0 = true → 
      (applyDirect c s).plant = { s with ad := { s.ad with ovr := clearBits (u8 c.payload 0) s.ad.ovr, overruns := 0, injDrops := 0, aborts := 0 } }.plant) ∧
  (∀ (s : State) (c : Cmd), c.opcode = 0x041A → directCheck c.opcode c.payload s = none → bit c.payload 1 0 = false → 
      (applyDirect c s).plant = { s with ad := { s.ad with ovr := clearBits (u8 c.payload 0) s.ad.ovr } }.plant) ∧
  (∀ (s : State) (c : Cmd) (n : Nat), frameCmds s = [c] → c.opcode = 0x0513 → u8 c.payload 0 ≤ 1 → n < 4 → Sized s → 
      (nth {} (stageHolds s).da.dac (4 * u8 c.payload 0 + n)).staged =
      (if bit c.payload 1 n then i16 c.payload (4 + 2 * n) else (nth {} s.da.dac (4 * u8 c.payload 0 + n)).staged)) ∧
  (∀ (s : State) (c : Cmd), c.opcode = 0x0513 → directCheck c.opcode c.payload s = none → 
      (applyDirect c s).plant = s.plant) ∧
  (∀ (s : State) (c : Cmd), c.opcode = 0x0514 → directCheck c.opcode c.payload s = none → s.dataPlane = .running → bit c.payload 0 0 = true → bit c.payload 0 1 = false → 
      (applyDirect c s).plant = (holdStrobe 0 s).plant) ∧
  (∀ (s : State) (c : Cmd), c.opcode = 0x0514 → directCheck c.opcode c.payload s = none → s.dataPlane = .running → bit c.payload 0 0 = false → bit c.payload 0 1 = true → 
      (applyDirect c s).plant = (holdStrobe 1 s).plant) ∧
  (∀ (s : State) (c : Cmd), c.opcode = 0x0514 → directCheck c.opcode c.payload s = none → s.dataPlane ≠ .running → 
      (applyDirect c s) = s) ∧
  (∀ (s : State) (c : Cmd), c.opcode = 0x0522 → directCheck c.opcode c.payload s = none → 
      (applyDirect c s).plant = { s with live := putPsSeg c.payload s.live }.plant) ∧
  (∀ (s : State) (c : Cmd), c.opcode = 0x0525 → directCheck c.opcode c.payload s = none → 
      (applyDirect c s).plant = { s with live := setZone (u8 c.payload 0) (i16 c.payload 2) s.live }.plant)

/-- Each direct command that writes a table (XB_DP_SET, TE_COEF, TE_ENABLE, TE_GAIN_DB, TE_EQ_BAND, TE_DELAY_SET,
PS_SEG_WRITE, PS_LTC_ZONE, NW_FLOW_ENABLE, FP_HP_ATTEN_SET, AD_MIC_GAIN) changes the live tables by its write, copies
what it changes into the pending tables where the parameter exists there (an entry of the engines at its own place), and
leaves the committed generation and digest. No direct command changes the generation or the digest. Rules: R411. Rows:
xbDpSet, teCoef, teEnable, teGainDb, teEqBand, teDelaySet, fpHpAttenSet, psSegWrite, psLtcZone, nwFlowEnable,
adMicGain. -/
def Obligations.DirectTableWrites : Prop :=
  (∀ (s : State) (c : Cmd), c.opcode = 0x0612 → directCheck c.opcode c.payload s = none → s.dataPlane = .running → 
      (applyDirect c s).plant = { s with live := setDp c.payload s.live }.plant ∧ (applyDirect c s).mb.pend = s.mb.pend.map (fun p => if pendHas (fun r => r.opcode == 0x0611 && u8 r.payload 0 == u8 c.payload 0) p then { p with tables := setDp c.payload p.tables } else p) ∧
      (applyDirect c s).mb.gen = s.mb.gen ∧ (applyDirect c s).mb.digest = s.mb.digest) ∧
  (∀ (s : State) (c : Cmd), c.opcode = 0x0624 → directCheck c.opcode c.payload s = none → s.dataPlane = .running → 
      (applyDirect c s).plant = { s with live := putWords (u8 c.payload 0) (u16 c.payload 2) ((List.range (u16 c.payload 4)).map (fun j => u32 c.payload (8 + 4 * j))) s.live }.plant ∧
      (∀ p, s.mb.pend = some p → p.full = false → u16 c.payload 4 = 1 → (applyDirect c s).mb.pend = some { p with tables := putWords (u8 c.payload 0) (u16 c.payload 2) [u32 c.payload 8] p.tables }) ∧
      (applyDirect c s).mb.gen = s.mb.gen ∧ (applyDirect c s).mb.digest = s.mb.digest) ∧
  (∀ (s : State) (c : Cmd), c.opcode = 0x0625 → directCheck c.opcode c.payload s = none → s.dataPlane = .running → 
      (applyDirect c s).plant = { s with live := putEnables c.payload s.live }.plant ∧ (applyDirect c s).mb.pend = s.mb.pend.map (fun p => if pendHas (fun _ => true) p then { p with tables := putEnables c.payload p.tables } else p) ∧
      (applyDirect c s).mb.gen = s.mb.gen ∧ (applyDirect c s).mb.digest = s.mb.digest) ∧
  (∀ (s : State) (c : Cmd) (w : Nat), c.opcode = 0x0626 → directCheck c.opcode c.payload s = none → s.dataPlane = .running → gainWordAt c.payload s.live = some w → 
      (applyDirect c s).plant = { s with live := putWords (u8 c.payload 0) w [if i16 c.payload 6 = -32768 then 0 else gainWord (i16 c.payload 6)] s.live }.plant ∧
      (∀ p k, s.mb.pend = some p → p.full = false → gainWordAt c.payload p.tables = some k → (teOp p.tables (u8 c.payload 0) (u16 c.payload 2)).kind = (teOp s.live (u8 c.payload 0) (u16 c.payload 2)).kind →
        (applyDirect c s).mb.pend = some { p with tables := putWords (u8 c.payload 0) k [if i16 c.payload 6 = -32768 then 0 else gainWord (i16 c.payload 6)] p.tables }) ∧
      (applyDirect c s).mb.gen = s.mb.gen ∧ (applyDirect c s).mb.digest = s.mb.digest) ∧
  (∀ (s : State) (c : Cmd) (w : Nat), c.opcode = 0x0627 → directCheck c.opcode c.payload s = none → s.dataPlane = .running → bandWordAt c.payload s.live = some w → 
      (applyDirect c s).plant = { s with live := putWords (u8 c.payload 0) w ((bandOf s c.payload).map word32) s.live }.plant ∧
      (∀ p k, s.mb.pend = some p → p.full = false → bandWordAt c.payload p.tables = some k →
        (applyDirect c s).mb.pend = some { p with tables := putWords (u8 c.payload 0) k ((bandOf s c.payload).map word32) p.tables }) ∧
      (applyDirect c s).mb.gen = s.mb.gen ∧ (applyDirect c s).mb.digest = s.mb.digest) ∧
  (∀ (s : State) (c : Cmd) (w : Nat), c.opcode = 0x0628 → directCheck c.opcode c.payload s = none → s.dataPlane = .running → tapWordAt c.payload s.live = some w → 
      (applyDirect c s).plant = { s with live := putWords (u8 c.payload 0) w [u32 c.payload 4] s.live }.plant ∧
      (∀ p k, s.mb.pend = some p → p.full = false → tapWordAt c.payload p.tables = some k →
        (applyDirect c s).mb.pend = some { p with tables := putWords (u8 c.payload 0) k [u32 c.payload 4] p.tables }) ∧
      (applyDirect c s).mb.gen = s.mb.gen ∧ (applyDirect c s).mb.digest = s.mb.digest) ∧
  (∀ (s : State) (c : Cmd), c.opcode = 0x0812 → directCheck c.opcode c.payload s = none → 
      (applyDirect c s).plant = { s with live := (fun (t : Tables) => { t with hp := { t.hp with atten := u8 c.payload 0 } }) s.live }.plant ∧ (applyDirect c s).mb.pend = s.mb.pend.map (fun p => if pendHas (fun _ => true) p then { p with tables := (fun (t : Tables) => { t with hp := { t.hp with atten := u8 c.payload 0 } }) p.tables } else p) ∧
      (applyDirect c s).mb.gen = s.mb.gen ∧ (applyDirect c s).mb.digest = s.mb.digest) ∧
  (∀ (s : State) (c : Cmd), c.opcode = 0x0522 → directCheck c.opcode c.payload s = none → 
      (applyDirect c s).plant = { s with live := putPsSeg c.payload s.live }.plant ∧ (applyDirect c s).mb.pend = s.mb.pend.map (fun p => if pendHas (givesSeg (u8 c.payload 0) (u16 c.payload 2 % 1024)) p then { p with tables := putSegs (u8 c.payload 0) (u16 c.payload 2 % 1024) [segCopy (segOf s.live (u8 c.payload 0) (u16 c.payload 2 % 1024)) (readSeg c.payload 4) (segOf p.tables (u8 c.payload 0) (u16 c.payload 2 % 1024))] p.tables } else p) ∧
      (applyDirect c s).mb.gen = s.mb.gen ∧ (applyDirect c s).mb.digest = s.mb.digest) ∧
  (∀ (s : State) (c : Cmd), c.opcode = 0x0525 → directCheck c.opcode c.payload s = none → 
      (applyDirect c s).plant = { s with live := setZone (u8 c.payload 0) (i16 c.payload 2) s.live }.plant ∧ (applyDirect c s).mb.pend = s.mb.pend.map (fun p => if pendHas (fun _ => true) p then { p with tables := setZone (u8 c.payload 0) (i16 c.payload 2) p.tables } else p) ∧
      (applyDirect c s).mb.gen = s.mb.gen ∧ (applyDirect c s).mb.digest = s.mb.digest) ∧
  (∀ (s : State) (c : Cmd), c.opcode = 0x0715 → directCheck c.opcode c.payload s = none → 
      (applyDirect c s).live = setFlowEn c.payload s.live ∧ (applyDirect c s).mb.pend = s.mb.pend.map (fun p => if pendHas (fun _ => true) p then { p with tables := setFlowEn c.payload p.tables } else p) ∧
      (applyDirect c s).mb.gen = s.mb.gen ∧ (applyDirect c s).mb.digest = s.mb.digest) ∧
  (∀ (s : State) (c : Cmd), c.opcode = 0x0419 → directCheck c.opcode c.payload s = none → 
      (applyDirect c s).live = { s.live with adc := tabMod {} s.live.adc (u8 c.payload 0) (fun a => { a with mic := u8 c.payload 1 }) } ∧
      (applyDirect c s).mb.pend = s.mb.pend.map (fun p => if pendHas (fun _ => true) p then { p with tables := { p.tables with adc := tabMod {} p.tables.adc (u8 c.payload 0) (fun a => { a with mic := u8 c.payload 1 }) } } else p) ∧
      (applyDirect c s).mb.gen = s.mb.gen ∧ (applyDirect c s).mb.digest = s.mb.digest) ∧
  (∀ (s : State) (c : Cmd), s.mode ≠ .safe → 
      (applyDirect c s).mb.gen = s.mb.gen ∧ (applyDirect c s).mb.digest = s.mb.digest) ∧
  (∀ (s : State) (c : Cmd), [0x0612, 0x0624, 0x0625, 0x0626, 0x0627, 0x0628].contains c.opcode = true → directCheck c.opcode c.payload s = none → s.dataPlane ≠ .running → 
      (applyDirect c s) = s)

/-- NW_SFP_READ answers bytes of the module; FP_HP_ENABLE and PW_DOMAIN start an idle enable machine towards the state
asked for, or answer DONE in that state; FP_IDENTIFY starts an identification; SN_ACK lets ALARM_OUT fall, unless a
detection came while it was held; TW_FORCE_SOLO takes the Chuck as SOLO with cause 5; IG_EVT_SET and IG_DELAY_SET;
PW_HUSH starts HUSH entry with the headphone clamp. Rules: R71, R77, R78, R79, R152, R177, R312, R317, R326, R367,
R435, R437. Rows: nwSfpRead, fpHpEnable, fpHpAttenSet, fpIdentify, snAck, twForceSolo, igEvtSet, igDelaySet, pwHush,
pwDomain. -/
def Obligations.DirectRest : Prop :=
  (∀ (s : State) (c : Cmd), c.opcode = 0x0716 → directCheck c.opcode c.payload s = none → HostReady s c → 
      Answered s (applyDirect c s) c stDone (slice (getPort s (u8 c.payload 0)).module (sfpStart c.payload) (u8 c.payload 3)) ∧ (applyDirect c s).plant = s.plant) ∧
  (∀ (s : State) (c : Cmd), c.opcode = 0x0811 → directCheck c.opcode c.payload s = none → s.fp.hp.run = none → s.fp.hp.on ≠ bit c.payload 0 0 → 
      (applyDirect c s).fp.hp.run = some (bit c.payload 0 0) ∧ (applyDirect c s).fp.hp.owners = [c.n] ∧ (applyDirect c s).fp.clamp = true ∧ { (applyDirect c s).plant with fp := s.fp } = s.plant) ∧
  (∀ (s : State) (c : Cmd), c.opcode = 0x0811 → directCheck c.opcode c.payload s = none → s.fp.hp.run = none → s.fp.hp.on = bit c.payload 0 0 → HostReady s c → 
      Answered s (applyDirect c s) c stDone [] ∧ (applyDirect c s).plant = s.plant) ∧
  (∀ (s : State) (c : Cmd), c.opcode = 0x0812 → directCheck c.opcode c.payload s = none → 
      (applyDirect c s).live.hp.atten = u8 c.payload 0 ∧ (applyDirect c s).live.hp.en = s.live.hp.en ∧ { (applyDirect c s).plant with live := s.live } = s.plant) ∧
  (∀ (s : State) (c : Cmd), c.opcode = 0x0814 → directCheck c.opcode c.payload s = none → 
      (applyDirect c s).fp.identAt = some s.clock ∧ (applyDirect c s).fp.identCmd = some c.n ∧ (applyDirect c s).fp.acc = 1 ∧ { (applyDirect c s).plant with fp := s.fp } = s.plant) ∧
  (∀ (s : State) (c : Cmd), c.opcode = 0x0817 → directCheck c.opcode c.payload s = none → s.sn.during = false → 
      (applyDirect c s).sn.alarmOut = false ∧ (applyDirect c s).sn.holdEnd = none ∧ { (applyDirect c s).plant with sn := s.sn } = s.plant) ∧
  (∀ (s : State) (c : Cmd), c.opcode = 0x0817 → directCheck c.opcode c.payload s = none → s.sn.during = true → s.live.sn.holdS ≠ 0 → 
      (applyDirect c s).sn.alarmOut = true ∧ (applyDirect c s).sn.during = false ∧ (applyDirect c s).sn.holdEnd = s.sn.holdEnd ∧ { (applyDirect c s).plant with sn := s.sn } = s.plant) ∧
  (∀ (s : State) (c : Cmd), c.opcode = 0x0912 → directCheck c.opcode c.payload s = none → s.tw.holds = false → 
      (applyDirect c s).role = .solo ∧ (applyDirect c s).tw.holds = true ∧ (applyDirect c s).tw.lastCause = 5 ∧ (applyDirect c s).tw.leaseEnd = none ∧ (applyDirect c s).mode = s.mode ∧ (applyDirect c s).live = s.live) ∧
  (∀ (s : State) (c : Cmd), c.opcode = 0x0A11 → directCheck c.opcode c.payload s = none → 
      (applyDirect c s).ig.evtMask = u16 c.payload 0 % 512 ∧ (applyDirect c s).plant = s.plant) ∧
  (∀ (s : State) (c : Cmd), c.opcode = 0x0A12 → directCheck c.opcode c.payload s = none → 
      (applyDirect c s).ig.inDelay = u32 c.payload 4 ∧ (applyDirect c s).plant = s.plant) ∧
  (∀ (s : State) (c : Cmd), c.opcode = 0x0D20 → directCheck c.opcode c.payload s = none → 
      (applyDirect c s).pw.hush = .entering c.n ∧ (applyDirect c s).pw.hushAt = s.clock ∧ (applyDirect c s).pw.wakeSn = bit c.payload 0 0 ∧ (applyDirect c s).fp.clamp = true ∧ { (applyDirect c s).plant with pw := s.pw, fp := s.fp, evtAt := s.evtAt, evtRank := s.evtRank } = s.plant) ∧
  (∀ (s : State) (c : Cmd), c.opcode = 0x0D21 → directCheck c.opcode c.payload s = none → Sized s → (getDom s (u8 c.payload 0)).run = none → (getDom s (u8 c.payload 0)).on ≠ bit c.payload 1 0 → 
      (getDom (applyDirect c s) (u8 c.payload 0)).run = some (bit c.payload 1 0) ∧ (getDom (applyDirect c s) (u8 c.payload 0)).since = s.clock ∧ (applyDirect c s).mode = s.mode ∧ (applyDirect c s).live = s.live) ∧
  (∀ (s : State) (c : Cmd), c.opcode = 0x0D21 → directCheck c.opcode c.payload s = none → (getDom s (u8 c.payload 0)).run = none → (getDom s (u8 c.payload 0)).on = bit c.payload 1 0 → HostReady s c → 
      Answered s (applyDirect c s) c stDone [] ∧ (getDom (applyDirect c s) (u8 c.payload 0)) = getDom s (u8 c.payload 0)) ∧
  (∀ (s : State) (c : Cmd), c.opcode = 0x0D21 → directCheck c.opcode c.payload s = none → Sized s → (getDom s (u8 c.payload 0)).run ≠ none → (getDom s (u8 c.payload 0)).queue.length = 4 → HostReady s c → 
      Answered s (applyDirect c s) c stResource [] ∧ (getDom (applyDirect c s) (u8 c.payload 0)) = getDom s (u8 c.payload 0))

/-- A status command that starts, with fields in range, is answered DONE at once with the result of its table, in the next
slot of the response ring; no block and nothing of the ledger changes. One with a field out of range is answered
BAD_ARGUMENT. Rules: R105, R395, R396, R413, R419, R420. Rows: mbConfigStatus, hsStatus, tkStatus, tkOffsets,
tkCandStatus, nwPortStatus, nwPtpStatus, nwFlowStatus, adStatus, adResult, daStatus, psStatus, teStatus, teMeterRead,
fpStatus, snStatus, dgClkStatus, dgRxStatus, twStatus, igStatus, igSnapRead, ptStatus, lgStatus. -/
def Obligations.StatusRows : Prop :=
  (∀ (k : OrdClass) (s : State) (c : Cmd), starting k 0x0E01 s = some c → startGate s 0x0E01 = none → HostReady s c → u8 c.payload 0 ≤ 1 → 
      Next (.mbConfigStatus k) s fun t => Answered s t c stDone (configStatus (u8 c.payload 0) s) ∧ t.plant = s.plant ∧ t.lg = s.lg) ∧
  (∀ (k : OrdClass) (s : State) (c : Cmd), starting k 0x0E10 s = some c → startGate s 0x0E10 = none → HostReady s c → u8 c.payload 0 ≤ 3 → 
      Next (.hsStatus k) s fun t => Answered s t c stDone (hsStatus (synOf (u8 c.payload 0)) s) ∧ t.plant = s.plant ∧ t.lg = s.lg) ∧
  (∀ (k : OrdClass) (s : State) (c : Cmd), starting k 0x0E11 s = some c → startGate s 0x0E11 = none → HostReady s c → 
      Next (.tkStatus k) s fun t => Answered s t c stDone (tkStatus s) ∧ t.plant = s.plant ∧ t.lg = s.lg) ∧
  (∀ (k : OrdClass) (s : State) (c : Cmd), starting k 0x0E12 s = some c → startGate s 0x0E12 = none → HostReady s c → 
      Next (.tkOffsets k) s fun t => Answered s t c stDone (tkOffsets s) ∧ t.plant = s.plant ∧ t.lg = s.lg) ∧
  (∀ (k : OrdClass) (s : State) (c : Cmd), starting k 0x0E13 s = some c → startGate s 0x0E13 = none → HostReady s c → u8 c.payload 0 < 12 → 
      Next (.tkCandStatus k) s fun t => Answered s t c stDone (tkCandStatus (u8 c.payload 0) s) ∧ t.plant = s.plant ∧ t.lg = s.lg) ∧
  (∀ (k : OrdClass) (s : State) (c : Cmd), starting k 0x0E20 s = some c → startGate s 0x0E20 = none → HostReady s c → u8 c.payload 0 ≤ 1 → 
      Next (.nwPortStatus k) s fun t => Answered s t c stDone (nwPortStatus (u8 c.payload 0) s) ∧ t.plant = s.plant ∧ t.lg = s.lg) ∧
  (∀ (k : OrdClass) (s : State) (c : Cmd), starting k 0x0E21 s = some c → startGate s 0x0E21 = none → HostReady s c → u8 c.payload 0 ≤ 1 → 
      Next (.nwPtpStatus k) s fun t => Answered s t c stDone (nwPtpStatus (u8 c.payload 0) s) ∧ t.plant = s.plant ∧ t.lg = s.lg) ∧
  (∀ (k : OrdClass) (s : State) (c : Cmd), starting k 0x0E22 s = some c → startGate s 0x0E22 = none → HostReady s c → 
      Next (.nwFlowStatus k) s fun t => Answered s t c stDone (nwFlowStatus (u16 c.payload 0 % 512) (bit c.payload 2 1) s) ∧ t.plant = s.plant ∧ t.lg = s.lg) ∧
  (∀ (k : OrdClass) (s : State) (c : Cmd), starting k 0x0E30 s = some c → startGate s 0x0E30 = none → HostReady s c → (u8 c.payload 0 ≤ 7 ∧ adcSystem s.live (u8 c.payload 0) = false) → 
      Next (.adStatus k) s fun t => Answered s t c stDone (adStatus (u8 c.payload 0) (selNow s (u8 c.payload 0)) s) ∧ t.plant = s.plant ∧ t.lg = s.lg) ∧
  (∀ (k : OrdClass) (s : State) (c : Cmd), starting k 0x0E31 s = some c → startGate s 0x0E31 = none → HostReady s c → (u8 c.payload 0 ≤ 19 ∧ u8 c.payload 1 ≤ 7 ∧ u8 c.payload 2 ≤ 4 ∧ adcSystem s.live (u8 c.payload 1) = false) → 
      Next (.adResult k) s fun t => Answered s t c stDone (bankPart (tabGet {} s.ad.banks (8 * u8 c.payload 0 + u8 c.payload 1)) (u8 c.payload 2)) ∧ t.plant = s.plant ∧ t.lg = s.lg) ∧
  (∀ (k : OrdClass) (s : State) (c : Cmd), starting k 0x0E40 s = some c → startGate s 0x0E40 = none → HostReady s c → u8 c.payload 0 < 8 → 
      Next (.daStatus k) s fun t => Answered s t c stDone (daStatus (u8 c.payload 0) s) ∧ t.plant = s.plant ∧ t.lg = s.lg) ∧
  (∀ (k : OrdClass) (s : State) (c : Cmd), starting k 0x0E41 s = some c → startGate s 0x0E41 = none → HostReady s c → u8 c.payload 0 < 4 → 
      Next (.psStatus k) s fun t => Answered s t c stDone (psStatus (u8 c.payload 0) s) ∧ t.plant = s.plant ∧ t.lg = s.lg) ∧
  (∀ (k : OrdClass) (s : State) (c : Cmd), starting k 0x0E50 s = some c → startGate s 0x0E50 = none → HostReady s c → (u8 c.payload 0 < 32 ∧ u16 c.payload 2 < 1024) → 
      Next (.teStatus k) s fun t => Answered s t c stDone (teStatus (u8 c.payload 0) (u16 c.payload 2) s) ∧ t.plant = s.plant ∧ t.lg = s.lg) ∧
  (∀ (k : OrdClass) (s : State) (c : Cmd), starting k 0x0E51 s = some c → startGate s 0x0E51 = none → HostReady s c → (u8 c.payload 0 < 32 ∧ u16 c.payload 1 < 1024 ∧ u8 c.payload 3 ≤ 1 ∧ (teOp s.live (u8 c.payload 0) (u16 c.payload 1)).kind = 6) → 
      Next (.teMeterRead k) s fun t => Answered s t c stDone (meterRead (u8 c.payload 0) (u16 c.payload 1) (u8 c.payload 3) s) ∧ t.plant = s.plant ∧ t.lg = s.lg) ∧
  (∀ (k : OrdClass) (s : State) (c : Cmd), starting k 0x0E60 s = some c → startGate s 0x0E60 = none → HostReady s c → 
      Next (.fpStatus k) s fun t => Answered s t c stDone (fpStatus s) ∧ t.plant = s.plant ∧ t.lg = s.lg) ∧
  (∀ (k : OrdClass) (s : State) (c : Cmd), starting k 0x0E61 s = some c → startGate s 0x0E61 = none → HostReady s c → 
      Next (.snStatus k) s fun t => Answered s t c stDone (snStatus s) ∧ t.plant = s.plant ∧ t.lg = s.lg) ∧
  (∀ (k : OrdClass) (s : State) (c : Cmd), starting k 0x0E70 s = some c → startGate s 0x0E70 = none → HostReady s c → u8 c.payload 0 < 12 → 
      Next (.dgClkStatus k) s fun t => Answered s t c stDone (dgClkStatus (u8 c.payload 0) s) ∧ t.plant = s.plant ∧ t.lg = s.lg) ∧
  (∀ (k : OrdClass) (s : State) (c : Cmd), starting k 0x0E71 s = some c → startGate s 0x0E71 = none → HostReady s c → u8 c.payload 0 < 4 → 
      Next (.dgRxStatus k) s fun t => Answered s t c stDone (dgRxStatus (u8 c.payload 0) s) ∧ t.plant = s.plant ∧ t.lg = s.lg) ∧
  (∀ (k : OrdClass) (s : State) (c : Cmd), starting k 0x0E80 s = some c → startGate s 0x0E80 = none → HostReady s c → 
      Next (.twStatus k) s fun t => Answered s t c stDone (twStatus s) ∧ t.plant = s.plant ∧ t.lg = s.lg) ∧
  (∀ (k : OrdClass) (s : State) (c : Cmd), starting k 0x0E90 s = some c → startGate s 0x0E90 = none → HostReady s c → 
      Next (.igStatus k) s fun t => Answered s t c stDone (igStatus s) ∧ t.plant = s.plant ∧ t.lg = s.lg) ∧
  (∀ (k : OrdClass) (s : State) (c : Cmd), starting k 0x0E91 s = some c → startGate s 0x0E91 = none → HostReady s c → u8 c.payload 0 ≤ 8 → 
      Next (.igSnapRead k) s fun t => Answered s t c stDone (snapRead (u8 c.payload 0) s) ∧ t.plant = s.plant ∧ t.lg = s.lg) ∧
  (∀ (k : OrdClass) (s : State) (c : Cmd), starting k 0x0EA0 s = some c → startGate s 0x0EA0 = none → HostReady s c → u8 c.payload 0 ≤ 3 → 
      Next (.ptStatus k) s fun t => Answered s t c stDone (ptStatus (u8 c.payload 0) s) ∧ t.plant = s.plant ∧ t.lg = s.lg) ∧
  (∀ (k : OrdClass) (s : State) (c : Cmd), starting k 0x0EB0 s = some c → startGate s 0x0EB0 = none → HostReady s c → 
      Next (.lgStatus k) s fun t => Answered s t c stDone (lgStatus s) ∧ t.plant = s.plant ∧ t.lg = s.lg) ∧
  (∀ (k : OrdClass) (s : State) (c : Cmd), starting k 0x0E10 s = some c → startGate s 0x0E10 = none → HostReady s c → 3 < u8 c.payload 0 → 
      Next (.hsStatus k) s fun t => Answered s t c stBad [] ∧ t.plant = s.plant ∧ t.lg = s.lg) ∧
  (∀ (k : OrdClass) (s : State) (c : Cmd), starting k 0x0E31 s = some c → startGate s 0x0E31 = none → HostReady s c → 19 < u8 c.payload 0 → 
      Next (.adResult k) s fun t => Answered s t c stBad [] ∧ t.plant = s.plant ∧ t.lg = s.lg)

/-- MB_HELLO is answered with levels, build and origin; MB_SUMMARY with the blocks that raised ALARMs, the cause of SAFE
and the number of outstanding commands, and it clears the blocks; MB_DRAIN is answered at once when no earlier command
is outstanding, and otherwise waits without a response until they have theirs. Rules: R398, R399, R419, Table MB-18,
Table MB-19, R396, R390. Rows: mbHello, mbSummary, mbDrain. -/
def Obligations.SessionRows : Prop :=
  (∀ (k : OrdClass) (s : State) (c : Cmd), starting k 0x0110 s = some c → startGate s 0x0110 = none → HostReady s c → 
      Next (.mbHello k) s fun t => Answered s t c stDone (helloResult c s) ∧ t.plant = s.plant ∧ t.lg = s.lg) ∧
  (∀ (k : OrdClass) (s : State) (c : Cmd), starting k 0x0E00 s = some c → startGate s 0x0E00 = none → HostReady s c → 
      Next (.mbSummary k) s fun t => Answered s t c stDone (summaryResult s) ∧ t.mb.alarmBlocks = 0 ∧ t.plant = s.plant ∧ t.lg = s.lg) ∧
  (∀ (k : OrdClass) (s : State) (c : Cmd), starting k 0x0111 s = some c → startGate s 0x0111 = none → s.mb.cmds = [c] → c.origin ≠ 1 → c.mute = false → c.doomed = false → s.mb.held = [] → rspUnread s < 256 → memWf s → 
      Next (.mbDrain k) s fun t => Answered s t c stDone [] ∧ t.mb.cmds = [] ∧ t.plant = s.plant) ∧
  (∀ (k : OrdClass) (s : State) (c d : Cmd), starting k 0x0111 s = some c → startGate s 0x0111 = none → s.mb.cmds = [d, c] → d.n < c.n → d.opcode ≠ 0x0111 → 
      exec (.mbDrain k) s = .next { s with mb := { s.mb with cmds := [d, { c with phase := .running }] } })

/-- MB_STAGE_BEGIN discards any open staging and opens an empty one on the base named; a reserved base is refused.
MB_STAGE_ABORT closes the staging area. An MB_IMAGE_LOAD segment that continues the partial image is appended to it;
one out of order is refused and discards the partial image; a last segment of an image that fails a check leaves no
staged record of it. Rules: R402, R408, R409, R419, Table MB-17. Rows: mbStageBegin, mbStageAbort, mbImageLoad. -/
def Obligations.StagingRows : Prop :=
  (∀ (k : OrdClass) (s : State) (c : Cmd), starting k 0x0210 s = some c → startGate s 0x0210 = none → u8 c.payload 0 ≤ 1 → HostReady s c → 
      Next (.mbStageBegin k) s fun t => t.mb.staging = some { full := u8 c.payload 0 == 1, recs := [] } ∧ t.mb.stageBytes = 0 ∧ t.mb.image = none ∧
      Answered s t c stDone [] ∧ t.plant = s.plant ∧ t.mb.pend = s.mb.pend) ∧
  (∀ (k : OrdClass) (s : State) (c : Cmd), starting k 0x0210 s = some c → startGate s 0x0210 = none → 1 < u8 c.payload 0 → HostReady s c → 
      Next (.mbStageBegin k) s fun t => t.mb.staging = s.mb.staging ∧ Answered s t c stBad [] ∧ t.plant = s.plant) ∧
  (∀ (k : OrdClass) (s : State) (c : Cmd), starting k 0x0211 s = some c → startGate s 0x0211 = none → HostReady s c → 
      Next (.mbStageAbort k) s fun t => t.mb.staging = none ∧ t.mb.stageBytes = 0 ∧ t.mb.image = none ∧ Answered s t c stDone [] ∧ t.plant = s.plant ∧ t.mb.pend = s.mb.pend) ∧
  (∀ (k : OrdClass) (s : State) (c : Cmd) (got : Bytes), starting k 0x0214 s = some c → startGate s 0x0214 = none → u32 c.payload 0 ≠ 0 → s.mb.image = some (u32 c.payload 4, got) → got.length = u32 c.payload 0 → u32 c.payload 0 + (c.payload.drop 8).length < u32 c.payload 4 → HostReady s c → 
      Next (.mbImageLoad k) s fun t => t.mb.image = some (u32 c.payload 4, got ++ c.payload.drop 8) ∧ t.mb.staging = s.mb.staging ∧ Answered s t c stDone [] ∧ t.plant = s.plant) ∧
  (∀ (k : OrdClass) (s : State) (c : Cmd), starting k 0x0214 s = some c → startGate s 0x0214 = none → u32 c.payload 0 = 0 → (c.payload.drop 8).length < u32 c.payload 4 → HostReady s c → 
      Next (.mbImageLoad k) s fun t => t.mb.image = some (u32 c.payload 4, c.payload.drop 8) ∧ t.mb.staging = none ∧ Answered s t c stDone [] ∧ t.plant = s.plant) ∧
  (∀ (k : OrdClass) (s : State) (c : Cmd) (n : Nat) (got : Bytes), starting k 0x0214 s = some c → startGate s 0x0214 = none → u32 c.payload 0 ≠ 0 → s.mb.image = some (n, got) → (n ≠ u32 c.payload 4 ∨ got.length ≠ u32 c.payload 0 ∨ n < u32 c.payload 0 + (c.payload.drop 8).length) → HostReady s c → 
      Next (.mbImageLoad k) s fun t => t.mb.image = none ∧ t.mb.staging = s.mb.staging ∧ Answered s t c stBad [] ∧ t.plant = s.plant) ∧
  (∀ (k : OrdClass) (s : State) (c : Cmd) (got : Bytes) (n : Nat), starting k 0x0214 s = some c → startGate s 0x0214 = none → u32 c.payload 0 ≠ 0 → s.mb.image = some (u32 c.payload 4, got) → got.length = u32 c.payload 0 → u32 c.payload 0 + (c.payload.drop 8).length = u32 c.payload 4 → imageCheck (got ++ c.payload.drop 8) { s with mb := { s.mb with image := none } } = ([], some n) → HostReady s c → 
      Next (.mbImageLoad k) s fun t => t.mb.image = none ∧ t.mb.staging = s.mb.staging ∧ Answered s t c n [] ∧ t.plant = s.plant) ∧
  (∀ (k : OrdClass) (s : State) (c : Cmd) (got : Bytes) (rs : List Rec), starting k 0x0214 s = some c → startGate s 0x0214 = none → u32 c.payload 0 ≠ 0 → s.mb.image = some (u32 c.payload 4, got) → got.length = u32 c.payload 0 → u32 c.payload 0 + (c.payload.drop 8).length = u32 c.payload 4 → imageCheck (got ++ c.payload.drop 8) { s with mb := { s.mb with image := none } } = (rs, none) → HostReady s c → 
      Next (.mbImageLoad k) s fun t => t.mb.image = none ∧ t.mb.staging = some { full := u8 (got ++ c.payload.drop 8) 8 == 1, recs := rs.reverse } ∧
      Answered s t c stAccepted [] ∧ t.plant = s.plant ∧ t.mb.pend = s.mb.pend)

/-- An MB_COMMIT whose time is right, with no commit pending, staged records and every rule of the new configuration
holding, makes the records on their base pending with the next generation, the digest and the boundary, empties the
staging area and answers ACCEPTED, with the live configuration as it was. It is refused without a record when a commit
is pending, when the generation it names is not the committed one, and on an empty DELTA staging area; a configuration
that fails a rule is answered with the status of the rule and stays staged. Rules: R10, R403, R404, R405, R410, Table
MB-14. Rows: mbCommit. -/
def Obligations.CommitRow : Prop :=
  (∀ (k : OrdClass) (s : State) (c : Cmd) (st : Staging) (b : Nat), starting k 0x0212 s = some c → startGate s 0x0212 = none → s.mb.pend = none → (bit c.payload 0 0 = false ∨ u32 c.payload 4 = s.mb.gen) → s.mb.staging = some st → (st.full = true ∨ st.recs ≠ []) → commitBoundary c s = (b, none) → commitCheck s st.recs.reverse (buildTables (if st.full then {} else s.live) st.recs.reverse) = none → 
      Next (.mbCommit k) s fun t => t.mb.pend = some { tables := buildTables (if st.full then {} else s.live) st.recs.reverse, gen := nextGen s.mb.gen, digest := commitDigest (if st.full then 0 else s.mb.digest) st.recs.reverse, boundary := b, cmd := some c.n, recs := st.recs.reverse, full := st.full } ∧
      t.mb.staging = none ∧ t.plant = s.plant ∧ t.mb.gen = s.mb.gen ∧ (∀ d ∈ t.mb.cmds, d.n = c.n → d.phase = .mid)) ∧
  (∀ (k : OrdClass) (s : State) (c : Cmd), starting k 0x0212 s = some c → startGate s 0x0212 = none → s.mb.pend ≠ none → (commitBoundary c s).2 ≠ some stBad → HostReady s c → 
      Next (.mbCommit k) s fun t => Answered s t c stState noRecord ∧ t.mb.pend = s.mb.pend ∧ t.mb.staging = s.mb.staging ∧ t.plant = s.plant) ∧
  (∀ (k : OrdClass) (s : State) (c : Cmd), starting k 0x0212 s = some c → startGate s 0x0212 = none → s.mb.pend = none → bit c.payload 0 0 = true → u32 c.payload 4 ≠ s.mb.gen → (commitBoundary c s).2 ≠ some stBad → HostReady s c → 
      Next (.mbCommit k) s fun t => Answered s t c stState noRecord ∧ t.mb.pend = none ∧ t.mb.staging = s.mb.staging ∧ t.plant = s.plant) ∧
  (∀ (k : OrdClass) (s : State) (c : Cmd), starting k 0x0212 s = some c → startGate s 0x0212 = none → s.mb.pend = none → bit c.payload 0 0 = false → s.mb.staging = none → HostReady s c → 
      Next (.mbCommit k) s fun t => Answered s t c stBad noRecord ∧ t.mb.pend = none ∧ t.mb.staging = none ∧ t.plant = s.plant)

/-- MB_CANCEL at 100 us or more before the boundary of the pending commit is answered DONE; the commit is gone and its
MB_COMMIT gets its final response, REFUSED_STATE with MB_COMMIT_END = 1; the cancelled records are not in the staging
area. Otherwise MB_CANCEL is answered REFUSED_STATE, the commit stays pending and at its boundary becomes live. Rules:
R407. Rows: mbCancel. -/
def Obligations.CancelRow : Prop :=
  (∀ (k : OrdClass) (s : State) (c m : Cmd) (p : PendCommit), starting k 0x0213 s = some c → startGate s 0x0213 = none → s.mb.pend = some p → p.cmd = some m.n → s.mb.cmds = [m, c] → m.n ≠ c.n → m.opcode = 0x0212 → m.origin ≠ 1 → m.mute = false → m.doomed = false → HostReady s c → rspUnread s < 255 → s.spindle + 100 * uPerUs ≤ p.boundary → 
      Next (.mbCancel k) s fun t => t.mb.pend = none ∧ t.mb.staging = s.mb.staging ∧ t.mb.cmds = [] ∧ t.live = s.live ∧ t.mb.gen = s.mb.gen ∧
      memReadList t (0x5000 + 32 * (s.mb.rspHead % 256)) 32 = rspSlot s m.tag stState 0x0212 true false false (zeros 16 ++ [1]) ∧
      memReadList t (0x5000 + 32 * ((s.mb.rspHead + 1) % 65536 % 256)) 32 = rspSlot s c.tag stDone 0x0213 true false false [] ∧ t.plant = s.plant) ∧
  (∀ (k : OrdClass) (s : State) (c : Cmd) (p : PendCommit), starting k 0x0213 s = some c → startGate s 0x0213 = none → s.mb.pend = some p → p.boundary < s.spindle + 100 * uPerUs → HostReady s c → 
      Next (.mbCancel k) s fun t => Answered s t c stState [] ∧ t.mb.pend = some p ∧ t.plant = s.plant) ∧
  (∀ (k : OrdClass) (s : State) (c : Cmd), starting k 0x0213 s = some c → startGate s 0x0213 = none → s.mb.pend = none → HostReady s c → 
      Next (.mbCancel k) s fun t => Answered s t c stState [] ∧ t.plant = s.plant) ∧
  (∀ (s : State) (p : PendCommit), s.mb.pend = some p → p.boundary ≤ s.spindle → s.spindle % frameLen (f441 s) = 0 → (s.dataPlane = .running ∨ s.dataPlane = .dark) → 
      Next .commitLive s fun t => t.mb.gen = p.gen ∧ t.mb.digest = p.digest ∧ t.mb.pend = none ∧ t.live = p.tables)

/-- TW_SWAP without a time, in an ACTIVE unit whose partner is a HOT STANDBY with a matching generation, arranges the swap
for the frame boundary at or after 100 us from now and stays outstanding; in a unit that is not ACTIVE it is refused.
TW_RESYNC in a STANDBY with a lane clears HOT, starts a resynchronisation and stays outstanding; in a unit that is not
STANDBY it is refused. Rules: R376, R379, R381, Table TW-13. Rows: twSwap, twResync. -/
def Obligations.TwinCommandRows : Prop :=
  (∀ (k : OrdClass) (s : State) (c : Cmd), starting k 0x0911 s = some c → startGate s 0x0911 = none → s.pw.slotSel ≠ 2 → s.role = .active → u64 c.payload 4 = 0 → s.tw.peerRole = some .standby → s.tw.peerHot = true → s.tw.genMatch = true → (s.tw.tsl0 = true ∨ s.tw.tsl1 = true) → s.tw.swap = none → 
      Next (.twSwap k) s fun t => t.tw.swap = some { at_ := frameAtOrAfter (f441 s) (s.spindle + 100 * uPerUs), cmd := c.n, acked := false, released := false, releasedAt := 0 } ∧
      (∀ d ∈ t.mb.cmds, d.n = c.n → d.phase = .running) ∧ t.role = s.role ∧ t.fenceOpen = s.fenceOpen ∧ t.live = s.live) ∧
  (∀ (k : OrdClass) (s : State) (c : Cmd), starting k 0x0911 s = some c → startGate s 0x0911 = none → s.role ≠ .active → HostReady s c → 
      Next (.twSwap k) s fun t => Answered s t c stState [] ∧ t.plant = s.plant) ∧
  (∀ (k : OrdClass) (s : State) (c : Cmd), starting k 0x0913 s = some c → startGate s 0x0913 = none → s.pw.slotSel ≠ 2 → s.role = .standby → (s.tw.tsl0 = true ∨ s.tw.tsl1 = true) → 
      Next (.twResync k) s fun t => t.tw.resync = true ∧ t.tw.hot = false ∧ t.tw.resyncCmds = s.tw.resyncCmds ++ [c.n] ∧ (∀ d ∈ t.mb.cmds, d.n = c.n → d.phase = .running) ∧ t.role = s.role ∧ t.live = s.live) ∧
  (∀ (k : OrdClass) (s : State) (c : Cmd), starting k 0x0913 s = some c → startGate s 0x0913 = none → s.role ≠ .standby → HostReady s c → 
      Next (.twResync k) s fun t => Answered s t c stState [] ∧ t.plant = s.plant)

/-- In a device that is not protected a right PT_PROPOSE applies its records at once; in a protected one it holds them as
the proposal, for 120 s, with the next identifier. PT_CONFIRM by another slot, naming the identifier and the digest,
applies the records of the proposal and ends it; without a proposal, by the proposing slot, or after the window it
applies nothing. PT_WITHDRAW of the identifier ends the proposal. Rules: R451, R456, R457, R458, R472, R477, Table
PT-4. Rows: ptPropose, ptConfirm, ptWithdraw. -/
def Obligations.ProposalRows : Prop :=
  (∀ (k : OrdClass) (s : State) (c : Cmd) (rs : List Rec), starting k 0x0B10 s = some c → startGate s 0x0B10 = none → proposeRecs c.payload = some rs → s.pt.proposal = none → rs.all (releaseOk s) = true → officersOk rs s = true → isProtected s.pt.cred = false → c.auth = false → 
      Next (.ptPropose k) s fun t => t.pt = { (putChanges none c.seq rs s).pt with nextProp := (s.pt.nextProp + 1) % 2 ^ 32, expired := none } ∧ t.mode = s.mode ∧ t.live = s.live) ∧
  (∀ (k : OrdClass) (s : State) (c : Cmd) (rs : List Rec), starting k 0x0B10 s = some c → startGate s 0x0B10 = none → proposeRecs c.payload = some rs → s.pt.proposal = none → rs.all (releaseOk s) = true → officersOk rs s = true → isProtected s.pt.cred = true → 
      Next (.ptPropose k) s fun t => t.pt.proposal = some { id := s.pt.nextProp, digest := digest64 (le 4 s.pt.nextProp ++ c.payload.drop 8), recs := rs, slot := c.cred, origin := c.origin, seq := c.seq, until_ := s.clock + 120 * uPerS } ∧
      t.pt.nextProp = (s.pt.nextProp + 1) % 2 ^ 32 ∧ t.pt.cred = s.pt.cred ∧ t.pt.allow = s.pt.allow ∧ t.pt.retain = s.pt.retain) ∧
  (∀ (k : OrdClass) (s : State) (c : Cmd), starting k 0x0B10 s = some c → startGate s 0x0B10 = none → proposeRecs c.payload = none → HostReady s c → 
      Next (.ptPropose k) s fun t => Answered s t c stBad [] ∧ t.plant = s.plant) ∧
  (∀ (k : OrdClass) (s : State) (c : Cmd) (q : Proposal), starting k 0x0B11 s = some c → startGate s 0x0B11 = none → s.pt.proposal = some q → s.clock < q.until_ → c.auth = true → c.cred ≠ q.slot → s.pt.splitOrigin = false → u32 c.payload 0 = q.id → u64 c.payload 8 = q.digest → 
      Next (.ptConfirm k) s fun t => t.pt = { (putChanges (some (credSlot s q.slot).secret) q.seq q.recs s).pt with proposal := none } ∧ t.mode = s.mode ∧ t.live = s.live) ∧
  (∀ (k : OrdClass) (s : State) (c : Cmd) (q : Proposal), starting k 0x0B11 s = some c → startGate s 0x0B11 = none → s.pt.proposal = some q → s.clock < q.until_ → (c.auth = false ∨ c.cred = q.slot) → HostReady s c → 
      Next (.ptConfirm k) s fun t => Answered s t c stAccess [] ∧ t.plant = s.plant) ∧
  (∀ (k : OrdClass) (s : State) (c : Cmd), starting k 0x0B11 s = some c → startGate s 0x0B11 = none → s.pt.proposal = none → s.pt.expired ≠ some (u32 c.payload 0) → HostReady s c → 
      Next (.ptConfirm k) s fun t => Answered s t c stState [] ∧ t.plant = s.plant) ∧
  (∀ (k : OrdClass) (s : State) (c : Cmd), starting k 0x0B11 s = some c → startGate s 0x0B11 = none → s.pt.proposal = none → s.pt.expired = some (u32 c.payload 0) → HostReady s c → 
      Next (.ptConfirm k) s fun t => Answered s t c stWindow [] ∧ t.plant = s.plant) ∧
  (∀ (k : OrdClass) (s : State) (c : Cmd) (q : Proposal), starting k 0x0B12 s = some c → startGate s 0x0B12 = none → s.pt.proposal = some q → u32 c.payload 0 = q.id → 
      Next (.ptWithdraw k) s fun t => t.pt = { s.pt with proposal := none } ∧ t.live = s.live ∧ t.mode = s.mode) ∧
  (∀ (k : OrdClass) (s : State) (c : Cmd), starting k 0x0B12 s = some c → startGate s 0x0B12 = none → s.pt.proposal = none → HostReady s c → 
      Next (.ptWithdraw k) s fun t => Answered s t c stState [] ∧ t.plant = s.plant)

/-- LG_EXPORT copies entries by serial into the bulk buffer, each as the 32 bytes of its table, and LG_EXPORTED becomes
the highest serial ever returned; a region that is not right, or a first serial that is not held, is refused. LG_FLUSH
closes every open entry, and is answered at once when none waits for flash, else when the last of them is in flash.
Rules: R461, R462, R465, R478. Rows: lgExport, lgFlush. -/
def Obligations.LedgerCommandRows : Prop :=
  (∀ (k : OrdClass) (s : State) (c : Cmd) (e : LgEntry), starting k 0x0C10 s = some c → startGate s 0x0C10 = none → 1 ≤ u16 c.payload 4 → u16 c.payload 4 ≤ 2048 → u32 c.payload 8 % 4 = 0 → u32 c.payload 8 + 32 * u16 c.payload 4 ≤ 65536 → s.lg.oldest ≤ u32 c.payload 0 → u32 c.payload 0 < s.lg.next → s.lg.flash.filter (fun e => decide (u32 c.payload 0 ≤ e.1) && decide (e.1 < u32 c.payload 0 + u16 c.payload 4)) = [(u32 c.payload 0, e)] → HostReady s c → 
      Next (.lgExport k) s fun t => memReadList t (0x8000 + u32 c.payload 8) 32 = lgBytes e ∧ t.lg.exported = (if s.lg.exported < u32 c.payload 0 then u32 c.payload 0 else s.lg.exported) ∧
      t.mb.rspHead = (s.mb.rspHead + 1) % 65536 ∧ t.plant = s.plant) ∧
  (∀ (k : OrdClass) (s : State) (c : Cmd), starting k 0x0C10 s = some c → startGate s 0x0C10 = none → (u16 c.payload 4 = 0 ∨ 2048 < u16 c.payload 4 ∨ u32 c.payload 8 % 4 ≠ 0 ∨ 65536 < u32 c.payload 8 + 32 * u16 c.payload 4 ∨ u32 c.payload 0 < s.lg.oldest ∨ s.lg.next ≤ u32 c.payload 0) → HostReady s c → 
      Next (.lgExport k) s fun t => Answered s t c stBad [] ∧ t.lg.exported = s.lg.exported ∧ t.plant = s.plant) ∧
  (∀ (k : OrdClass) (s : State) (c : Cmd), starting k 0x0C11 s = some c → startGate s 0x0C11 = none → s.lg.open_ = [] → s.lg.queue = [] → HostReady s c → 
      Next (.lgFlush k) s fun t => Answered s t c stDone [] ∧ t.plant = s.plant) ∧
  (∀ (k : OrdClass) (s : State) (c : Cmd), starting k 0x0C11 s = some c → startGate s 0x0C11 = none → s.lg.open_ = [] → s.lg.queue ≠ [] → 
      Next (.lgFlush k) s fun t => t.lg.flush = s.lg.flush ++ [(c.n, s.lg.queue.length)] ∧ (∀ d ∈ t.mb.cmds, d.n = c.n → d.phase = .running) ∧ t.lg.queue = s.lg.queue ∧ t.plant = s.plant)

/-- PT_FW_WRITE writes the slot that is not running: its first segment erases that slot and starts the write, and it is
refused while the boot header prefers that slot. PT_FW_ACTIVATE of a slot that verifies makes the boot header prefer
it; of one that does not verify it is refused. PT_ZEROISE, in recovery boot with its key and where no panel key
forbids it, empties credentials, access words and signing keys and leaves the configuration; elsewhere it is refused.
Rules: R468, R469, R470, R474, R479. Rows: ptFwWrite, ptFwActivate, ptZeroise. -/
def Obligations.FirmwareRows : Prop :=
  (∀ (k : OrdClass) (s : State) (c : Cmd), starting k 0x0D10 s = some c → startGate s 0x0D10 = none → u32 c.payload 0 = 0 → u32 c.payload 4 ≤ 12582912 → (c.payload.drop 8).length < u32 c.payload 4 → prefB s.pt = runningB s → HostReady s c → 
      Next (.ptFwWrite k) s fun t => t.pt.writing = some (!runningB s, u32 c.payload 4, c.payload.drop 8) ∧ (fwSlot t (!runningB s)).verifies = false ∧ (fwSlot t (!runningB s)).image = none ∧
      fwSlot t (runningB s) = fwSlot s (runningB s) ∧ Answered s t c stDone [] ∧ t.live = s.live) ∧
  (∀ (k : OrdClass) (s : State) (c : Cmd), starting k 0x0D10 s = some c → startGate s 0x0D10 = none → u32 c.payload 4 ≤ 12582912 → prefB s.pt ≠ runningB s → HostReady s c → 
      Next (.ptFwWrite k) s fun t => Answered s t c stState [] ∧ t.plant = s.plant) ∧
  (∀ (k : OrdClass) (s : State) (c : Cmd), starting k 0x0D11 s = some c → startGate s 0x0D11 = none → u8 c.payload 0 ≤ 1 → u8 c.payload 1 ≤ 3 → s.pt.writing = none → (fwSlot s (if u8 c.payload 0 = 0 then !runningB s else runningB s)).image = none → (fwSlot s (if u8 c.payload 0 = 0 then !runningB s else runningB s)).verifies = true → HostReady s c → 
      Next (.ptFwActivate k) s fun t => prefB t.pt = (if u8 c.payload 0 = 0 then !runningB s else runningB s) ∧ t.pt.runB = s.pt.runB ∧ Answered s t c stDone [] ∧ t.live = s.live ∧ t.mode = s.mode) ∧
  (∀ (k : OrdClass) (s : State) (c : Cmd), starting k 0x0D11 s = some c → startGate s 0x0D11 = none → u8 c.payload 0 ≤ 1 → u8 c.payload 1 ≤ 3 → s.pt.writing = none → (fwSlot s (if u8 c.payload 0 = 0 then !runningB s else runningB s)).image = none → (fwSlot s (if u8 c.payload 0 = 0 then !runningB s else runningB s)).verifies = false → HostReady s c → 
      Next (.ptFwActivate k) s fun t => Answered s t c stBad [] ∧ t.plant = s.plant) ∧
  (∀ (k : OrdClass) (s : State) (c : Cmd), starting k 0x0D12 s = some c → startGate s 0x0D12 = none → u16 c.payload 0 = 0x5A4E → s.pw.boot = .recovery → (s.pw.panelKey = false ∨ s.pw.panelNow = true) → 
      Next (.ptZeroise k) s fun t => t.pt.cred = List.replicate 8 {} ∧ t.pt.allow = [] ∧ t.pt.keys = List.replicate 4 [] ∧ t.pt.retain = false ∧ t.pt.signedCfg = false ∧ t.pt.splitOrigin = false ∧
      t.pt.slotA = s.pt.slotA ∧ t.pt.slotB = s.pt.slotB ∧ { t.plant with pt := s.pt } = s.plant) ∧
  (∀ (k : OrdClass) (s : State) (c : Cmd), starting k 0x0D12 s = some c → startGate s 0x0D12 = none → s.pw.boot ≠ .recovery → HostReady s c → 
      Next (.ptZeroise k) s fun t => Answered s t c stBad [] ∧ t.plant = s.plant) ∧
  (∀ (k : OrdClass) (s : State) (c : Cmd), starting k 0x0D12 s = some c → startGate s 0x0D12 = none → u16 c.payload 0 = 0x5A4E → s.pw.boot = .recovery → s.pw.panelKey = true → s.pw.panelNow = false → HostReady s c → 
      Next (.ptZeroise k) s fun t => Answered s t c stAccess [] ∧ t.plant = s.plant)

/-- At a commit a staged record writes the table of its opcode, from the fields of its payload, under its own key where
the table has keys; every other key of that table and every other table stay as they are, and a table in canonical
form stays so. (AD_PRESET, PS_PRESET, TE_PRESET, DG_CS_RAW, XB_ROUTE and FP_PDM_CFG: which tables they write.) Rules:
R10, R401, R403, Table HS-8, Table TK-8, Table AD-8, Table DA-10, Table XE-12, Table NW-10, Table FP-4, Table TW-11,
Table MB-16. -/
def Obligations.StagedRecordTables : Prop :=
  (∀ (t : Tables) (r : Rec), r.opcode = 0x0310 → 
      (putRec t r) = { t with root := { aFit := bit r.payload 0 0, bFit := bit r.payload 0 1, prefB := bit r.payload 1 0, revert := bit r.payload 2 0, tol := u16 r.payload 4 } }) ∧
  (∀ (t : Tables) (r : Rec), r.opcode = 0x0313 → 
      (putRec t r) = { t with synth := { f441 := bit r.payload 0 0, vrate := bit r.payload 1 0, manM := bit r.payload 2 0, manV := bit r.payload 2 2, manN := bit r.payload 2 4 } }) ∧
  (∀ (t : Tables) (r : Rec), r.opcode = 0x0319 → tabWf 0 t.ceil = true → 
      { (putRec t r) with ceil := t.ceil } = t ∧ tabWf 0 (putRec t r).ceil = true ∧ tabGet 0 (putRec t r).ceil (u8 r.payload 0) = u32 r.payload 4 ∧
      ∀ j, j ≠ u8 r.payload 0 → tabGet 0 (putRec t r).ceil j = tabGet 0 t.ceil j) ∧
  (∀ (t : Tables) (r : Rec), r.opcode = 0x0320 → 
      (putRec t r) = { t with tk := { fast := bit r.payload 0 0, revertive := bit r.payload 1 0, qualS := u16 r.payload 2, lockPhase := u16 r.payload 4, stepLimit := u16 r.payload 6, agree := u16 r.payload 8, hoAge := u16 r.payload 10 } }) ∧
  (∀ (t : Tables) (r : Rec), r.opcode = 0x0321 → tabWf {} t.cand = true → 
      { (putRec t r) with cand := t.cand } = t ∧ tabWf {} (putRec t r).cand = true ∧ tabGet {} (putRec t r).cand (u8 r.payload 0) = readCand r.payload ∧
      ∀ j, j ≠ u8 r.payload 0 → tabGet {} (putRec t r).cand j = tabGet {} t.cand j) ∧
  (∀ (t : Tables) (r : Rec), r.opcode = 0x0322 → 
      (putRec t r) = { t with policy := { media := fld r.payload 0 1 0, video := fld r.payload 0 3 2, network := fld r.payload 0 5 4 } }) ∧
  (∀ (t : Tables) (r : Rec), r.opcode = 0x0323 → tabWf {} t.rootChar = true → 
      { (putRec t r) with rootChar := t.rootChar } = t ∧ tabWf {} (putRec t r).rootChar = true ∧ tabGet {} (putRec t r).rootChar (u8 r.payload 0) = { t0 := i16 r.payload 2, c1 := i32 r.payload 4, c2 := i32 r.payload 8, age := i32 r.payload 12 } ∧
      ∀ j, j ≠ u8 r.payload 0 → tabGet {} (putRec t r).rootChar j = tabGet {} t.rootChar j) ∧
  (∀ (t : Tables) (r : Rec), r.opcode = 0x0410 → tabWf {} t.adc = true → 
      { (putRec t r) with adc := t.adc } = t ∧ tabWf {} (putRec t r).adc = true ∧ tabGet {} (putRec t r).adc (u8 r.payload 0) = { mode := fld r.payload 1 1 0, input := fld r.payload 2 2 0, srate := fld r.payload 3 1 0, mic := if u8 r.payload 0 < 6 then 0 else u8 r.payload 4 } ∧
      ∀ j, j ≠ u8 r.payload 0 → tabGet {} (putRec t r).adc j = tabGet {} t.adc j) ∧
  (∀ (t : Tables) (r : Rec), r.opcode = 0x0411 → tabWf 0 t.pairRef = true → 
      { (putRec t r) with pairRef := t.pairRef } = t ∧ tabWf 0 (putRec t r).pairRef = true ∧ tabGet 0 (putRec t r).pairRef (u8 r.payload 0) = u8 r.payload 1 ∧
      ∀ j, j ≠ u8 r.payload 0 → tabGet 0 (putRec t r).pairRef j = tabGet 0 t.pairRef j) ∧
  (∀ (t : Tables) (r : Rec), r.opcode = 0x0412 → 
      (putRec t r) = if bit r.payload 0 0 then { t with seqInj := { len := fld r.payload 1 4 0, src := u8 r.payload 2, edge := fld r.payload 3 7 6, trigBit := fld r.payload 3 2 0, delay := uN r.payload 4 3 % 2 ^ 20 } } else { t with seqReg := { len := fld r.payload 1 4 0, src := u8 r.payload 2, edge := fld r.payload 3 7 6, trigBit := fld r.payload 3 2 0, delay := uN r.payload 4 3 % 2 ^ 20 } }) ∧
  (∀ (t : Tables) (r : Rec), r.opcode = 0x0413 → tabWf {} t.slots = true → 
      { (putRec t r) with slots := t.slots } = t ∧ tabWf {} (putRec t r).slots = true ∧ tabGet {} (putRec t r).slots (16 * fld r.payload 0 0 0 + fld r.payload 1 3 0) = readSlot r.payload ∧
      ∀ j, j ≠ 16 * fld r.payload 0 0 0 + fld r.payload 1 3 0 → tabGet {} (putRec t r).slots j = tabGet {} t.slots j) ∧
  (∀ (t : Tables) (r : Rec), r.opcode = 0x0414 → 
      { (putRec t r) with slots := t.slots, seqReg := t.seqReg, seqInj := t.seqInj } = t) ∧
  (∀ (t : Tables) (r : Rec), r.opcode = 0x0415 → tabWf {} t.timers = true → 
      { (putRec t r) with timers := t.timers } = t ∧ tabWf {} (putRec t r).timers = true ∧ tabGet {} (putRec t r).timers (u8 r.payload 0) = { en := bit r.payload 1 0, period := u32 r.payload 4, phase := u32 r.payload 8 } ∧
      ∀ j, j ≠ u8 r.payload 0 → tabGet {} (putRec t r).timers j = tabGet {} t.timers j) ∧
  (∀ (t : Tables) (r : Rec), r.opcode = 0x0510 → tabWf {} t.outCfg = true → 
      { (putRec t r) with outCfg := t.outCfg } = t ∧ tabWf {} (putRec t r).outCfg = true ∧ tabGet {} (putRec t r).outCfg (u8 r.payload 0) = { src := fld r.payload 1 3 0, srate := (if fld r.payload 1 3 0 = 1 ∨ fld r.payload 1 3 0 = 3 then fld r.payload 2 1 0 else 0), psSel := bit r.payload 3 0, ifs := u8 r.payload 4, holdInit := i16 r.payload 6 } ∧
      ∀ j, j ≠ u8 r.payload 0 → tabGet {} (putRec t r).outCfg j = tabGet {} t.outCfg j) ∧
  (∀ (t : Tables) (r : Rec), r.opcode = 0x0511 → 
      (putRec t r) = { t with bank := { vclk := bit r.payload 0 0, lg0 := fld r.payload 1 3 0, lg1 := fld r.payload 1 7 4 } }) ∧
  (∀ (t : Tables) (r : Rec), r.opcode = 0x0512 → tabWf {} t.dds = true → 
      { (putRec t r) with dds := t.dds } = t ∧ tabWf {} (putRec t r).dds = true ∧ tabGet {} (putRec t r).dds (u8 r.payload 0) = { vclk := bit r.payload 1 0, num := u48 r.payload 4, den := u32 r.payload 10, phase := u32 r.payload 14, host := true } ∧
      ∀ j, j ≠ u8 r.payload 0 → tabGet {} (putRec t r).dds j = tabGet {} t.dds j) ∧
  (∀ (t : Tables) (r : Rec), r.opcode = 0x0515 → tabWf 0 t.faultCode = true → 
      { (putRec t r) with faultCode := t.faultCode } = t ∧ tabWf 0 (putRec t r).faultCode = true ∧ (∀ j < 8, tabGet 0 (putRec t r).faultCode (0 + j) = i16 r.payload (2 * j)) ∧
      ∀ j, (j < 0 ∨ 0 + 8 ≤ j) → tabGet 0 (putRec t r).faultCode j = tabGet 0 t.faultCode j) ∧
  (∀ (t : Tables) (r : Rec), r.opcode = 0x0520 → tabWf {} t.ps = true → 
      { (putRec t r) with ps := t.ps } = t ∧ tabWf {} (putRec t r).ps = true ∧ tabGet {} (putRec t r).ps (u8 r.payload 0) = readPsCfg r.payload ∧
      ∀ j, j ≠ u8 r.payload 0 → tabGet {} (putRec t r).ps j = tabGet {} t.ps j) ∧
  (∀ (t : Tables) (r : Rec), r.opcode = 0x0521 → tabWf {} t.segs = true → 
      { (putRec t r) with segs := t.segs } = t ∧ tabWf {} (putRec t r).segs = true ∧ tabGet {} (putRec t r).segs (1024 * u8 r.payload 0 + u16 r.payload 2 % 1024) = readSeg r.payload 4 ∧
      ∀ j, j ≠ 1024 * u8 r.payload 0 + u16 r.payload 2 % 1024 → tabGet {} (putRec t r).segs j = tabGet {} t.segs j) ∧
  (∀ (t : Tables) (r : Rec), r.opcode = 0x0523 → tabWf zeros256 t.shapes = true → 
      { (putRec t r) with shapes := t.shapes } = t ∧ tabWf zeros256 (putRec t r).shapes = true ∧ tabGet zeros256 (putRec t r).shapes (u8 r.payload 0) = ((List.range 256).map (fun k => i16 r.payload (4 + 2 * k))) ∧
      ∀ j, j ≠ u8 r.payload 0 → tabGet zeros256 (putRec t r).shapes j = tabGet zeros256 t.shapes j) ∧
  (∀ (t : Tables) (r : Rec), r.opcode = 0x0524 → 
      { (putRec t r) with ps := t.ps, segs := t.segs, shapes := t.shapes, dds := t.dds } = t) ∧
  (∀ (t : Tables) (r : Rec), r.opcode = 0x0530 → tabWf {} t.clk = true → 
      { (putRec t r) with clk := t.clk } = t ∧ tabWf {} (putRec t r).clk = true ∧ tabGet {} (putRec t r).clk (u8 r.payload 0) = { mode := fld r.payload 1 1 0, drive := fld r.payload 1 3 2, tap := u8 r.payload 2, div := uN r.payload 4 3, phase := uN r.payload 8 3 } ∧
      ∀ j, j ≠ u8 r.payload 0 → tabGet {} (putRec t r).clk j = tabGet {} t.clk j) ∧
  (∀ (t : Tables) (r : Rec), r.opcode = 0x0531 → 
      (putRec t r) = { t with pps := { valid := bit r.payload 0 0, width := u32 r.payload 4 } }) ∧
  (∀ (t : Tables) (r : Rec), r.opcode = 0x0532 → tabWf {} t.tx = true → 
      { (putRec t r) with tx := t.tx } = t ∧ tabWf {} (putRec t r).tx = true ∧ tabGet {} (putRec t r).tx (u8 r.payload 0) = { en := bit r.payload 1 0, rate := fld r.payload 2 1 0, word20 := bit r.payload 3 0, vb := bit r.payload 4 1, va := bit r.payload 4 0, preset := u8 r.payload 5, origin := slice r.payload 8 4, acc := u16 r.payload 12 } ∧
      ∀ j, j ≠ u8 r.payload 0 → tabGet {} (putRec t r).tx j = tabGet {} t.tx j) ∧
  (∀ (t : Tables) (r : Rec), r.opcode = 0x0533 → 
      { (putRec t r) with csRaw := t.csRaw } = t) ∧
  (∀ (t : Tables) (r : Rec), r.opcode = 0x0534 → 
      (putRec t r) = { t with rxEn := fld r.payload 0 3 0 }) ∧
  (∀ (t : Tables) (r : Rec), r.opcode = 0x0610 → 
      { (putRec t r) with routes := t.routes } = t) ∧
  (∀ (t : Tables) (r : Rec), r.opcode = 0x0611 → tabWf {} t.dp = true → 
      { (putRec t r) with dp := t.dp } = t ∧ tabWf {} (putRec t r).dp = true ∧ tabGet {} (putRec t r).dp (u8 r.payload 0) = readDp r.payload ∧
      ∀ j, j ≠ u8 r.payload 0 → tabGet {} (putRec t r).dp j = tabGet {} t.dp j) ∧
  (∀ (t : Tables) (r : Rec), r.opcode = 0x0620 → tabWf {} t.te = true → 
      { (putRec t r) with te := t.te } = t ∧ tabWf {} (putRec t r).te = true ∧ tabGet {} (putRec t r).te (u8 r.payload 0) = { en := bit r.payload 1 0, len := u16 r.payload 2 % 2048, seed := u32 r.payload 4 } ∧
      ∀ j, j ≠ u8 r.payload 0 → tabGet {} (putRec t r).te j = tabGet {} t.te j) ∧
  (∀ (t : Tables) (r : Rec), r.opcode = 0x0621 → tabWf {} t.ops = true → 
      { (putRec t r) with ops := t.ops } = t ∧ tabWf {} (putRec t r).ops = true ∧ (∀ j < u16 r.payload 4, tabGet {} (putRec t r).ops ((1024 * u8 r.payload 0 + u16 r.payload 2) + j) = readOp r.payload (8 + 16 * j)) ∧
      ∀ j, (j < (1024 * u8 r.payload 0 + u16 r.payload 2) ∨ (1024 * u8 r.payload 0 + u16 r.payload 2) + u16 r.payload 4 ≤ j) → tabGet {} (putRec t r).ops j = tabGet {} t.ops j) ∧
  (∀ (t : Tables) (r : Rec), r.opcode = 0x0622 → tabWf {} t.opnds = true → 
      { (putRec t r) with opnds := t.opnds } = t ∧ tabWf {} (putRec t r).opnds = true ∧ (∀ j < u16 r.payload 4, tabGet {} (putRec t r).opnds ((2048 * u8 r.payload 0 + u16 r.payload 2) + j) = readOpnd r.payload (8 + 4 * j)) ∧
      ∀ j, (j < (2048 * u8 r.payload 0 + u16 r.payload 2) ∨ (2048 * u8 r.payload 0 + u16 r.payload 2) + u16 r.payload 4 ≤ j) → tabGet {} (putRec t r).opnds j = tabGet {} t.opnds j) ∧
  (∀ (t : Tables) (r : Rec), r.opcode = 0x0623 → tabWf 0 t.coefs = true → 
      { (putRec t r) with coefs := t.coefs } = t ∧ tabWf 0 (putRec t r).coefs = true ∧ (∀ j < u16 r.payload 4, tabGet 0 (putRec t r).coefs ((4096 * u8 r.payload 0 + u16 r.payload 2) + j) = u32 r.payload (8 + 4 * j)) ∧
      ∀ j, (j < (4096 * u8 r.payload 0 + u16 r.payload 2) ∨ (4096 * u8 r.payload 0 + u16 r.payload 2) + u16 r.payload 4 ≤ j) → tabGet 0 (putRec t r).coefs j = tabGet 0 t.coefs j) ∧
  (∀ (t : Tables) (r : Rec), r.opcode = 0x0630 → 
      { (putRec t r) with ops := t.ops, opnds := t.opnds, coefs := t.coefs, te := t.te } = t) ∧
  (∀ (t : Tables) (r : Rec), r.opcode = 0x0710 → tabWf none t.port = true → 
      { (putRec t r) with port := t.port } = t ∧ tabWf none (putRec t r).port = true ∧ tabGet none (putRec t r).port (u8 r.payload 0) = some { mode := u8 r.payload 1, vlan := bit r.payload 2 0, pcp := fld r.payload 3 7 5, vid := u16 r.payload 4 % 4096, unitIp := u32 r.payload 8, serviceIp := u32 r.payload 12, mask := u32 r.payload 16, gateway := u32 r.payload 20, mac := u48 r.payload 24, dscp := u8 r.payload 30 } ∧
      ∀ j, j ≠ u8 r.payload 0 → tabGet none (putRec t r).port j = tabGet none t.port j) ∧
  (∀ (t : Tables) (r : Rec), r.opcode = 0x0711 → 
      (putRec t r) = { t with ptp := { profile := u8 r.payload 0, domain := u8 r.payload 1, prio1 := u8 r.payload 2, prio2 := u8 r.payload 3, clockId := u64 r.payload 4, tlv := slice r.payload 24 (u16 r.payload 14) } }) ∧
  (∀ (t : Tables) (r : Rec), r.opcode = 0x0712 → tabWf none t.ptpPort = true → 
      { (putRec t r) with ptpPort := t.ptpPort } = t ∧ tabWf none (putRec t r).ptpPort = true ∧ tabGet none (putRec t r).ptpPort (u8 r.payload 0) = some { role := u8 r.payload 1, logSync := i8 r.payload 2, logAnn := i8 r.payload 3, tmo := u8 r.payload 4, logDreq := i8 r.payload 5, asymTx := i32 r.payload 8, asymRx := i32 r.payload 12 } ∧
      ∀ j, j ≠ u8 r.payload 0 → tabGet none (putRec t r).ptpPort j = tabGet none t.ptpPort j) ∧
  (∀ (t : Tables) (r : Rec), r.opcode = 0x0713 → tabWf none t.rx = true → 
      { (putRec t r) with rx := t.rx } = t ∧ tabWf none (putRec t r).rx = true ∧ tabGet none (putRec t r).rx (u16 r.payload 0 % 512) = some { readFlowCfg r.payload with depth := u16 r.payload 12, off := u16 r.payload 14, dstA := u32 r.payload 16, srcA := u32 r.payload 20, udpA := u16 r.payload 24, dstB := u32 r.payload 28, srcB := u32 r.payload 32, udpB := u16 r.payload 36, ssrc := u32 r.payload 40 } ∧
      ∀ j, j ≠ u16 r.payload 0 % 512 → tabGet none (putRec t r).rx j = tabGet none t.rx j) ∧
  (∀ (t : Tables) (r : Rec), r.opcode = 0x0714 → tabWf none t.txFlow = true → 
      { (putRec t r) with txFlow := t.txFlow } = t ∧ tabWf none (putRec t r).txFlow = true ∧ tabGet none (putRec t r).txFlow (u16 r.payload 0 % 512) = some { readFlowCfg r.payload with dscp := u8 r.payload 12, ttl := u8 r.payload 13, udpSrc := u16 r.payload 14, dstA := u32 r.payload 16, udpA := u16 r.payload 20, dstB := u32 r.payload 24, udpB := u16 r.payload 28, ssrc := u32 r.payload 32 } ∧
      ∀ j, j ≠ u16 r.payload 0 % 512 → tabGet none (putRec t r).txFlow j = tabGet none t.txFlow j) ∧
  (∀ (t : Tables) (r : Rec), r.opcode = 0x0810 → 
      (putRec t r) = { t with hp := { automute := bit r.payload 0 1, en := bit r.payload 0 0, atten := u8 r.payload 1 } }) ∧
  (∀ (t : Tables) (r : Rec), r.opcode = 0x0813 → 
      (putRec t r) = { t with jack := { pol := bit r.payload 0 1, acc := bit r.payload 0 0, btn := bit r.payload 1 0, deb := u8 r.payload 2, biasV := fld r.payload 3 1 0, biasR := u16 r.payload 4, btnDeb := u8 r.payload 6, thr0 := u16 r.payload 8, thr1 := u16 r.payload 10, thr2 := u16 r.payload 12, thr3 := u16 r.payload 14 } }) ∧
  (∀ (t : Tables) (r : Rec), r.opcode = 0x0815 → 
      { (putRec t r) with pdm0 := t.pdm0, pdm1 := t.pdm1 } = t) ∧
  (∀ (t : Tables) (r : Rec), r.opcode = 0x0816 → 
      (putRec t r) = { t with sn := { glass := bit r.payload 0 3, cont := bit r.payload 0 2, t3 := bit r.payload 0 1, en := bit r.payload 0 0, level := i8 r.payload 1, tonality := u8 r.payload 2, groups := u8 r.payload 3, contS := u8 r.payload 4, holdS := u16 r.payload 6 } }) ∧
  (∀ (t : Tables) (r : Rec), r.opcode = 0x0910 → 
      (putRec t r) = { t with tw := { leaseUs := u8 r.payload 0, laneEn := fld r.payload 1 1 0, asym0 := i16 r.payload 4, asym1 := i16 r.payload 6 } }) ∧
  (∀ (t : Tables) (r : Rec), r.opcode = 0x0A10 → 
      (putRec t r) = { t with igMaster := u8 r.payload 0 }) ∧
  (∀ (t : Tables) (r : Rec), (isChangeRecord r.opcode = true ∨ opRow r.opcode = none) → 
      (putRec t r) = t)

/-- State.reset has the shape that the model holds its fixed parts in: 11 power domains, 12 clock outputs, 12 candidates,
8 ADCs and DACs, 4 sequencers and the others. (The representation is the model's own; its sizes are those of the
tables.) Rules: Table PW-6, R226, R244, R450. -/
def Obligations.SizedReset : Prop :=
  Sized State.reset

/-- From every state with the right number of power domains, clock outputs, candidates, AES3 ports, ADC pairs and alarms,
DACs, sequencers, PDM channels, credential slots and signing keys, whatever command or event is at the front of the
queue, and on an empty queue, the next state has that number too. This is the invariant that other statements have as
a premise; the representation is the model's own. Rules: Table PW-6, R226, R244, R450. -/
def Obligations.SizedKept : Prop :=
  ∀ (s t : State), Sized s → step s = .next t → 
      Sized t

/-- In HOLDOVER the tick of the clock, a frame that ends with no commit, no direct command and no Spindle step, the
holdover update and the loop update all leave the mode; a holdover estimate that has aged past its validity limit
raises the ALARM of Tracking and keeps the mode. Rules: R28. Rows: frameBoundary, holdoverUpdate, loopUpdate,
holdoverAged. -/
def Obligations.HoldoverStays : Prop :=
  (∀ (s : State), s.mode = .holdover → s.pending = [] → 
      ∃ t, step s = .next t ∧ t.mode = .holdover) ∧
  (∀ (inp : FrameInput) (s : State), s.mode = .holdover → s.mb.pend = none → frameCmds s = [] → s.tk.step = none → 
      Next (.frameBoundary inp) s fun t => t.mode = .holdover) ∧
  (∀ (s : State) (n : Int), s.mode = .holdover → 
      Next (.holdoverUpdate n) s fun t => t.mode = .holdover) ∧
  (∀ (s : State) (n : Int), s.mode = .holdover → 
      Next (.loopUpdate n) s fun t => t.mode = .holdover) ∧
  (∀ (s : State), s.mode = .holdover → s.tk.hoAged = false → s.tk.hoList ≠ [] → s.tk.hoLast + s.live.tk.hoAge * 3600 * uPerS < s.clock → 
      Next .holdoverAged s fun t => t.mode = .holdover ∧ t.tk.hoAged = true ∧ nbit t.mb.alarmBlocks 1 = true ∧ nbit t.mb.irqStatus 2 = true)

/-- Every row of the table completes: whatever its operands and whatever the state, exec answers a next state, with no
fault and no refusal, sessionReset, controlReset, fullReset, mbResetDone, toolrestWindow and toolrestGateOpen among
them. What that state holds, the other statements say. Rules: 13_host_mailbox.md, 95_what_each_step_holds.md. -/
def Obligations.EveryRowAnswersNext : Prop :=
  ∀ (i : Instr) (s : State), ∃ t, exec i s = .next t
end

