-- ==== Sys2Proof/Laws/Key.lean ====
section
/-! SUPPORT. What the fence depends on (R16, R17), and one lemma for each operation that leaves all of it alone. -/
namespace Sys2Proof.Laws
open Sys2Proof.Machine

/-- The parts of the state that the fence reads, and the fence itself, as one value. -/
def K (role : Role) (mode : Mode) (fenced part rst fence : Bool) : Role × Mode × Bool × Bool × Bool × Bool :=
  (role, mode, fenced, part, rst, fence)

/-- What the fence depends on in a state. -/
abbrev fkey (s : State) := K s.role s.mode s.acquireFenced s.tw.partingTool s.pw.inReset s.fenceOpen

/-- A fold of steps that keep the key keeps it. -/
@[simp] theorem key_foldl {α : Type} (f : State → α → State) (l : List α) (s : State) (h : ∀ t a, fkey (f t a) = fkey t) :
    fkey (l.foldl f s) = fkey s := by
  induction l generalizing s with
  | nil => rfl
  | cons a l ih => rw [List.foldl_cons, ih, h]

/-- The same for a fold that carries a value beside the state. -/
@[simp] theorem key_foldl_fst {α β : Type} (f : State × β → α → State × β) (l : List α) (p : State × β)
    (h : ∀ t a, fkey (f t a).1 = fkey t.1) : fkey (l.foldl f p).1 = fkey p.1 := by
  induction l generalizing p with
  | nil => rfl
  | cons a l ih => rw [List.foldl_cons, ih, h]

@[simp] theorem key_ite (c : Prop) [Decidable c] (a b : State) : fkey (if c then a else b) = if c then fkey a else fkey b := by
  split <;> rfl

@[simp] theorem modTw_eq (f : TwState → TwState) (s : State) : modTw f s = { s with tw := f s.tw } := rfl


@[simp] theorem key_inOrder (rank : Nat) (s : State) : fkey (inOrder rank s) = fkey s := by simp [inOrder]

@[simp] theorem key_drawFree (s : State) : fkey (drawFree s).2 = fkey s := by simp [drawFree]

@[simp] theorem key_raiseIrq (b : Nat) (s : State) : fkey (raiseIrq b s) = fkey s := by simp [raiseIrq]

@[simp] theorem key_raiseAlarm (blk : Nat) (s : State) : fkey (raiseAlarm blk s) = fkey s := by simp [raiseAlarm]

@[simp] theorem key_lgOwn (e : LgEntry) (s : State) : fkey (lgOwn e s) = fkey s := by simp [lgOwn]

@[simp] theorem key_lgLastPlace (s : State) : fkey (lgLastPlace s) = fkey s := by simp [lgLastPlace]

@[simp] theorem key_lgPut (e : LgEntry) (s : State) : fkey (lgPut e s) = fkey s := by simp [lgPut]

@[simp] theorem key_lgPutMirror (e : LgEntry) (s : State) : fkey (lgPutMirror e s) = fkey s := by simp [lgPutMirror]

@[simp] theorem key_lgEvent (code : Nat) (digest : Nat) (s : State) : fkey (lgEvent code digest s) = fkey s := by simp [lgEvent]

@[simp] theorem key_lgCloseAll (s : State) : fkey (lgCloseAll s) = fkey s := by simp [lgCloseAll]

@[simp] theorem key_lgDirect (e : LgEntry) (key : Bytes) (s : State) : fkey (lgDirect e key s) = fkey s := by
  unfold lgDirect
  (repeat' split) <;> first | rfl | (simp [fkey]; done)

@[simp] theorem key_lgCommand (c : Cmd) (status : Nat) (s : State) : fkey (lgCommand c status s) = fkey s := by
  unfold lgCommand
  (repeat' split) <;> first | rfl | (simp; done)

@[simp] theorem key_ringSend (answers : Nat) (typ : Nat) (payload : Bytes) (s : State) : fkey (ringSend answers typ payload s) = fkey s := by simp [ringSend]

@[simp] theorem key_ringFlush (s : State) : fkey (ringFlush s) = fkey s := by simp [ringFlush]

@[simp] theorem key_leaseSend (paths : List TwinPath) (typ : Nat) (seq : Nat) (s : State) : fkey (leaseSend paths typ seq s) = fkey s := by simp [leaseSend]

@[simp] theorem key_laneSend (typ : Nat) (content : Bytes) (s : State) : fkey (laneSend typ content s) = fkey s := by simp [laneSend]

@[simp] theorem key_memWrite (a : Nat) (b : Byte) (s : State) : fkey (memWrite a b s) = fkey s := by simp [memWrite]

@[simp] theorem key_memWriteList (a : Nat) (bs : Bytes) (s : State) : fkey (memWriteList a bs s) = fkey s := by simp [memWriteList]

@[simp] theorem key_rspWrite (slot : Bytes) (s : State) : fkey (rspWrite slot s) = fkey s := by
  unfold rspWrite
  (repeat' split) <;> first | rfl | (simp [fkey]; done)

@[simp] theorem key_rspHost (slot : Bytes) (s : State) : fkey (rspHost slot s) = fkey s := by simp [rspHost]

@[simp] theorem key_rspSend (c : Cmd) (slot : Bytes) (s : State) : fkey (rspSend c slot s) = fkey s := by simp [rspSend]

@[simp] theorem key_dropCmd (n : Nat) (s : State) : fkey (dropCmd n s) = fkey s := by simp [dropCmd]

@[simp] theorem key_setPhase (n : Nat) (ph : CmdPhase) (s : State) : fkey (setPhase n ph s) = fkey s := by simp [setPhase]

@[simp] theorem key_respondFinal (c : Cmd) (status : Nat) (res : Bytes) (s : State) : fkey (respondFinal c status res s) = fkey s := by simp [respondFinal]

@[simp] theorem key_settleDrains : ∀ (n : Nat) (s : State), fkey (settleDrains n s) = fkey s
  | 0, _ => rfl
  | n + 1, s => by
    unfold settleDrains
    split
    · rfl
    · rw [key_settleDrains n]; exact key_respondFinal _ _ _ _

@[simp] theorem key_respond (c : Cmd) (status : Nat) (res : Bytes) (s : State) : fkey (respond c status res s) = fkey s := by simp [respond]

@[simp] theorem key_respondTo (n : Nat) (status : Nat) (res : Bytes) (s : State) : fkey (respondTo n status res s) = fkey s := by
  unfold respondTo
  (repeat' split) <;> first | rfl | (simp; done)

@[simp] theorem key_respondMid (c : Cmd) (status : Nat) (res : Bytes) (s : State) : fkey (respondMid c status res s) = fkey s := by simp [respondMid]

@[simp] theorem key_respondAll (ns : List Nat) (status : Nat) (res : Bytes) (s : State) : fkey (respondAll ns status res s) = fkey s := by simp [respondAll]

@[simp] theorem key_identAbandon (s : State) : fkey (identAbandon s) = fkey s := by
  simp only [identAbandon]
  (repeat' split) <;> first | rfl | (simp [fkey]; done) | (simp_all [fkey]; done)

theorem key_startNow (k : OrdClass) (op : Nat) (run : Cmd → State → State) (s : State)
    (g : ∀ c t, fkey (run c t) = fkey t) : fkey (startNow k op run s) = fkey s := by
  unfold startNow
  (repeat' split) <;> first | rfl | exact g _ _ | (simp; done)

@[simp] theorem key_startStatus (k : OrdClass) (op : Nat) (ok : Bytes → Bool) (result : Bytes → State → Bytes) (s : State) :
    fkey (startStatus k op ok result s) = fkey s :=
  key_startNow _ _ _ _ fun c t => by split <;> simp

@[simp] theorem key_startDirect (k : OrdClass) (op : Nat) (check : Bytes → State → Option Nat) (s : State) :
    fkey (startDirect k op check s) = fkey s :=
  key_startNow _ _ _ _ fun c t => by split <;> simp [fkey]

@[simp] theorem key_stageRec (r : Rec) (s : State) : fkey (stageRec r s) = fkey s := by simp [stageRec]

@[simp] theorem key_runStaged (ok : Bytes → Bool) (c : Cmd) (s : State) : fkey (runStaged ok c s) = fkey s := by simp [runStaged]

@[simp] theorem key_startStaged (k : OrdClass) (op : Nat) (ok : Bytes → Bool) (s : State) : fkey (startStaged k op ok s) = fkey s := by
  unfold startStaged
  (repeat' split) <;> first | rfl | (simp; done)

@[simp] theorem key_noteDirect (c : Cmd) (s : State) : fkey (noteDirect c s) = fkey s := by simp [noteDirect]

@[simp] theorem key_writeParam (has : Rec → Bool) (live : Tables → Tables) (pend : Tables → Tables) (s : State) : fkey (writeParam has live pend s) = fkey s := by simp [writeParam]

@[simp] theorem key_writeTables (f : Tables → Tables) (s : State) : fkey (writeTables f s) = fkey s := by simp [writeTables]

@[simp] theorem key_txStop (s : State) : fkey (txStop s) = fkey s := by simp [txStop]

@[simp] theorem key_abortSlot (r : SlotRun) (s : State) : fkey (abortSlot r s) = fkey s := by simp [abortSlot]

@[simp] theorem key_modSeq (inj : Bool) (f : SeqRun → SeqRun) (s : State) : fkey (modSeq inj f s) = fkey s := by simp [modSeq]

@[simp] theorem key_endPass (inj : Bool) (s : State) : fkey (endPass inj s) = fkey s := by
  simp only [endPass]
  (repeat' split) <;> first | rfl | (simp [fkey]; done) | (simp_all [fkey]; done)

@[simp] theorem key_passesOff (s : State) : fkey (passesOff s) = fkey s := by simp [passesOff, modSeq, fkey]

@[simp] theorem key_psWait (v : Bool) (s : State) : fkey (psWait v s) = fkey s := by simp [psWait]

@[simp] theorem key_holdWait (v : Bool) (s : State) : fkey (holdWait v s) = fkey s := by simp [holdWait]

@[simp] theorem key_stopVclk (s : State) : fkey (stopVclk s) = fkey s := by
  unfold stopVclk
  (repeat' split) <;> first | rfl | (simp; done)

@[simp] theorem key_stopMclk (s : State) : fkey (stopMclk s) = fkey s := by
  unfold stopMclk
  (repeat' split) <;> first | rfl | (simp [fkey]; done)

@[simp] theorem key_stopPlane (k : DataPlane) (s : State) : fkey (stopPlane k s) = fkey s := by simp [stopPlane]

@[simp] theorem key_lgEraseTo (n : Nat) (s : State) : fkey (lgEraseTo n s) = fkey s := by simp [lgEraseTo]

@[simp] theorem key_lgWrap (s : State) : fkey (lgWrap s) = fkey s := by simp [lgWrap]

@[simp] theorem key_lgFlushStep (s : State) : fkey (lgFlushStep s) = fkey s := by simp [lgFlushStep]

@[simp] theorem key_lgAlarm (s : State) : fkey (lgAlarm s) = fkey s := by simp [lgAlarm]

@[simp] theorem key_lgFullEvent (was : Bool) (s : State) : fkey (lgFullEvent was s) = fkey s := by simp [lgFullEvent]

@[simp] theorem key_lgStore (s : State) : fkey (lgStore s) = fkey s := by
  unfold lgStore
  split
  · rfl
  · rfl
  · dsimp only
    split <;> simp [fkey]

@[simp] theorem key_lgStoreAll : ∀ (n : Nat) (s : State), fkey (lgStoreAll n s) = fkey s
  | 0, _ => rfl
  | n + 1, s => by
    unfold lgStoreAll
    split
    · rfl
    · rw [key_lgStoreAll n, key_lgStore]

@[simp] theorem key_lgDrain (s : State) : fkey (lgDrain s) = fkey s := by simp [lgDrain]

@[simp] theorem key_lgAddCause (causes : Nat) (s : State) : fkey (lgAddCause causes s) = fkey s := by simp [lgAddCause]

@[simp] theorem key_safeAnswers (s : State) : fkey (safeAnswers s) = fkey s := by simp [safeAnswers]

@[simp] theorem key_swapEnd (result : Nat) (s : State) : fkey (swapEnd result s) = fkey s := by
  unfold swapEnd
  (repeat' split) <;> first | rfl | (simp; done)

@[simp] theorem key_safeOutputs (s : State) : fkey (safeOutputs s) = fkey s := by simp [safeOutputs]

@[simp] theorem key_hushRecheck (s : State) : fkey (hushRecheck s) = fkey s := by
  unfold hushRecheck
  (repeat' split) <;> first | rfl | (simp; done)

@[simp] theorem key_wakeTrigger (s : State) : fkey (wakeTrigger s) = fkey s := by
  unfold wakeTrigger
  (repeat' split) <;> first | rfl | (simp; done)

@[simp] theorem key_safeFault (causes : Nat) (s : State) : fkey (safeFault causes s) = fkey s := by
  simp only [safeFault]
  (repeat' split) <;> first | rfl | (simp [fkey]; done) | (simp_all [fkey]; done)

@[simp] theorem key_hushFault (causes : Nat) (s : State) : fkey (hushFault causes s) = fkey s := by
  simp only [hushFault]
  (repeat' split) <;> first | rfl | (simp [fkey]; done) | (simp_all [fkey]; done)

@[simp] theorem key_modSyn (x : Syn) (f : SynState → SynState) (s : State) : fkey (modSyn x f s) = fkey s := by
  unfold modSyn
  (repeat' split) <;> first | rfl | (simp; done)

@[simp] theorem key_modGate (o : Nat) (f : GateState → GateState) (s : State) : fkey (modGate o f s) = fkey s := by simp [modGate]

@[simp] theorem key_closeGates (x : Syn) (s : State) : fkey (closeGates x s) = fkey s := by simp [closeGates]

@[simp] theorem key_bandSearch (x : Syn) (s : State) : fkey (bandSearch x s) = fkey s := by simp [bandSearch]

@[simp] theorem key_startLock (x : Syn) (s : State) : fkey (startLock x s) = fkey s := by simp [startLock]

@[simp] theorem key_relockOff (x : Syn) (s : State) : fkey (relockOff x s) = fkey s := by simp [relockOff]

@[simp] theorem key_startRelock (x : Syn) (w : Nat) (k : DataPlane) (s : State) : fkey (startRelock x w k s) = fkey s := by simp [startRelock]

@[simp] theorem key_applyWord (x : Syn) (w : Nat) (s : State) : fkey (applyWord x w s) = fkey s := by simp [applyWord]

@[simp] theorem key_startMove (x : Syn) (p : Int) (fixed : Option Nat) (kind : MoveKind) (s : State) : fkey (startMove x p fixed kind s) = fkey s := by simp [startMove]

@[simp] theorem key_cancelMove (x : Syn) (s : State) : fkey (cancelMove x s) = fkey s := by simp [cancelMove]

@[simp] theorem key_cancelLoop (x : Syn) (s : State) : fkey (cancelLoop x s) = fkey s := by simp [cancelLoop]

@[simp] theorem key_cancelHostMoves (x : Syn) (s : State) : fkey (cancelHostMoves x s) = fkey s := by simp [cancelHostMoves]

@[simp] theorem key_setFrameSlew (x : Syn) (s : State) : fkey (setFrameSlew x s) = fkey s := by simp [setFrameSlew]

@[simp] theorem key_advanceTaps (x : Syn) (a : Int) (res : Int) (s : State) : fkey (advanceTaps x a res s) = fkey s := by
  unfold advanceTaps
  (repeat' split) <;> first | rfl | (simp; done)

@[simp] theorem key_progressMove (x : Syn) (s : State) : fkey (progressMove x s) = fkey s := by simp [progressMove]

@[simp] theorem key_setRoot (r : RootId) (st : RootSt) (s : State) : fkey (setRoot r st s) = fkey s := by
  unfold setRoot
  (repeat' split) <;> first | rfl | (simp; done)

@[simp] theorem key_switchSyn (r : RootId) (x : Syn) (s : State) : fkey (switchSyn r x s) = fkey s := by simp [switchSyn]

@[simp] theorem key_rootSwitch (r : RootId) (s : State) : fkey (rootSwitch r s) = fkey s := by
  unfold rootSwitch
  split
  · rfl
  · extract_lets s1
    have h : fkey s1 = fkey s := by simp only [s1]; simp
    clear_value s1
    rw [← h]

@[simp] theorem key_leaveUnfit (s : State) : fkey (leaveUnfit s) = fkey s := by simp [leaveUnfit]

@[simp] theorem key_autoSelect (s : State) : fkey (autoSelect s) = fkey s := by
  unfold autoSelect
  split <;> simp

@[simp] theorem key_preferRoot (s : State) : fkey (preferRoot s) = fkey s := by simp [preferRoot]

@[simp] theorem key_rootCommitOne (old : Tables) (new : Tables) (r : RootId) (s : State) : fkey (rootCommitOne old new r s) = fkey s := by simp [rootCommitOne]

@[simp] theorem key_rootCommit (old : Tables) (new : Tables) (s : State) : fkey (rootCommit old new s) = fkey s := by
  unfold rootCommit
  (repeat' split) <;> first | rfl | (simp [fkey]; done)

@[simp] theorem key_loopFrom (s : State) : fkey (loopFrom s) = fkey s := by simp [loopFrom]

@[simp] theorem key_steerCommit (x : Syn) (oldMan : Bool) (newMan : Bool) (s : State) : fkey (steerCommit x oldMan newMan s) = fkey s := by simp [steerCommit]

@[simp] theorem key_rateCommit (x : Syn) (w : Nat) (k : DataPlane) (s : State) : fkey (rateCommit x w k s) = fkey s := by simp [rateCommit]

@[simp] theorem key_synthCommit (old : Tables) (new : Tables) (s : State) : fkey (synthCommit old new s) = fkey s := by simp [synthCommit]

@[simp] theorem key_gateCommit (first : Bool) (old : Tables) (new : Tables) (s : State) : fkey (gateCommit first old new s) = fkey s := by simp [gateCommit]

@[simp] theorem key_gateStep (s : State) : fkey (gateStep s) = fkey s := by simp [gateStep]

/-- A direct command at its boundary keeps the key when its effect does. -/
theorem key_atFrame (check : Bytes → State → Option Nat) (run : Cmd → State → State) (c : Cmd) (s : State)
    (h : ∀ t, fkey (run c t) = fkey t) : fkey (atFrame check run c s) = fkey s := by
  unfold atFrame
  (repeat' split) <;> first | rfl | exact h _ | simp

@[simp] theorem key_applyRootSelect (c : Cmd) (s : State) : fkey (applyRootSelect c s) = fkey s := by
  unfold applyRootSelect
  (repeat' split) <;> first | rfl | (simp; done)

@[simp] theorem key_applySetFrac (c : Cmd) (s : State) : fkey (applySetFrac c s) = fkey s := by simp [applySetFrac]

@[simp] theorem key_applyFreqOffset (c : Cmd) (s : State) : fkey (applyFreqOffset c s) = fkey s := by simp [applyFreqOffset]

@[simp] theorem key_applyMove (c : Cmd) (s : State) : fkey (applyMove c s) = fkey s := by simp [applyMove]

@[simp] theorem key_setSlew (p : Bytes) (s : State) : fkey (setSlew p s) = fkey s := by simp [setSlew]

@[simp] theorem key_applySlew (c : Cmd) (s : State) : fkey (applySlew c s) = fkey s := by simp [applySlew]

@[simp] theorem key_setSpread (p : Bytes) (s : State) : fkey (setSpread p s) = fkey s := by simp [setSpread]

@[simp] theorem key_applySpread (c : Cmd) (s : State) : fkey (applySpread c s) = fkey s := by simp [applySpread]

@[simp] theorem key_applyRelock (c : Cmd) (s : State) : fkey (applyRelock c s) = fkey s := by simp [applyRelock]

@[simp] theorem key_bootLocked (s : State) : fkey (bootLocked s) = fkey s := by simp [bootLocked]

@[simp] theorem key_lockDone (x : Syn) (s : State) : fkey (lockDone x s) = fkey s := by
  simp only [lockDone]
  (repeat' split) <;> first | rfl | (simp [fkey]; done) | (simp_all [fkey]; done)

@[simp] theorem key_addK (g : Group) (d : Int) (s : State) : fkey (addK g d s) = fkey s := by
  unfold addK
  (repeat' split) <;> first | rfl | (simp; done)

@[simp] theorem key_realignDone (x : Syn) (s : State) : fkey (realignDone x s) = fkey s := by
  simp only [realignDone]
  (repeat' split) <;> first | rfl | (simp [fkey]; done) | (simp_all [fkey]; done)

@[simp] theorem key_modCand (i : Nat) (f : CandState → CandState) (s : State) : fkey (modCand i f s) = fkey s := by simp [modCand]

@[simp] theorem key_setMeas (i : Nat) (measured : Int) (s : State) : fkey (setMeas i measured s) = fkey s := by simp [setMeas]

@[simp] theorem key_groupMove (ps : Int) (fixed : Option Nat) (kind : MoveKind) (g : Group) (s : State) : fkey (groupMove ps fixed kind g s) = fkey s := by simp [groupMove]

@[simp] theorem key_moveGroups (ps : Int) (fixed : Option Nat) (s : State) : fkey (moveGroups ps fixed s) = fkey s := by simp [moveGroups]

@[simp] theorem key_cancelLoopMoves (s : State) : fkey (cancelLoopMoves s) = fkey s := by
  unfold cancelLoopMoves
  (repeat' split) <;> first | rfl | (simp [fkey]; done)

@[simp] theorem key_residualMove (s : State) (g : Group) : fkey (residualMove s g) = fkey s := by simp [residualMove]

@[simp] theorem key_leapNow (s : State) : fkey (leapNow s) = fkey s := by simp [leapNow]

@[simp] theorem key_stepVclk (t : Nat) (s : State) : fkey (stepVclk t s) = fkey s := by simp [stepVclk]

@[simp] theorem key_loadCounter (t : Nat) (setValid : Bool) (s : State) : fkey (loadCounter t setValid s) = fkey s := by
  simp only [loadCounter]
  (repeat' split) <;> first | rfl | (simp [fkey]; done) | (simp_all [fkey]; done)

@[simp] theorem key_spindleStep (q : StepReq) (s : State) : fkey (spindleStep q s) = fkey s := by
  unfold spindleStep
  extract_lets t s1 s2 s3
  have h1 : fkey s1 = fkey s := by simp only [s1]; split <;> simp
  have h2 : fkey s2 = fkey s1 := key_loadCounter _ _ _
  have h3 : fkey s3 = fkey s2 := by simp only [s3]; simp
  clear_value s3 s2 s1
  rw [← h1, ← h2]
  split
  · split
    · rfl
    · exact key_respondTo _ _ _ _
  · rw [← h3]
    split
    · rfl
    · exact key_setPhase _ _ _

@[simp] theorem key_askStep (i : Nat) (delta : Int) (s : State) : fkey (askStep i delta s) = fkey s := by simp [askStep]

@[simp] theorem key_selectCand (i : Nat) (s : State) : fkey (selectCand i s) = fkey s := by simp [selectCand]

@[simp] theorem key_returnGroup (delta : Int) (pol : Nat) (g : Group) (s : State) : fkey (returnGroup delta pol g s) = fkey s := by
  unfold returnGroup
  (repeat' split) <;> first | rfl | (simp; done)

@[simp] theorem key_holdoverReturn (delta : Int) (s : State) : fkey (holdoverReturn delta s) = fkey s := by simp [holdoverReturn]

@[simp] theorem key_acquirePhase (i : Nat) (delta : Int) (s : State) : fkey (acquirePhase i delta s) = fkey s := by
  unfold acquirePhase
  (repeat' split) <;> first | rfl | (simp; done)

@[simp] theorem key_hitlessSwitch (i : Nat) (s : State) : fkey (hitlessSwitch i s) = fkey s := by simp [hitlessSwitch]

@[simp] theorem key_toNoSignal (i : Nat) (s : State) : fkey (toNoSignal i s) = fkey s := by
  unfold toNoSignal
  (repeat' split) <;> first | rfl | (simp; done)

@[simp] theorem key_writeWords (lim : Nat) (y : Int) (s : State) : fkey (writeWords lim y s) = fkey s := by simp [writeWords]

@[simp] theorem key_holdoverLearn (s : State) : fkey (holdoverLearn s) = fkey s := by simp [holdoverLearn]

@[simp] theorem key_trackLock (i : Nat) (s : State) : fkey (trackLock i s) = fkey s := by simp [trackLock]

@[simp] theorem key_loopWrite (i : Nat) (s : State) : fkey (loopWrite i s) = fkey s := by simp [loopWrite]

@[simp] theorem key_remeasure (s : State) : fkey (remeasure s) = fkey s := by simp [remeasure]

@[simp] theorem key_applySetTime (c : Cmd) (s : State) : fkey (applySetTime c s) = fkey s := by
  unfold applySetTime
  split <;> simp

@[simp] theorem key_applyLeap (c : Cmd) (s : State) : fkey (applyLeap c s) = fkey s := by simp [applyLeap]

@[simp] theorem key_applyRefSelect (c : Cmd) (s : State) : fkey (applyRefSelect c s) = fkey s := by
  simp only [applyRefSelect]
  (repeat' split) <;> first | rfl | (simp [fkey]; done) | (simp_all [fkey]; done)

@[simp] theorem key_applyRealign (c : Cmd) (s : State) : fkey (applyRealign c s) = fkey s := by
  simp only [applyRealign]
  (repeat' split) <;> first | rfl | (simp [fkey]; done) | (simp_all [fkey]; done)

@[simp] theorem key_videoFound (i : Nat) (w : VideoWindow) (s : State) : fkey (videoFound i w s) = fkey s := by
  unfold videoFound
  (repeat' split) <;> first | rfl | (simp; done)

@[simp] theorem key_modPair (p : Nat) (f : PairState → PairState) (s : State) : fkey (modPair p f s) = fkey s := by simp [modPair]

@[simp] theorem key_clearRef (due : Option Nat) (p : Nat) (s : State) : fkey (clearRef due p s) = fkey s := by simp [clearRef]

@[simp] theorem key_setRef (p : Nat) (s : State) : fkey (setRef p s) = fkey s := by simp [setRef]

@[simp] theorem key_refCommit (old : Tables) (new : Tables) (p : Nat) (s : State) : fkey (refCommit old new p s) = fkey s := by simp [refCommit]

@[simp] theorem key_pairUp (p : Nat) (s : State) : fkey (pairUp p s) = fkey s := by simp [pairUp]

@[simp] theorem key_adTriggerAt (inj : Bool) (t0 : Nat) (s : State) : fkey (adTriggerAt inj t0 s) = fkey s := by
  simp only [adTriggerAt]
  (repeat' split) <;> first | rfl | (simp [fkey]; done) | (simp_all [fkey]; done)

@[simp] theorem key_adTrigger (inj : Bool) (s : State) : fkey (adTrigger inj s) = fkey s := by
  unfold adTrigger
  (repeat' split) <;> first | rfl | (simp [fkey]; done)

@[simp] theorem key_adSettle (s : State) : fkey (adSettle s) = fkey s := by simp [adSettle]

@[simp] theorem key_adSource (hit : SeqCfg → Bool) (s : State) : fkey (adSource hit s) = fkey s := by simp [adSource]

@[simp] theorem key_adSourceLate (hit : SeqCfg → Bool) (s : State) : fkey (adSourceLate hit s) = fkey s := by
  simp only [adSourceLate]
  (repeat' split) <;> first | rfl | (simp [fkey]; done) | (simp_all [fkey]; done)

@[simp] theorem key_modCur (f : SlotRun → SlotRun) (s : State) : fkey (modCur f s) = fkey s := by simp [modCur]

@[simp] theorem key_markUnsettled (t : Nat) (bad : SlotRun → Nat → Bool) (s : State) : fkey (markUnsettled t bad s) = fkey s := by simp [markUnsettled]

@[simp] theorem key_noteEnv (t : Nat) (s : State) : fkey (noteEnv t s) = fkey s := by simp [noteEnv]

@[simp] theorem key_setDiag (d : Nat) (t : Nat) (s : State) : fkey (setDiag d t s) = fkey s := by simp [setDiag]

@[simp] theorem key_startSlot (inj : Bool) (i : Nat) (at_ : Nat) (s : State) : fkey (startSlot inj i at_ s) = fkey s := by
  simp only [startSlot]
  (repeat' split) <;> first | rfl | (simp [fkey]; done) | (simp_all [fkey]; done)

@[simp] theorem key_closeCur (inj : Bool) (s : State) : fkey (closeCur inj s) = fkey s := by
  simp only [closeCur]
  (repeat' split) <;> first | rfl | (simp [fkey]; done) | (simp_all [fkey]; done)

@[simp] theorem key_preempt (at_ : Nat) (s : State) : fkey (preempt at_ s) = fkey s := by
  simp only [preempt]
  (repeat' split) <;> first | rfl | (simp [fkey]; done) | (simp_all [fkey]; done)

@[simp] theorem key_slotStart (inj : Bool) (s0 : State) : fkey (slotStart inj s0) = fkey s0 := by
  simp only [slotStart]
  (repeat' split) <;> first | rfl | (simp [fkey]; done) | (simp_all [fkey]; done)

@[simp] theorem key_publishAdc (r : SlotRun) (s : State) (x : AdcSamples) : fkey (publishAdc r s x) = fkey s := by simp [publishAdc]

@[simp] theorem key_pubDone (inj : Bool) (r : SlotRun) (s : State) : fkey (pubDone inj r s) = fkey s := by
  simp only [pubDone]
  (repeat' split) <;> first | rfl | (simp [fkey]; done) | (simp_all [fkey]; done)

@[simp] theorem key_windowPublish (inj : Bool) (samples : List AdcSamples) (s0 : State) : fkey (windowPublish inj samples s0) = fkey s0 := by
  simp only [windowPublish]
  (repeat' split) <;> first | rfl | (simp [fkey]; done) | (simp_all [fkey]; done)

@[simp] theorem key_adSeqCommit (old : Tables) (new : Tables) (inj : Bool) (s : State) : fkey (adSeqCommit old new inj s) = fkey s := by simp [adSeqCommit]

@[simp] theorem key_adcLeave (old : Tables) (new : Tables) (inj : Bool) (s : State) : fkey (adcLeave old new inj s) = fkey s := by
  unfold adcLeave
  (repeat' split) <;> first | rfl | (simp; done)

@[simp] theorem key_adCommit (old : Tables) (new : Tables) (s : State) : fkey (adCommit old new s) = fkey s := by
  simp only [adCommit]
  (repeat' split) <;> first | rfl | (simp [fkey]; done) | (simp_all [fkey]; done)

@[simp] theorem key_applyAdAlarm (c : Cmd) (s : State) : fkey (applyAdAlarm c s) = fkey s := by simp [applyAdAlarm]

@[simp] theorem key_applyAdTrigger (c : Cmd) (s : State) : fkey (applyAdTrigger c s) = fkey s := by simp [applyAdTrigger]

@[simp] theorem key_applyAdDiag (c : Cmd) (s : State) : fkey (applyAdDiag c s) = fkey s := by simp [applyAdDiag]

@[simp] theorem key_micGain (p : Bytes) (s : State) : fkey (micGain p s) = fkey s := by simp [micGain]

@[simp] theorem key_applyAdMicGain (c : Cmd) (s : State) : fkey (applyAdMicGain c s) = fkey s := by simp [applyAdMicGain]

@[simp] theorem key_applyAdClear (c : Cmd) (s : State) : fkey (applyAdClear c s) = fkey s := by simp [applyAdClear]

@[simp] theorem key_runAdStatus (c : Cmd) (s : State) : fkey (runAdStatus c s) = fkey s := by simp [runAdStatus]

@[simp] theorem key_runAdResult (c : Cmd) (s : State) : fkey (runAdResult c s) = fkey s := by simp [runAdResult]

@[simp] theorem key_modDac (d : Nat) (f : DacState → DacState) (s : State) : fkey (modDac d f s) = fkey s := by simp [modDac]

@[simp] theorem key_modPs (q : Nat) (f : PsState → PsState) (s : State) : fkey (modPs q f s) = fkey s := by simp [modPs]

@[simp] theorem key_countStrobe (g : Nat) (s : State) : fkey (countStrobe g s) = fkey s := by simp [countStrobe]

@[simp] theorem key_holdStrobe (g : Nat) (s : State) : fkey (holdStrobe g s) = fkey s := by
  unfold holdStrobe
  (repeat' split) <;> first | rfl | (simp [fkey]; done)

@[simp] theorem key_strobeSource (hit : Nat → Bool) (s : State) : fkey (strobeSource hit s) = fkey s := by simp [strobeSource]

@[simp] theorem key_daFrame (s : State) : fkey (daFrame s) = fkey s := by
  unfold daFrame
  (repeat' split) <;> first | rfl | (simp [fkey]; done)

@[simp] theorem key_daCommit (first : Bool) (named : Nat → Bool) (faults : Bool) (old : Tables) (new : Tables) (s : State) : fkey (daCommit first named faults old new s) = fkey s := by simp [daCommit]

@[simp] theorem key_holdStage (p : Bytes) (s : State) : fkey (holdStage p s) = fkey s := by simp [holdStage]

@[simp] theorem key_applyDaHold (c : Cmd) (s : State) : fkey (applyDaHold c s) = fkey s := by simp [applyDaHold]

@[simp] theorem key_applyDaLoad (c : Cmd) (s : State) : fkey (applyDaLoad c s) = fkey s := by simp [applyDaLoad]

@[simp] theorem key_psCommit (old : Tables) (new : Tables) (s : State) : fkey (psCommit old new s) = fkey s := by simp [psCommit]

@[simp] theorem key_enterSeg (q : Nat) (j : Nat) (start : Nat) (s : State) : fkey (enterSeg q j start s) = fkey s := by simp [enterSeg]

@[simp] theorem key_psStart (q : Nat) (s : State) : fkey (psStart q s) = fkey s := by
  unfold psStart
  (repeat' split) <;> first | rfl | (simp; done)

@[simp] theorem key_psAdvance (q : Nat) (s : State) : fkey (psAdvance q s) = fkey s := by simp [psAdvance]

@[simp] theorem key_ltcWrite (q : Nat) (s : State) : fkey (ltcWrite q s) = fkey s := by
  unfold ltcWrite
  (repeat' split) <;> first | rfl | (simp; done)

@[simp] theorem key_writeSeg (p : Bytes) (s : State) : fkey (writeSeg p s) = fkey s := by simp [writeSeg]

@[simp] theorem key_applyPsSegWrite (c : Cmd) (s : State) : fkey (applyPsSegWrite c s) = fkey s := by simp [applyPsSegWrite]

@[simp] theorem key_applyPsLtcZone (c : Cmd) (s : State) : fkey (applyPsLtcZone c s) = fkey s := by simp [applyPsLtcZone]

@[simp] theorem key_adcFrame (inp : FrameInput) (s : State) : fkey (adcFrame inp s) = fkey s := by simp [adcFrame]

@[simp] theorem key_dacFrame (inp : FrameInput) (s : State) : fkey (dacFrame inp s) = fkey s := by simp [dacFrame]

@[simp] theorem key_writeDp (p : Bytes) (s : State) : fkey (writeDp p s) = fkey s := by simp [writeDp]

/-- A parameter write keeps the key when its effect does. -/
@[simp] theorem key_paramWrite (c : Cmd) (f : State → State) (s : State) (h : ∀ t, fkey (f t) = fkey t) :
    fkey (paramWrite c f s) = fkey s := by
  unfold paramWrite
  split
  · simp [h]
  · rfl

@[simp] theorem key_applyXbDpSet (c : Cmd) (s : State) : fkey (applyXbDpSet c s) = fkey s := by simp [applyXbDpSet]

@[simp] theorem key_teWrite (e a : Nat) (y : Int) (r : State × Tab Int) : fkey (teWrite e a y r).1 = fkey r.1 := by
  unfold teWrite
  (repeat' split) <;> first | rfl | (simp; done)

@[simp] theorem key_addSats (e : Nat) (n : Nat) (s : State) : fkey (addSats e n s) = fkey s := by simp [addSats]

@[simp] theorem key_modAsrc (n : Nat) (f : AsrcState → AsrcState) (s : State) : fkey (modAsrc n f s) = fkey s := by simp [modAsrc]

@[simp] theorem key_asrcWrite (inp : FrameInput) (s : State) : fkey (asrcWrite inp s) = fkey s := by simp [asrcWrite]

@[simp] theorem key_opSamples (e : Nat) (o : TeOp) : ∀ (h m : Nat) (st : OpState) (r : State × Tab Int),
    fkey (opSamples e o h m st r).2.1 = fkey r.1
  | 0, _, _, _ => by simp [opSamples]
  | h + 1, m, st, r => by
    unfold opSamples
    dsimp only
    rw [key_opSamples]
    (repeat' split) <;> first | rfl | (simp [key_teWrite]; done)

@[simp] theorem key_runOp (e : Nat) (acc : State × Tab Int) (p : Nat × TeOp) : fkey (runOp e acc p).1 = fkey acc.1 := by
  unfold runOp
  split
  · rfl
  · exact key_opSamples _ _ _ _ _ _

@[simp] theorem key_pubMeters (s : State) : fkey (pubMeters s) = fkey s := by simp [pubMeters]

@[simp] theorem key_engineFrame (acc : State × Tab Int) (e : Nat) : fkey (engineFrame acc e).1 = fkey acc.1 := by
  unfold engineFrame
  split
  · rfl
  · exact key_foldl_fst _ _ _ fun t a => key_runOp e t a

@[simp] theorem key_enginesFrame (inp : FrameInput) (s : State) (b : Tab Int) : fkey (enginesFrame inp s b).1 = fkey s := by
  have h := key_foldl_fst engineFrame (List.range 32) (pubMeters (asrcWrite inp s), b) key_engineFrame
  have h2 : fkey (pubMeters (asrcWrite inp s), b).1 = fkey s := by simp
  rw [h2] at h
  unfold enginesFrame
  generalize (List.range 32).foldl engineFrame (pubMeters (asrcWrite inp s), b) = r at h ⊢
  exact h

@[simp] theorem key_teCommit (old : Tables) (new : Tables) (s : State) : fkey (teCommit old new s) = fkey s := by simp [teCommit]

@[simp] theorem key_teHush (s : State) : fkey (teHush s) = fkey s := by simp [teHush]

@[simp] theorem key_writeRun (e : Nat) (w : Nat) (vs : List Nat) (s : State) : fkey (writeRun e w vs s) = fkey s := by simp [writeRun]

@[simp] theorem key_writeCoef (p : Bytes) (s : State) : fkey (writeCoef p s) = fkey s := by simp [writeCoef]

@[simp] theorem key_applyTeCoef (c : Cmd) (s : State) : fkey (applyTeCoef c s) = fkey s := by simp [applyTeCoef]

@[simp] theorem key_writeEntry (p : Bytes) (at_ : Tables → Option Nat) (vs : List Nat) (s : State) : fkey (writeEntry p at_ vs s) = fkey s := by simp [writeEntry]

@[simp] theorem key_applyTeEnable (c : Cmd) (s : State) : fkey (applyTeEnable c s) = fkey s := by simp [applyTeEnable]

@[simp] theorem key_writeGain (p : Bytes) (s : State) : fkey (writeGain p s) = fkey s := by simp [writeGain]

@[simp] theorem key_applyTeGainDb (c : Cmd) (s : State) : fkey (applyTeGainDb c s) = fkey s := by simp [applyTeGainDb]

@[simp] theorem key_writeTap (p : Bytes) (s : State) : fkey (writeTap p s) = fkey s := by simp [writeTap]

@[simp] theorem key_applyTeDelaySet (c : Cmd) (s : State) : fkey (applyTeDelaySet c s) = fkey s := by simp [applyTeDelaySet]

@[simp] theorem key_writeBand (p : Bytes) (s : State) : fkey (writeBand p s) = fkey s := by simp [writeBand]

@[simp] theorem key_applyTeEqBand (c : Cmd) (s : State) : fkey (applyTeEqBand c s) = fkey s := by simp [applyTeEqBand]

@[simp] theorem key_rephase (o : Nat) (s : State) : fkey (rephase o s) = fkey s := by simp [rephase]

@[simp] theorem key_ppsRise (s : State) : fkey (ppsRise s) = fkey s := by simp [ppsRise]

@[simp] theorem key_ppsFall (s : State) : fkey (ppsFall s) = fkey s := by simp [ppsFall]

@[simp] theorem key_ppsRestart (s : State) : fkey (ppsRestart s) = fkey s := by simp [ppsRestart]

@[simp] theorem key_modTx (n : Nat) (f : TxState → TxState) (s : State) : fkey (modTx n f s) = fkey s := by simp [modTx]

@[simp] theorem key_txFrameOne (n : Nat) (j : Nat) (r : Nat) (s : State) : fkey (txFrameOne n j r s) = fkey s := by simp [txFrameOne]

@[simp] theorem key_txFrame (s : State) (n : Nat) : fkey (txFrame s n) = fkey s := by
  unfold txFrame
  (repeat' split) <;> first | rfl | (simp; done)

@[simp] theorem key_txFrames (s : State) : fkey (txFrames s) = fkey s := by simp [txFrames]

@[simp] theorem key_txStart (k : Nat) (s : State) : fkey (txStart k s) = fkey s := by simp [txStart]

@[simp] theorem key_txCommit (first : Bool) (old : Tables) (new : Tables) (s : State) : fkey (txCommit first old new s) = fkey s := by simp [txCommit]

@[simp] theorem key_modRx (n : Nat) (f : RxState → RxState) (s : State) : fkey (modRx n f s) = fkey s := by simp [modRx]

@[simp] theorem key_rxFrame (inp : FrameInput) (s : State) : fkey (rxFrame inp s) = fkey s := by simp [rxFrame]

@[simp] theorem key_asrcDrop (n : Nat) (s : State) : fkey (asrcDrop n s) = fkey s := by simp [asrcDrop]

@[simp] theorem key_rxCommit (new : Tables) (s : State) : fkey (rxCommit new s) = fkey s := by simp [rxCommit]

@[simp] theorem key_modPort (n : Nat) (f : PortState → PortState) (s : State) : fkey (modPort n f s) = fkey s := by simp [modPort]

@[simp] theorem key_modPtp (n : Nat) (f : PtpState → PtpState) (s : State) : fkey (modPtp n f s) = fkey s := by simp [modPtp]

@[simp] theorem key_netSend (n : Nat) (h : NetHdr) (m : NetMsg) (s : State) : fkey (netSend n h m s) = fkey s := by simp [netSend]

@[simp] theorem key_dropFrame (n : Nat) (s : State) : fkey (dropFrame n s) = fkey s := by simp [dropFrame]

@[simp] theorem key_portStart (n : Nat) (s : State) : fkey (portStart n s) = fkey s := by simp [portStart]

@[simp] theorem key_modRxFlow (i : Nat) (f : FlowState → FlowState) (s : State) : fkey (modRxFlow i f s) = fkey s := by simp [modRxFlow]

@[simp] theorem key_modTxFlow (i : Nat) (f : FlowState → FlowState) (s : State) : fkey (modTxFlow i f s) = fkey s := by simp [modTxFlow]

@[simp] theorem key_flowPacket (port : Nat) (p : RtpPacket) (s : State) (i : Nat) (c : FlowCfg) : fkey (flowPacket port p s i c) = fkey s := by simp [flowPacket]

theorem key_flowPackets (port : Nat) (p : RtpPacket) (hits : List (Nat × FlowCfg)) :
    ∀ s : State, fkey (hits.foldl (fun (t : State) h => flowPacket port p t h.1 h.2) s) = fkey s := by
  induction hits with
  | nil => intro s; rfl
  | cons a l ih => intro s; rw [List.foldl_cons, ih, key_flowPacket]

@[simp] theorem key_packetIn (port : Nat) (p : RtpPacket) (s : State) : fkey (packetIn port p s) = fkey s := by
  unfold packetIn
  split
  · rfl
  · extract_lets hits
    clear_value hits
    split
    · exact key_dropFrame port s
    · split
      · rfl
      · exact key_flowPackets port p hits s

@[simp] theorem key_playInstant (c : FlowCfg) (i m r : Nat) (acc : State × Tab Int) : fkey (playInstant c i m r acc).1 = fkey acc.1 := by
  unfold playInstant
  dsimp only
  split <;> simp

@[simp] theorem key_playFlow (acc : State × Tab Int) (e : Nat × Option FlowCfg) : fkey (playFlow acc e).1 = fkey acc.1 := by
  unfold playFlow
  split
  · rfl
  · split
    · rfl
    · dsimp only
      rw [key_modRxFlow]
      exact key_foldl_fst _ _ _ fun t a => key_playInstant _ _ _ _ t

@[simp] theorem key_playFlows (s : State) (b : Tab Int) : fkey (playFlows s b).1 = fkey s :=
  key_foldl_fst _ _ _ key_playFlow

@[simp] theorem key_flowLost (i : Nat) (s : State) : fkey (flowLost i s) = fkey s := by
  unfold flowLost
  (repeat' split) <;> first | rfl | (simp; done)

@[simp] theorem key_flowPathLost (i : Nat) (pathB : Bool) (s : State) : fkey (flowPathLost i pathB s) = fkey s := by
  unfold flowPathLost
  (repeat' split) <;> first | rfl | (simp; done)

@[simp] theorem key_readInstant (c : FlowCfg) (i : Nat) (m : Nat) (r : Nat) (s : State) : fkey (readInstant c i m r s) = fkey s := by
  simp only [readInstant]
  (repeat' split) <;> first | rfl | (simp [fkey]; done) | (simp_all [fkey]; done)

@[simp] theorem key_readFlow (s : State) (e : Nat × Option FlowCfg) : fkey (readFlow s e) = fkey s := by
  unfold readFlow
  (repeat' split) <;> first | rfl | (simp; done)

@[simp] theorem key_readFlows (s : State) : fkey (readFlows s) = fkey s := by simp [readFlows]

@[simp] theorem key_sendPath (p : RtpOut) (s : State) (n : Nat) : fkey (sendPath p s n) = fkey s := by
  unfold sendPath
  (repeat' split) <;> first | rfl | (simp; done)

@[simp] theorem key_sendPacket (s : State) (p : RtpOut) : fkey (sendPacket s p) = fkey s := by simp [sendPacket]

@[simp] theorem key_mediaDue (s : State) : fkey (mediaDue s) = fkey s := by simp [mediaDue]

@[simp] theorem key_arpRequest (n : Nat) (target : Nat) (sender : Nat) (senderMac : Nat) (s : State) : fkey (arpRequest n target sender senderMac s) = fkey s := by simp [arpRequest]

@[simp] theorem key_arpReply (n : Nat) (ip : Nat) (mac : Nat) (s : State) : fkey (arpReply n ip mac s) = fkey s := by simp [arpReply]

@[simp] theorem key_arpAge (n : Nat) (ip : Nat) (s : State) : fkey (arpAge n ip s) = fkey s := by simp [arpAge]

@[simp] theorem key_arpRetry (n : Nat) (ip : Nat) (s : State) : fkey (arpRetry n ip s) = fkey s := by simp [arpRetry]

@[simp] theorem key_garpSend (s : State) : fkey (garpSend s) = fkey s := by simp [garpSend]

@[simp] theorem key_icmpEcho (n : Nat) (src : Nat) (dst : Nat) (payload : Bytes) (s : State) : fkey (icmpEcho n src dst payload s) = fkey s := by simp [icmpEcho]

@[simp] theorem key_igmpChange (old : Tables) (new : Tables) (s : State) : fkey (igmpChange old new s) = fkey s := by simp [igmpChange]

@[simp] theorem key_igmpSend (n : Nat) (group : Nat) (src : Nat) (join : Bool) (s : State) : fkey (igmpSend n group src join s) = fkey s := by
  unfold igmpSend
  (repeat' split) <;> first | rfl | (simp; done)

@[simp] theorem key_igmpReport (n : Nat) (s : State) : fkey (igmpReport n s) = fkey s := by simp [igmpReport]

@[simp] theorem key_igmpQuery (n : Nat) (version : Nat) (group : Nat) (s : State) : fkey (igmpQuery n version group s) = fkey s := by simp [igmpQuery]

@[simp] theorem key_portCommit (first : Bool) (old : Tables) (new : Tables) (n : Nat) (s : State) : fkey (portCommit first old new n s) = fkey s := by simp [portCommit]

@[simp] theorem key_nwCommit (first : Bool) (old : Tables) (new : Tables) (s : State) : fkey (nwCommit first old new s) = fkey s := by
  unfold nwCommit
  (repeat' split) <;> first | rfl | (simp [fkey]; done)

@[simp] theorem key_fecCount (inp : FrameInput) (s : State) : fkey (fecCount inp s) = fkey s := by simp [fecCount]

@[simp] theorem key_flowEnable (p : Bytes) (s : State) : fkey (flowEnable p s) = fkey s := by
  unfold flowEnable
  dsimp only
  (repeat' split) <;> simp [fkey]

@[simp] theorem key_applyFlowEnable (c : Cmd) (s : State) : fkey (applyFlowEnable c s) = fkey s := by simp [applyFlowEnable]

@[simp] theorem key_applySfpRead (c : Cmd) (s : State) : fkey (applySfpRead c s) = fkey s := by simp [applySfpRead]

@[simp] theorem key_ptpQualify (n : Nat) (s : State) : fkey (ptpQualify n s) = fkey s := by simp [ptpQualify]

@[simp] theorem key_ptpOffset (n : Nat) (s : State) : fkey (ptpOffset n s) = fkey s := by
  simp only [ptpOffset]
  (repeat' split) <;> first | rfl | (simp [fkey]; done) | (simp_all [fkey]; done)

@[simp] theorem key_ptpSend (n : Nat) (udp : Nat) (m : NetMsg) (s : State) : fkey (ptpSend n udp m s) = fkey s := by
  unfold ptpSend
  (repeat' split) <;> first | rfl | (simp; done)

theorem key_ptpHears (n : Nat) (h : PtpHeader) (s : State) (act : State → State)
    (g : ∀ t, fkey (act t) = fkey t) : fkey (ptpHears n h s act) = fkey s := by
  unfold ptpHears
  (repeat' split) <;> first | rfl | exact g _ | (simp; done)

@[simp] theorem key_ptpSync (n : Nat) (h : PtpHeader) (twoStep : Bool) (origin arrival : Int) (s : State) : fkey (ptpSync n h twoStep origin arrival s) = fkey s := by
  unfold ptpSync
  apply key_ptpHears
  intro t
  dsimp only
  (repeat' split) <;> first | rfl | (simp; done)

@[simp] theorem key_ptpFollowUp (n : Nat) (h : PtpHeader) (origin : Int) (s : State) : fkey (ptpFollowUp n h origin s) = fkey s := by
  unfold ptpFollowUp
  apply key_ptpHears
  intro t
  (repeat' split) <;> first | rfl | (simp; done)

@[simp] theorem key_ptpDelayReq (n : Nat) (departure : Int) (s : State) : fkey (ptpDelayReq n departure s) = fkey s := by simp [ptpDelayReq]

@[simp] theorem key_ptpDelayResp (n : Nat) (h : PtpHeader) (requester : PortId) (receipt : Int) (s : State) : fkey (ptpDelayResp n h requester receipt s) = fkey s := by
  unfold ptpDelayResp
  apply key_ptpHears
  intro t
  dsimp only
  (repeat' split) <;> first | rfl | (simp; done)

@[simp] theorem key_ptpLeap (n : Nat) (a : Announce) (s : State) : fkey (ptpLeap n a s) = fkey s := by simp [ptpLeap]

@[simp] theorem key_leapSource (s : State) : fkey (leapSource s) = fkey s := by
  simp only [leapSource]
  (repeat' split) <;> first | rfl | (simp [fkey]; done) | (simp_all [fkey]; done)

@[simp] theorem key_ptpDelayReqIn (n : Nat) (h : PtpHeader) (arrival : Int) (s : State) : fkey (ptpDelayReqIn n h arrival s) = fkey s := by
  unfold ptpDelayReqIn
  apply key_ptpHears
  intro t
  dsimp only
  (repeat' split) <;> first | rfl | (simp; done)

@[simp] theorem key_followUpSend (n : Nat) (s : State) : fkey (followUpSend n s) = fkey s := by
  unfold followUpSend
  (repeat' split) <;> first | rfl | (simp; done)

@[simp] theorem key_ptpSyncDue (n : Nat) (s : State) : fkey (ptpSyncDue n s) = fkey s := by simp [ptpSyncDue]

@[simp] theorem key_ptpAnnounceDue (n : Nat) (s : State) : fkey (ptpAnnounceDue n s) = fkey s := by simp [ptpAnnounceDue]

@[simp] theorem key_ptpFrame (s : State) : fkey (ptpFrame s) = fkey s := by simp [ptpFrame]

@[simp] theorem key_enAnswer (c : Cmd) (a : Nat) (s : State) : fkey (enAnswer c a s) = fkey s := by simp [enAnswer]

@[simp] theorem key_setDom (d : Nat) (m : EnMachine) (s : State) : fkey (setDom d m s) = fkey s := by simp [setDom]

@[simp] theorem key_vsynOff (s : State) : fkey (vsynOff s) = fkey s := by simp [vsynOff]

@[simp] theorem key_domUp (d : Nat) (s : State) : fkey (domUp d s) = fkey s := by
  unfold domUp
  (repeat' split) <;> first | rfl | (simp; done)

@[simp] theorem key_modFp (f : FpState → FpState) (s : State) : fkey (modFp f s) = fkey s := by simp [modFp]

@[simp] theorem key_hpStarts (up : Bool) (s : State) : fkey (hpStarts up s) = fkey s := by simp [hpStarts]

@[simp] theorem key_hpAsk (up : Bool) (cmd : Option Nat) (s : State) : fkey (hpAsk up cmd s).1 = fkey s := by simp [hpAsk]

@[simp] theorem key_hpFinish (s : State) : fkey (hpFinish s) = fkey s := by
  simp only [hpFinish]
  (repeat' split) <;> first | rfl | (simp [fkey]; done) | (simp_all [fkey]; done)

@[simp] theorem key_hpEvent (up : Bool) (s : State) : fkey (hpEvent up s) = fkey s := by simp [hpEvent]

@[simp] theorem key_hpSafeOff (s : State) : fkey (hpSafeOff s) = fkey s := by simp [hpSafeOff]

@[simp] theorem key_biasEval (s : State) : fkey (biasEval s) = fkey s := by simp [biasEval]

@[simp] theorem key_micbiasFenceOff (s : State) : fkey (micbiasFenceOff s) = fkey s := by simp [micbiasFenceOff]

@[simp] theorem key_relayAcc (s : State) : fkey (relayAcc s) = fkey s := by simp [relayAcc]

@[simp] theorem key_identStart (cmd : Option Nat) (s : State) : fkey (identStart cmd s) = fkey s := by simp [identStart]

@[simp] theorem key_identEnd (res : Nat) (s : State) : fkey (identEnd res s) = fkey s := by
  simp only [identEnd]
  (repeat' split) <;> first | rfl | (simp [fkey]; done) | (simp_all [fkey]; done)

@[simp] theorem key_adoptAcc (acc : Nat) (s : State) : fkey (adoptAcc acc s) = fkey s := by simp [adoptAcc]

@[simp] theorem key_jackOut (s : State) : fkey (jackOut s) = fkey s := by
  simp only [jackOut]
  (repeat' split) <;> first | rfl | (simp [fkey]; done) | (simp_all [fkey]; done)

@[simp] theorem key_jackInserted (s : State) : fkey (jackInserted s) = fkey s := by simp [jackInserted]

@[simp] theorem key_buttonWindow (minUa : Nat) (maxUa : Nat) (s : State) : fkey (buttonWindow minUa maxUa s) = fkey s := by simp [buttonWindow]

@[simp] theorem key_buttonDeclared (s : State) : fkey (buttonDeclared s) = fkey s := by simp [buttonDeclared]

@[simp] theorem key_fpFrame (s : State) : fkey (fpFrame s) = fkey s := by simp [fpFrame]

@[simp] theorem key_fpCommit (old : Tables) (new : Tables) (s : State) : fkey (fpCommit old new s) = fkey s := by simp [fpCommit]

@[simp] theorem key_applyHpEnable (c : Cmd) (s : State) : fkey (applyHpEnable c s) = fkey s := by simp [applyHpEnable]

@[simp] theorem key_applyHpAttenSet (c : Cmd) (s : State) : fkey (applyHpAttenSet c s) = fkey s := by simp [applyHpAttenSet]

@[simp] theorem key_applyIdentify (c : Cmd) (s : State) : fkey (applyIdentify c s) = fkey s := by simp [applyIdentify]

@[simp] theorem key_modSn (f : SnState → SnState) (s : State) : fkey (modSn f s) = fkey s := by simp [modSn]

@[simp] theorem key_snDetect (sig : Nat) (s : State) : fkey (snDetect sig s) = fkey s := by simp [snDetect]

@[simp] theorem key_audioBlock (b : SentinelBlock) (s : State) : fkey (audioBlock b s) = fkey s := by simp [audioBlock]

@[simp] theorem key_snBlock (b : SentinelBlock) (s : State) : fkey (snBlock b s) = fkey s := by simp [snBlock]

@[simp] theorem key_applySnAck (c : Cmd) (s : State) : fkey (applySnAck c s) = fkey s := by simp [applySnAck]

@[simp] theorem key_modCred (i : Nat) (f : CredSlot → CredSlot) (s : State) : fkey (modCred i f s) = fkey s := by simp [modCred]

@[simp] theorem key_setSeq (origin : Nat) (n : Nat) (s : State) : fkey (setSeq origin n s) = fkey s := by
  unfold setSeq
  (repeat' split) <;> first | rfl | (simp; done)

@[simp] theorem key_authFail (i : Nat) (s : State) : fkey (authFail i s) = fkey s := by simp [authFail]

@[simp] theorem key_accessCheck (sl : Bytes) (c : Cmd) (s : State) : fkey (accessCheck sl c s).2 = fkey s := by
  simp only [accessCheck]
  (repeat' split) <;> first | rfl | (simp [fkey]; done) | (simp_all [fkey]; done)

@[simp] theorem key_respondDup (c : Cmd) (s : State) : fkey (respondDup c s) = fkey s := by simp [respondDup]

@[simp] theorem key_takeSlot (sl : Bytes) (origin : Nat) (ringNo : Nat) (s : State) : fkey (takeSlot sl origin ringNo s) = fkey s := by
  simp only [takeSlot]
  (repeat' split) <;> first | rfl | (simp [fkey]; done) | (simp_all [fkey]; done)

@[simp] theorem key_takeHost (s : State) : fkey (takeHost s) = fkey s := by
  unfold takeHost
  (repeat' split) <;> first | rfl | (simp [fkey]; done)

@[simp] theorem key_takeRing (s : State) : fkey (takeRing s) = fkey s := by
  unfold takeRing
  (repeat' split) <;> first | rfl | (simp; done)

@[simp] theorem key_consumeGo : ∀ (n : Nat) (s : State), fkey (consumeGo n s) = fkey s
  | 0, _ => rfl
  | n + 1, s => by
    unfold consumeGo
    (repeat' split) <;> first | rfl | (rw [key_consumeGo n]; simp)

@[simp] theorem key_consume (s : State) : fkey (consume s) = fkey s := by simp [consume]

@[simp] theorem key_releaseHeld : ∀ (n : Nat) (s : State), fkey (releaseHeld n s) = fkey s
  | 0, _ => rfl
  | n + 1, s => by
    unfold releaseHeld
    (repeat' split) <;> first | rfl | (rw [key_releaseHeld n]; simp [fkey])

@[simp] theorem key_cancelProposal (s : State) : fkey (cancelProposal s) = fkey s := by
  unfold cancelProposal
  (repeat' split) <;> first | rfl | (simp; done)

@[simp] theorem key_waive (s : State) : fkey (waive s) = fkey s := by simp [waive]

@[simp] theorem key_pinHold (ns : Nat) (s : State) : fkey (pinHold ns s) = fkey s := by
  unfold pinHold
  (repeat' split) <;> first | rfl | (simp; done)

@[simp] theorem key_bootRoots (a : Bool) (b : Bool) (s : State) : fkey (bootRoots a b s) = fkey s := by simp [bootRoots]

@[simp] theorem key_modFwSlot (slotB : Bool) (f : FwSlot → FwSlot) (s : State) : fkey (modFwSlot slotB f s) = fkey s := by simp [modFwSlot]

@[simp] theorem key_lockRest (s : State) : fkey (lockRest s) = fkey s := by simp [lockRest]

@[simp] theorem key_slotVerify (slotB : Bool) (ok : Bool) (s : State) : fkey (slotVerify slotB ok s) = fkey s := by
  unfold slotVerify
  (repeat' split) <;> first | rfl | (simp [fkey]; done)

@[simp] theorem key_applyHush (c : Cmd) (s0 : State) : fkey (applyHush c s0) = fkey s0 := by
  simp only [applyHush]
  (repeat' split) <;> first | rfl | (simp [fkey]; done) | (simp_all [fkey]; done)

@[simp] theorem key_hushSyns (s : State) : fkey (hushSyns s) = fkey s := by
  unfold hushSyns
  (repeat' split) <;> first | rfl | (simp [fkey]; done)

@[simp] theorem key_wakeCands (s : State) : fkey (wakeCands s) = fkey s := by simp [wakeCands]

@[simp] theorem key_wakeHp (s : State) : fkey (wakeHp s) = fkey s := by simp [wakeHp]

@[simp] theorem key_wakeFlows (s : State) : fkey (wakeFlows s) = fkey s := by simp [wakeFlows]

@[simp] theorem key_wakeDark (s : State) : fkey (wakeDark s) = fkey s := by simp [wakeDark]

@[simp] theorem key_winWrite : ∀ (n : Nat) (bs : Bytes) (s : State), fkey (winWrite n bs s) = fkey s
  | _, [], _ => by simp [winWrite]
  | a, b :: bs, s => by
    rw [winWrite, key_winWrite]
    split
    · exact key_memWrite a b s
    · rfl

@[simp] theorem key_doorbell (v : Nat) (s : State) : fkey (doorbell v s) = fkey s := by
  unfold doorbell
  (repeat' split) <;> first | rfl | (simp [fkey]; done)

@[simp] theorem key_rspTail (v : Nat) (s : State) : fkey (rspTail v s) = fkey s := by simp [rspTail]

@[simp] theorem key_scopeReset (k : Scope) (overRing : Bool) (s : State) : fkey (scopeReset k overRing s) = fkey s := by
  unfold scopeReset
  (repeat' split) <;> first | rfl | (simp [fkey]; done)

@[simp] theorem key_resetDone (s : State) : fkey (resetDone s) = fkey s := by
  unfold resetDone
  (repeat' split) <;> first | rfl | (simp [fkey]; done)

@[simp] theorem key_failRec (recs : List Rec) (s : State) : fkey (failRec recs s).2 = fkey s := by simp [failRec]

@[simp] theorem key_closeStaging (s : State) : fkey (closeStaging s) = fkey s := by simp [closeStaging]

@[simp] theorem key_acceptCommit (c : Cmd) (st : Staging) (t : Tables) (b : Nat) (s : State) : fkey (acceptCommit c st t b s) = fkey s := by
  unfold acceptCommit
  (repeat' split) <;> first | rfl | (simp [fkey]; done)

@[simp] theorem key_runCommit (c : Cmd) (s : State) : fkey (runCommit c s) = fkey s := by
  simp only [runCommit]
  (repeat' split) <;> first | rfl | (simp [fkey]; done) | (simp_all [fkey]; done)

@[simp] theorem key_cancelPend (s : State) : fkey (cancelPend s) = fkey s := by
  unfold cancelPend
  (repeat' split) <;> first | rfl | (simp [fkey]; done)

@[simp] theorem key_runCancel (c : Cmd) (s : State) : fkey (runCancel c s) = fkey s := by
  unfold runCancel
  (repeat' split) <;> first | rfl | (simp; done)

@[simp] theorem key_runStageBegin (c : Cmd) (s : State) : fkey (runStageBegin c s) = fkey s := by
  unfold runStageBegin
  (repeat' split) <;> first | rfl | (simp [fkey]; done)

@[simp] theorem key_imageEnd (c : Cmd) (img : Bytes) (s : State) : fkey (imageEnd c img s) = fkey s := by
  simp only [imageEnd]
  (repeat' split) <;> first | rfl | (simp [fkey]; done) | (simp_all [fkey]; done)

@[simp] theorem key_runImageLoad (c : Cmd) (s : State) : fkey (runImageLoad c s) = fkey s := by
  simp only [runImageLoad]
  (repeat' split) <;> first | rfl | (simp [fkey]; done) | (simp_all [fkey]; done)

@[simp] theorem key_igCommit (old : Tables) (new : Tables) (s : State) : fkey (igCommit old new s) = fkey s := by simp [igCommit]

@[simp] theorem key_lgCloseDue (s : State) : fkey (lgCloseDue s) = fkey s := by simp [lgCloseDue]

@[simp] theorem key_lgErase (s : State) : fkey (lgErase s) = fkey s := by simp [lgErase]

@[simp] theorem key_runLgExport (c : Cmd) (s : State) : fkey (runLgExport c s) = fkey s := by
  unfold runLgExport
  (repeat' split) <;> first | rfl | (simp [fkey]; done)

@[simp] theorem key_runLgFlush (c : Cmd) (s : State) : fkey (runLgFlush c s) = fkey s := by
  unfold runLgFlush
  (repeat' split) <;> first | rfl | (simp [fkey]; done)

@[simp] theorem key_resyncRestart (s : State) : fkey (resyncRestart s) = fkey s := by simp [resyncRestart]

@[simp] theorem key_linkEval (s : State) : fkey (linkEval s) = fkey s := by
  unfold linkEval
  (repeat' split) <;> first | rfl | (simp; done)

@[simp] theorem key_setPath (p : TwinPath) (up : Bool) (s : State) : fkey (setPath p up s) = fkey s := by
  unfold setPath
  (repeat' split) <;> first | rfl | (simp; done)

@[simp] theorem key_unreachable (s : State) : fkey (unreachable s) = fkey s := by simp [unreachable]

@[simp] theorem key_renewSend (s : State) : fkey (renewSend s) = fkey s := by
  unfold renewSend
  extract_lets s1 s2
  have h1 : fkey s1 = fkey s := by simp only [s1]; split <;> rfl
  have h2 : fkey s2 = fkey s1 := key_leaseSend _ _ _ _
  clear_value s2 s1
  rw [← h1, ← h2]
  rfl

@[simp] theorem key_carryMove (m : MirrorMsg) (g : Group) (s : State) : fkey (carryMove m g s) = fkey s := by
  simp only [carryMove]
  (repeat' split) <;> first | rfl | (simp [fkey]; done) | (simp_all [fkey]; done)

@[simp] theorem key_claimEval (s : State) : fkey (claimEval s) = fkey s := by simp [claimEval]

@[simp] theorem key_frameNote (typ : Nat) (path : TwinPath) (f : LeaseBits) (s : State) : fkey (frameNote typ path f s) = fkey s := by simp [frameNote]

/-- A received frame keeps the key when its effect does. -/
theorem key_frameIn (typ : Nat) (path : TwinPath) (f : LeaseBits) (act : State → State) (s : State)
    (h : ∀ t, fkey (act t) = fkey t) : fkey (frameIn typ path f act s) = fkey s := by
  have hn := key_frameNote typ path f s
  unfold frameIn
  dsimp only
  split
  · rfl
  · split
    · exact hn
    · rw [h]; exact hn

@[simp] theorem key_sendAck (path : TwinPath) (f : LeaseBits) (s : State) : fkey (sendAck path f s) = fkey s := by
  unfold sendAck
  (repeat' split) <;> first | rfl | (simp; done)

@[simp] theorem key_arbitrate (s : State) : fkey (arbitrate s) = fkey s := by
  unfold arbitrate
  (repeat' split) <;> first | rfl | (simp; done)

@[simp] theorem key_laneSendOn (lane : Nat) (typ : Nat) (content : Bytes) (s : State) : fkey (laneSendOn lane typ content s) = fkey s := by simp [laneSendOn]

@[simp] theorem key_mirrorSend (s : State) : fkey (mirrorSend s) = fkey s := by simp [mirrorSend]

@[simp] theorem key_relaySend (s : State) : fkey (relaySend s) = fkey s := by
  unfold relaySend
  (repeat' split) <;> first | rfl | (simp; done)

@[simp] theorem key_hotEval (s : State) : fkey (hotEval s) = fkey s := by simp [hotEval]

@[simp] theorem key_msTick (s : State) : fkey (msTick s) = fkey s := by
  simp only [msTick]
  (repeat' split) <;> first | rfl | (simp [fkey]; done) | (simp_all [fkey]; done)

@[simp] theorem key_twinWord (x : Syn) (w : Nat) (s : State) : fkey (twinWord x w s) = fkey s := by simp [twinWord]

theorem key_tkUpdate (s : State) (x : TkState) : fkey { s with tk := x } = fkey s := rfl

@[simp] theorem key_followY (s : State) : fkey (followY s) = fkey s := by
  unfold followY
  exact key_tkUpdate s _

@[simp] theorem key_standbyTime (th : Int) (s : State) : fkey (standbyTime th s) = fkey s := by
  unfold standbyTime
  dsimp only
  split
  · rw [key_spindleStep]; rfl
  · rw [key_hotEval]
    split <;> simp

@[simp] theorem key_hotTimeout (s : State) : fkey (hotTimeout s) = fkey s := by
  unfold hotTimeout
  (repeat' split) <;> first | rfl | (simp; done)

@[simp] theorem key_resyncCompare (m : PeerState) (s : State) : fkey (resyncCompare m s) = fkey s := by
  unfold resyncCompare
  (repeat' split) <;> first | rfl | (simp [fkey]; done)

@[simp] theorem key_matchEval (m : PeerState) (s : State) : fkey (matchEval m s) = fkey s := by
  unfold matchEval
  (repeat' split) <;> first | rfl | (simp [fkey]; done)

@[simp] theorem key_swapCheck (m : PeerState) (s : State) : fkey (swapCheck m s) = fkey s := by
  unfold swapCheck
  (repeat' split) <;> first | rfl | (simp; done)

@[simp] theorem key_sendImage (kind : Nat) (img : Bytes) (s : State) : fkey (sendImage kind img s) = fkey s := by simp [sendImage]

@[simp] theorem key_sendEntries : ∀ (n : Nat) (es : List LgEntry) (s : State), fkey (sendEntries n es s) = fkey s
  | 0, _, _ => by simp [sendEntries]
  | n + 1, es, s => by
    unfold sendEntries
    dsimp only
    split
    · exact key_laneSend _ _ s
    · rw [key_sendEntries]; exact key_laneSend _ _ s

@[simp] theorem key_directSilent (r : Rec) (s : State) : fkey (directSilent r s) = fkey s := by
  unfold directSilent
  dsimp only
  split <;> first | (rw [key_setSlew]; done) | (rw [key_setSpread]; done) | (rw [key_setDiag]; done) | (rw [key_micGain]; done) |
    (rw [key_holdStage]; done) | (rw [key_writeSeg]; done) | (rw [key_writeTables]; done) | (rw [key_writeDp]; done) |
    (rw [key_writeCoef]; done) | (rw [key_writeGain]; done) | (rw [key_writeBand]; done) | (rw [key_writeTap]; done) |
    (rw [key_flowEnable]; done) | rfl

@[simp] theorem key_resyncEnd (s : State) : fkey (resyncEnd s) = fkey s := by simp [resyncEnd]

@[simp] theorem key_installPend (s : State) : fkey (installPend s) = fkey s := by
  unfold installPend
  (repeat' split) <;> first | rfl | (simp; done)

@[simp] theorem key_pullImage (pos : Nat) (total : Nat) (data : Bytes) (s : State) : fkey (pullImage pos total data s) = fkey s := by simp [pullImage]

@[simp] theorem key_pullPending (pos : Nat) (total : Nat) (data : Bytes) (s : State) : fkey (pullPending pos total data s) = fkey s := by
  unfold pullPending
  (repeat' split) <;> first | rfl | (simp; done) | (simp_all; done)

@[simp] theorem key_runSwap (c : Cmd) (s : State) : fkey (runSwap c s) = fkey s := by
  unfold runSwap
  dsimp only
  split
  · simp
  · split
    · simp
    · split
      · simp
      · split <;> simp

@[simp] theorem key_runResync (c : Cmd) (s : State) : fkey (runResync c s) = fkey s := by
  unfold runResync
  (repeat' split) <;> first | rfl | (simp; done) | (simp_all; done)

@[simp] theorem key_modIg (f : IgState → IgState) (s : State) : fkey (modIg f s) = fkey s := by simp [modIg]

@[simp] theorem key_ringOut (f : RingFrame) (s : State) : fkey (ringOut f s) = fkey s := by simp [ringOut]

@[simp] theorem key_ringDrain (s : State) : fkey (ringDrain s) = fkey s := by
  unfold ringDrain
  (repeat' split) <;> first | rfl | (simp; done)

@[simp] theorem key_ringCast (typ : Nat) (hops : Nat) (payload : Bytes) (s : State) : fkey (ringCast typ hops payload s) = fkey s := by simp [ringCast]

@[simp] theorem key_ringNak (reason : Nat) (tag : Nat) (typ : Nat) (s : State) : fkey (ringNak reason tag typ s) = fkey s := by simp [ringNak]

@[simp] theorem key_ringCrcErr (s : State) : fkey (ringCrcErr s) = fkey s := by simp [ringCrcErr]

@[simp] theorem key_ringPass (f : RingFrame) (s : State) : fkey (ringPass f s) = fkey s := by simp [ringPass]

/-- A ring row keeps the key when what the frame does to this unit, and as a broadcast, keeps it. -/
theorem key_ringRow (typ : Nat) (f : RingFrame) (own : State → State) (cast : State → State × Option Bytes) (s : State)
    (h : ∀ t, fkey (own t) = fkey t) (g : ∀ t, fkey (cast t).1 = fkey t) : fkey (ringRow typ f own cast s) = fkey s := by
  unfold ringRow
  split
  · rfl
  · split
    · simp
    · split
      · simp
      · split
        · split
          · simp
          · dsimp only
            split
            · rw [g]; simp
            · rw [key_ringOut, g]; simp
        · (repeat' split) <;> simp [h]

theorem key_castOf (len : Nat) (f : RingFrame) (act : State → State × Option Bytes) (s : State)
    (g : ∀ t, fkey (act t).1 = fkey t) : fkey (castOf len f act s).1 = fkey s := by
  unfold castOf
  (repeat' split) <;> first | rfl | (simp [g]; done)

@[simp] theorem key_castRefused (tag : Nat) (f : RingFrame) (s : State) : fkey (castRefused tag f s).1 = fkey s := by
  unfold castRefused
  (repeat' split) <;> first | rfl | (simp; done)

@[simp] theorem key_ringForward (f : RingFrame) (s : State) : fkey (ringForward f s) = fkey s := by simp [ringForward]

@[simp] theorem key_ringResetRun (f : RingFrame) (s : State) : fkey (ringResetRun f s).1 = fkey s := by simp [ringResetRun]

@[simp] theorem key_ringResetOver (s : State) : fkey (ringResetOver s) = fkey s := by
  unfold ringResetOver
  (repeat' split) <;> first | rfl | (simp; done)

@[simp] theorem key_ringJoinSend (s : State) : fkey (ringJoinSend s) = fkey s := by simp [ringJoinSend]

@[simp] theorem key_ringCmd (f : RingFrame) (s : State) : fkey (ringCmd f s) = fkey s := by simp [ringCmd]

@[simp] theorem key_ringRead (f : RingFrame) (s : State) : fkey (ringRead f s) = fkey s := by simp [ringRead]

@[simp] theorem key_ringWrite (f : RingFrame) (s : State) : fkey (ringWrite f s) = fkey s := by simp [ringWrite]

@[simp] theorem key_ringEventSend (s : State) : fkey (ringEventSend s) = fkey s := by simp [ringEventSend]

@[simp] theorem key_breakSend (s : State) : fkey (breakSend s) = fkey s := by simp [breakSend]

@[simp] theorem key_inDown (s : State) : fkey (inDown s) = fkey s := by simp [inDown]

@[simp] theorem key_inUpNow (s : State) : fkey (inUpNow s) = fkey s := by simp [inUpNow]

@[simp] theorem key_breakAgain (s : State) : fkey (breakAgain s) = fkey s := by
  unfold breakAgain
  (repeat' split) <;> first | rfl | (simp; done)

@[simp] theorem key_timeDue (s : State) : fkey (timeDue s) = fkey s := by simp [timeDue]

@[simp] theorem key_timeAccept (f : RingFrame) (master : Nat) (arrival : Nat) (s : State) : fkey (timeAccept f master arrival s) = fkey s := by
  simp only [timeAccept]
  (repeat' split) <;> first | rfl | (simp [fkey]; done) | (simp_all [fkey]; done)

@[simp] theorem key_timeRow (f : RingFrame) (arrival : Nat) (departure : Nat) (s : State) : fkey (timeRow f arrival departure s) = fkey s := by
  unfold timeRow
  (repeat' split) <;> first | rfl | (simp; done)

@[simp] theorem key_noBarrier (s : State) : fkey (noBarrier s) = fkey s := by simp [noBarrier]

@[simp] theorem key_barrierLost (s : State) : fkey (barrierLost s) = fkey s := by
  unfold barrierLost
  (repeat' split) <;> first | rfl | (simp; done)

@[simp] theorem key_barrierRow (f : RingFrame) (s : State) : fkey (barrierRow f s).1 = fkey s := by
  simp only [barrierRow]
  (repeat' split) <;> first | rfl | (simp [fkey]; done) | (simp_all [fkey]; done)

@[simp] theorem key_barrierRelease (s : State) : fkey (barrierRelease s) = fkey s := by
  unfold barrierRelease
  (repeat' split) <;> first | rfl | (simp; done)

@[simp] theorem key_barrierTimeout (s : State) : fkey (barrierTimeout s) = fkey s := by
  unfold barrierTimeout
  (repeat' split) <;> first | rfl | (simp; done)

@[simp] theorem key_snapshotRow (f : RingFrame) (s : State) : fkey (snapshotRow f s).1 = fkey s := by simp [snapshotRow]

@[simp] theorem key_capture (s : State) : fkey (capture s) = fkey s := by simp [capture]

@[simp] theorem key_applyEvtSet (c : Cmd) (s : State) : fkey (applyEvtSet c s) = fkey s := by simp [applyEvtSet]

@[simp] theorem key_applyDelaySet (c : Cmd) (s : State) : fkey (applyDelaySet c s) = fkey s := by simp [applyDelaySet]

@[simp] theorem key_modPt (f : PtState → PtState) (s : State) : fkey (modPt f s) = fkey s := by simp [modPt]

@[simp] theorem key_putChange (key : Option Bytes) (seq : Nat) (s : State) (r : Rec) : fkey (putChange key seq s r) = fkey s := by
  unfold putChange
  (repeat' split) <;> first | rfl | (simp; done)

@[simp] theorem key_putChanges (key : Option Bytes) (seq : Nat) (rs : List Rec) (s : State) : fkey (putChanges key seq rs s) = fkey s := by simp [putChanges]

@[simp] theorem key_proposeRun (c : Cmd) (s : State) : fkey (proposeRun c s) = fkey s := by
  unfold proposeRun
  (repeat' split) <;> first | rfl | (simp; done)

@[simp] theorem key_confirmRun (c : Cmd) (s : State) : fkey (confirmRun c s) = fkey s := by
  unfold confirmRun
  (repeat' split) <;> first | rfl | (simp; done)

@[simp] theorem key_withdrawRun (c : Cmd) (s : State) : fkey (withdrawRun c s) = fkey s := by
  unfold withdrawRun
  (repeat' split) <;> first | rfl | (simp; done)

@[simp] theorem key_proposalExpire (s : State) : fkey (proposalExpire s) = fkey s := by
  unfold proposalExpire
  (repeat' split) <;> first | rfl | (simp; done)

@[simp] theorem key_slotUnlock (i : Nat) (s : State) : fkey (slotUnlock i s) = fkey s := by simp [slotUnlock]

@[simp] theorem key_noWriting (s : State) : fkey (noWriting s) = fkey s := by simp [noWriting]

@[simp] theorem key_fwWriteRun (c : Cmd) (s : State) : fkey (fwWriteRun c s) = fkey s := by
  simp only [fwWriteRun]
  (repeat' split) <;> first | rfl | (simp [fkey]; done) | (simp_all [fkey]; done)

@[simp] theorem key_fwActivateRun (c : Cmd) (s : State) : fkey (fwActivateRun c s) = fkey s := by
  simp only [fwActivateRun]
  (repeat' split) <;> first | rfl | (simp [fkey]; done) | (simp_all [fkey]; done)

@[simp] theorem key_zeroiseRun (c : Cmd) (s : State) : fkey (zeroiseRun c s) = fkey s := by simp [zeroiseRun]

@[simp] theorem key_stageHolds (s : State) : fkey (stageHolds s) = fkey s := by simp [stageHolds]

@[simp] theorem key_planeFrame (inp : FrameInput) (s : State) : fkey (planeFrame inp s) = fkey s := by
  unfold planeFrame
  (repeat' split) <;> first | rfl | (simp [fkey]; done)

@[simp] theorem key_passTime (d : Nat) (s : State) : fkey (passTime d s) = fkey s := by simp [passTime]

@[simp] theorem key_toBoundary (s : State) : fkey (toBoundary s) = fkey s := by simp [toBoundary]

@[simp] theorem key_garpArm (s : State) : fkey (garpArm s) = fkey s := by simp [garpArm]

@[simp] theorem key_loadStep (s : State) : fkey (loadStep s) = fkey s := by
  unfold loadStep
  (repeat' split) <;> first | rfl | (simp; done)

@[simp] theorem key_restartPlane (s : State) : fkey (restartPlane s) = fkey s := by simp [restartPlane]

@[simp] theorem key_tick (s : State) : fkey (tick s) = fkey s := by simp [tick]

end Sys2Proof.Laws
end

