-- ==== Sys2Proof/Laws/Fence.lean ====
section
/-! SUPPORT. The fence invariant (R16, R17): one lemma for each operation that touches what the fence depends on. -/
namespace Sys2Proof.Laws
open Sys2Proof.Machine

/-- The fence invariant as a property of what the fence depends on. -/
structure fenceOk (k : Role × Mode × Bool × Bool × Bool × Bool) : Prop where
  out : k.2.2.2.2.2 = true →
    ((k.1 == .active || k.1 == .solo) && k.2.1 != .hush && !(k.2.1 == .acquire && k.2.2.1) && !k.2.2.2.1 && !k.2.2.2.2.1) = true

theorem fenceInv_iff (s : State) : FenceInv s ↔ fenceOk (fkey s) := ⟨fun h => ⟨h⟩, fun h => h.out⟩

/-- A closed fence is always right. -/
theorem fenceOk_closed (s : State) (h : s.fenceOpen = false) : fenceOk (fkey s) :=
  ⟨fun h1 => absurd (h.symm.trans h1) (by decide)⟩

theorem inv_foldl {α : Type} (f : State → α → State) (l : List α) (s : State) (h : ∀ t a, fenceOk (fkey t) → fenceOk (fkey (f t a)))
    (h0 : fenceOk (fkey s)) : fenceOk (fkey (l.foldl f s)) := by
  induction l generalizing s with
  | nil => exact h0
  | cons a l ih => exact ih _ (h _ _ h0)

@[simp] theorem inv_fenceEval (s : State) : fenceOk (fkey (fenceEval s)) := by
  unfold fenceEval
  dsimp only
  split
  · next h => exact ⟨fun h1 => h.trans h1⟩
  · split
    · next h => exact ⟨fun _ => h⟩
    · rw [key_identAbandon]; exact fenceOk_closed _ rfl

theorem inv_ptpHears (n : Nat) (h : PtpHeader) (s : State) (act : State → State)
    (g : ∀ t, fenceOk (fkey t) → fenceOk (fkey (act t))) (h0 : fenceOk (fkey s)) : fenceOk (fkey (ptpHears n h s act)) := by
  unfold ptpHears
  (repeat' split) <;> first | (with_reducible exact h0) | exact g _ h0 | (rw [key_modPtp]; exact h0)

/-- A direct command at its boundary keeps the invariant when its effect does. -/
theorem inv_atFrame (check : Bytes → State → Option Nat) (run : Cmd → State → State) (c : Cmd) (s : State)
    (g : ∀ t, fenceOk (fkey t) → fenceOk (fkey (run c t))) (h : fenceOk (fkey s)) : fenceOk (fkey (atFrame check run c s)) := by
  unfold atFrame
  split
  · rw [key_respond]; exact h
  · exact g _ h

@[simp] theorem inv_setMode (m : Mode) (s : State) (h : fenceOk (fkey s)) : fenceOk (fkey (setMode m s)) := by
  unfold setMode
  (repeat' split) <;> first | (with_reducible exact h) | (simp [fkey]; done) | (simp_all [fkey]; done)

@[simp] theorem inv_setRole (r : Role) (s : State) (h : fenceOk (fkey s)) : fenceOk (fkey (setRole r s)) := by
  unfold setRole
  (repeat' split) <;> first | (with_reducible exact h) | (simp [fkey]; done) | (simp_all [fkey]; done)

@[simp] theorem inv_releaseChuck (cause : Nat) (s : State) (h : fenceOk (fkey s)) : fenceOk (fkey (releaseChuck cause s)) := by
  unfold releaseChuck
  (repeat' split) <;> first | (with_reducible exact h) | (simp [fkey]; done) | (simp_all [fkey]; done)

@[simp] theorem inv_twinFault (s : State) (h : fenceOk (fkey s)) : fenceOk (fkey (twinFault s)) := by
  unfold twinFault
  (repeat' split) <;> first | (with_reducible exact h) | (simp [fkey]; done) | (simp_all [fkey]; done)

@[simp] theorem inv_enterSafe (causes : Nat) (s : State) (h : fenceOk (fkey s)) :
    fenceOk (fkey (enterSafe causes s)) := by
  unfold enterSafe
  (repeat' split) <;> first | (with_reducible exact h) | (simp [fkey]; done) | (simp_all [fkey]; done)

@[simp] theorem inv_raiseFault (causes : Nat) (s : State) (h : fenceOk (fkey s)) :
    fenceOk (fkey (raiseFault causes s)) := by
  unfold raiseFault
  (repeat' split) <;> first | (with_reducible exact h) | (simp [fkey]; done) | (simp_all [fkey]; done)

@[simp] theorem inv_rootFail (r : RootId) (s : State) (h : fenceOk (fkey s)) : fenceOk (fkey (rootFail r s)) := by
  simp only [rootFail]
  (repeat' split) <;> first | (with_reducible exact h) | (simp [fkey]; done) | (simp_all [fkey]; done)

theorem inv_enterAcquire (i : Nat) (s : State) (hm : s.mode ≠ .acquire) : fenceOk (fkey (enterAcquire i s)) := by
  unfold enterAcquire
  extract_lets style tk s1
  rw [key_acquirePhase, key_hushRecheck]
  have hk : fkey s1 = K s.role s.mode (style == .fast) s.tw.partingTool s.pw.inReset s.fenceOpen := key_selectCand _ _
  have hs : s1.mode = s.mode := congrArg (fun k : Role × Mode × Bool × Bool × Bool × Bool => k.2.1) hk
  unfold setMode
  rw [hs, if_neg hm]
  exact inv_fenceEval _

@[simp] theorem inv_holdoverEntry (from6 : Bool) (s : State) (h : fenceOk (fkey s)) :
    fenceOk (fkey (holdoverEntry from6 s)) := by
  simp only [holdoverEntry]
  (repeat' split) <;> first | (with_reducible exact h) | (simp [fkey]; done) | (simp_all [fkey]; done)

@[simp] theorem inv_selectedLost (declared : Bool) (from6 : Bool) (s0 : State) (h : fenceOk (fkey s0)) :
    fenceOk (fkey (selectedLost declared from6 s0)) := by
  unfold selectedLost
  dsimp only
  (repeat' split) <;> first | (with_reducible exact h) | (simp [fkey, h]; done) | (simp_all [fkey]; done)

@[simp] theorem inv_rejectCand (i : Nat) (code : Nat) (s : State) (h : fenceOk (fkey s)) :
    fenceOk (fkey (rejectCand i code s)) := by
  unfold rejectCand
  (repeat' split) <;> first | (with_reducible exact h) | (simp [fkey]; done) | (simp_all [fkey]; done)

@[simp] theorem inv_loseCand (i : Nat) (s : State) (h : fenceOk (fkey s)) :
    fenceOk (fkey (loseCand i s)) := by
  unfold loseCand
  (repeat' split) <;> first | (with_reducible exact h) | (simp [fkey]; done) | (simp_all [fkey]; done)

theorem inv_enterLowest (l : List CandState) (s : State) (h : fenceOk (fkey s)) (hm : s.mode ≠ .acquire) :
    fenceOk (fkey (match lowestQualified 0 l with
      | some j => enterAcquire j s
      | none => s)) := by
  split
  · exact inv_enterAcquire _ _ hm
  · exact h

@[simp] theorem inv_afterQualified (i : Nat) (s0 : State) (h : fenceOk (fkey s0)) : fenceOk (fkey (afterQualified i s0)) := by
  unfold afterQualified
  extract_lets s
  have hs : fenceOk (fkey s) := by simp only [s]; rw [key_inOrder]; exact h
  clear_value s
  split
  · next hm => exact inv_enterLowest _ _ hs (by rw [hm]; decide)
  · next hm => exact inv_enterLowest _ _ hs (by rw [hm]; decide)
  · (repeat' split) <;> first | with_reducible exact hs | (rw [key_hitlessSwitch]; exact hs)
  · (repeat' split) <;> first | with_reducible exact hs | (rw [key_hitlessSwitch]; exact hs)
  · exact hs

@[simp] theorem inv_dropUnusable (s : State) (h : fenceOk (fkey s)) : fenceOk (fkey (dropUnusable s)) := by
  unfold dropUnusable
  refine inv_foldl _ _ _ (fun t i ht => ?_) h
  split
  · exact inv_loseCand _ _ ht
  · exact ht

@[simp] theorem inv_candCommit (old : Tables) (new : Tables) (s : State) (h : fenceOk (fkey s)) :
    fenceOk (fkey (candCommit old new s)) := by
  simp only [candCommit]
  (repeat' split) <;> first | (with_reducible exact h) | (simp [fkey]; done) | (simp_all [fkey]; done)

@[simp] theorem inv_rxLose (n : Nat) (s : State) (h : fenceOk (fkey s)) : fenceOk (fkey (rxLose n s)) := by
  unfold rxLose
  (repeat' split) <;> first | (with_reducible exact h) | (simp [fkey]; done) | (simp_all [fkey]; done)

@[simp] theorem inv_losePtp (n : Nat) (s : State) (h : fenceOk (fkey s)) : fenceOk (fkey (losePtp n s)) := by
  unfold losePtp
  (repeat' split) <;> first | (with_reducible exact h) | (simp [fkey]; done) | (simp_all [fkey]; done)

@[simp] theorem inv_ptpEnter (n : Nat) (st : Nat) (s : State) (h : fenceOk (fkey s)) : fenceOk (fkey (ptpEnter n st s)) := by
  simp only [ptpEnter]
  (repeat' split) <;> first | (with_reducible exact h) | (simp [fkey]; done) | (simp_all [fkey]; done)

@[simp] theorem inv_ptpMaster (n : Nat) (want : Nat) (s : State) (h : fenceOk (fkey s)) :
    fenceOk (fkey (ptpMaster n want s)) := by
  unfold ptpMaster
  (repeat' split) <;> first | (with_reducible exact h) | (simp [fkey]; done) | (simp_all [fkey]; done)

@[simp] theorem inv_ptpFollow (n : Nat) (s : State) (h : fenceOk (fkey s)) :
    fenceOk (fkey (ptpFollow n s)) := by
  simp only [ptpFollow]
  (repeat' split) <;> first | (with_reducible exact h) | (simp [fkey]; done) | (simp_all [fkey]; done)

@[simp] theorem inv_ptpYield (n : Nat) (s : State) (h : fenceOk (fkey s)) :
    fenceOk (fkey (ptpYield n s)) := by
  unfold ptpYield
  (repeat' split) <;> first | (with_reducible exact h) | (simp [fkey]; done) | (simp_all [fkey]; done)

@[simp] theorem inv_ptpDecide (n : Nat) (s : State) (h : fenceOk (fkey s)) : fenceOk (fkey (ptpDecide n s)) := by
  simp only [ptpDecide]
  (repeat' split) <;> first | (with_reducible exact h) | (simp [fkey]; done) | (simp_all [fkey]; done)

@[simp] theorem inv_ptpDecideAll (s : State) (h : fenceOk (fkey s)) : fenceOk (fkey (ptpDecideAll s)) := by
  unfold ptpDecideAll
  (repeat' split) <;> first | (with_reducible exact h) | (simp [fkey]; done) | (simp_all [fkey]; done)

@[simp] theorem inv_ptpStart (n : Nat) (s : State) (h : fenceOk (fkey s)) : fenceOk (fkey (ptpStart n s)) := by
  unfold ptpStart
  (repeat' split) <;> first | (with_reducible exact h) | (simp [fkey]; done) | (simp_all [fkey]; done)

@[simp] theorem inv_ptpAnnounce (n : Nat) (h : PtpHeader) (a : Announce) (s : State) (h0 : fenceOk (fkey s)) :
    fenceOk (fkey (ptpAnnounce n h a s)) := by
  unfold ptpAnnounce
  refine inv_ptpHears n h s _ (fun t ht => ?_) h0
  extract_lets p live old rec_ list mine s1 s2
  have h1 : fenceOk (fkey s1) := by simp only [s1]; rw [key_modPtp]; exact ht
  have h2 : fenceOk (fkey s2) := inv_ptpDecideAll _ h1
  clear_value s2
  rw [key_leapSource]
  split
  · rw [key_ptpLeap]; exact h2
  · exact h2

@[simp] theorem inv_ptpAnnTimeout (n : Nat) (s : State) (h : fenceOk (fkey s)) : fenceOk (fkey (ptpAnnTimeout n s)) := by
  simp only [ptpAnnTimeout]
  (repeat' split) <;> first | (with_reducible exact h) | (simp [fkey]; done) | (simp_all [fkey]; done)

@[simp] theorem inv_ptpCommit (first : Bool) (old : Tables) (new : Tables) (s : State) (h : fenceOk (fkey s)) : fenceOk (fkey (ptpCommit first old new s)) := by
  unfold ptpCommit
  (repeat' split) <;> (try simp_all [fkey]) <;> (repeat' split) <;> simp_all [fkey]

@[simp] theorem inv_linkGain (n : Nat) (ms : Nat) (s : State) (h : fenceOk (fkey s)) :
    fenceOk (fkey (linkGain n ms s)) := by
  unfold linkGain
  (repeat' split) <;> first | (with_reducible exact h) | (simp [fkey]; done) | (simp_all [fkey]; done)

@[simp] theorem inv_linkLose (n : Nat) (los : Bool) (us : Nat) (s : State) (h : fenceOk (fkey s)) :
    fenceOk (fkey (linkLose n los us s)) := by
  unfold linkLose
  (repeat' split) <;> first | (with_reducible exact h) | (simp [fkey]; done) | (simp_all [fkey]; done)

@[simp] theorem inv_moduleOut (n : Nat) (s : State) (h : fenceOk (fkey s)) : fenceOk (fkey (moduleOut n s)) := by
  unfold moduleOut
  (repeat' split) <;> first | (with_reducible exact h) | (simp [fkey]; done) | (simp_all [fkey]; done)

@[simp] theorem inv_domStarts (d : Nat) (up : Bool) (s : State) (h : fenceOk (fkey s)) : fenceOk (fkey (domStarts d up s)) := by
  unfold domStarts
  (repeat' split) <;> first | (with_reducible exact h) | (simp [fkey]; done) | (simp_all [fkey]; done)

@[simp] theorem inv_domAsk (d : Nat) (up : Bool) (c : Cmd) (s : State) (h : fenceOk (fkey s)) : fenceOk (fkey (domAsk d up c s)) := by
  simp only [domAsk]
  (repeat' split) <;> first | (with_reducible exact h) | (simp [fkey]; done) | (simp_all [fkey]; done)

@[simp] theorem inv_domFinish (d : Nat) (s : State) (h : fenceOk (fkey s)) : fenceOk (fkey (domFinish d s)) := by
  simp only [domFinish]
  (repeat' split) <;> first | (with_reducible exact h) | (simp [fkey]; done) | (simp_all [fkey]; done)

@[simp] theorem inv_applyPwDomain (c : Cmd) (s : State) (h : fenceOk (fkey s)) : fenceOk (fkey (applyPwDomain c s)) := by
  unfold applyPwDomain
  (repeat' split) <;> first | (with_reducible exact h) | (simp [fkey]; done) | (simp_all [fkey]; done)

@[simp] theorem inv_domEvent (d : Nat) (up : Bool) (s : State) (h : fenceOk (fkey s)) : fenceOk (fkey (domEvent d up s)) := by
  simp only [domEvent]
  (repeat' split) <;> first | (with_reducible exact h) | (simp [fkey]; done) | (simp_all [fkey]; done)

@[simp] theorem inv_assertReset (cause : Nat) (powerOn : Bool) (until_ : Nat) (s : State) :
    fenceOk (fkey (assertReset cause powerOn until_ s)) :=
  fenceOk_closed _ rfl

@[simp] theorem inv_pinRelease (s : State) (h : fenceOk (fkey s)) : fenceOk (fkey (pinRelease s)) := by
  unfold pinRelease
  split
  · rw [key_leaseSend]; exact fenceOk_closed _ rfl
  · rw [key_waive]; exact h

@[simp] theorem inv_pinReset (ns : Nat) (s : State) : fenceOk (fkey (pinReset ns s)) := inv_assertReset _ _ _ _

@[simp] theorem inv_pinLow (ns : Nat) (s : State) (h : fenceOk (fkey s)) :
    fenceOk (fkey (pinLow ns s)) := by
  simp only [pinLow]
  (repeat' split) <;> first | (with_reducible exact h) | (simp [fkey]; done) | (simp_all [fkey]; done)

@[simp] theorem inv_fullReset (s : State) : fenceOk (fkey (fullReset s)) := inv_assertReset _ _ _ _

@[simp] theorem inv_domBoot (d : Nat) (s : State) (h : fenceOk (fkey s)) : fenceOk (fkey (domBoot d s)) := by
  unfold domBoot
  (repeat' split) <;> first | (with_reducible exact h) | (simp [fkey]; done) | (simp_all [fkey]; done)

@[simp] theorem inv_resetRelease (x : Straps) (s : State) (h : fenceOk (fkey s)) : fenceOk (fkey (resetRelease x s)) := by
  unfold resetRelease
  (repeat' split) <;> first | (with_reducible exact h) | (simp [fkey]; done) | (simp_all [fkey]; done)

@[simp] theorem inv_bootDone (selfTestOk : Bool) (s : State) (h : fenceOk (fkey s)) : fenceOk (fkey (bootDone selfTestOk s)) := by
  unfold bootDone
  split
  · exact h
  · split
    · exact h
    · split
      · exact h
      · extract_lets pw1 s1 up s2 s3 s4
        have h1 : fenceOk (fkey s1) := h
        have h2 : fenceOk (fkey s2) := by
          refine inv_foldl _ _ _ (fun t d ht => ?_) (inv_setMode _ _ h1)
          simp only [up]
          rw [key_setDom]
          split
          · exact ht
          · exact inv_domStarts _ _ _ ht
        have h3 : fenceOk (fkey s3) := by simp only [s3]; rw [key_portStart, key_portStart, key_lgEvent]; exact h2
        have h4 : fenceOk (fkey s4) := by
          simp only [s4]
          split
          · rw [key_lgEvent]; exact h3
          · exact h3
        rw [key_consume]; exact h4

@[simp] theorem inv_tempReading (centi : Int) (s : State) (h : fenceOk (fkey s)) : fenceOk (fkey (tempReading centi s)) := by
  simp only [tempReading]
  (repeat' split) <;> first | (with_reducible exact h) | (simp [fkey]; done) | (simp_all [fkey]; done)

@[simp] theorem inv_hushShutdowns (s : State) (h : fenceOk (fkey s)) : fenceOk (fkey (hushShutdowns s)) := by
  unfold hushShutdowns
  refine inv_foldl _ _ _ (fun t d ht => ?_) h
  split
  · exact inv_domFinish _ _ ht
  · exact ht

@[simp] theorem inv_hushEntry (s : State) (h : fenceOk (fkey s)) :
    fenceOk (fkey (hushEntry s)) := by
  unfold hushEntry
  (repeat' split) <;> first | (with_reducible exact h) | (simp [fkey]; done) | (simp_all [fkey]; done)

@[simp] theorem inv_hushWake (s : State) (h : fenceOk (fkey s)) : fenceOk (fkey (hushWake s)) := by
  unfold hushWake
  split
  · extract_lets ms pw1 s1 ref s2
    have h1 : fenceOk (fkey s1) := h
    have h2 : fenceOk (fkey s2) := by
      simp only [s2]
      rw [key_relockOff, key_relockOff]
      refine inv_foldl _ _ _ (fun t d ht => ?_) h1
      simp only [ref]
      split
      · exact inv_domStarts _ _ _ ht
      · exact ht
    clear_value s2
    split
    · rw [key_relockOff]; exact h2
    · exact h2
  · exact h

@[simp] theorem inv_wakePlanes (s : State) (h : fenceOk (fkey s)) :
    fenceOk (fkey (wakePlanes s)) := by
  unfold wakePlanes
  (repeat' split) <;> first | (with_reducible exact h) | (simp [fkey]; done) | (simp_all [fkey]; done)

@[simp] theorem inv_hushRestart (s : State) (h : fenceOk (fkey s)) :
    fenceOk (fkey (hushRestart s)) := by
  unfold hushRestart
  dsimp only
  (repeat' split) <;> first | (with_reducible exact h) | (simp [fkey, h]; done) | (simp_all [fkey]; done)

@[simp] theorem inv_safeRestart (s : State) (h : fenceOk (fkey s)) :
    fenceOk (fkey (safeRestart s)) := by
  unfold safeRestart
  (repeat' split) <;> first | (with_reducible exact h) | (simp [fkey]; done) | (simp_all [fkey]; done)

@[simp] theorem inv_hushExit (scrubOk : Bool) (s : State) (h : fenceOk (fkey s)) :
    fenceOk (fkey (hushExit scrubOk s)) := by
  simp only [hushExit]
  (repeat' split) <;> first | (with_reducible exact h) | (simp [fkey]; done) | (simp_all [fkey]; done)

@[simp] theorem inv_runScope (nn : Nat) (overRing : Bool) (s : State) (h : fenceOk (fkey s)) : fenceOk (fkey (runScope nn overRing s)) := by
  unfold runScope
  (repeat' split) <;> first | (with_reducible exact h) | (simp [fkey]; done) | (simp_all [fkey]; done)

@[simp] theorem inv_resetWrite (v : Nat) (s : State) (h : fenceOk (fkey s)) : fenceOk (fkey (resetWrite v s)) := by
  simp only [resetWrite]
  (repeat' split) <;> first | (with_reducible exact h) | (simp [fkey]; done) | (simp_all [fkey]; done)

@[simp] theorem inv_goLive (new : Tables) (recs : List Rec) (s : State) (h : fenceOk (fkey s)) :
    fenceOk (fkey (goLive new recs s)) := by
  unfold goLive
  extract_lets first old new' s1 dg2 s2 s3 s4 s5 s6
  have h1 : fenceOk (fkey s1) := h
  have h2 : fenceOk (fkey s2) := by
    simp only [s2]
    split
    · exact inv_setMode _ _ h1
    · exact h1
  have h3 : fenceOk (fkey s3) := by simp only [s3]; rw [key_gateCommit, key_synthCommit, key_rootCommit]; exact h2
  have h4 : fenceOk (fkey s4) := by
    simp only [s4]; rw [key_psCommit, key_daCommit, key_adCommit]; exact inv_candCommit _ _ _ h3
  have h5 : fenceOk (fkey s5) := by simp only [s5]; rw [key_rxCommit, key_txCommit, key_teCommit]; exact h4
  have h6 : fenceOk (fkey s6) := by
    simp only [s6]
    refine inv_ptpCommit _ _ _ _ ?_
    rw [key_nwCommit]; exact h5
  rw [key_fpCommit, key_igCommit]; exact h6

@[simp] theorem inv_makeLive (p : PendCommit) (s : State) (h : fenceOk (fkey s)) :
    fenceOk (fkey (makeLive p s)) := by
  unfold makeLive
  (repeat' split) <;> first | (with_reducible exact h) | (simp [fkey]; done) | (simp_all [fkey]; done)

@[simp] theorem inv_commitLive (s : State) (h : fenceOk (fkey s)) : fenceOk (fkey (commitLive s)) := by
  unfold commitLive
  (repeat' split) <;> first | (with_reducible exact h) | (simp [fkey]; done) | (simp_all [fkey]; done)

@[simp] theorem inv_roleEval (s : State) (h : fenceOk (fkey s)) : fenceOk (fkey (roleEval s)) := by
  simp only [roleEval]
  (repeat' split) <;> first | (with_reducible exact h) | (simp [fkey]; done) | (simp_all [fkey]; done)

@[simp] theorem inv_pathSet (p : TwinPath) (up : Bool) (s : State) (h : fenceOk (fkey s)) :
    fenceOk (fkey (pathSet p up s)) := by
  unfold pathSet
  (repeat' split) <;> first | (with_reducible exact h) | (simp [fkey]; done) | (simp_all [fkey]; done)

@[simp] theorem inv_pathChange (p : TwinPath) (delay : Nat) (s : State) (h : fenceOk (fkey s)) :
    fenceOk (fkey (pathChange p delay s)) := by
  unfold pathChange
  (repeat' split) <;> first | (with_reducible exact h) | (simp [fkey]; done) | (simp_all [fkey]; done)

@[simp] theorem inv_takeChuck (cause : Nat) (role : Role) (leaseEnd : Option Nat) (s : State) (h : fenceOk (fkey s)) :
    fenceOk (fkey (takeChuck cause role leaseEnd s)) := by
  unfold takeChuck
  extract_lets gap from_ unmeasured s1 s2
  have h1 : fkey s1 = fkey s := rfl
  have h2 : fenceOk (fkey s2) := inv_setRole _ _ (h1 ▸ h)
  clear_value s2
  split
  · rw [key_carryMove, key_carryMove, key_carryMove]; exact h2
  · exact h2

@[simp] theorem inv_renewDue (ctl : Nat) (data : Nat) (s : State) (h : fenceOk (fkey s)) :
    fenceOk (fkey (renewDue ctl data s)) := by
  unfold renewDue
  (repeat' split) <;> first | (with_reducible exact h) | (simp [fkey]; done) | (simp_all [fkey]; done)

@[simp] theorem inv_leaseIn (renew : Bool) (f : LeaseBits) (s : State) (h : fenceOk (fkey s)) : fenceOk (fkey (leaseIn renew f s)) := by
  unfold leaseIn
  dsimp only
  (repeat' split) <;> first | (with_reducible exact h) | (simp [fkey, h]; done) | (simp_all [fkey]; done)

@[simp] theorem inv_conflictFence (s : State) (h : fenceOk (fkey s)) : fenceOk (fkey (conflictFence s)) := by
  unfold conflictFence
  (repeat' split) <;> first | (with_reducible exact h) | (simp [fkey]; done) | (simp_all [fkey]; done)

@[simp] theorem inv_renewConflict (f : LeaseBits) (s : State) (h : fenceOk (fkey s)) : fenceOk (fkey (renewConflict f s)) := by
  simp only [renewConflict]
  (repeat' split) <;> first | (with_reducible exact h) | (simp [fkey]; done) | (simp_all [fkey]; done)

@[simp] theorem inv_swapTaken (s : State) (h : fenceOk (fkey s)) : fenceOk (fkey (swapTaken s)) := by
  unfold swapTaken
  (repeat' split) <;> first | (with_reducible exact h) | (simp [fkey]; done) | (simp_all [fkey]; done)

@[simp] theorem inv_renewAct (f : LeaseBits) (s : State) (h : fenceOk (fkey s)) :
    fenceOk (fkey (renewAct f s)) := by
  simp only [renewAct]
  (repeat' split) <;> first | (with_reducible exact h) | (simp [fkey]; done) | (simp_all [fkey]; done)

/-- A received frame keeps the invariant when its effect does. -/
theorem inv_frameIn (typ : Nat) (path : TwinPath) (f : LeaseBits) (act : State → State) (s : State)
    (g : ∀ t, fenceOk (fkey t) → fenceOk (fkey (act t))) (h : fenceOk (fkey s)) : fenceOk (fkey (frameIn typ path f act s)) := by
  unfold frameIn
  split
  · exact h
  · extract_lets t
    have ht : fenceOk (fkey t) := by simp only [t]; rw [key_frameNote]; exact h
    clear_value t
    split
    · exact ht
    · exact g _ ht

@[simp] theorem inv_renewIn (path : TwinPath) (f : LeaseBits) (s : State) (h : fenceOk (fkey s)) : fenceOk (fkey (renewIn path f s)) := by
  unfold renewIn
  split
  · exact h
  · extract_lets s1
    have h1 : fenceOk (fkey s1) := inv_frameIn _ _ _ _ _ (fun t ht => inv_renewAct f t ht) h
    clear_value s1
    (repeat' split) <;> first | exact h1 | (rw [key_sendAck]; exact h1)

@[simp] theorem inv_ackAct (f : LeaseBits) (s : State) (h : fenceOk (fkey s)) :
    fenceOk (fkey (ackAct f s)) := by
  simp only [ackAct]
  (repeat' split) <;> first | (with_reducible exact h) | (simp [fkey]; done) | (simp_all [fkey]; done)

@[simp] theorem inv_ackIn (path : TwinPath) (f : LeaseBits) (s : State) (h : fenceOk (fkey s)) : fenceOk (fkey (ackIn path f s)) :=
  inv_frameIn _ _ _ _ _ (fun t ht => inv_ackAct f t ht) h

@[simp] theorem inv_releaseAct (f : LeaseBits) (s : State) (h : fenceOk (fkey s)) :
    fenceOk (fkey (releaseAct f s)) := by
  simp only [releaseAct]
  (repeat' split) <;> first | (with_reducible exact h) | (simp [fkey]; done) | (simp_all [fkey]; done)

@[simp] theorem inv_releaseIn (path : TwinPath) (f : LeaseBits) (s : State) (h : fenceOk (fkey s)) :
    fenceOk (fkey (releaseIn path f s)) :=
  inv_frameIn _ _ _ _ _ (fun t ht => inv_releaseAct f t ht) h

@[simp] theorem inv_waiveAct (f : LeaseBits) (s : State) (h : fenceOk (fkey s)) :
    fenceOk (fkey (waiveAct f s)) := by
  simp only [waiveAct]
  (repeat' split) <;> first | (with_reducible exact h) | (simp [fkey]; done) | (simp_all [fkey]; done)

@[simp] theorem inv_waiveIn (path : TwinPath) (f : LeaseBits) (s : State) (h : fenceOk (fkey s)) : fenceOk (fkey (waiveIn path f s)) :=
  inv_frameIn _ _ _ _ _ (fun t ht => inv_waiveAct f t ht) h

@[simp] theorem inv_nullIn (path : TwinPath) (f : LeaseBits) (s : State) (h : fenceOk (fkey s)) : fenceOk (fkey (nullIn path f s)) :=
  inv_frameIn _ _ _ _ _ (fun t ht => inv_leaseIn _ f t ht) h

@[simp] theorem inv_leaseOver (s : State) (h : fenceOk (fkey s)) : fenceOk (fkey (leaseOver s)) := by
  unfold leaseOver
  (repeat' split) <;> first | (with_reducible exact h) | (simp [fkey]; done) | (simp_all [fkey]; done)

@[simp] theorem inv_expiryTake (s : State) (h : fenceOk (fkey s)) : fenceOk (fkey (expiryTake s)) := by
  unfold expiryTake
  (repeat' split) <;> first | (with_reducible exact h) | (simp [fkey]; done) | (simp_all [fkey]; done)

@[simp] theorem inv_partingTrip (s : State) (h : fenceOk (fkey s)) :
    fenceOk (fkey (partingTrip s)) := by
  unfold partingTrip
  (repeat' split) <;> first | (with_reducible exact h) | (simp [fkey]; done) | (simp_all [fkey]; done)

@[simp] theorem inv_laneIn (level : Nat) (s : State) (h : fenceOk (fkey s)) : fenceOk (fkey (laneIn level s)) := by
  unfold laneIn
  dsimp only
  (repeat' split) <;> first | (with_reducible exact h) | (simp [fkey, h]; done) | (simp_all [fkey]; done)

@[simp] theorem inv_timeIn (lane : Nat) (level : Nat) (t1 : Int) (t2 : Int) (t3 : Int) (t4 : Int) (s : State) (h : fenceOk (fkey s)) : fenceOk (fkey (timeIn lane level t1 t2 t3 t4 s)) := by
  unfold timeIn
  dsimp only
  (repeat' split) <;> first | (with_reducible exact h) | (simp [fkey, h]; done) | (simp_all [fkey]; done)

@[simp] theorem inv_twinCandCheck (m : PeerState) (s : State) (h : fenceOk (fkey s)) : fenceOk (fkey (twinCandCheck m s)) := by
  unfold twinCandCheck
  (repeat' split) <;> first | (with_reducible exact h) | (simp [fkey]; done) | (simp_all [fkey]; done)

@[simp] theorem inv_stateIn (level : Nat) (m : PeerState) (s : State) (h : fenceOk (fkey s)) : fenceOk (fkey (stateIn level m s)) := by
  unfold stateIn
  (repeat' split) <;> first | (with_reducible exact h) | (simp [fkey]; done) | (simp_all [fkey]; done)

@[simp] theorem inv_mirrorIn (level : Nat) (m : MirrorMsg) (s : State) (h : fenceOk (fkey s)) : fenceOk (fkey (mirrorIn level m s)) := by
  unfold mirrorIn
  dsimp only
  (repeat' split) <;> first | (with_reducible exact h) | (simp [fkey, h]; done) | (simp_all [fkey]; done)

@[simp] theorem inv_relayIn (level : Nat) (m : RelayMsg) (s : State) (h : fenceOk (fkey s)) : fenceOk (fkey (relayIn level m s)) := by
  unfold relayIn
  dsimp only
  (repeat' split) <;> first | (with_reducible exact h) | (simp [fkey, h]; done) | (simp_all [fkey]; done)

@[simp] theorem inv_ledgerIn (level : Nat) (entry : Bytes) (s : State) (h : fenceOk (fkey s)) : fenceOk (fkey (ledgerIn level entry s)) := by
  unfold ledgerIn
  (repeat' split) <;> first | (with_reducible exact h) | (simp [fkey]; done) | (simp_all [fkey]; done)

@[simp] theorem inv_swapReqIn (level : Nat) (at_ : Nat) (s : State) (h : fenceOk (fkey s)) : fenceOk (fkey (swapReqIn level at_ s)) := by
  unfold swapReqIn
  (repeat' split) <;> first | (with_reducible exact h) | (simp [fkey]; done) | (simp_all [fkey]; done)

@[simp] theorem inv_swapAckIn (level : Nat) (at_ : Nat) (ok : Bool) (s : State) (h : fenceOk (fkey s)) : fenceOk (fkey (swapAckIn level at_ ok s)) := by
  simp only [swapAckIn]
  (repeat' split) <;> first | (with_reducible exact h) | (simp [fkey]; done) | (simp_all [fkey]; done)

@[simp] theorem inv_swapInstant (s : State) (h : fenceOk (fkey s)) : fenceOk (fkey (swapInstant s)) := by
  simp only [swapInstant]
  (repeat' split) <;> first | (with_reducible exact h) | (simp [fkey]; done) | (simp_all [fkey]; done)

@[simp] theorem inv_swapTimeout (s : State) (h : fenceOk (fkey s)) : fenceOk (fkey (swapTimeout s)) := by
  unfold swapTimeout
  (repeat' split) <;> first | (with_reducible exact h) | (simp [fkey]; done) | (simp_all [fkey]; done)

@[simp] theorem inv_resyncReqIn (level gen digest last : Nat) (s : State) (h : fenceOk (fkey s)) :
    fenceOk (fkey (resyncReqIn level gen digest last s)) := by
  unfold resyncReqIn
  split
  · exact h
  · extract_lets s1 s2 s3 es
    have h1 : fenceOk (fkey s1) := inv_laneIn _ _ h
    have h2 : fenceOk (fkey s2) := by
      simp only [s2]
      split
      · rw [key_sendImage]; exact h1
      · exact h1
    have h3 : fenceOk (fkey s3) := by
      simp only [s3]
      split
      · rw [key_sendImage]; exact h2
      · exact h2
    clear_value s1 s3
    split
    · exact h1
    · rw [key_sendEntries]; exact h3

@[simp] theorem inv_resyncDataIn (level : Nat) (d : ResyncBody) (s : State) (h : fenceOk (fkey s)) : fenceOk (fkey (resyncDataIn level d s)) := by
  unfold resyncDataIn
  (repeat' split) <;> first | (with_reducible exact h) | (simp [fkey]; done) | (simp_all [fkey]; done)

@[simp] theorem inv_resyncLive (s : State) (h : fenceOk (fkey s)) :
    fenceOk (fkey (resyncLive s)) := by
  simp only [resyncLive]
  (repeat' split) <;> first | (with_reducible exact h) | (simp [fkey]; done) | (simp_all [fkey]; done)

@[simp] theorem inv_applyForceSolo (c : Cmd) (s : State) (h : fenceOk (fkey s)) : fenceOk (fkey (applyForceSolo c s)) := by
  unfold applyForceSolo
  (repeat' split) <;> first | (with_reducible exact h) | (simp [fkey]; done) | (simp_all [fkey]; done)

@[simp] theorem inv_enumerate (f : RingFrame) (s : State) (h : fenceOk (fkey s)) :
    fenceOk (fkey (enumerate f s).1) := by
  unfold enumerate
  (repeat' split) <;> first | (with_reducible exact h) | (simp [fkey]; done) | (simp_all [fkey]; done)

@[simp] theorem inv_ringResetOwn (f : RingFrame) (s : State) (h : fenceOk (fkey s)) : fenceOk (fkey (ringResetOwn f s)) := by
  unfold ringResetOwn
  (repeat' split) <;> first | (with_reducible exact h) | (simp [fkey]; done) | (simp_all [fkey]; done)

@[simp] theorem inv_ringResetCast (f : RingFrame) (s : State) (h : fenceOk (fkey s)) : fenceOk (fkey (ringResetCast f s).1) := by
  unfold ringResetCast
  (repeat' split) <;> first | (with_reducible exact h) | (simp [fkey]; done) | (simp_all [fkey]; done)

@[simp] theorem inv_applyDirect (c : Cmd) (s : State) (h : fenceOk (fkey s)) : fenceOk (fkey (applyDirect c s)) := by
  unfold applyDirect
  split <;> first
    | with_reducible exact h
    | (refine inv_atFrame _ _ _ _ (fun t ht => ?_) h; simp [ht]; done)

@[simp] theorem inv_applyDirects (s : State) (h : fenceOk (fkey s)) : fenceOk (fkey (applyDirects s)) := by
  unfold applyDirects
  split
  · refine inv_foldl _ _ _ (fun t c ht => ?_) (by rw [key_stageHolds]; exact h)
    split
    · exact inv_applyDirect _ _ ht
    · exact ht
  · exact h

@[simp] theorem inv_boundaryActs (s : State) (h : fenceOk (fkey s)) :
    fenceOk (fkey (boundaryActs s)) := by
  unfold boundaryActs
  (repeat' split) <;> first | (with_reducible exact h) | (simp [fkey]; done) | (simp_all [fkey]; done)

@[simp] theorem inv_atBoundary (s : State) (h : fenceOk (fkey s)) : fenceOk (fkey (atBoundary s)) := by
  unfold atBoundary
  (repeat' split) <;> first | (with_reducible exact h) | (simp [fkey]; done) | (simp_all [fkey]; done)

@[simp] theorem inv_frameBoundary (inp : FrameInput) (s : State) (h : fenceOk (fkey s)) : fenceOk (fkey (frameBoundary inp s)) := by
  unfold frameBoundary
  (repeat' split) <;> first | (with_reducible exact h) | (simp [fkey]; done) | (simp_all [fkey]; done)

@[simp] theorem inv_planeRestart (s : State) (h : fenceOk (fkey s)) : fenceOk (fkey (planeRestart s)) := by
  unfold planeRestart
  (repeat' split) <;> first | (with_reducible exact h) | (simp [fkey]; done) | (simp_all [fkey]; done)

@[simp] theorem inv_idleStep (s : State) (h : fenceOk (fkey s)) : fenceOk (fkey (idleStep s)) := by simp [idleStep, h]

end Sys2Proof.Laws
end

