-- ==== Sys2Proof/Laws/Memory.lean ====
section
/-! SUPPORT. Laws of sparse tables and of the byte memory of the host window: read after write, and the canonical form. -/
namespace Sys2Proof.Laws
open Sys2Proof.Machine

section Tables
variable {α : Type}

@[simp] theorem tabGet_nil (d : α) (k : Nat) : tabGet d [] k = d := rfl

theorem tabGet_insert (d : α) (t : Tab α) (k : Nat) (v : α) (j : Nat) :
    tabGet d (tabInsert t k v) j = if j = k then v else tabGet d t j := by
  induction t with
  | nil => simp [tabInsert, tabGet]
  | cons e t ih =>
    obtain ⟨i, w⟩ := e
    simp only [tabInsert]
    split
    · next h => subst h; simp only [tabGet]; split <;> rfl
    · split
      · simp only [tabGet]
      · simp only [tabGet, ih]
        split <;> split <;> first | rfl | (subst_vars; contradiction)

variable [DecidableEq α]

/-- A canonical table whose keys start at `lo` lists nothing below `lo`. -/
theorem tabGet_below (d : α) (t : Tab α) : ∀ lo k, tabWfFrom d lo t = true → k < lo → tabGet d t k = d := by
  induction t with
  | nil => intros; rfl
  | cons e t ih =>
    obtain ⟨i, w⟩ := e
    intro lo k h hk
    simp only [tabWfFrom, Bool.and_eq_true, decide_eq_true_eq] at h
    have hne : k ≠ i := by omega
    simp only [tabGet, hne, if_false]
    exact ih (i + 1) k h.2 (by omega)

theorem tabWfFrom_mono (d : α) (t : Tab α) : ∀ lo lo', lo' ≤ lo → tabWfFrom d lo t = true → tabWfFrom d lo' t = true := by
  cases t with
  | nil => intros; rfl
  | cons e t =>
    obtain ⟨i, w⟩ := e
    intro lo lo' hl h
    simp only [tabWfFrom, Bool.and_eq_true, decide_eq_true_eq] at h ⊢
    exact ⟨⟨by omega, h.1.2⟩, h.2⟩

theorem tabGet_erase (d : α) (t : Tab α) :
    ∀ lo k j, tabWfFrom d lo t = true → tabGet d (tabErase t k) j = if j = k then d else tabGet d t j := by
  induction t with
  | nil => intro lo k j _; simp [tabErase, tabGet]
  | cons e t ih =>
    obtain ⟨i, w⟩ := e
    intro lo k j h
    have h2 := h
    simp only [tabWfFrom, Bool.and_eq_true, decide_eq_true_eq] at h2
    simp only [tabErase]
    split
    · next hk =>
      subst hk
      split
      · next hj => subst hj; exact tabGet_below d t (j + 1) j h2.2 (by omega)
      · next hj => simp [tabGet, hj]
    · split
      · next hlt =>
        split
        · next hj => subst hj; exact tabGet_below d ((i, w) :: t) i j (by simp [tabWfFrom, h2.1.2, h2.2]) hlt
        · rfl
      · next hk hlt =>
        simp only [tabGet, ih (i + 1) k j h2.2]
        by_cases hj : j = i
        · simp [hj]; omega
        · simp [hj]

theorem tabWf_insert (d : α) (t : Tab α) :
    ∀ lo k v, lo ≤ k → v ≠ d → tabWfFrom d lo t = true → tabWfFrom d lo (tabInsert t k v) = true := by
  induction t with
  | nil => intro lo k v hk hv _; simp [tabInsert, tabWfFrom, hk, hv]
  | cons e t ih =>
    obtain ⟨i, w⟩ := e
    intro lo k v hk hv h
    simp only [tabWfFrom, Bool.and_eq_true, decide_eq_true_eq] at h
    simp only [tabInsert]
    split
    · next e => subst e; simp [tabWfFrom, hk, hv, h.2]
    · split
      · next hlt => simp only [tabWfFrom, Bool.and_eq_true, decide_eq_true_eq]; exact ⟨⟨hk, hv⟩, ⟨by omega, h.1.2⟩, h.2⟩
      · simp only [tabWfFrom, Bool.and_eq_true, decide_eq_true_eq]
        exact ⟨h.1, ih (i + 1) k v (by omega) hv h.2⟩

theorem tabWf_erase (d : α) (t : Tab α) : ∀ lo k, tabWfFrom d lo t = true → tabWfFrom d lo (tabErase t k) = true := by
  induction t with
  | nil => intros; rfl
  | cons e t ih =>
    obtain ⟨i, w⟩ := e
    intro lo k h
    have h2 := h
    simp only [tabWfFrom, Bool.and_eq_true, decide_eq_true_eq] at h2
    simp only [tabErase]
    split
    · exact tabWfFrom_mono d t (i + 1) lo (by omega) h2.2
    · split
      · exact h
      · simp only [tabWfFrom, Bool.and_eq_true, decide_eq_true_eq]; exact ⟨h2.1, ih (i + 1) k h2.2⟩

/-- Every write keeps the canonical form. -/
theorem tabWf_set (d : α) (t : Tab α) (k : Nat) (v : α) (h : tabWf d t = true) : tabWf d (tabSet d t k v) = true := by
  unfold tabSet
  split
  · exact tabWf_erase d t 0 k h
  · next hv => exact tabWf_insert d t 0 k v (Nat.zero_le k) hv h

/-- Read after write: the key written reads the value, every other key reads as before. -/
theorem tabGet_set (d : α) (t : Tab α) (k : Nat) (v : α) (j : Nat) (h : tabWf d t = true) :
    tabGet d (tabSet d t k v) j = if j = k then v else tabGet d t j := by
  unfold tabSet
  split
  · next hv => subst hv; exact tabGet_erase v t 0 k j h
  · exact tabGet_insert d t k v j

theorem tabWf_setList (d : α) (vs : List α) : ∀ (t : Tab α) (k : Nat), tabWf d t = true → tabWf d (tabSetList d t k vs) = true := by
  induction vs with
  | nil => intro t k h; exact h
  | cons v vs ih => intro t k h; exact ih _ _ (tabWf_set d t k v h)

/-- A run of writes leaves every key outside the run as it was. -/
theorem tabGet_setList_other (d : α) (vs : List α) : ∀ (t : Tab α) (k j : Nat), tabWf d t = true →
    (j < k ∨ k + vs.length ≤ j) → tabGet d (tabSetList d t k vs) j = tabGet d t j := by
  induction vs with
  | nil => intros; rfl
  | cons v vs ih =>
    intro t k j h hj
    simp only [List.length_cons] at hj
    have hne : j ≠ k := by omega
    rw [tabSetList, ih _ _ _ (tabWf_set d t k v h) (by omega), tabGet_set d t k v j h, if_neg hne]

/-- A run of writes reads back. -/
theorem tabGet_setList (d : α) (vs : List α) : ∀ (t : Tab α) (k i : Nat), tabWf d t = true → i < vs.length →
    tabGet d (tabSetList d t k vs) (k + i) = nth d vs i := by
  induction vs with
  | nil => intro t k i _ hi; exact absurd hi (by simp)
  | cons v vs ih =>
    intro t k i h hi
    have hw := tabWf_set d t k v h
    cases i with
    | zero =>
      rw [tabSetList, tabGet_setList_other d vs _ _ _ hw (by omega), tabGet_set d t k v _ h]
      simp [nth]
    | succ i =>
      have he : k + (i + 1) = k + 1 + i := by omega
      rw [tabSetList, he, ih _ _ _ hw (by simpa using hi)]
      rfl

theorem tabWf_filter (d : α) (p : Nat × α → Bool) (t : Tab α) :
    ∀ lo, tabWfFrom d lo t = true → tabWfFrom d lo (t.filter p) = true := by
  induction t with
  | nil => intros; rfl
  | cons e t ih =>
    obtain ⟨i, w⟩ := e
    intro lo h
    simp only [tabWfFrom, Bool.and_eq_true, decide_eq_true_eq] at h
    simp only [List.filter_cons]
    split
    · simp only [tabWfFrom, Bool.and_eq_true, decide_eq_true_eq]; exact ⟨h.1, ih (i + 1) h.2⟩
    · exact tabWfFrom_mono d _ (i + 1) lo (by omega) (ih (i + 1) h.2)

end Tables

/-! ### The byte memory -/

theorem memWf_reset : memWf State.reset := rfl

theorem memWf_memWrite (a : Nat) (b : Byte) (s : State) (h : memWf s) : memWf (memWrite a b s) := tabWf_set 0 s.mem a b h

theorem memWf_memWriteList (a : Nat) (bs : Bytes) (s : State) (h : memWf s) : memWf (memWriteList a bs s) :=
  tabWf_setList 0 bs s.mem a h

theorem memWf_filter (p : Nat × Byte → Bool) (s : State) (h : memWf s) : memWf { s with mem := s.mem.filter p } :=
  tabWf_filter 0 p s.mem 0 h

theorem memRead_memWrite (a j : Nat) (b : Byte) (s : State) (h : memWf s) :
    memRead (memWrite a b s) j = if j = a then b else memRead s j := tabGet_set 0 s.mem a b j h

theorem memRead_memWriteList (a i : Nat) (bs : Bytes) (s : State) (h : memWf s) (hi : i < bs.length) :
    memRead (memWriteList a bs s) (a + i) = nth 0 bs i := tabGet_setList 0 bs s.mem a i h hi

theorem memRead_memWriteList_other (a j : Nat) (bs : Bytes) (s : State) (h : memWf s) (hj : j < a ∨ a + bs.length ≤ j) :
    memRead (memWriteList a bs s) j = memRead s j := tabGet_setList_other 0 bs s.mem a j h hj

/-- A host write keeps the canonical form. -/
theorem memWf_winWrite (bs : Bytes) : ∀ (a : Nat) (s : State), memWf s → memWf (winWrite a bs s) := by
  induction bs with
  | nil => intro a s h; exact h
  | cons b bs ih =>
    intro a s h
    rw [winWrite]
    split
    · exact ih _ _ (memWf_memWrite a b s h)
    · exact ih _ _ h

end Sys2Proof.Laws
end

