-- ==== Sys2Proof/Laws/Respond.lean ====
section
/-! SUPPORT. The operations that answer, accept, stage and log: what they leave alone (`State.plant`). -/
namespace Sys2Proof.Laws
open Sys2Proof.Machine

@[simp] theorem plant_upd (x : State) (i : IgState) (m : MbState) (l : LgState) (c : List Host.Cell) :
    ({ x with ig := i, mb := m, lg := l, mem := c } : State).plant = x.plant := rfl

@[simp] theorem plant_ite (c : Prop) [Decidable c] (a b : State) : (if c then a else b).plant = if c then a.plant else b.plant := by
  split <;> rfl

@[simp] theorem plant_foldl {α : Type} (f : State → α → State) (l : List α) (s : State) (h : ∀ t a, (f t a).plant = t.plant) :
    (l.foldl f s).plant = s.plant := by
  induction l generalizing s with
  | nil => rfl
  | cons a l ih => rw [List.foldl_cons, ih, h]

@[simp] theorem plant_raiseIrq (b : Nat) (s : State) : (raiseIrq b s).plant = s.plant := by
  unfold raiseIrq
  (repeat' split) <;> first | (with_reducible rfl) | (simp; done)

@[simp] theorem plant_raiseAlarm (blk : Nat) (s : State) : (raiseAlarm blk s).plant = s.plant := by
  unfold raiseAlarm
  (repeat' split) <;> first | (with_reducible rfl) | (simp; done)

@[simp] theorem plant_lgOwn (e : LgEntry) (s : State) : (lgOwn e s).plant = s.plant := by
  unfold lgOwn
  (repeat' split) <;> first | (with_reducible rfl) | (simp; done)

@[simp] theorem plant_lgLastPlace (s : State) : (lgLastPlace s).plant = s.plant := by
  unfold lgLastPlace
  (repeat' split) <;> first | (with_reducible rfl) | (simp; done)

@[simp] theorem plant_lgPut (e : LgEntry) (s : State) : (lgPut e s).plant = s.plant := by
  unfold lgPut
  (repeat' split) <;> first | (with_reducible rfl) | (simp; done)

@[simp] theorem plant_lgPutMirror (e : LgEntry) (s : State) : (lgPutMirror e s).plant = s.plant := by
  unfold lgPutMirror
  (repeat' split) <;> first | (with_reducible rfl) | (simp; done)

@[simp] theorem plant_lgEvent (code : Nat) (digest : Nat) (s : State) : (lgEvent code digest s).plant = s.plant := by
  unfold lgEvent
  (repeat' split) <;> first | (with_reducible rfl) | (simp; done)

@[simp] theorem plant_lgCloseAll (s : State) : (lgCloseAll s).plant = s.plant := by
  unfold lgCloseAll
  (repeat' split) <;> first | (with_reducible rfl) | (simp; done)

@[simp] theorem plant_lgDirect (e : LgEntry) (key : Bytes) (s : State) : (lgDirect e key s).plant = s.plant := by
  unfold lgDirect
  (repeat' split) <;> first | (with_reducible rfl) | (simp; done)

@[simp] theorem plant_lgCommand (c : Cmd) (status : Nat) (s : State) : (lgCommand c status s).plant = s.plant := by
  unfold lgCommand
  (repeat' split) <;> first | (with_reducible rfl) | (simp; done)

@[simp] theorem plant_ringSend (answers : Nat) (typ : Nat) (payload : Bytes) (s : State) : (ringSend answers typ payload s).plant = s.plant := by
  unfold ringSend
  (repeat' split) <;> first | (with_reducible rfl) | (simp; done)

@[simp] theorem plant_memWrite (a : Nat) (b : Byte) (s : State) : (memWrite a b s).plant = s.plant := by
  unfold memWrite
  (repeat' split) <;> first | (with_reducible rfl) | (simp; done)

@[simp] theorem plant_memWriteList (a : Nat) (bs : Bytes) (s : State) : (memWriteList a bs s).plant = s.plant := by
  unfold memWriteList
  (repeat' split) <;> first | (with_reducible rfl) | (simp; done)

@[simp] theorem plant_rspWrite (slot : Bytes) (s : State) : (rspWrite slot s).plant = s.plant := by
  unfold rspWrite
  (repeat' split) <;> first | (with_reducible rfl) | (simp; done)

@[simp] theorem plant_rspHost (slot : Bytes) (s : State) : (rspHost slot s).plant = s.plant := by
  unfold rspHost
  (repeat' split) <;> first | (with_reducible rfl) | (simp; done)

@[simp] theorem plant_rspSend (c : Cmd) (slot : Bytes) (s : State) : (rspSend c slot s).plant = s.plant := by
  unfold rspSend
  (repeat' split) <;> first | (with_reducible rfl) | (simp; done)

@[simp] theorem plant_dropCmd (n : Nat) (s : State) : (dropCmd n s).plant = s.plant := by
  unfold dropCmd
  (repeat' split) <;> first | (with_reducible rfl) | (simp; done)

@[simp] theorem plant_setPhase (n : Nat) (ph : CmdPhase) (s : State) : (setPhase n ph s).plant = s.plant := by
  unfold setPhase
  (repeat' split) <;> first | (with_reducible rfl) | (simp; done)

@[simp] theorem plant_respondFinal (c : Cmd) (status : Nat) (res : Bytes) (s : State) : (respondFinal c status res s).plant = s.plant := by
  unfold respondFinal
  (repeat' split) <;> first | (with_reducible rfl) | (simp; done)

@[simp] theorem plant_settleDrains : ∀ (n : Nat) (s : State), (settleDrains n s).plant = s.plant
  | 0, _ => rfl
  | n + 1, s => by
    unfold settleDrains
    split
    · rfl
    · rw [plant_settleDrains n]; exact plant_respondFinal _ _ _ _

@[simp] theorem plant_respond (c : Cmd) (status : Nat) (res : Bytes) (s : State) : (respond c status res s).plant = s.plant := by
  unfold respond
  (repeat' split) <;> first | (with_reducible rfl) | (simp; done)

@[simp] theorem plant_respondTo (n : Nat) (status : Nat) (res : Bytes) (s : State) : (respondTo n status res s).plant = s.plant := by
  unfold respondTo
  (repeat' split) <;> first | (with_reducible rfl) | (simp; done)

@[simp] theorem plant_respondMid (c : Cmd) (status : Nat) (res : Bytes) (s : State) : (respondMid c status res s).plant = s.plant := by
  unfold respondMid
  (repeat' split) <;> first | (with_reducible rfl) | (simp; done)

@[simp] theorem plant_respondAll (ns : List Nat) (status : Nat) (res : Bytes) (s : State) : (respondAll ns status res s).plant = s.plant := by
  unfold respondAll
  (repeat' split) <;> first | (with_reducible rfl) | (simp; done)

/-- A command that acts when it starts leaves the plant alone when its own effect does. -/
theorem plant_startNow (k : OrdClass) (op : Nat) (run : Cmd → State → State) (s : State)
    (g : ∀ c t, (run c t).plant = t.plant) : (startNow k op run s).plant = s.plant := by
  unfold startNow
  (repeat' split) <;> first | rfl | exact g _ _ | (simp; done)

@[simp] theorem plant_startStatus (k : OrdClass) (op : Nat) (ok : Bytes → Bool) (result : Bytes → State → Bytes) (s : State) :
    (startStatus k op ok result s).plant = s.plant :=
  plant_startNow _ _ _ _ fun c t => by split <;> simp

@[simp] theorem plant_startDirect (k : OrdClass) (op : Nat) (check : Bytes → State → Option Nat) (s : State) :
    (startDirect k op check s).plant = s.plant :=
  plant_startNow _ _ _ _ fun c t => by split <;> simp

@[simp] theorem plant_stageRec (r : Rec) (s : State) : (stageRec r s).plant = s.plant := by
  unfold stageRec
  (repeat' split) <;> first | (with_reducible rfl) | (simp; done)

@[simp] theorem plant_runStaged (ok : Bytes → Bool) (c : Cmd) (s : State) : (runStaged ok c s).plant = s.plant := by
  unfold runStaged
  (repeat' split) <;> first | (with_reducible rfl) | (simp; done)

@[simp] theorem plant_startStaged (k : OrdClass) (op : Nat) (ok : Bytes → Bool) (s : State) : (startStaged k op ok s).plant = s.plant := by
  unfold startStaged
  (repeat' split) <;> first | (with_reducible rfl) | (simp; done)

@[simp] theorem plant_noteDirect (c : Cmd) (s : State) : (noteDirect c s).plant = s.plant := by
  unfold noteDirect
  (repeat' split) <;> first | (with_reducible rfl) | (simp; done)

@[simp] theorem plant_safeAnswers (s : State) : (safeAnswers s).plant = s.plant := by
  unfold safeAnswers
  (repeat' split) <;> first | (with_reducible rfl) | (simp; done)

@[simp] theorem plant_runAdResult (c : Cmd) (s : State) : (runAdResult c s).plant = s.plant := by
  unfold runAdResult
  (repeat' split) <;> first | (with_reducible rfl) | (simp; done)

@[simp] theorem plant_applyDaHold (c : Cmd) (s : State) : (applyDaHold c s).plant = s.plant := by
  unfold applyDaHold
  (repeat' split) <;> first | (with_reducible rfl) | (simp; done)

@[simp] theorem plant_applySfpRead (c : Cmd) (s : State) : (applySfpRead c s).plant = s.plant := by
  unfold applySfpRead
  (repeat' split) <;> first | (with_reducible rfl) | (simp; done)

@[simp] theorem plant_enAnswer (c : Cmd) (a : Nat) (s : State) : (enAnswer c a s).plant = s.plant := by
  unfold enAnswer
  (repeat' split) <;> first | (with_reducible rfl) | (simp; done)

@[simp] theorem plant_setSeq (origin : Nat) (n : Nat) (s : State) : (setSeq origin n s).plant = s.plant := by
  unfold setSeq
  (repeat' split) <;> first | (with_reducible rfl) | (simp; done)

@[simp] theorem plant_respondDup (c : Cmd) (s : State) : (respondDup c s).plant = s.plant := by
  unfold respondDup
  (repeat' split) <;> first | (with_reducible rfl) | (simp; done)

@[simp] theorem plant_releaseHeld : ∀ (n : Nat) (s : State), (releaseHeld n s).plant = s.plant
  | 0, _ => rfl
  | n + 1, s => by
    unfold releaseHeld
    (repeat' split) <;> first | rfl | (rw [plant_releaseHeld n]; simp)

@[simp] theorem plant_winWrite : ∀ (n : Nat) (bs : Bytes) (s : State), (winWrite n bs s).plant = s.plant
  | _, [], _ => by simp [winWrite]
  | a, b :: bs, s => by
    rw [winWrite, plant_winWrite]
    split
    · exact plant_memWrite a b s
    · rfl

@[simp] theorem plant_resetDone (s : State) : (resetDone s).plant = s.plant := by
  unfold resetDone
  (repeat' split) <;> first | (with_reducible rfl) | (simp; done)

@[simp] theorem plant_closeStaging (s : State) : (closeStaging s).plant = s.plant := by
  unfold closeStaging
  (repeat' split) <;> first | (with_reducible rfl) | (simp; done)

@[simp] theorem plant_acceptCommit (c : Cmd) (st : Staging) (t : Tables) (b : Nat) (s : State) : (acceptCommit c st t b s).plant = s.plant := by
  unfold acceptCommit
  (repeat' split) <;> first | (with_reducible rfl) | (simp; done)

@[simp] theorem plant_cancelPend (s : State) : (cancelPend s).plant = s.plant := by
  unfold cancelPend
  (repeat' split) <;> first | (with_reducible rfl) | (simp; done)

@[simp] theorem plant_runCancel (c : Cmd) (s : State) : (runCancel c s).plant = s.plant := by
  unfold runCancel
  (repeat' split) <;> first | (with_reducible rfl) | (simp; done)

@[simp] theorem plant_runStageBegin (c : Cmd) (s : State) : (runStageBegin c s).plant = s.plant := by
  unfold runStageBegin
  (repeat' split) <;> first | (with_reducible rfl) | (simp; done)

@[simp] theorem plant_imageEnd (c : Cmd) (img : Bytes) (s : State) : (imageEnd c img s).plant = s.plant := by
  simp only [imageEnd]
  (repeat' split) <;> first | (with_reducible rfl) | (simp; done) | (simp_all; done)

@[simp] theorem plant_runImageLoad (c : Cmd) (s : State) : (runImageLoad c s).plant = s.plant := by
  simp only [runImageLoad]
  (repeat' split) <;> first | (with_reducible rfl) | (simp; done) | (simp_all; done)

@[simp] theorem plant_lgCloseDue (s : State) : (lgCloseDue s).plant = s.plant := by
  unfold lgCloseDue
  (repeat' split) <;> first | (with_reducible rfl) | (simp; done)

@[simp] theorem plant_lgEraseTo (n : Nat) (s : State) : (lgEraseTo n s).plant = s.plant := by
  unfold lgEraseTo
  (repeat' split) <;> first | (with_reducible rfl) | (simp; done)

@[simp] theorem plant_lgWrap (s : State) : (lgWrap s).plant = s.plant := by
  unfold lgWrap
  (repeat' split) <;> first | (with_reducible rfl) | (simp; done)

@[simp] theorem plant_lgFlushStep (s : State) : (lgFlushStep s).plant = s.plant := by
  unfold lgFlushStep
  (repeat' split) <;> first | (with_reducible rfl) | (simp; done)

@[simp] theorem plant_lgAlarm (s : State) : (lgAlarm s).plant = s.plant := by
  unfold lgAlarm
  (repeat' split) <;> first | (with_reducible rfl) | (simp; done)

@[simp] theorem plant_lgFullEvent (was : Bool) (s : State) : (lgFullEvent was s).plant = s.plant := by
  unfold lgFullEvent
  (repeat' split) <;> first | (with_reducible rfl) | (simp; done)

@[simp] theorem plant_lgErase (s : State) : (lgErase s).plant = s.plant := by
  unfold lgErase
  (repeat' split) <;> first | (with_reducible rfl) | (simp; done)

@[simp] theorem plant_runLgExport (c : Cmd) (s : State) : (runLgExport c s).plant = s.plant := by
  unfold runLgExport
  (repeat' split) <;> first | (with_reducible rfl) | (simp; done)

@[simp] theorem plant_runLgFlush (c : Cmd) (s : State) : (runLgFlush c s).plant = s.plant := by
  unfold runLgFlush
  (repeat' split) <;> first | (with_reducible rfl) | (simp; done)

@[simp] theorem plant_modIg (f : IgState → IgState) (s : State) : (modIg f s).plant = s.plant := by
  unfold modIg
  (repeat' split) <;> first | (with_reducible rfl) | (simp; done)

@[simp] theorem plant_ringNak (reason : Nat) (tag : Nat) (typ : Nat) (s : State) : (ringNak reason tag typ s).plant = s.plant := by
  unfold ringNak
  (repeat' split) <;> first | (with_reducible rfl) | (simp; done)

@[simp] theorem plant_ringCrcErr (s : State) : (ringCrcErr s).plant = s.plant := by
  unfold ringCrcErr
  (repeat' split) <;> first | (with_reducible rfl) | (simp; done)

@[simp] theorem plant_castRefused (tag : Nat) (f : RingFrame) (s : State) : (castRefused tag f s).1.plant = s.plant := by
  unfold castRefused
  (repeat' split) <;> first | (with_reducible rfl) | (simp; done)

@[simp] theorem plant_ringResetRun (f : RingFrame) (s : State) : (ringResetRun f s).1.plant = s.plant := by
  unfold ringResetRun
  (repeat' split) <;> first | (with_reducible rfl) | (simp; done)

@[simp] theorem plant_ringResetOver (s : State) : (ringResetOver s).plant = s.plant := by
  unfold ringResetOver
  (repeat' split) <;> first | (with_reducible rfl) | (simp; done)

@[simp] theorem plant_ringJoinSend (s : State) : (ringJoinSend s).plant = s.plant := by
  unfold ringJoinSend
  (repeat' split) <;> first | (with_reducible rfl) | (simp; done)

@[simp] theorem plant_ringRead (f : RingFrame) (s : State) : (ringRead f s).plant = s.plant := by
  unfold ringRead
  (repeat' split) <;> first | (with_reducible rfl) | (simp; done)

@[simp] theorem plant_ringWrite (f : RingFrame) (s : State) : (ringWrite f s).plant = s.plant := by
  unfold ringWrite
  (repeat' split) <;> first | (with_reducible rfl) | (simp; done)

@[simp] theorem plant_ringEventSend (s : State) : (ringEventSend s).plant = s.plant := by
  unfold ringEventSend
  (repeat' split) <;> first | (with_reducible rfl) | (simp; done)

@[simp] theorem plant_breakSend (s : State) : (breakSend s).plant = s.plant := by
  unfold breakSend
  (repeat' split) <;> first | (with_reducible rfl) | (simp; done)

@[simp] theorem plant_inDown (s : State) : (inDown s).plant = s.plant := by
  unfold inDown
  (repeat' split) <;> first | (with_reducible rfl) | (simp; done)

@[simp] theorem plant_inUpNow (s : State) : (inUpNow s).plant = s.plant := by
  unfold inUpNow
  (repeat' split) <;> first | (with_reducible rfl) | (simp; done)

@[simp] theorem plant_breakAgain (s : State) : (breakAgain s).plant = s.plant := by
  unfold breakAgain
  (repeat' split) <;> first | (with_reducible rfl) | (simp; done)

@[simp] theorem plant_noBarrier (s : State) : (noBarrier s).plant = s.plant := by
  unfold noBarrier
  (repeat' split) <;> first | (with_reducible rfl) | (simp; done)

@[simp] theorem plant_snapshotRow (f : RingFrame) (s : State) : (snapshotRow f s).1.plant = s.plant := by
  unfold snapshotRow
  (repeat' split) <;> first | (with_reducible rfl) | (simp; done)

@[simp] theorem plant_capture (s : State) : (capture s).plant = s.plant := by
  unfold capture
  (repeat' split) <;> first | (with_reducible rfl) | (simp; done)

@[simp] theorem plant_applyEvtSet (c : Cmd) (s : State) : (applyEvtSet c s).plant = s.plant := by
  unfold applyEvtSet
  (repeat' split) <;> first | (with_reducible rfl) | (simp; done)

@[simp] theorem plant_applyDelaySet (c : Cmd) (s : State) : (applyDelaySet c s).plant = s.plant := by
  unfold applyDelaySet
  (repeat' split) <;> first | (with_reducible rfl) | (simp; done)

end Sys2Proof.Laws
end

