-- ==== Sys2Proof/Laws/State.lean ====
section
/-! SUPPORT. The updates of the state: one lemma for each field that an update leaves alone, so that no proof unfolds one. -/
namespace Sys2Proof.Laws
open Sys2Proof.Machine

/-! ### `memWrite` -/

@[simp] theorem memWrite_pw (a : Nat) (b : Byte) (s : State) : (memWrite a b s).pw = s.pw := rfl
@[simp] theorem memWrite_mode (a : Nat) (b : Byte) (s : State) : (memWrite a b s).mode = s.mode := rfl
@[simp] theorem memWrite_role (a : Nat) (b : Byte) (s : State) : (memWrite a b s).role = s.role := rfl
@[simp] theorem memWrite_acquireFenced (a : Nat) (b : Byte) (s : State) : (memWrite a b s).acquireFenced = s.acquireFenced := rfl
@[simp] theorem memWrite_fenceOpen (a : Nat) (b : Byte) (s : State) : (memWrite a b s).fenceOpen = s.fenceOpen := rfl
@[simp] theorem memWrite_firstLive (a : Nat) (b : Byte) (s : State) : (memWrite a b s).firstLive = s.firstLive := rfl
@[simp] theorem memWrite_safeCause (a : Nat) (b : Byte) (s : State) : (memWrite a b s).safeCause = s.safeCause := rfl
@[simp] theorem memWrite_faultCount (a : Nat) (b : Byte) (s : State) : (memWrite a b s).faultCount = s.faultCount := rfl
@[simp] theorem memWrite_spindle (a : Nat) (b : Byte) (s : State) : (memWrite a b s).spindle = s.spindle := rfl
@[simp] theorem memWrite_timeValid (a : Nat) (b : Byte) (s : State) : (memWrite a b s).timeValid = s.timeValid := rfl
@[simp] theorem memWrite_clock (a : Nat) (b : Byte) (s : State) : (memWrite a b s).clock = s.clock := rfl
@[simp] theorem memWrite_dataPlane (a : Nat) (b : Byte) (s : State) : (memWrite a b s).dataPlane = s.dataPlane := rfl
@[simp] theorem memWrite_live (a : Nat) (b : Byte) (s : State) : (memWrite a b s).live = s.live := rfl
@[simp] theorem memWrite_hs (a : Nat) (b : Byte) (s : State) : (memWrite a b s).hs = s.hs := rfl
@[simp] theorem memWrite_tk (a : Nat) (b : Byte) (s : State) : (memWrite a b s).tk = s.tk := rfl
@[simp] theorem memWrite_dg (a : Nat) (b : Byte) (s : State) : (memWrite a b s).dg = s.dg := rfl
@[simp] theorem memWrite_ad (a : Nat) (b : Byte) (s : State) : (memWrite a b s).ad = s.ad := rfl
@[simp] theorem memWrite_da (a : Nat) (b : Byte) (s : State) : (memWrite a b s).da = s.da := rfl
@[simp] theorem memWrite_ps (a : Nat) (b : Byte) (s : State) : (memWrite a b s).ps = s.ps := rfl
@[simp] theorem memWrite_xb (a : Nat) (b : Byte) (s : State) : (memWrite a b s).xb = s.xb := rfl
@[simp] theorem memWrite_fp (a : Nat) (b : Byte) (s : State) : (memWrite a b s).fp = s.fp := rfl
@[simp] theorem memWrite_sn (a : Nat) (b : Byte) (s : State) : (memWrite a b s).sn = s.sn := rfl
@[simp] theorem memWrite_nw (a : Nat) (b : Byte) (s : State) : (memWrite a b s).nw = s.nw := rfl
@[simp] theorem memWrite_tw (a : Nat) (b : Byte) (s : State) : (memWrite a b s).tw = s.tw := rfl
@[simp] theorem memWrite_ig (a : Nat) (b : Byte) (s : State) : (memWrite a b s).ig = s.ig := rfl
@[simp] theorem memWrite_mb (a : Nat) (b : Byte) (s : State) : (memWrite a b s).mb = s.mb := rfl
@[simp] theorem memWrite_pt (a : Nat) (b : Byte) (s : State) : (memWrite a b s).pt = s.pt := rfl
@[simp] theorem memWrite_lg (a : Nat) (b : Byte) (s : State) : (memWrite a b s).lg = s.lg := rfl
@[simp] theorem memWrite_freeCount (a : Nat) (b : Byte) (s : State) : (memWrite a b s).freeCount = s.freeCount := rfl
@[simp] theorem memWrite_out (a : Nat) (b : Byte) (s : State) : (memWrite a b s).out = s.out := rfl
@[simp] theorem memWrite_pending (a : Nat) (b : Byte) (s : State) : (memWrite a b s).pending = s.pending := rfl

/-! ### `memWriteList` -/

@[simp] theorem memWriteList_pw (a : Nat) (bs : Bytes) (s : State) : (memWriteList a bs s).pw = s.pw := rfl
@[simp] theorem memWriteList_mode (a : Nat) (bs : Bytes) (s : State) : (memWriteList a bs s).mode = s.mode := rfl
@[simp] theorem memWriteList_role (a : Nat) (bs : Bytes) (s : State) : (memWriteList a bs s).role = s.role := rfl
@[simp] theorem memWriteList_acquireFenced (a : Nat) (bs : Bytes) (s : State) : (memWriteList a bs s).acquireFenced = s.acquireFenced := rfl
@[simp] theorem memWriteList_fenceOpen (a : Nat) (bs : Bytes) (s : State) : (memWriteList a bs s).fenceOpen = s.fenceOpen := rfl
@[simp] theorem memWriteList_firstLive (a : Nat) (bs : Bytes) (s : State) : (memWriteList a bs s).firstLive = s.firstLive := rfl
@[simp] theorem memWriteList_safeCause (a : Nat) (bs : Bytes) (s : State) : (memWriteList a bs s).safeCause = s.safeCause := rfl
@[simp] theorem memWriteList_faultCount (a : Nat) (bs : Bytes) (s : State) : (memWriteList a bs s).faultCount = s.faultCount := rfl
@[simp] theorem memWriteList_spindle (a : Nat) (bs : Bytes) (s : State) : (memWriteList a bs s).spindle = s.spindle := rfl
@[simp] theorem memWriteList_timeValid (a : Nat) (bs : Bytes) (s : State) : (memWriteList a bs s).timeValid = s.timeValid := rfl
@[simp] theorem memWriteList_clock (a : Nat) (bs : Bytes) (s : State) : (memWriteList a bs s).clock = s.clock := rfl
@[simp] theorem memWriteList_dataPlane (a : Nat) (bs : Bytes) (s : State) : (memWriteList a bs s).dataPlane = s.dataPlane := rfl
@[simp] theorem memWriteList_live (a : Nat) (bs : Bytes) (s : State) : (memWriteList a bs s).live = s.live := rfl
@[simp] theorem memWriteList_hs (a : Nat) (bs : Bytes) (s : State) : (memWriteList a bs s).hs = s.hs := rfl
@[simp] theorem memWriteList_tk (a : Nat) (bs : Bytes) (s : State) : (memWriteList a bs s).tk = s.tk := rfl
@[simp] theorem memWriteList_dg (a : Nat) (bs : Bytes) (s : State) : (memWriteList a bs s).dg = s.dg := rfl
@[simp] theorem memWriteList_ad (a : Nat) (bs : Bytes) (s : State) : (memWriteList a bs s).ad = s.ad := rfl
@[simp] theorem memWriteList_da (a : Nat) (bs : Bytes) (s : State) : (memWriteList a bs s).da = s.da := rfl
@[simp] theorem memWriteList_ps (a : Nat) (bs : Bytes) (s : State) : (memWriteList a bs s).ps = s.ps := rfl
@[simp] theorem memWriteList_xb (a : Nat) (bs : Bytes) (s : State) : (memWriteList a bs s).xb = s.xb := rfl
@[simp] theorem memWriteList_fp (a : Nat) (bs : Bytes) (s : State) : (memWriteList a bs s).fp = s.fp := rfl
@[simp] theorem memWriteList_sn (a : Nat) (bs : Bytes) (s : State) : (memWriteList a bs s).sn = s.sn := rfl
@[simp] theorem memWriteList_nw (a : Nat) (bs : Bytes) (s : State) : (memWriteList a bs s).nw = s.nw := rfl
@[simp] theorem memWriteList_tw (a : Nat) (bs : Bytes) (s : State) : (memWriteList a bs s).tw = s.tw := rfl
@[simp] theorem memWriteList_ig (a : Nat) (bs : Bytes) (s : State) : (memWriteList a bs s).ig = s.ig := rfl
@[simp] theorem memWriteList_mb (a : Nat) (bs : Bytes) (s : State) : (memWriteList a bs s).mb = s.mb := rfl
@[simp] theorem memWriteList_pt (a : Nat) (bs : Bytes) (s : State) : (memWriteList a bs s).pt = s.pt := rfl
@[simp] theorem memWriteList_lg (a : Nat) (bs : Bytes) (s : State) : (memWriteList a bs s).lg = s.lg := rfl
@[simp] theorem memWriteList_freeCount (a : Nat) (bs : Bytes) (s : State) : (memWriteList a bs s).freeCount = s.freeCount := rfl
@[simp] theorem memWriteList_out (a : Nat) (bs : Bytes) (s : State) : (memWriteList a bs s).out = s.out := rfl
@[simp] theorem memWriteList_pending (a : Nat) (bs : Bytes) (s : State) : (memWriteList a bs s).pending = s.pending := rfl

/-! ### `dropCmd` -/

@[simp] theorem dropCmd_pw (n : Nat) (s : State) : (dropCmd n s).pw = s.pw := rfl
@[simp] theorem dropCmd_mode (n : Nat) (s : State) : (dropCmd n s).mode = s.mode := rfl
@[simp] theorem dropCmd_role (n : Nat) (s : State) : (dropCmd n s).role = s.role := rfl
@[simp] theorem dropCmd_acquireFenced (n : Nat) (s : State) : (dropCmd n s).acquireFenced = s.acquireFenced := rfl
@[simp] theorem dropCmd_fenceOpen (n : Nat) (s : State) : (dropCmd n s).fenceOpen = s.fenceOpen := rfl
@[simp] theorem dropCmd_firstLive (n : Nat) (s : State) : (dropCmd n s).firstLive = s.firstLive := rfl
@[simp] theorem dropCmd_safeCause (n : Nat) (s : State) : (dropCmd n s).safeCause = s.safeCause := rfl
@[simp] theorem dropCmd_faultCount (n : Nat) (s : State) : (dropCmd n s).faultCount = s.faultCount := rfl
@[simp] theorem dropCmd_spindle (n : Nat) (s : State) : (dropCmd n s).spindle = s.spindle := rfl
@[simp] theorem dropCmd_timeValid (n : Nat) (s : State) : (dropCmd n s).timeValid = s.timeValid := rfl
@[simp] theorem dropCmd_clock (n : Nat) (s : State) : (dropCmd n s).clock = s.clock := rfl
@[simp] theorem dropCmd_dataPlane (n : Nat) (s : State) : (dropCmd n s).dataPlane = s.dataPlane := rfl
@[simp] theorem dropCmd_live (n : Nat) (s : State) : (dropCmd n s).live = s.live := rfl
@[simp] theorem dropCmd_hs (n : Nat) (s : State) : (dropCmd n s).hs = s.hs := rfl
@[simp] theorem dropCmd_tk (n : Nat) (s : State) : (dropCmd n s).tk = s.tk := rfl
@[simp] theorem dropCmd_dg (n : Nat) (s : State) : (dropCmd n s).dg = s.dg := rfl
@[simp] theorem dropCmd_ad (n : Nat) (s : State) : (dropCmd n s).ad = s.ad := rfl
@[simp] theorem dropCmd_da (n : Nat) (s : State) : (dropCmd n s).da = s.da := rfl
@[simp] theorem dropCmd_ps (n : Nat) (s : State) : (dropCmd n s).ps = s.ps := rfl
@[simp] theorem dropCmd_xb (n : Nat) (s : State) : (dropCmd n s).xb = s.xb := rfl
@[simp] theorem dropCmd_fp (n : Nat) (s : State) : (dropCmd n s).fp = s.fp := rfl
@[simp] theorem dropCmd_sn (n : Nat) (s : State) : (dropCmd n s).sn = s.sn := rfl
@[simp] theorem dropCmd_nw (n : Nat) (s : State) : (dropCmd n s).nw = s.nw := rfl
@[simp] theorem dropCmd_tw (n : Nat) (s : State) : (dropCmd n s).tw = s.tw := rfl
@[simp] theorem dropCmd_ig (n : Nat) (s : State) : (dropCmd n s).ig = s.ig := rfl
@[simp] theorem dropCmd_pt (n : Nat) (s : State) : (dropCmd n s).pt = s.pt := rfl
@[simp] theorem dropCmd_lg (n : Nat) (s : State) : (dropCmd n s).lg = s.lg := rfl
@[simp] theorem dropCmd_mem (n : Nat) (s : State) : (dropCmd n s).mem = s.mem := rfl
@[simp] theorem dropCmd_freeCount (n : Nat) (s : State) : (dropCmd n s).freeCount = s.freeCount := rfl
@[simp] theorem dropCmd_out (n : Nat) (s : State) : (dropCmd n s).out = s.out := rfl
@[simp] theorem dropCmd_pending (n : Nat) (s : State) : (dropCmd n s).pending = s.pending := rfl

/-! ### `setPhase` -/

@[simp] theorem setPhase_pw (n : Nat) (ph : CmdPhase) (s : State) : (setPhase n ph s).pw = s.pw := rfl
@[simp] theorem setPhase_mode (n : Nat) (ph : CmdPhase) (s : State) : (setPhase n ph s).mode = s.mode := rfl
@[simp] theorem setPhase_role (n : Nat) (ph : CmdPhase) (s : State) : (setPhase n ph s).role = s.role := rfl
@[simp] theorem setPhase_acquireFenced (n : Nat) (ph : CmdPhase) (s : State) : (setPhase n ph s).acquireFenced = s.acquireFenced := rfl
@[simp] theorem setPhase_fenceOpen (n : Nat) (ph : CmdPhase) (s : State) : (setPhase n ph s).fenceOpen = s.fenceOpen := rfl
@[simp] theorem setPhase_firstLive (n : Nat) (ph : CmdPhase) (s : State) : (setPhase n ph s).firstLive = s.firstLive := rfl
@[simp] theorem setPhase_safeCause (n : Nat) (ph : CmdPhase) (s : State) : (setPhase n ph s).safeCause = s.safeCause := rfl
@[simp] theorem setPhase_faultCount (n : Nat) (ph : CmdPhase) (s : State) : (setPhase n ph s).faultCount = s.faultCount := rfl
@[simp] theorem setPhase_spindle (n : Nat) (ph : CmdPhase) (s : State) : (setPhase n ph s).spindle = s.spindle := rfl
@[simp] theorem setPhase_timeValid (n : Nat) (ph : CmdPhase) (s : State) : (setPhase n ph s).timeValid = s.timeValid := rfl
@[simp] theorem setPhase_clock (n : Nat) (ph : CmdPhase) (s : State) : (setPhase n ph s).clock = s.clock := rfl
@[simp] theorem setPhase_dataPlane (n : Nat) (ph : CmdPhase) (s : State) : (setPhase n ph s).dataPlane = s.dataPlane := rfl
@[simp] theorem setPhase_live (n : Nat) (ph : CmdPhase) (s : State) : (setPhase n ph s).live = s.live := rfl
@[simp] theorem setPhase_hs (n : Nat) (ph : CmdPhase) (s : State) : (setPhase n ph s).hs = s.hs := rfl
@[simp] theorem setPhase_tk (n : Nat) (ph : CmdPhase) (s : State) : (setPhase n ph s).tk = s.tk := rfl
@[simp] theorem setPhase_dg (n : Nat) (ph : CmdPhase) (s : State) : (setPhase n ph s).dg = s.dg := rfl
@[simp] theorem setPhase_ad (n : Nat) (ph : CmdPhase) (s : State) : (setPhase n ph s).ad = s.ad := rfl
@[simp] theorem setPhase_da (n : Nat) (ph : CmdPhase) (s : State) : (setPhase n ph s).da = s.da := rfl
@[simp] theorem setPhase_ps (n : Nat) (ph : CmdPhase) (s : State) : (setPhase n ph s).ps = s.ps := rfl
@[simp] theorem setPhase_xb (n : Nat) (ph : CmdPhase) (s : State) : (setPhase n ph s).xb = s.xb := rfl
@[simp] theorem setPhase_fp (n : Nat) (ph : CmdPhase) (s : State) : (setPhase n ph s).fp = s.fp := rfl
@[simp] theorem setPhase_sn (n : Nat) (ph : CmdPhase) (s : State) : (setPhase n ph s).sn = s.sn := rfl
@[simp] theorem setPhase_nw (n : Nat) (ph : CmdPhase) (s : State) : (setPhase n ph s).nw = s.nw := rfl
@[simp] theorem setPhase_tw (n : Nat) (ph : CmdPhase) (s : State) : (setPhase n ph s).tw = s.tw := rfl
@[simp] theorem setPhase_ig (n : Nat) (ph : CmdPhase) (s : State) : (setPhase n ph s).ig = s.ig := rfl
@[simp] theorem setPhase_pt (n : Nat) (ph : CmdPhase) (s : State) : (setPhase n ph s).pt = s.pt := rfl
@[simp] theorem setPhase_lg (n : Nat) (ph : CmdPhase) (s : State) : (setPhase n ph s).lg = s.lg := rfl
@[simp] theorem setPhase_mem (n : Nat) (ph : CmdPhase) (s : State) : (setPhase n ph s).mem = s.mem := rfl
@[simp] theorem setPhase_freeCount (n : Nat) (ph : CmdPhase) (s : State) : (setPhase n ph s).freeCount = s.freeCount := rfl
@[simp] theorem setPhase_out (n : Nat) (ph : CmdPhase) (s : State) : (setPhase n ph s).out = s.out := rfl
@[simp] theorem setPhase_pending (n : Nat) (ph : CmdPhase) (s : State) : (setPhase n ph s).pending = s.pending := rfl

/-! ### `stageRec` -/

@[simp] theorem stageRec_pw (r : Rec) (s : State) : (stageRec r s).pw = s.pw := rfl
@[simp] theorem stageRec_mode (r : Rec) (s : State) : (stageRec r s).mode = s.mode := rfl
@[simp] theorem stageRec_role (r : Rec) (s : State) : (stageRec r s).role = s.role := rfl
@[simp] theorem stageRec_acquireFenced (r : Rec) (s : State) : (stageRec r s).acquireFenced = s.acquireFenced := rfl
@[simp] theorem stageRec_fenceOpen (r : Rec) (s : State) : (stageRec r s).fenceOpen = s.fenceOpen := rfl
@[simp] theorem stageRec_firstLive (r : Rec) (s : State) : (stageRec r s).firstLive = s.firstLive := rfl
@[simp] theorem stageRec_safeCause (r : Rec) (s : State) : (stageRec r s).safeCause = s.safeCause := rfl
@[simp] theorem stageRec_faultCount (r : Rec) (s : State) : (stageRec r s).faultCount = s.faultCount := rfl
@[simp] theorem stageRec_spindle (r : Rec) (s : State) : (stageRec r s).spindle = s.spindle := rfl
@[simp] theorem stageRec_timeValid (r : Rec) (s : State) : (stageRec r s).timeValid = s.timeValid := rfl
@[simp] theorem stageRec_clock (r : Rec) (s : State) : (stageRec r s).clock = s.clock := rfl
@[simp] theorem stageRec_dataPlane (r : Rec) (s : State) : (stageRec r s).dataPlane = s.dataPlane := rfl
@[simp] theorem stageRec_live (r : Rec) (s : State) : (stageRec r s).live = s.live := rfl
@[simp] theorem stageRec_hs (r : Rec) (s : State) : (stageRec r s).hs = s.hs := rfl
@[simp] theorem stageRec_tk (r : Rec) (s : State) : (stageRec r s).tk = s.tk := rfl
@[simp] theorem stageRec_dg (r : Rec) (s : State) : (stageRec r s).dg = s.dg := rfl
@[simp] theorem stageRec_ad (r : Rec) (s : State) : (stageRec r s).ad = s.ad := rfl
@[simp] theorem stageRec_da (r : Rec) (s : State) : (stageRec r s).da = s.da := rfl
@[simp] theorem stageRec_ps (r : Rec) (s : State) : (stageRec r s).ps = s.ps := rfl
@[simp] theorem stageRec_xb (r : Rec) (s : State) : (stageRec r s).xb = s.xb := rfl
@[simp] theorem stageRec_fp (r : Rec) (s : State) : (stageRec r s).fp = s.fp := rfl
@[simp] theorem stageRec_sn (r : Rec) (s : State) : (stageRec r s).sn = s.sn := rfl
@[simp] theorem stageRec_nw (r : Rec) (s : State) : (stageRec r s).nw = s.nw := rfl
@[simp] theorem stageRec_tw (r : Rec) (s : State) : (stageRec r s).tw = s.tw := rfl
@[simp] theorem stageRec_ig (r : Rec) (s : State) : (stageRec r s).ig = s.ig := rfl
@[simp] theorem stageRec_pt (r : Rec) (s : State) : (stageRec r s).pt = s.pt := rfl
@[simp] theorem stageRec_lg (r : Rec) (s : State) : (stageRec r s).lg = s.lg := rfl
@[simp] theorem stageRec_mem (r : Rec) (s : State) : (stageRec r s).mem = s.mem := rfl
@[simp] theorem stageRec_freeCount (r : Rec) (s : State) : (stageRec r s).freeCount = s.freeCount := rfl
@[simp] theorem stageRec_out (r : Rec) (s : State) : (stageRec r s).out = s.out := rfl
@[simp] theorem stageRec_pending (r : Rec) (s : State) : (stageRec r s).pending = s.pending := rfl

/-! ### `lgOwn` -/

@[simp] theorem lgOwn_pw (e : LgEntry) (s : State) : (lgOwn e s).pw = s.pw := rfl
@[simp] theorem lgOwn_mode (e : LgEntry) (s : State) : (lgOwn e s).mode = s.mode := rfl
@[simp] theorem lgOwn_role (e : LgEntry) (s : State) : (lgOwn e s).role = s.role := rfl
@[simp] theorem lgOwn_acquireFenced (e : LgEntry) (s : State) : (lgOwn e s).acquireFenced = s.acquireFenced := rfl
@[simp] theorem lgOwn_fenceOpen (e : LgEntry) (s : State) : (lgOwn e s).fenceOpen = s.fenceOpen := rfl
@[simp] theorem lgOwn_firstLive (e : LgEntry) (s : State) : (lgOwn e s).firstLive = s.firstLive := rfl
@[simp] theorem lgOwn_safeCause (e : LgEntry) (s : State) : (lgOwn e s).safeCause = s.safeCause := rfl
@[simp] theorem lgOwn_faultCount (e : LgEntry) (s : State) : (lgOwn e s).faultCount = s.faultCount := rfl
@[simp] theorem lgOwn_spindle (e : LgEntry) (s : State) : (lgOwn e s).spindle = s.spindle := rfl
@[simp] theorem lgOwn_timeValid (e : LgEntry) (s : State) : (lgOwn e s).timeValid = s.timeValid := rfl
@[simp] theorem lgOwn_clock (e : LgEntry) (s : State) : (lgOwn e s).clock = s.clock := rfl
@[simp] theorem lgOwn_dataPlane (e : LgEntry) (s : State) : (lgOwn e s).dataPlane = s.dataPlane := rfl
@[simp] theorem lgOwn_live (e : LgEntry) (s : State) : (lgOwn e s).live = s.live := rfl
@[simp] theorem lgOwn_hs (e : LgEntry) (s : State) : (lgOwn e s).hs = s.hs := rfl
@[simp] theorem lgOwn_tk (e : LgEntry) (s : State) : (lgOwn e s).tk = s.tk := rfl
@[simp] theorem lgOwn_dg (e : LgEntry) (s : State) : (lgOwn e s).dg = s.dg := rfl
@[simp] theorem lgOwn_ad (e : LgEntry) (s : State) : (lgOwn e s).ad = s.ad := rfl
@[simp] theorem lgOwn_da (e : LgEntry) (s : State) : (lgOwn e s).da = s.da := rfl
@[simp] theorem lgOwn_ps (e : LgEntry) (s : State) : (lgOwn e s).ps = s.ps := rfl
@[simp] theorem lgOwn_xb (e : LgEntry) (s : State) : (lgOwn e s).xb = s.xb := rfl
@[simp] theorem lgOwn_fp (e : LgEntry) (s : State) : (lgOwn e s).fp = s.fp := rfl
@[simp] theorem lgOwn_sn (e : LgEntry) (s : State) : (lgOwn e s).sn = s.sn := rfl
@[simp] theorem lgOwn_nw (e : LgEntry) (s : State) : (lgOwn e s).nw = s.nw := rfl
@[simp] theorem lgOwn_tw (e : LgEntry) (s : State) : (lgOwn e s).tw = s.tw := rfl
@[simp] theorem lgOwn_ig (e : LgEntry) (s : State) : (lgOwn e s).ig = s.ig := rfl
@[simp] theorem lgOwn_mb (e : LgEntry) (s : State) : (lgOwn e s).mb = s.mb := rfl
@[simp] theorem lgOwn_pt (e : LgEntry) (s : State) : (lgOwn e s).pt = s.pt := rfl
@[simp] theorem lgOwn_mem (e : LgEntry) (s : State) : (lgOwn e s).mem = s.mem := rfl
@[simp] theorem lgOwn_freeCount (e : LgEntry) (s : State) : (lgOwn e s).freeCount = s.freeCount := rfl
@[simp] theorem lgOwn_out (e : LgEntry) (s : State) : (lgOwn e s).out = s.out := rfl
@[simp] theorem lgOwn_pending (e : LgEntry) (s : State) : (lgOwn e s).pending = s.pending := rfl

/-! ### `noteDirect` -/

@[simp] theorem noteDirect_pw (c : Cmd) (s : State) : (noteDirect c s).pw = s.pw := rfl
@[simp] theorem noteDirect_mode (c : Cmd) (s : State) : (noteDirect c s).mode = s.mode := rfl
@[simp] theorem noteDirect_role (c : Cmd) (s : State) : (noteDirect c s).role = s.role := rfl
@[simp] theorem noteDirect_acquireFenced (c : Cmd) (s : State) : (noteDirect c s).acquireFenced = s.acquireFenced := rfl
@[simp] theorem noteDirect_fenceOpen (c : Cmd) (s : State) : (noteDirect c s).fenceOpen = s.fenceOpen := rfl
@[simp] theorem noteDirect_firstLive (c : Cmd) (s : State) : (noteDirect c s).firstLive = s.firstLive := rfl
@[simp] theorem noteDirect_safeCause (c : Cmd) (s : State) : (noteDirect c s).safeCause = s.safeCause := rfl
@[simp] theorem noteDirect_faultCount (c : Cmd) (s : State) : (noteDirect c s).faultCount = s.faultCount := rfl
@[simp] theorem noteDirect_spindle (c : Cmd) (s : State) : (noteDirect c s).spindle = s.spindle := rfl
@[simp] theorem noteDirect_timeValid (c : Cmd) (s : State) : (noteDirect c s).timeValid = s.timeValid := rfl
@[simp] theorem noteDirect_clock (c : Cmd) (s : State) : (noteDirect c s).clock = s.clock := rfl
@[simp] theorem noteDirect_dataPlane (c : Cmd) (s : State) : (noteDirect c s).dataPlane = s.dataPlane := rfl
@[simp] theorem noteDirect_live (c : Cmd) (s : State) : (noteDirect c s).live = s.live := rfl
@[simp] theorem noteDirect_hs (c : Cmd) (s : State) : (noteDirect c s).hs = s.hs := rfl
@[simp] theorem noteDirect_tk (c : Cmd) (s : State) : (noteDirect c s).tk = s.tk := rfl
@[simp] theorem noteDirect_dg (c : Cmd) (s : State) : (noteDirect c s).dg = s.dg := rfl
@[simp] theorem noteDirect_ad (c : Cmd) (s : State) : (noteDirect c s).ad = s.ad := rfl
@[simp] theorem noteDirect_da (c : Cmd) (s : State) : (noteDirect c s).da = s.da := rfl
@[simp] theorem noteDirect_ps (c : Cmd) (s : State) : (noteDirect c s).ps = s.ps := rfl
@[simp] theorem noteDirect_xb (c : Cmd) (s : State) : (noteDirect c s).xb = s.xb := rfl
@[simp] theorem noteDirect_fp (c : Cmd) (s : State) : (noteDirect c s).fp = s.fp := rfl
@[simp] theorem noteDirect_sn (c : Cmd) (s : State) : (noteDirect c s).sn = s.sn := rfl
@[simp] theorem noteDirect_nw (c : Cmd) (s : State) : (noteDirect c s).nw = s.nw := rfl
@[simp] theorem noteDirect_tw (c : Cmd) (s : State) : (noteDirect c s).tw = s.tw := rfl
@[simp] theorem noteDirect_ig (c : Cmd) (s : State) : (noteDirect c s).ig = s.ig := rfl
@[simp] theorem noteDirect_pt (c : Cmd) (s : State) : (noteDirect c s).pt = s.pt := rfl
@[simp] theorem noteDirect_lg (c : Cmd) (s : State) : (noteDirect c s).lg = s.lg := rfl
@[simp] theorem noteDirect_mem (c : Cmd) (s : State) : (noteDirect c s).mem = s.mem := rfl
@[simp] theorem noteDirect_freeCount (c : Cmd) (s : State) : (noteDirect c s).freeCount = s.freeCount := rfl
@[simp] theorem noteDirect_out (c : Cmd) (s : State) : (noteDirect c s).out = s.out := rfl
@[simp] theorem noteDirect_pending (c : Cmd) (s : State) : (noteDirect c s).pending = s.pending := rfl

/-! ### `writeTables` -/

@[simp] theorem writeTables_pw (f : Tables → Tables) (s : State) : (writeTables f s).pw = s.pw := rfl
@[simp] theorem writeTables_mode (f : Tables → Tables) (s : State) : (writeTables f s).mode = s.mode := rfl
@[simp] theorem writeTables_role (f : Tables → Tables) (s : State) : (writeTables f s).role = s.role := rfl
@[simp] theorem writeTables_acquireFenced (f : Tables → Tables) (s : State) : (writeTables f s).acquireFenced = s.acquireFenced := rfl
@[simp] theorem writeTables_fenceOpen (f : Tables → Tables) (s : State) : (writeTables f s).fenceOpen = s.fenceOpen := rfl
@[simp] theorem writeTables_firstLive (f : Tables → Tables) (s : State) : (writeTables f s).firstLive = s.firstLive := rfl
@[simp] theorem writeTables_safeCause (f : Tables → Tables) (s : State) : (writeTables f s).safeCause = s.safeCause := rfl
@[simp] theorem writeTables_faultCount (f : Tables → Tables) (s : State) : (writeTables f s).faultCount = s.faultCount := rfl
@[simp] theorem writeTables_spindle (f : Tables → Tables) (s : State) : (writeTables f s).spindle = s.spindle := rfl
@[simp] theorem writeTables_timeValid (f : Tables → Tables) (s : State) : (writeTables f s).timeValid = s.timeValid := rfl
@[simp] theorem writeTables_clock (f : Tables → Tables) (s : State) : (writeTables f s).clock = s.clock := rfl
@[simp] theorem writeTables_dataPlane (f : Tables → Tables) (s : State) : (writeTables f s).dataPlane = s.dataPlane := rfl
@[simp] theorem writeTables_hs (f : Tables → Tables) (s : State) : (writeTables f s).hs = s.hs := rfl
@[simp] theorem writeTables_tk (f : Tables → Tables) (s : State) : (writeTables f s).tk = s.tk := rfl
@[simp] theorem writeTables_dg (f : Tables → Tables) (s : State) : (writeTables f s).dg = s.dg := rfl
@[simp] theorem writeTables_ad (f : Tables → Tables) (s : State) : (writeTables f s).ad = s.ad := rfl
@[simp] theorem writeTables_da (f : Tables → Tables) (s : State) : (writeTables f s).da = s.da := rfl
@[simp] theorem writeTables_ps (f : Tables → Tables) (s : State) : (writeTables f s).ps = s.ps := rfl
@[simp] theorem writeTables_xb (f : Tables → Tables) (s : State) : (writeTables f s).xb = s.xb := rfl
@[simp] theorem writeTables_fp (f : Tables → Tables) (s : State) : (writeTables f s).fp = s.fp := rfl
@[simp] theorem writeTables_sn (f : Tables → Tables) (s : State) : (writeTables f s).sn = s.sn := rfl
@[simp] theorem writeTables_nw (f : Tables → Tables) (s : State) : (writeTables f s).nw = s.nw := rfl
@[simp] theorem writeTables_tw (f : Tables → Tables) (s : State) : (writeTables f s).tw = s.tw := rfl
@[simp] theorem writeTables_ig (f : Tables → Tables) (s : State) : (writeTables f s).ig = s.ig := rfl
@[simp] theorem writeTables_pt (f : Tables → Tables) (s : State) : (writeTables f s).pt = s.pt := rfl
@[simp] theorem writeTables_lg (f : Tables → Tables) (s : State) : (writeTables f s).lg = s.lg := rfl
@[simp] theorem writeTables_mem (f : Tables → Tables) (s : State) : (writeTables f s).mem = s.mem := rfl
@[simp] theorem writeTables_freeCount (f : Tables → Tables) (s : State) : (writeTables f s).freeCount = s.freeCount := rfl
@[simp] theorem writeTables_out (f : Tables → Tables) (s : State) : (writeTables f s).out = s.out := rfl
@[simp] theorem writeTables_pending (f : Tables → Tables) (s : State) : (writeTables f s).pending = s.pending := rfl

/-! ### `closeStaging` -/

@[simp] theorem closeStaging_pw (s : State) : (closeStaging s).pw = s.pw := rfl
@[simp] theorem closeStaging_mode (s : State) : (closeStaging s).mode = s.mode := rfl
@[simp] theorem closeStaging_role (s : State) : (closeStaging s).role = s.role := rfl
@[simp] theorem closeStaging_acquireFenced (s : State) : (closeStaging s).acquireFenced = s.acquireFenced := rfl
@[simp] theorem closeStaging_fenceOpen (s : State) : (closeStaging s).fenceOpen = s.fenceOpen := rfl
@[simp] theorem closeStaging_firstLive (s : State) : (closeStaging s).firstLive = s.firstLive := rfl
@[simp] theorem closeStaging_safeCause (s : State) : (closeStaging s).safeCause = s.safeCause := rfl
@[simp] theorem closeStaging_faultCount (s : State) : (closeStaging s).faultCount = s.faultCount := rfl
@[simp] theorem closeStaging_spindle (s : State) : (closeStaging s).spindle = s.spindle := rfl
@[simp] theorem closeStaging_timeValid (s : State) : (closeStaging s).timeValid = s.timeValid := rfl
@[simp] theorem closeStaging_clock (s : State) : (closeStaging s).clock = s.clock := rfl
@[simp] theorem closeStaging_dataPlane (s : State) : (closeStaging s).dataPlane = s.dataPlane := rfl
@[simp] theorem closeStaging_live (s : State) : (closeStaging s).live = s.live := rfl
@[simp] theorem closeStaging_hs (s : State) : (closeStaging s).hs = s.hs := rfl
@[simp] theorem closeStaging_tk (s : State) : (closeStaging s).tk = s.tk := rfl
@[simp] theorem closeStaging_dg (s : State) : (closeStaging s).dg = s.dg := rfl
@[simp] theorem closeStaging_ad (s : State) : (closeStaging s).ad = s.ad := rfl
@[simp] theorem closeStaging_da (s : State) : (closeStaging s).da = s.da := rfl
@[simp] theorem closeStaging_ps (s : State) : (closeStaging s).ps = s.ps := rfl
@[simp] theorem closeStaging_xb (s : State) : (closeStaging s).xb = s.xb := rfl
@[simp] theorem closeStaging_fp (s : State) : (closeStaging s).fp = s.fp := rfl
@[simp] theorem closeStaging_sn (s : State) : (closeStaging s).sn = s.sn := rfl
@[simp] theorem closeStaging_nw (s : State) : (closeStaging s).nw = s.nw := rfl
@[simp] theorem closeStaging_tw (s : State) : (closeStaging s).tw = s.tw := rfl
@[simp] theorem closeStaging_ig (s : State) : (closeStaging s).ig = s.ig := rfl
@[simp] theorem closeStaging_pt (s : State) : (closeStaging s).pt = s.pt := rfl
@[simp] theorem closeStaging_lg (s : State) : (closeStaging s).lg = s.lg := rfl
@[simp] theorem closeStaging_mem (s : State) : (closeStaging s).mem = s.mem := rfl
@[simp] theorem closeStaging_freeCount (s : State) : (closeStaging s).freeCount = s.freeCount := rfl
@[simp] theorem closeStaging_out (s : State) : (closeStaging s).out = s.out := rfl
@[simp] theorem closeStaging_pending (s : State) : (closeStaging s).pending = s.pending := rfl

/-! ### `ringFlush` -/

@[simp] theorem ringFlush_pw (s : State) : (ringFlush s).pw = s.pw := rfl
@[simp] theorem ringFlush_mode (s : State) : (ringFlush s).mode = s.mode := rfl
@[simp] theorem ringFlush_role (s : State) : (ringFlush s).role = s.role := rfl
@[simp] theorem ringFlush_acquireFenced (s : State) : (ringFlush s).acquireFenced = s.acquireFenced := rfl
@[simp] theorem ringFlush_fenceOpen (s : State) : (ringFlush s).fenceOpen = s.fenceOpen := rfl
@[simp] theorem ringFlush_firstLive (s : State) : (ringFlush s).firstLive = s.firstLive := rfl
@[simp] theorem ringFlush_safeCause (s : State) : (ringFlush s).safeCause = s.safeCause := rfl
@[simp] theorem ringFlush_faultCount (s : State) : (ringFlush s).faultCount = s.faultCount := rfl
@[simp] theorem ringFlush_spindle (s : State) : (ringFlush s).spindle = s.spindle := rfl
@[simp] theorem ringFlush_timeValid (s : State) : (ringFlush s).timeValid = s.timeValid := rfl
@[simp] theorem ringFlush_clock (s : State) : (ringFlush s).clock = s.clock := rfl
@[simp] theorem ringFlush_dataPlane (s : State) : (ringFlush s).dataPlane = s.dataPlane := rfl
@[simp] theorem ringFlush_live (s : State) : (ringFlush s).live = s.live := rfl
@[simp] theorem ringFlush_hs (s : State) : (ringFlush s).hs = s.hs := rfl
@[simp] theorem ringFlush_tk (s : State) : (ringFlush s).tk = s.tk := rfl
@[simp] theorem ringFlush_dg (s : State) : (ringFlush s).dg = s.dg := rfl
@[simp] theorem ringFlush_ad (s : State) : (ringFlush s).ad = s.ad := rfl
@[simp] theorem ringFlush_da (s : State) : (ringFlush s).da = s.da := rfl
@[simp] theorem ringFlush_ps (s : State) : (ringFlush s).ps = s.ps := rfl
@[simp] theorem ringFlush_xb (s : State) : (ringFlush s).xb = s.xb := rfl
@[simp] theorem ringFlush_fp (s : State) : (ringFlush s).fp = s.fp := rfl
@[simp] theorem ringFlush_sn (s : State) : (ringFlush s).sn = s.sn := rfl
@[simp] theorem ringFlush_nw (s : State) : (ringFlush s).nw = s.nw := rfl
@[simp] theorem ringFlush_tw (s : State) : (ringFlush s).tw = s.tw := rfl
@[simp] theorem ringFlush_mb (s : State) : (ringFlush s).mb = s.mb := rfl
@[simp] theorem ringFlush_pt (s : State) : (ringFlush s).pt = s.pt := rfl
@[simp] theorem ringFlush_lg (s : State) : (ringFlush s).lg = s.lg := rfl
@[simp] theorem ringFlush_mem (s : State) : (ringFlush s).mem = s.mem := rfl
@[simp] theorem ringFlush_freeCount (s : State) : (ringFlush s).freeCount = s.freeCount := rfl
@[simp] theorem ringFlush_pending (s : State) : (ringFlush s).pending = s.pending := rfl

/-! ### `leaseSend` -/

@[simp] theorem leaseSend_pw (paths : List TwinPath) (typ : Nat) (seq : Nat) (s : State) : (leaseSend paths typ seq s).pw = s.pw := rfl
@[simp] theorem leaseSend_mode (paths : List TwinPath) (typ : Nat) (seq : Nat) (s : State) : (leaseSend paths typ seq s).mode = s.mode := rfl
@[simp] theorem leaseSend_role (paths : List TwinPath) (typ : Nat) (seq : Nat) (s : State) : (leaseSend paths typ seq s).role = s.role := rfl
@[simp] theorem leaseSend_acquireFenced (paths : List TwinPath) (typ : Nat) (seq : Nat) (s : State) : (leaseSend paths typ seq s).acquireFenced = s.acquireFenced := rfl
@[simp] theorem leaseSend_fenceOpen (paths : List TwinPath) (typ : Nat) (seq : Nat) (s : State) : (leaseSend paths typ seq s).fenceOpen = s.fenceOpen := rfl
@[simp] theorem leaseSend_firstLive (paths : List TwinPath) (typ : Nat) (seq : Nat) (s : State) : (leaseSend paths typ seq s).firstLive = s.firstLive := rfl
@[simp] theorem leaseSend_safeCause (paths : List TwinPath) (typ : Nat) (seq : Nat) (s : State) : (leaseSend paths typ seq s).safeCause = s.safeCause := rfl
@[simp] theorem leaseSend_faultCount (paths : List TwinPath) (typ : Nat) (seq : Nat) (s : State) : (leaseSend paths typ seq s).faultCount = s.faultCount := rfl
@[simp] theorem leaseSend_spindle (paths : List TwinPath) (typ : Nat) (seq : Nat) (s : State) : (leaseSend paths typ seq s).spindle = s.spindle := rfl
@[simp] theorem leaseSend_timeValid (paths : List TwinPath) (typ : Nat) (seq : Nat) (s : State) : (leaseSend paths typ seq s).timeValid = s.timeValid := rfl
@[simp] theorem leaseSend_clock (paths : List TwinPath) (typ : Nat) (seq : Nat) (s : State) : (leaseSend paths typ seq s).clock = s.clock := rfl
@[simp] theorem leaseSend_dataPlane (paths : List TwinPath) (typ : Nat) (seq : Nat) (s : State) : (leaseSend paths typ seq s).dataPlane = s.dataPlane := rfl
@[simp] theorem leaseSend_live (paths : List TwinPath) (typ : Nat) (seq : Nat) (s : State) : (leaseSend paths typ seq s).live = s.live := rfl
@[simp] theorem leaseSend_hs (paths : List TwinPath) (typ : Nat) (seq : Nat) (s : State) : (leaseSend paths typ seq s).hs = s.hs := rfl
@[simp] theorem leaseSend_tk (paths : List TwinPath) (typ : Nat) (seq : Nat) (s : State) : (leaseSend paths typ seq s).tk = s.tk := rfl
@[simp] theorem leaseSend_dg (paths : List TwinPath) (typ : Nat) (seq : Nat) (s : State) : (leaseSend paths typ seq s).dg = s.dg := rfl
@[simp] theorem leaseSend_ad (paths : List TwinPath) (typ : Nat) (seq : Nat) (s : State) : (leaseSend paths typ seq s).ad = s.ad := rfl
@[simp] theorem leaseSend_da (paths : List TwinPath) (typ : Nat) (seq : Nat) (s : State) : (leaseSend paths typ seq s).da = s.da := rfl
@[simp] theorem leaseSend_ps (paths : List TwinPath) (typ : Nat) (seq : Nat) (s : State) : (leaseSend paths typ seq s).ps = s.ps := rfl
@[simp] theorem leaseSend_xb (paths : List TwinPath) (typ : Nat) (seq : Nat) (s : State) : (leaseSend paths typ seq s).xb = s.xb := rfl
@[simp] theorem leaseSend_fp (paths : List TwinPath) (typ : Nat) (seq : Nat) (s : State) : (leaseSend paths typ seq s).fp = s.fp := rfl
@[simp] theorem leaseSend_sn (paths : List TwinPath) (typ : Nat) (seq : Nat) (s : State) : (leaseSend paths typ seq s).sn = s.sn := rfl
@[simp] theorem leaseSend_nw (paths : List TwinPath) (typ : Nat) (seq : Nat) (s : State) : (leaseSend paths typ seq s).nw = s.nw := rfl
theorem leaseSend_tw (paths : List TwinPath) (typ : Nat) (seq : Nat) (s : State) : (leaseSend paths typ seq s).tw = { s.tw with msgSeq := (leaseSend paths typ seq s).tw.msgSeq } := rfl
@[simp] theorem leaseSend_tw_holds (paths : List TwinPath) (typ : Nat) (seq : Nat) (s : State) : (leaseSend paths typ seq s).tw.holds = s.tw.holds := rfl
@[simp] theorem leaseSend_tw_partingTool (paths : List TwinPath) (typ : Nat) (seq : Nat) (s : State) : (leaseSend paths typ seq s).tw.partingTool = s.tw.partingTool := rfl
@[simp] theorem leaseSend_tw_seq (paths : List TwinPath) (typ : Nat) (seq : Nat) (s : State) : (leaseSend paths typ seq s).tw.seq = s.tw.seq := rfl
@[simp] theorem leaseSend_tw_claiming (paths : List TwinPath) (typ : Nat) (seq : Nat) (s : State) : (leaseSend paths typ seq s).tw.claiming = s.tw.claiming := rfl
@[simp] theorem leaseSend_tw_leaseEnd (paths : List TwinPath) (typ : Nat) (seq : Nat) (s : State) : (leaseSend paths typ seq s).tw.leaseEnd = s.tw.leaseEnd := rfl
@[simp] theorem leaseSend_tw_sentAt (paths : List TwinPath) (typ : Nat) (seq : Nat) (s : State) : (leaseSend paths typ seq s).tw.sentAt = s.tw.sentAt := rfl
@[simp] theorem leaseSend_tw_unacked (paths : List TwinPath) (typ : Nat) (seq : Nat) (s : State) : (leaseSend paths typ seq s).tw.unacked = s.tw.unacked := rfl
@[simp] theorem leaseSend_ig (paths : List TwinPath) (typ : Nat) (seq : Nat) (s : State) : (leaseSend paths typ seq s).ig = s.ig := rfl
@[simp] theorem leaseSend_mb (paths : List TwinPath) (typ : Nat) (seq : Nat) (s : State) : (leaseSend paths typ seq s).mb = s.mb := rfl
@[simp] theorem leaseSend_pt (paths : List TwinPath) (typ : Nat) (seq : Nat) (s : State) : (leaseSend paths typ seq s).pt = s.pt := rfl
@[simp] theorem leaseSend_lg (paths : List TwinPath) (typ : Nat) (seq : Nat) (s : State) : (leaseSend paths typ seq s).lg = s.lg := rfl
@[simp] theorem leaseSend_mem (paths : List TwinPath) (typ : Nat) (seq : Nat) (s : State) : (leaseSend paths typ seq s).mem = s.mem := rfl
@[simp] theorem leaseSend_freeCount (paths : List TwinPath) (typ : Nat) (seq : Nat) (s : State) : (leaseSend paths typ seq s).freeCount = s.freeCount := rfl
@[simp] theorem leaseSend_pending (paths : List TwinPath) (typ : Nat) (seq : Nat) (s : State) : (leaseSend paths typ seq s).pending = s.pending := rfl

/-! ### `modIg` -/

@[simp] theorem modIg_pw (f : IgState → IgState) (s : State) : (modIg f s).pw = s.pw := rfl
@[simp] theorem modIg_mode (f : IgState → IgState) (s : State) : (modIg f s).mode = s.mode := rfl
@[simp] theorem modIg_role (f : IgState → IgState) (s : State) : (modIg f s).role = s.role := rfl
@[simp] theorem modIg_acquireFenced (f : IgState → IgState) (s : State) : (modIg f s).acquireFenced = s.acquireFenced := rfl
@[simp] theorem modIg_fenceOpen (f : IgState → IgState) (s : State) : (modIg f s).fenceOpen = s.fenceOpen := rfl
@[simp] theorem modIg_firstLive (f : IgState → IgState) (s : State) : (modIg f s).firstLive = s.firstLive := rfl
@[simp] theorem modIg_safeCause (f : IgState → IgState) (s : State) : (modIg f s).safeCause = s.safeCause := rfl
@[simp] theorem modIg_faultCount (f : IgState → IgState) (s : State) : (modIg f s).faultCount = s.faultCount := rfl
@[simp] theorem modIg_spindle (f : IgState → IgState) (s : State) : (modIg f s).spindle = s.spindle := rfl
@[simp] theorem modIg_timeValid (f : IgState → IgState) (s : State) : (modIg f s).timeValid = s.timeValid := rfl
@[simp] theorem modIg_clock (f : IgState → IgState) (s : State) : (modIg f s).clock = s.clock := rfl
@[simp] theorem modIg_dataPlane (f : IgState → IgState) (s : State) : (modIg f s).dataPlane = s.dataPlane := rfl
@[simp] theorem modIg_live (f : IgState → IgState) (s : State) : (modIg f s).live = s.live := rfl
@[simp] theorem modIg_hs (f : IgState → IgState) (s : State) : (modIg f s).hs = s.hs := rfl
@[simp] theorem modIg_tk (f : IgState → IgState) (s : State) : (modIg f s).tk = s.tk := rfl
@[simp] theorem modIg_dg (f : IgState → IgState) (s : State) : (modIg f s).dg = s.dg := rfl
@[simp] theorem modIg_ad (f : IgState → IgState) (s : State) : (modIg f s).ad = s.ad := rfl
@[simp] theorem modIg_da (f : IgState → IgState) (s : State) : (modIg f s).da = s.da := rfl
@[simp] theorem modIg_ps (f : IgState → IgState) (s : State) : (modIg f s).ps = s.ps := rfl
@[simp] theorem modIg_xb (f : IgState → IgState) (s : State) : (modIg f s).xb = s.xb := rfl
@[simp] theorem modIg_fp (f : IgState → IgState) (s : State) : (modIg f s).fp = s.fp := rfl
@[simp] theorem modIg_sn (f : IgState → IgState) (s : State) : (modIg f s).sn = s.sn := rfl
@[simp] theorem modIg_nw (f : IgState → IgState) (s : State) : (modIg f s).nw = s.nw := rfl
@[simp] theorem modIg_tw (f : IgState → IgState) (s : State) : (modIg f s).tw = s.tw := rfl
@[simp] theorem modIg_mb (f : IgState → IgState) (s : State) : (modIg f s).mb = s.mb := rfl
@[simp] theorem modIg_pt (f : IgState → IgState) (s : State) : (modIg f s).pt = s.pt := rfl
@[simp] theorem modIg_lg (f : IgState → IgState) (s : State) : (modIg f s).lg = s.lg := rfl
@[simp] theorem modIg_mem (f : IgState → IgState) (s : State) : (modIg f s).mem = s.mem := rfl
@[simp] theorem modIg_freeCount (f : IgState → IgState) (s : State) : (modIg f s).freeCount = s.freeCount := rfl
@[simp] theorem modIg_out (f : IgState → IgState) (s : State) : (modIg f s).out = s.out := rfl
@[simp] theorem modIg_pending (f : IgState → IgState) (s : State) : (modIg f s).pending = s.pending := rfl

/-! ### `modPt` -/

@[simp] theorem modPt_pw (f : PtState → PtState) (s : State) : (modPt f s).pw = s.pw := rfl
@[simp] theorem modPt_mode (f : PtState → PtState) (s : State) : (modPt f s).mode = s.mode := rfl
@[simp] theorem modPt_role (f : PtState → PtState) (s : State) : (modPt f s).role = s.role := rfl
@[simp] theorem modPt_acquireFenced (f : PtState → PtState) (s : State) : (modPt f s).acquireFenced = s.acquireFenced := rfl
@[simp] theorem modPt_fenceOpen (f : PtState → PtState) (s : State) : (modPt f s).fenceOpen = s.fenceOpen := rfl
@[simp] theorem modPt_firstLive (f : PtState → PtState) (s : State) : (modPt f s).firstLive = s.firstLive := rfl
@[simp] theorem modPt_safeCause (f : PtState → PtState) (s : State) : (modPt f s).safeCause = s.safeCause := rfl
@[simp] theorem modPt_faultCount (f : PtState → PtState) (s : State) : (modPt f s).faultCount = s.faultCount := rfl
@[simp] theorem modPt_spindle (f : PtState → PtState) (s : State) : (modPt f s).spindle = s.spindle := rfl
@[simp] theorem modPt_timeValid (f : PtState → PtState) (s : State) : (modPt f s).timeValid = s.timeValid := rfl
@[simp] theorem modPt_clock (f : PtState → PtState) (s : State) : (modPt f s).clock = s.clock := rfl
@[simp] theorem modPt_dataPlane (f : PtState → PtState) (s : State) : (modPt f s).dataPlane = s.dataPlane := rfl
@[simp] theorem modPt_live (f : PtState → PtState) (s : State) : (modPt f s).live = s.live := rfl
@[simp] theorem modPt_hs (f : PtState → PtState) (s : State) : (modPt f s).hs = s.hs := rfl
@[simp] theorem modPt_tk (f : PtState → PtState) (s : State) : (modPt f s).tk = s.tk := rfl
@[simp] theorem modPt_dg (f : PtState → PtState) (s : State) : (modPt f s).dg = s.dg := rfl
@[simp] theorem modPt_ad (f : PtState → PtState) (s : State) : (modPt f s).ad = s.ad := rfl
@[simp] theorem modPt_da (f : PtState → PtState) (s : State) : (modPt f s).da = s.da := rfl
@[simp] theorem modPt_ps (f : PtState → PtState) (s : State) : (modPt f s).ps = s.ps := rfl
@[simp] theorem modPt_xb (f : PtState → PtState) (s : State) : (modPt f s).xb = s.xb := rfl
@[simp] theorem modPt_fp (f : PtState → PtState) (s : State) : (modPt f s).fp = s.fp := rfl
@[simp] theorem modPt_sn (f : PtState → PtState) (s : State) : (modPt f s).sn = s.sn := rfl
@[simp] theorem modPt_nw (f : PtState → PtState) (s : State) : (modPt f s).nw = s.nw := rfl
@[simp] theorem modPt_tw (f : PtState → PtState) (s : State) : (modPt f s).tw = s.tw := rfl
@[simp] theorem modPt_ig (f : PtState → PtState) (s : State) : (modPt f s).ig = s.ig := rfl
@[simp] theorem modPt_mb (f : PtState → PtState) (s : State) : (modPt f s).mb = s.mb := rfl
@[simp] theorem modPt_lg (f : PtState → PtState) (s : State) : (modPt f s).lg = s.lg := rfl
@[simp] theorem modPt_mem (f : PtState → PtState) (s : State) : (modPt f s).mem = s.mem := rfl
@[simp] theorem modPt_freeCount (f : PtState → PtState) (s : State) : (modPt f s).freeCount = s.freeCount := rfl
@[simp] theorem modPt_out (f : PtState → PtState) (s : State) : (modPt f s).out = s.out := rfl
@[simp] theorem modPt_pending (f : PtState → PtState) (s : State) : (modPt f s).pending = s.pending := rfl

/-! ### `modFp` -/

@[simp] theorem modFp_pw (f : FpState → FpState) (s : State) : (modFp f s).pw = s.pw := rfl
@[simp] theorem modFp_mode (f : FpState → FpState) (s : State) : (modFp f s).mode = s.mode := rfl
@[simp] theorem modFp_role (f : FpState → FpState) (s : State) : (modFp f s).role = s.role := rfl
@[simp] theorem modFp_acquireFenced (f : FpState → FpState) (s : State) : (modFp f s).acquireFenced = s.acquireFenced := rfl
@[simp] theorem modFp_fenceOpen (f : FpState → FpState) (s : State) : (modFp f s).fenceOpen = s.fenceOpen := rfl
@[simp] theorem modFp_firstLive (f : FpState → FpState) (s : State) : (modFp f s).firstLive = s.firstLive := rfl
@[simp] theorem modFp_safeCause (f : FpState → FpState) (s : State) : (modFp f s).safeCause = s.safeCause := rfl
@[simp] theorem modFp_faultCount (f : FpState → FpState) (s : State) : (modFp f s).faultCount = s.faultCount := rfl
@[simp] theorem modFp_spindle (f : FpState → FpState) (s : State) : (modFp f s).spindle = s.spindle := rfl
@[simp] theorem modFp_timeValid (f : FpState → FpState) (s : State) : (modFp f s).timeValid = s.timeValid := rfl
@[simp] theorem modFp_clock (f : FpState → FpState) (s : State) : (modFp f s).clock = s.clock := rfl
@[simp] theorem modFp_dataPlane (f : FpState → FpState) (s : State) : (modFp f s).dataPlane = s.dataPlane := rfl
@[simp] theorem modFp_live (f : FpState → FpState) (s : State) : (modFp f s).live = s.live := rfl
@[simp] theorem modFp_hs (f : FpState → FpState) (s : State) : (modFp f s).hs = s.hs := rfl
@[simp] theorem modFp_tk (f : FpState → FpState) (s : State) : (modFp f s).tk = s.tk := rfl
@[simp] theorem modFp_dg (f : FpState → FpState) (s : State) : (modFp f s).dg = s.dg := rfl
@[simp] theorem modFp_ad (f : FpState → FpState) (s : State) : (modFp f s).ad = s.ad := rfl
@[simp] theorem modFp_da (f : FpState → FpState) (s : State) : (modFp f s).da = s.da := rfl
@[simp] theorem modFp_ps (f : FpState → FpState) (s : State) : (modFp f s).ps = s.ps := rfl
@[simp] theorem modFp_xb (f : FpState → FpState) (s : State) : (modFp f s).xb = s.xb := rfl
@[simp] theorem modFp_sn (f : FpState → FpState) (s : State) : (modFp f s).sn = s.sn := rfl
@[simp] theorem modFp_nw (f : FpState → FpState) (s : State) : (modFp f s).nw = s.nw := rfl
@[simp] theorem modFp_tw (f : FpState → FpState) (s : State) : (modFp f s).tw = s.tw := rfl
@[simp] theorem modFp_ig (f : FpState → FpState) (s : State) : (modFp f s).ig = s.ig := rfl
@[simp] theorem modFp_mb (f : FpState → FpState) (s : State) : (modFp f s).mb = s.mb := rfl
@[simp] theorem modFp_pt (f : FpState → FpState) (s : State) : (modFp f s).pt = s.pt := rfl
@[simp] theorem modFp_lg (f : FpState → FpState) (s : State) : (modFp f s).lg = s.lg := rfl
@[simp] theorem modFp_mem (f : FpState → FpState) (s : State) : (modFp f s).mem = s.mem := rfl
@[simp] theorem modFp_freeCount (f : FpState → FpState) (s : State) : (modFp f s).freeCount = s.freeCount := rfl
@[simp] theorem modFp_out (f : FpState → FpState) (s : State) : (modFp f s).out = s.out := rfl
@[simp] theorem modFp_pending (f : FpState → FpState) (s : State) : (modFp f s).pending = s.pending := rfl

/-! ### `modSn` -/

@[simp] theorem modSn_pw (f : SnState → SnState) (s : State) : (modSn f s).pw = s.pw := rfl
@[simp] theorem modSn_mode (f : SnState → SnState) (s : State) : (modSn f s).mode = s.mode := rfl
@[simp] theorem modSn_role (f : SnState → SnState) (s : State) : (modSn f s).role = s.role := rfl
@[simp] theorem modSn_acquireFenced (f : SnState → SnState) (s : State) : (modSn f s).acquireFenced = s.acquireFenced := rfl
@[simp] theorem modSn_fenceOpen (f : SnState → SnState) (s : State) : (modSn f s).fenceOpen = s.fenceOpen := rfl
@[simp] theorem modSn_firstLive (f : SnState → SnState) (s : State) : (modSn f s).firstLive = s.firstLive := rfl
@[simp] theorem modSn_safeCause (f : SnState → SnState) (s : State) : (modSn f s).safeCause = s.safeCause := rfl
@[simp] theorem modSn_faultCount (f : SnState → SnState) (s : State) : (modSn f s).faultCount = s.faultCount := rfl
@[simp] theorem modSn_spindle (f : SnState → SnState) (s : State) : (modSn f s).spindle = s.spindle := rfl
@[simp] theorem modSn_timeValid (f : SnState → SnState) (s : State) : (modSn f s).timeValid = s.timeValid := rfl
@[simp] theorem modSn_clock (f : SnState → SnState) (s : State) : (modSn f s).clock = s.clock := rfl
@[simp] theorem modSn_dataPlane (f : SnState → SnState) (s : State) : (modSn f s).dataPlane = s.dataPlane := rfl
@[simp] theorem modSn_live (f : SnState → SnState) (s : State) : (modSn f s).live = s.live := rfl
@[simp] theorem modSn_hs (f : SnState → SnState) (s : State) : (modSn f s).hs = s.hs := rfl
@[simp] theorem modSn_tk (f : SnState → SnState) (s : State) : (modSn f s).tk = s.tk := rfl
@[simp] theorem modSn_dg (f : SnState → SnState) (s : State) : (modSn f s).dg = s.dg := rfl
@[simp] theorem modSn_ad (f : SnState → SnState) (s : State) : (modSn f s).ad = s.ad := rfl
@[simp] theorem modSn_da (f : SnState → SnState) (s : State) : (modSn f s).da = s.da := rfl
@[simp] theorem modSn_ps (f : SnState → SnState) (s : State) : (modSn f s).ps = s.ps := rfl
@[simp] theorem modSn_xb (f : SnState → SnState) (s : State) : (modSn f s).xb = s.xb := rfl
@[simp] theorem modSn_fp (f : SnState → SnState) (s : State) : (modSn f s).fp = s.fp := rfl
@[simp] theorem modSn_nw (f : SnState → SnState) (s : State) : (modSn f s).nw = s.nw := rfl
@[simp] theorem modSn_tw (f : SnState → SnState) (s : State) : (modSn f s).tw = s.tw := rfl
@[simp] theorem modSn_ig (f : SnState → SnState) (s : State) : (modSn f s).ig = s.ig := rfl
@[simp] theorem modSn_mb (f : SnState → SnState) (s : State) : (modSn f s).mb = s.mb := rfl
@[simp] theorem modSn_pt (f : SnState → SnState) (s : State) : (modSn f s).pt = s.pt := rfl
@[simp] theorem modSn_lg (f : SnState → SnState) (s : State) : (modSn f s).lg = s.lg := rfl
@[simp] theorem modSn_mem (f : SnState → SnState) (s : State) : (modSn f s).mem = s.mem := rfl
@[simp] theorem modSn_freeCount (f : SnState → SnState) (s : State) : (modSn f s).freeCount = s.freeCount := rfl
@[simp] theorem modSn_out (f : SnState → SnState) (s : State) : (modSn f s).out = s.out := rfl
@[simp] theorem modSn_pending (f : SnState → SnState) (s : State) : (modSn f s).pending = s.pending := rfl

/-! ### `modCand` -/

@[simp] theorem modCand_pw (i : Nat) (f : CandState → CandState) (s : State) : (modCand i f s).pw = s.pw := rfl
@[simp] theorem modCand_mode (i : Nat) (f : CandState → CandState) (s : State) : (modCand i f s).mode = s.mode := rfl
@[simp] theorem modCand_role (i : Nat) (f : CandState → CandState) (s : State) : (modCand i f s).role = s.role := rfl
@[simp] theorem modCand_acquireFenced (i : Nat) (f : CandState → CandState) (s : State) : (modCand i f s).acquireFenced = s.acquireFenced := rfl
@[simp] theorem modCand_fenceOpen (i : Nat) (f : CandState → CandState) (s : State) : (modCand i f s).fenceOpen = s.fenceOpen := rfl
@[simp] theorem modCand_firstLive (i : Nat) (f : CandState → CandState) (s : State) : (modCand i f s).firstLive = s.firstLive := rfl
@[simp] theorem modCand_safeCause (i : Nat) (f : CandState → CandState) (s : State) : (modCand i f s).safeCause = s.safeCause := rfl
@[simp] theorem modCand_faultCount (i : Nat) (f : CandState → CandState) (s : State) : (modCand i f s).faultCount = s.faultCount := rfl
@[simp] theorem modCand_spindle (i : Nat) (f : CandState → CandState) (s : State) : (modCand i f s).spindle = s.spindle := rfl
@[simp] theorem modCand_timeValid (i : Nat) (f : CandState → CandState) (s : State) : (modCand i f s).timeValid = s.timeValid := rfl
@[simp] theorem modCand_clock (i : Nat) (f : CandState → CandState) (s : State) : (modCand i f s).clock = s.clock := rfl
@[simp] theorem modCand_dataPlane (i : Nat) (f : CandState → CandState) (s : State) : (modCand i f s).dataPlane = s.dataPlane := rfl
@[simp] theorem modCand_live (i : Nat) (f : CandState → CandState) (s : State) : (modCand i f s).live = s.live := rfl
@[simp] theorem modCand_hs (i : Nat) (f : CandState → CandState) (s : State) : (modCand i f s).hs = s.hs := rfl
@[simp] theorem modCand_dg (i : Nat) (f : CandState → CandState) (s : State) : (modCand i f s).dg = s.dg := rfl
@[simp] theorem modCand_ad (i : Nat) (f : CandState → CandState) (s : State) : (modCand i f s).ad = s.ad := rfl
@[simp] theorem modCand_da (i : Nat) (f : CandState → CandState) (s : State) : (modCand i f s).da = s.da := rfl
@[simp] theorem modCand_ps (i : Nat) (f : CandState → CandState) (s : State) : (modCand i f s).ps = s.ps := rfl
@[simp] theorem modCand_xb (i : Nat) (f : CandState → CandState) (s : State) : (modCand i f s).xb = s.xb := rfl
@[simp] theorem modCand_fp (i : Nat) (f : CandState → CandState) (s : State) : (modCand i f s).fp = s.fp := rfl
@[simp] theorem modCand_sn (i : Nat) (f : CandState → CandState) (s : State) : (modCand i f s).sn = s.sn := rfl
@[simp] theorem modCand_nw (i : Nat) (f : CandState → CandState) (s : State) : (modCand i f s).nw = s.nw := rfl
@[simp] theorem modCand_tw (i : Nat) (f : CandState → CandState) (s : State) : (modCand i f s).tw = s.tw := rfl
@[simp] theorem modCand_ig (i : Nat) (f : CandState → CandState) (s : State) : (modCand i f s).ig = s.ig := rfl
@[simp] theorem modCand_mb (i : Nat) (f : CandState → CandState) (s : State) : (modCand i f s).mb = s.mb := rfl
@[simp] theorem modCand_pt (i : Nat) (f : CandState → CandState) (s : State) : (modCand i f s).pt = s.pt := rfl
@[simp] theorem modCand_lg (i : Nat) (f : CandState → CandState) (s : State) : (modCand i f s).lg = s.lg := rfl
@[simp] theorem modCand_mem (i : Nat) (f : CandState → CandState) (s : State) : (modCand i f s).mem = s.mem := rfl
@[simp] theorem modCand_freeCount (i : Nat) (f : CandState → CandState) (s : State) : (modCand i f s).freeCount = s.freeCount := rfl
@[simp] theorem modCand_out (i : Nat) (f : CandState → CandState) (s : State) : (modCand i f s).out = s.out := rfl
@[simp] theorem modCand_pending (i : Nat) (f : CandState → CandState) (s : State) : (modCand i f s).pending = s.pending := rfl

/-! ### `modPort` -/

@[simp] theorem modPort_pw (n : Nat) (f : PortState → PortState) (s : State) : (modPort n f s).pw = s.pw := by
  unfold modPort; (repeat' split) <;> rfl
@[simp] theorem modPort_mode (n : Nat) (f : PortState → PortState) (s : State) : (modPort n f s).mode = s.mode := by
  unfold modPort; (repeat' split) <;> rfl
@[simp] theorem modPort_role (n : Nat) (f : PortState → PortState) (s : State) : (modPort n f s).role = s.role := by
  unfold modPort; (repeat' split) <;> rfl
@[simp] theorem modPort_acquireFenced (n : Nat) (f : PortState → PortState) (s : State) : (modPort n f s).acquireFenced = s.acquireFenced := by
  unfold modPort; (repeat' split) <;> rfl
@[simp] theorem modPort_fenceOpen (n : Nat) (f : PortState → PortState) (s : State) : (modPort n f s).fenceOpen = s.fenceOpen := by
  unfold modPort; (repeat' split) <;> rfl
@[simp] theorem modPort_firstLive (n : Nat) (f : PortState → PortState) (s : State) : (modPort n f s).firstLive = s.firstLive := by
  unfold modPort; (repeat' split) <;> rfl
@[simp] theorem modPort_safeCause (n : Nat) (f : PortState → PortState) (s : State) : (modPort n f s).safeCause = s.safeCause := by
  unfold modPort; (repeat' split) <;> rfl
@[simp] theorem modPort_faultCount (n : Nat) (f : PortState → PortState) (s : State) : (modPort n f s).faultCount = s.faultCount := by
  unfold modPort; (repeat' split) <;> rfl
@[simp] theorem modPort_spindle (n : Nat) (f : PortState → PortState) (s : State) : (modPort n f s).spindle = s.spindle := by
  unfold modPort; (repeat' split) <;> rfl
@[simp] theorem modPort_timeValid (n : Nat) (f : PortState → PortState) (s : State) : (modPort n f s).timeValid = s.timeValid := by
  unfold modPort; (repeat' split) <;> rfl
@[simp] theorem modPort_clock (n : Nat) (f : PortState → PortState) (s : State) : (modPort n f s).clock = s.clock := by
  unfold modPort; (repeat' split) <;> rfl
@[simp] theorem modPort_dataPlane (n : Nat) (f : PortState → PortState) (s : State) : (modPort n f s).dataPlane = s.dataPlane := by
  unfold modPort; (repeat' split) <;> rfl
@[simp] theorem modPort_live (n : Nat) (f : PortState → PortState) (s : State) : (modPort n f s).live = s.live := by
  unfold modPort; (repeat' split) <;> rfl
@[simp] theorem modPort_hs (n : Nat) (f : PortState → PortState) (s : State) : (modPort n f s).hs = s.hs := by
  unfold modPort; (repeat' split) <;> rfl
@[simp] theorem modPort_tk (n : Nat) (f : PortState → PortState) (s : State) : (modPort n f s).tk = s.tk := by
  unfold modPort; (repeat' split) <;> rfl
@[simp] theorem modPort_dg (n : Nat) (f : PortState → PortState) (s : State) : (modPort n f s).dg = s.dg := by
  unfold modPort; (repeat' split) <;> rfl
@[simp] theorem modPort_ad (n : Nat) (f : PortState → PortState) (s : State) : (modPort n f s).ad = s.ad := by
  unfold modPort; (repeat' split) <;> rfl
@[simp] theorem modPort_da (n : Nat) (f : PortState → PortState) (s : State) : (modPort n f s).da = s.da := by
  unfold modPort; (repeat' split) <;> rfl
@[simp] theorem modPort_ps (n : Nat) (f : PortState → PortState) (s : State) : (modPort n f s).ps = s.ps := by
  unfold modPort; (repeat' split) <;> rfl
@[simp] theorem modPort_xb (n : Nat) (f : PortState → PortState) (s : State) : (modPort n f s).xb = s.xb := by
  unfold modPort; (repeat' split) <;> rfl
@[simp] theorem modPort_fp (n : Nat) (f : PortState → PortState) (s : State) : (modPort n f s).fp = s.fp := by
  unfold modPort; (repeat' split) <;> rfl
@[simp] theorem modPort_sn (n : Nat) (f : PortState → PortState) (s : State) : (modPort n f s).sn = s.sn := by
  unfold modPort; (repeat' split) <;> rfl
@[simp] theorem modPort_tw (n : Nat) (f : PortState → PortState) (s : State) : (modPort n f s).tw = s.tw := by
  unfold modPort; (repeat' split) <;> rfl
@[simp] theorem modPort_ig (n : Nat) (f : PortState → PortState) (s : State) : (modPort n f s).ig = s.ig := by
  unfold modPort; (repeat' split) <;> rfl
@[simp] theorem modPort_mb (n : Nat) (f : PortState → PortState) (s : State) : (modPort n f s).mb = s.mb := by
  unfold modPort; (repeat' split) <;> rfl
@[simp] theorem modPort_pt (n : Nat) (f : PortState → PortState) (s : State) : (modPort n f s).pt = s.pt := by
  unfold modPort; (repeat' split) <;> rfl
@[simp] theorem modPort_lg (n : Nat) (f : PortState → PortState) (s : State) : (modPort n f s).lg = s.lg := by
  unfold modPort; (repeat' split) <;> rfl
@[simp] theorem modPort_mem (n : Nat) (f : PortState → PortState) (s : State) : (modPort n f s).mem = s.mem := by
  unfold modPort; (repeat' split) <;> rfl
@[simp] theorem modPort_freeCount (n : Nat) (f : PortState → PortState) (s : State) : (modPort n f s).freeCount = s.freeCount := by
  unfold modPort; (repeat' split) <;> rfl
@[simp] theorem modPort_out (n : Nat) (f : PortState → PortState) (s : State) : (modPort n f s).out = s.out := by
  unfold modPort; (repeat' split) <;> rfl
@[simp] theorem modPort_pending (n : Nat) (f : PortState → PortState) (s : State) : (modPort n f s).pending = s.pending := by
  unfold modPort; (repeat' split) <;> rfl

/-! ### `modDac` -/

@[simp] theorem modDac_pw (d : Nat) (f : DacState → DacState) (s : State) : (modDac d f s).pw = s.pw := rfl
@[simp] theorem modDac_mode (d : Nat) (f : DacState → DacState) (s : State) : (modDac d f s).mode = s.mode := rfl
@[simp] theorem modDac_role (d : Nat) (f : DacState → DacState) (s : State) : (modDac d f s).role = s.role := rfl
@[simp] theorem modDac_acquireFenced (d : Nat) (f : DacState → DacState) (s : State) : (modDac d f s).acquireFenced = s.acquireFenced := rfl
@[simp] theorem modDac_fenceOpen (d : Nat) (f : DacState → DacState) (s : State) : (modDac d f s).fenceOpen = s.fenceOpen := rfl
@[simp] theorem modDac_firstLive (d : Nat) (f : DacState → DacState) (s : State) : (modDac d f s).firstLive = s.firstLive := rfl
@[simp] theorem modDac_safeCause (d : Nat) (f : DacState → DacState) (s : State) : (modDac d f s).safeCause = s.safeCause := rfl
@[simp] theorem modDac_faultCount (d : Nat) (f : DacState → DacState) (s : State) : (modDac d f s).faultCount = s.faultCount := rfl
@[simp] theorem modDac_spindle (d : Nat) (f : DacState → DacState) (s : State) : (modDac d f s).spindle = s.spindle := rfl
@[simp] theorem modDac_timeValid (d : Nat) (f : DacState → DacState) (s : State) : (modDac d f s).timeValid = s.timeValid := rfl
@[simp] theorem modDac_clock (d : Nat) (f : DacState → DacState) (s : State) : (modDac d f s).clock = s.clock := rfl
@[simp] theorem modDac_dataPlane (d : Nat) (f : DacState → DacState) (s : State) : (modDac d f s).dataPlane = s.dataPlane := rfl
@[simp] theorem modDac_live (d : Nat) (f : DacState → DacState) (s : State) : (modDac d f s).live = s.live := rfl
@[simp] theorem modDac_hs (d : Nat) (f : DacState → DacState) (s : State) : (modDac d f s).hs = s.hs := rfl
@[simp] theorem modDac_tk (d : Nat) (f : DacState → DacState) (s : State) : (modDac d f s).tk = s.tk := rfl
@[simp] theorem modDac_dg (d : Nat) (f : DacState → DacState) (s : State) : (modDac d f s).dg = s.dg := rfl
@[simp] theorem modDac_ad (d : Nat) (f : DacState → DacState) (s : State) : (modDac d f s).ad = s.ad := rfl
@[simp] theorem modDac_ps (d : Nat) (f : DacState → DacState) (s : State) : (modDac d f s).ps = s.ps := rfl
@[simp] theorem modDac_xb (d : Nat) (f : DacState → DacState) (s : State) : (modDac d f s).xb = s.xb := rfl
@[simp] theorem modDac_fp (d : Nat) (f : DacState → DacState) (s : State) : (modDac d f s).fp = s.fp := rfl
@[simp] theorem modDac_sn (d : Nat) (f : DacState → DacState) (s : State) : (modDac d f s).sn = s.sn := rfl
@[simp] theorem modDac_nw (d : Nat) (f : DacState → DacState) (s : State) : (modDac d f s).nw = s.nw := rfl
@[simp] theorem modDac_tw (d : Nat) (f : DacState → DacState) (s : State) : (modDac d f s).tw = s.tw := rfl
@[simp] theorem modDac_ig (d : Nat) (f : DacState → DacState) (s : State) : (modDac d f s).ig = s.ig := rfl
@[simp] theorem modDac_mb (d : Nat) (f : DacState → DacState) (s : State) : (modDac d f s).mb = s.mb := rfl
@[simp] theorem modDac_pt (d : Nat) (f : DacState → DacState) (s : State) : (modDac d f s).pt = s.pt := rfl
@[simp] theorem modDac_lg (d : Nat) (f : DacState → DacState) (s : State) : (modDac d f s).lg = s.lg := rfl
@[simp] theorem modDac_mem (d : Nat) (f : DacState → DacState) (s : State) : (modDac d f s).mem = s.mem := rfl
@[simp] theorem modDac_freeCount (d : Nat) (f : DacState → DacState) (s : State) : (modDac d f s).freeCount = s.freeCount := rfl
@[simp] theorem modDac_out (d : Nat) (f : DacState → DacState) (s : State) : (modDac d f s).out = s.out := rfl
@[simp] theorem modDac_pending (d : Nat) (f : DacState → DacState) (s : State) : (modDac d f s).pending = s.pending := rfl

/-! ### `passTime` -/

@[simp] theorem passTime_pw (d : Nat) (s : State) : (passTime d s).pw = s.pw := rfl
@[simp] theorem passTime_mode (d : Nat) (s : State) : (passTime d s).mode = s.mode := rfl
@[simp] theorem passTime_role (d : Nat) (s : State) : (passTime d s).role = s.role := rfl
@[simp] theorem passTime_acquireFenced (d : Nat) (s : State) : (passTime d s).acquireFenced = s.acquireFenced := rfl
@[simp] theorem passTime_fenceOpen (d : Nat) (s : State) : (passTime d s).fenceOpen = s.fenceOpen := rfl
@[simp] theorem passTime_firstLive (d : Nat) (s : State) : (passTime d s).firstLive = s.firstLive := rfl
@[simp] theorem passTime_safeCause (d : Nat) (s : State) : (passTime d s).safeCause = s.safeCause := rfl
@[simp] theorem passTime_faultCount (d : Nat) (s : State) : (passTime d s).faultCount = s.faultCount := rfl
@[simp] theorem passTime_timeValid (d : Nat) (s : State) : (passTime d s).timeValid = s.timeValid := rfl
@[simp] theorem passTime_dataPlane (d : Nat) (s : State) : (passTime d s).dataPlane = s.dataPlane := rfl
@[simp] theorem passTime_live (d : Nat) (s : State) : (passTime d s).live = s.live := rfl
@[simp] theorem passTime_hs (d : Nat) (s : State) : (passTime d s).hs = s.hs := rfl
@[simp] theorem passTime_tk (d : Nat) (s : State) : (passTime d s).tk = s.tk := rfl
@[simp] theorem passTime_dg (d : Nat) (s : State) : (passTime d s).dg = s.dg := rfl
@[simp] theorem passTime_ad (d : Nat) (s : State) : (passTime d s).ad = s.ad := rfl
@[simp] theorem passTime_da (d : Nat) (s : State) : (passTime d s).da = s.da := rfl
@[simp] theorem passTime_ps (d : Nat) (s : State) : (passTime d s).ps = s.ps := rfl
@[simp] theorem passTime_xb (d : Nat) (s : State) : (passTime d s).xb = s.xb := rfl
@[simp] theorem passTime_fp (d : Nat) (s : State) : (passTime d s).fp = s.fp := rfl
@[simp] theorem passTime_sn (d : Nat) (s : State) : (passTime d s).sn = s.sn := rfl
@[simp] theorem passTime_nw (d : Nat) (s : State) : (passTime d s).nw = s.nw := rfl
@[simp] theorem passTime_tw (d : Nat) (s : State) : (passTime d s).tw = s.tw := rfl
@[simp] theorem passTime_ig (d : Nat) (s : State) : (passTime d s).ig = s.ig := rfl
@[simp] theorem passTime_mb (d : Nat) (s : State) : (passTime d s).mb = s.mb := rfl
@[simp] theorem passTime_pt (d : Nat) (s : State) : (passTime d s).pt = s.pt := rfl
@[simp] theorem passTime_lg (d : Nat) (s : State) : (passTime d s).lg = s.lg := rfl
@[simp] theorem passTime_mem (d : Nat) (s : State) : (passTime d s).mem = s.mem := rfl
@[simp] theorem passTime_freeCount (d : Nat) (s : State) : (passTime d s).freeCount = s.freeCount := rfl
@[simp] theorem passTime_out (d : Nat) (s : State) : (passTime d s).out = s.out := rfl
@[simp] theorem passTime_pending (d : Nat) (s : State) : (passTime d s).pending = s.pending := rfl

end Sys2Proof.Laws
end

