-- ==== Sys2Proof/Machine/Pins.lean ====
section
/-! DEFINITION. What each output ball carries in a state (R16, R17, R35, R38, R41, R65, R336, R338, R342): views of the state,
which no command stores. -/
namespace Sys2Proof.Machine

/-- What a digital output carries: nothing, a level, both legs without transitions, or its own waveform. -/
inductive PinLevel where
  | highZ | low | high | quiet | running
deriving DecidableEq, Repr

/-- The supplies are up and the internal reset is released (R41, R65). -/
def powered (s : State) : Bool := s.pw.railsUp && !s.pw.inReset

/-- A fenced output is high-impedance in every other situation too: in reset, in HUSH, and with its fence closed. -/
def offPins (s : State) : Bool := !powered s || !s.fenceOpen || s.mode == .hush

/-! ### Clock outputs -/

/-- An instant on the timescale of a tap's group (R124), in model units. -/
def tapTime (s : State) (tap : Nat) : Int :=
  if tap = 0 then (s.spindle : Int)
  else if tap ≤ 2 then scaleTime s true s.spindle
  else (s.spindle : Int) - (s.tk.kNetwork - s.tk.kMedia) * (uPerNs : Nat) / 1000

/-- The tap edges up to now with their fraction, in 2^-16 cycle. -/
def tapUnits (s : State) (tap : Nat) : Int := tapTime s tap * (tapNum s.live tap * 65536 : Nat) / (tapDen s.live tap * uPerS : Nat)

/-- The divider of an output: rising edges at the tap edges that are DG_PHASE past a multiple of D, then high for ceil(D / 2)
cycles (R336, R338). With D = 1 the tap's own duty cycle passes, which the manual does not give.
Log entry 112 (DESIGN CHOICE). -/
def dividerHigh (s : State) (o : Nat) : Bool :=
  let c := clkOf s.live o
  let d := c.div + 1
  let u := tapUnits s c.tap
  if d = 1 then Config.tapHigh c.tap (u % 65536).toNat
  else decide (((u / 65536 - c.phase) % (d : Int)).toNat < (d + 1) / 2)

/-- CLKOUT0-11 (Tables DG-2, PW-2): low before the first commit, while the gate is closed, and in SAFE with role SOLO; an
output committed OFF stays high-impedance. -/
def clkPin (s : State) (o : Nat) : PinLevel :=
  if offPins s then .highZ
  else if s.firstLive = false then .low
  else if (clkOf s.live o).mode = 0 then .highZ
  else if s.da.safe ≠ 0 ∨ (nth {} s.hs.gate o).gate ≠ 0 then .low
  else if dividerHigh s o then .high else .low

/-- 1PPS_OUT. -/
def ppsPin (s : State) : PinLevel :=
  if offPins s then .highZ else if s.dg.ppsHigh = true ∧ s.da.safe = 0 then .high else .low

/-- AES3_TX0-7: both legs low before the first commit and while the transmitter waits for its block start. -/
def aes3Pin (s : State) (n : Nat) : PinLevel :=
  if offPins s then .highZ
  else if s.firstLive = false then .quiet
  else if (txCfg s.live n).en = false then .highZ
  else if s.da.safe = 0 ∧ s.dataPlane = .running ∧ (txState s n).last ≠ [] then .running else .quiet

/-! ### Front panel -/

/-- PDM_CLK in hertz: MCLK / 80 while a channel runs, MCLK / 320 in HUSH (R320). -/
def pdmHz (s : State) : Nat := clkNum s.live false / (if s.mode = .hush then 320 else 80)

/-- PDM_CLK (R322, Table PW-2): in HUSH the sentinel keeps it running with the fence closed. -/
def pdmPin (s : State) : PinLevel :=
  if !powered s then .highZ
  else if s.mode = .hush then (if s.live.sn.en then .running else .highZ)
  else if s.fenceOpen = false then .highZ
  else if s.firstLive = true ∧ (s.live.pdm0.en = true ∨ s.live.pdm1.en = true) then .running
  else .low

/-- MICBIAS is on at its ball (R315). -/
def micbiasOn (s : State) : Bool := powered s && s.fp.bias

/-- ALARM_OUT is driven low in reset, and is never fenced (Table PK-3). -/
def alarmPin (s : State) : PinLevel := if s.pw.railsUp = false then .highZ else if s.sn.alarmOut then .high else .low

/-! ### Host, ring, twin and network balls -/

/-- HOST_IRQ is open-drain, active low; released in reset (R390). -/
def irqPin (s : State) : PinLevel := if powered s = true ∧ hostIrq s = true then .low else .highZ

/-- HSPI_IO and the flash balls are high-impedance in reset. -/
def hspiPin (s : State) : PinLevel := if powered s then .running else .highZ
def flashPin (s : State) : PinLevel := if powered s then .running else .highZ

/-- LEASE_TX and IGR_OUT: driven without transitions in reset; lease frames and the ring from step 4 of Sequence PW-1. -/
def leasePin (s : State) : PinLevel := if s.pw.railsUp = false then .highZ else if leaseRuns s then .running else .quiet
def igrPin (s : State) : PinLevel := if s.pw.railsUp = false then .highZ else if ringRuns s then .running else .quiet

/-- A Tailstock lane: electrical idle in reset and in BOOT, outside a twin position, and in HUSH. -/
def tslPin (s : State) : PinLevel := if powered s = true ∧ twinPos s = true ∧ s.mode ≠ .boot ∧ s.mode ≠ .hush then .running else .quiet

/-- A network lane: electrical idle until its port drives (R151). -/
def nwPin (s : State) (n : Nat) : PinLevel := if powered s = true ∧ (getPort s n).txdis = false then .running else .quiet

/-- SFPn_TXDIS is open-drain: released, and pulled high by the module, until the device drives it low. -/
def txdisPin (s : State) (n : Nat) : PinLevel := if powered s = true ∧ (getPort s n).txdis = false then .low else .highZ

/-! ### The fenced group -/

/-- Every fenced output of Table AH-4 is high-impedance. -/
def allFenced (s : State) : Bool :=
  (List.range 12).all (fun o => clkPin s o == .highZ) && ppsPin s == .highZ && (List.range 8).all (fun n => aes3Pin s n == .highZ) &&
    (List.range 8).all (fun d => aoutPins s d == none) && hpPins s false == none && hpPins s true == none

end Sys2Proof.Machine
end

