-- ==== Sys2Proof/Tests/Base.lean ====
section
/-! SUPPORT. Small states and values that the tests are made of. -/
namespace Sys2Proof.Machine

/-- A device that runs alone: booted, SOLO by an open SLOT_SEL, FREERUN, the first commit live, 100 s after power-up. -/
def tRun : State :=
  { pw := { inReset := false, boot := .done }, ig := { forwarding := true }, mode := .freerun, role := .solo,
    fenceOpen := true, firstLive := true, dataPlane := .running, clock := 100 * uPerS, spindle := 50 * uPerS }

/-- What comes from outside in a frame without signals. -/
def tInput : FrameInput := { adc := [], pdm := [], asrc := [], rx := [], adcOver := 0, codes := [], fec := [] }

/-- A waiting command of the host port. -/
def tCmd (op : Nat) (p : Bytes) : Cmd :=
  { n := 0, origin := 0, order := .zero, tag := 9, opcode := op, expert := false, auth := false, cred := 0, seq := 1, sched := none,
    payload := p, phase := .waiting, ringNo := 0, mute := false, doomed := false }

/-- An image with no records, FULL, for level 1.0 (Table MB-10). -/
def tImage : Bytes := [0x56, 0x44, 0x43, 0x49, 1, 0, 1, 0, 1] ++ zeros 55

/-- A pending commit whose boundary is 60 s of Spindle time. -/
def tPend : PendCommit := { tables := {}, gen := 5, digest := 7, boundary := 60 * uPerS, cmd := some 4, recs := [], full := true }

/-- A ring frame with right header and CRC. -/
def tFrame (typ dst src : Nat) (payload : Bytes) : RingFrame :=
  { rsv := (0, 0, 0), dst := dst, src := src, typ := typ, hops := 1, len := payload.length, fseq := 0, payload := payload, crcOk := true }

/-- A device whose candidate 0 is of a type and QUALIFIED. -/
def tCand (typ : Nat) : State :=
  { tRun with live := { cand := [(0, { typ := typ })] }, tk := { cand := List.replicate 12 { st := .qualified } } }

/-- A device whose two network ports are up in 10GBASE-R, with PTP of both AUTO; its clock identity is 77, and port 0 follows the master (5, 1). -/
def tNet : State :=
  { tRun with
    pw := { tRun.pw with domains := List.replicate 11 { on := true } },
    timeValid := true,
    live := { port := [(0, some { mode := 3, unitIp := 0x0A000005, serviceIp := 0x0A000006, mask := 0xFFFFFF00, mac := 7 }),
                       (1, some { mode := 3, unitIp := 0x0B000005, serviceIp := 0x0B000006, mask := 0xFFFFFF00, mac := 8 })],
              ptp := { clockId := 77 }, ptpPort := [(0, some { role := 3 }), (1, some { role := 3 })],
              rx := [(4, some { ch := 2, dstA := 0xEF000001, ports := 1 })] },
    nw := { port0 := { link := 4, modabs := false }, port1 := { link := 4, modabs := false },
            ptp0 := { st := 9, parent := some ⟨5, 1⟩ }, ptp1 := { st := 6 } } }

/-- A PTP header of a message from the master (5, 1) in domain 127. -/
def tHdr (seq : Nat) : PtpHeader := { source := ⟨5, 1⟩, domain := 127, seq := seq, correction := 0, logInterval := 0 }

/-- An Announce. -/
def tAnn : Announce :=
  { gmId := 5, prio1 := 128, cls := 6, accuracy := 0x21, variance := 0x4E5D, prio2 := 128, steps := 0, utcOffset := 37,
    utcValid := true, leap61 := false, leap59 := false, timeTraceable := true, freqTraceable := true, timeSource := 0x20 }

/-- An RTP packet of the receive flow of `tNet`, of media count `ts`. -/
def tRtp (dst ts : Nat) : RtpPacket :=
  { version := 2, padding := false, ext := false, cc := 0, marker := false, dst := dst, src := 1, udp := 5004, pt := 96, ssrc := 1, seq := 0, ts := ts, payload := List.replicate 288 0 }

/-- The holder of a pair: slot A, ACTIVE and LOCKED, every path in service, its partner a HOT STANDBY. -/
def tTwin : State :=
  { tRun with
    pw := { tRun.pw with slotSel := 0 }, mode := .locked, role := .active,
    tw := { tsl0 := true, tsl1 := true, witness := true, holds := true, healthySince := some 0, leaseEnd := some (101 * uPerS),
            peerRole := some .standby, peerMode := some .locked, peerHot := true, peerE := true, genMatch := true, level := some 16 } }

/-- The STANDBY of a pair: slot B, LOCKED, its fence closed. -/
def tStby : State :=
  { tRun with
    pw := { tRun.pw with slotSel := 1 }, mode := .locked, role := .standby, fenceOpen := false,
    tw := { tsl0 := true, tsl1 := true, witness := true, healthySince := some 0, peerRole := some .active,
            peerMode := some .locked, genMatch := true, timeLoaded := true, level := some 16 } }

/-- A lease frame of the partner in slot A or B. -/
def tLease (slotB : Bool) : LeaseBits := { h := false, e := true, slotB := slotB, seq := 5 }

/-- A STATE of the partner. -/
def tPeer (r : Role) : PeerState :=
  { role := r, mode := .locked, hot := true, leaseUs := 20, gen := 0, digest := 0, pendGen := 0, pendDigest := 0, pendTime := 0 }

/-- A MIRROR whose clocks all agree. -/
def tMirror : MirrorMsg :=
  { mWord := 0, vWord := 0, nWord := 0, tapMedia := 0, tapVideo := 0, tapNetwork := 0, kMedia := 0, kVideo := 0, kNetwork := 0,
    owedMedia := 0, owedVideo := 0, owedNetwork := 0, mpd0 := 0, mpd1 := 0, ownMedia := 0, ownVideo := 0, ownNetwork := 0 }

/-- A unit of a ring: address 5, third in the ring, IGR_IN up. -/
def tRing : State := { tRun with ig := { forwarding := true, addr := 5, pos := 3, inUp := true } }

end Sys2Proof.Machine
end

