-- ==== Sys2Proof/Tests/Slice0.lean ====
section
/-! SUPPORT. The model's own tests: ill-formed rows that the checks refuse, worked examples of the manual, and for every
statement states and operands that meet the hypotheses of each of its clauses together. -/
open Sys2Proof Sys2Proof.Machine
set_option maxRecDepth 20000

/-! ### Well-formed rows -/

theorem test_ill_formed_host :
    ([.hostWindowWrite 0x1000 [],
      .hostWindowWrite 0x17FFF [0, 0],
      .powerUp [true, true, true],
      .videoRefWindow { j := 16, bad := false, template := true, late := 0, icorr := 0, qcorr := 0 },
      .buttonWindow 5 4] : List Instr).all (fun i => !wellFormed i) = true := by decide

/-- A frame whose ADC codes last all its 5,120 cycles. -/
def tFull0 : FrameInput := { tInput with codes := [(5120, List.replicate 8 0)], fec := [0, 0] }

theorem test_ill_formed_inputs :
    ([.frameBoundary { tFull0 with codes := [(5119, List.replicate 8 0)] },
      .frameBoundary { tFull0 with codes := [(5120, List.replicate 7 0)] },
      .frameBoundary { tFull0 with codes := [(5120, List.replicate 8 8192)] },
      .frameBoundary { tFull0 with codes := [(5120, List.replicate 8 (-8193))] },
      .frameBoundary { tFull0 with fec := [0] },
      .frameBoundary { tFull0 with adcOver := 256 },
      .frameBoundary { tFull0 with rx := [(4, { parity := 0, vframes := 0, crc := 0, cs := [] })] },
      .frameBoundary { tFull0 with asrc := [(8, [])] },
      .frameBoundary { tFull0 with asrc := [(0, [2 ^ 31])] },
      .frameBoundary { tFull0 with asrc := [(0, [-(2 ^ 31) - 1])] }] : List Instr).all (fun i => !wellFormed i) = true := by decide

theorem test_ill_formed_numbers :
    ([.domainStartupComplete 11,
      .domainShutdownComplete 11,
      .toolrestWindow 12 0,
      .toolrestGateOpen 12,
      .candidateSignalAppear 12,
      .candidateIntervalEval 12 0 0,
      .candidateQualified 12 0,
      .referenceLoss ⟨12, true⟩,
      .measurementTimerFire 4,
      .spindleAlarmFire 4,
      .windowPublish .regular [{ adc := 8, vref := 0, recov := 0, values := [] }],
      .windowPublish .regular [{ adc := 0, vref := 0, recov := 52, values := [] }],
      .rangeChangeEnd 8,
      .sequencerStart 4,
      .segmentEntry 4,
      .ltcFrameWrite 4,
      .clockOutputRephase 12,
      .aes3RxLock 4 ⟨0, 0⟩,
      .aes3RxLoss ⟨4, 0, 0⟩,
      .engineFrameOverrun 32 0,
      .asrcLock 4 0,
      .asrcLock 0 (2 ^ 32),
      .flowLost 512,
      .flowPathLost 512 true,
      .credentialSlotUnlock 8,
      .refSettled 4,
      .triggerPinEdge (.pwm 4) .rise,
      .triggerPinEdge (.trigIn 2) .rise] : List Instr).all (fun i => !wellFormed i) = true := by decide

/-- A received frame of 1,000 bytes. -/
def tNetFrame (b : FrameBody) : NetFrame := { tags := [], len := 1000, options := false, fragment := false, badSum := false, body := b }

theorem test_ill_formed_ports :
    ([.sfpModuleInserted 2 [],
      .sfpModuleInserted 0 (List.replicate 513 0),
      .sfpModuleRemoved 2,
      .linkTrainingAlternate 2,
      .linkUp ⟨2, 100⟩,
      .linkDown ⟨2, true, 0⟩,
      .mediaPacketReceived 2 (tRtp 0 0),
      .frameDiscarded ⟨2, tNetFrame .arp⟩,
      .frameDiscarded ⟨0, { tNetFrame .arp with tags := [4096] }⟩,
      .frameDiscarded ⟨0, tNetFrame (.ptp true 16)⟩,
      .frameDiscarded ⟨0, tNetFrame (.rtp { tRtp 0 0 with cc := 16 })⟩,
      .arpRequestReceived 2 0 0 0,
      .arpRequestReceived 0 (2 ^ 32) 0 0,
      .arpRequestReceived 0 0 (2 ^ 32) 0,
      .arpRequestReceived 0 0 0 (2 ^ 48),
      .arpReplyReceived 2 0 0,
      .arpReplyReceived 0 (2 ^ 32) 0,
      .arpReplyReceived 0 0 (2 ^ 48),
      .arpEntryAge 2 0,
      .arpEntryAge 0 (2 ^ 32),
      .arpRetry 2 0,
      .arpRetry 0 (2 ^ 32),
      .icmpEchoReceived 2 ⟨0, 0⟩ [],
      .icmpEchoReceived 0 ⟨(2 ^ 32), 0⟩ [],
      .icmpEchoReceived 0 ⟨0, (2 ^ 32)⟩ [],
      .igmpQueryReceived 2 ⟨3, 0⟩,
      .igmpQueryReceived 0 ⟨0, 0⟩,
      .igmpQueryReceived 0 ⟨4, 0⟩,
      .igmpQueryReceived 0 ⟨3, (2 ^ 32)⟩,
      .igmpReport 2] : List Instr).all (fun i => !wellFormed i) = true := by decide

theorem test_ill_formed_packets :
    ([.mediaPacketReceived 0 { tRtp 0 0 with dst := 2 ^ 32 },
      .mediaPacketReceived 0 { tRtp 0 0 with src := 2 ^ 32 },
      .mediaPacketReceived 0 { tRtp 0 0 with udp := 65536 },
      .mediaPacketReceived 0 { tRtp 0 0 with version := 4 },
      .mediaPacketReceived 0 { tRtp 0 0 with cc := 16 },
      .mediaPacketReceived 0 { tRtp 0 0 with pt := 128 },
      .mediaPacketReceived 0 { tRtp 0 0 with ssrc := 2 ^ 32 },
      .mediaPacketReceived 0 { tRtp 0 0 with seq := 65536 },
      .mediaPacketReceived 0 { tRtp 0 0 with ts := 2 ^ 32 },
      .ptpSyncReceived 2 (tHdr 0) true 0 0,
      .ptpFollowUpReceived 2 (tHdr 0) 0,
      .ptpAnnounceReceived 2 (tHdr 0) tAnn,
      .ptpDelayReqReceived 2 (tHdr 0) 0,
      .ptpDelayRespReceived 2 (tHdr 0) ⟨77, 1⟩ 0,
      .ptpAnnounceTimeout 2,
      .ptpSyncDue 2,
      .ptpAnnounceDue 2,
      .ptpDelayReqDue 2 0] : List Instr).all (fun i => !wellFormed i) = true := by decide

theorem test_ill_formed_links :
    ([.leaseRenew .tsl0 { tLease true with seq := 64 },
      .leaseAck .tsl0 { tLease true with seq := 64 },
      .leaseRelease .tsl0 { tLease true with seq := 64 },
      .leaseWaive .tsl0 { tLease true with seq := 64 },
      .leaseNull .tsl0 { tLease true with seq := 64 },
      .twTime 2 16 0 0 0 0,
      .twState 0 256 (tPeer .active),
      .twState 2 16 (tPeer .active),
      .twLedger 0 16 [],
      .twLedger 2 16 (zeros 32),
      .twSwapReq 2 16 0,
      .twSwapAck 2 16 0 true,
      .resyncReq 2 16 0 0 0] : List Instr).all (fun i => !wellFormed i) = true := by decide

theorem test_ill_formed_ring_frames :
    ([.ringFrameForward { tFrame 1 0 0 [] with dst := 64 },
      .ringEnumerate { tFrame 1 0 0 [] with src := 64 },
      .ringReset { tFrame 1 0 0 [] with typ := 256 },
      .ringCommand { tFrame 1 0 0 [] with hops := 64 },
      .ringWread { tFrame 1 0 0 [] with fseq := 65536 },
      .ringWwrite { tFrame 1 0 0 [] with len := 3 },
      .ringDoorbell { tFrame 1 0 0 (zeros 1029) with typ := 1 },
      .ringResetFrame { tFrame 1 0 0 [] with len := 3 },
      .ringBarrier { tFrame 1 0 0 [] with len := 3 },
      .ringSnapshot { tFrame 1 0 0 [] with len := 3 },
      .ringTime { tFrame 1 0 0 [] with len := 3 } 0 0] : List Instr).all (fun i => !wellFormed i) = true := by decide

theorem test_well_formed :
    ([.hostWindowWrite 0x1000 [1], .powerUp [true, true, true, true], .frameBoundary tFull0, .hsSlew .zero, .linkUp ⟨1, 100⟩,
      .frameDiscarded ⟨1, tNetFrame (.rtp (tRtp 0 0))⟩, .ringBarrier (tFrame 11 62 0 [3, 1]), .leaseAck .witness (tLease false),
      .toolrestGateOpen 11] : List Instr).all wellFormed = true := by decide

/-- No row of the table has bits (spec/opcode_table.json). -/
theorem test_no_row_has_bits : decodeTableWord 16 0x0310 = none := by decide

/-! ### Worked examples of the manual -/

/-- The two compact times of 00_scope.md: 4.5 s ahead, and 1 s and 10 ns behind. -/
theorem test_compact_example :
    expandCompact (mkTime 0x68010000 10 0) 0x68010004 500000000 = some (mkTime 0x68010004 500000000 0) ∧
      expandCompact (mkTime 0x68010000 10 0) 0x6800FFFF 0 = some (mkTime 0x6800FFFF 0 0) := by decide

/-- MSYN at 491.52 on a 10 MHz root and at 122.88 on a 40 MHz root (04_headstock.md). -/
theorem test_msyn_word :
    nominalWord {} 10000000 .msyn = 0x1EB * 2 ^ 48 + 0x851EB851EB85 ∧
      nominalWord {} 40000000 .msyn = 0x7A * 2 ^ 48 + 0xE147AE147AE1 := by decide

/-- A phase move of 1 ns is 322,123 units (04_headstock.md). -/
theorem test_phase_move : fsToUnits 10000000 (nominalWord {} 10000000 .msyn) 1000000 = 322123 := by decide

/-- The frame boundary at or after s + 250,000,010 ns is s + 250,020,833 ns + 0x5555 (13_host_mailbox.md). -/
theorem test_commit_boundary :
    compactForm (frameAtOrAfter false (mkTime 5 250000010 0)) = le 4 250020833 ++ le 4 5 ∧
      fracOf (frameAtOrAfter false (mkTime 5 250000010 0)) = 0x5555 := by decide

/-- Commands 0x0100 to 0x01FD wait: a doorbell of 3 is dropped, one of 2 fills the ring (13_host_mailbox.md). -/
def tFull : State := { tRun with mb := { cmdHead := 0x01FE, cmdTail := 0x0100, held := [[]] } }

theorem test_doorbell :
    cmdOccupancy tFull = 254 ∧ (doorbell 3 tFull).mb.cmdHead = 0x01FE ∧ (doorbell 3 tFull).mb.overflows = 1 ∧
      (doorbell 2 tFull).mb.cmdHead = 0x0200 ∧ (doorbell 2 tFull).mb.overflows = 0 := by decide

/-- The step of a DDS that draws the 625-line subcarrier at 148.5 MHz (08_dac_and_profiles.md). -/
theorem test_dds_step :
    ddsTheta {} { vclk := true, num := 17734475, den := 4 } 1 = 8403722117172 := by decide

/-- The clock output of the worked example: 48 kHz from MCLK is a divider of 5,120 (11_aes3_clock_outputs.md). -/
theorem test_mclk : frameLen false = 5120 * mclkLen false ∧ mclkLen false * 245760000 = uPerS := by decide

/-- A command of the host port goes from the bytes of its slot to its response: MB_HELLO with tag 7 (Tables MB-7, MB-8). -/
def tHello : State :=
  { tRun with mem := tabSetList 0 [] 0x1000 ([0x10, 0x01, 7, 0, 1, 0, 0, 0] ++ zeros 10 ++ [4, 0] ++ zeros 44) }

theorem test_hello_consumed :
    (doorbell 1 tHello).mb.cmds.map (fun c => (c.opcode, c.tag)) = [(0x0110, 7)] ∧ (doorbell 1 tHello).mb.cmdTail = 1 := by decide

/-! ### The hypotheses of the statements can be met -/

theorem witness_StepRunsFrontCommand :
    (∃ (s : State) (c : Instr) (q : List Instr), s.pending = c :: q) :=
  ⟨{ tRun with pending := [.mbResetDone] }, .mbResetDone, [], by decide⟩

theorem witness_IdleTick :
    (∃ (s : State), s.pending = [] ∧ (∀ p, s.mb.pend = some p → s.spindle < p.boundary)) ∧
    (∃ (s : State) (p : PendCommit), s.pending = [] ∧ s.mb.pend = some p ∧ p.boundary ≤ s.spindle ∧ s.spindle % frameLen (f441 s) = 0 ∧ s.dataPlane = .running ∧ s.firstLive = true) :=
  ⟨⟨tRun, by decide, by decide⟩,
   ⟨{ tRun with spindle := 0, mb := { pend := some { tables := { tw := { leaseUs := 20 } }, gen := 5, digest := 77, boundary := 0, cmd := none, recs := [], full := false } } }, { tables := { tw := { leaseUs := 20 } }, gen := 5, digest := 77, boundary := 0, cmd := none, recs := [], full := false }, by decide, by decide, by decide, by decide, by decide, by decide⟩⟩

theorem witness_FenceInvKept :
    (∃ (s t : State), FenceInv s ∧ step s = .next t) :=
  ⟨tRun, idleStep tRun, by decide, rfl⟩

theorem witness_MemWfKept :
    (∃ (s : State) (a : Nat) (d : Bytes), memWf s) ∧
    (∃ (s : State) (f : RingFrame), memWf s) ∧
    (∃ (s : State) (v : Word32), memWf s) ∧
    (∃ (s : State), memWf s) ∧
    (∃ (s : State) (v : Word32), memWf s) ∧
    (∃ (s : State) (v : Word32), memWf s) ∧
    (∃ (s : State) (v : Word32), memWf s) :=
  ⟨⟨tRun, 1, [1, 2, 3], by decide⟩,
   ⟨tRun, tFrame 8 5 0 [0, 128, 0, 0, 7], by decide⟩,
   ⟨tRun, 5, by decide⟩,
   ⟨tRun, by decide⟩,
   ⟨tRun, 5, by decide⟩,
   ⟨tRun, 5, by decide⟩,
   ⟨tRun, 5, by decide⟩⟩

theorem witness_HostWindow :
    (∃ (s : State) (addr : Nat) (data : Bytes), windowReady s = true ∧ s.mode ≠ .hush ∧ memWf s) ∧
    (∃ (s : State) (v : Word32), windowReady s = true ∧ s.mode ≠ .hush ∧ s.mb.resetBusy = none ∧ 1 ≤ v.toNat % 512 ∧ v.toNat % 512 ≤ 256 ∧ (s.mb.cmdHead + 65536 - s.mb.cmdTail) % 65536 + v.toNat % 512 ≤ 256) ∧
    (∃ (s : State) (v : Word32), windowReady s = true ∧ s.mode ≠ .hush ∧ s.mb.resetBusy = none ∧ (256 < v.toNat % 512 ∨ 1 ≤ v.toNat % 512 ∧ 256 < (s.mb.cmdHead + 65536 - s.mb.cmdTail) % 65536 + v.toNat % 512)) ∧
    (∃ (s : State) (v : Word32), windowReady s = true ∧ s.mode ≠ .hush ∧ (v.toNat % 65536 + 65536 - s.mb.rspTail) % 65536 ≤ (s.mb.rspHead + 65536 - s.mb.rspTail) % 65536) ∧
    (∃ (s : State) (v : Word32), windowReady s = true ∧ (s.mb.rspHead + 65536 - s.mb.rspTail) % 65536 < (v.toNat % 65536 + 65536 - s.mb.rspTail) % 65536) ∧
    (∃ (s : State) (v : Word32), windowReady s = true ∧ s.mode ≠ .hush) ∧
    (∃ (s : State) (v : Word32), windowReady s = true ∧ s.mode ≠ .hush) ∧
    (∃ (s : State) (nn : Nat), windowReady s = true ∧ 1 ≤ nn ∧ nn ≤ 3) :=
  ⟨⟨tRun, 1, [1, 2, 3], by decide, by decide, by decide⟩,
   ⟨tRun, 3, by decide, by decide, by decide, by decide, by decide, by decide⟩,
   ⟨tRun, 257, by decide, by decide, by decide, by decide⟩,
   ⟨{ tRun with mb := { rspHead := 5 } }, 3, by decide, by decide, by decide⟩,
   ⟨{ tRun with mb := { rspHead := 5 } }, 6, by decide, by decide⟩,
   ⟨tRun, 5, by decide, by decide⟩,
   ⟨tRun, 5, by decide, by decide⟩,
   ⟨tRun, 3, by decide, by decide, by decide⟩⟩

theorem witness_ResetScopes :
    (∃ (s : State) (t0 : Nat), windowReady s = true ∧ s.mb.resetKey = some (1, t0) ∧ s.clock ≤ t0 + uPerMs ∧ s.mode ≠ .hush) ∧
    (∃ (s : State) (t0 : Nat), windowReady s = true ∧ s.mb.resetKey = some (2, t0) ∧ s.clock ≤ t0 + uPerMs ∧ s.mode ≠ .hush) ∧
    (∃ (s : State) (t0 : Nat), windowReady s = true ∧ s.mb.resetKey = some (3, t0) ∧ s.clock ≤ t0 + uPerMs) ∧
    (∃ (s : State) (k : Scope), s.mb.resetBusy = some k) :=
  ⟨⟨{ tRun with mb := { resetKey := some (1, tRun.clock) } }, tRun.clock, by decide, by decide, by decide, by decide⟩,
   ⟨{ tRun with mb := { resetKey := some (2, tRun.clock) } }, tRun.clock, by decide, by decide, by decide, by decide⟩,
   ⟨{ tRun with mb := { resetKey := some (3, tRun.clock) } }, tRun.clock, by decide, by decide, by decide⟩,
   ⟨{ tRun with mb := { resetBusy := some .session } }, .session, by decide⟩⟩

theorem witness_ResetsAndBoot :
    (∃ (s : State) (b : List Bool), s.pw.railsUp = false) ∧
    (∃ (s : State) (ns : Nat), s.pw.inReset = false ∧ 1000 ≤ ns) ∧
    (∃ (s : State) (ns : Nat), ns < 200) ∧
    (∃ (s : State) (x : Straps), s.pw.inReset = true ∧ s.pw.railsUp = true ∧ s.pw.releaseAt ≤ s.clock) ∧
    (∃ (s : State) (a b : Bool), s.pw.boot = .released ∧ (a || b) = true) ∧
    (∃ (s : State), s.pw.boot = .ready) ∧
    (∃ (s : State), s.pw.boot = .ready ∧ s.pt.rolledBack = none) ∧
    (∃ (s : State) (k : Nat), s.pw.boot = .ready ∧ s.pt.rolledBack = some k) ∧
    (∃ (s : State), s.pw.boot = .verified ∧ s.hs.vsyn.lock = 4 ∧ s.hs.nsyn.lock = 4) ∧
    (∃ (s : State), s.pw.boot = .verified) :=
  ⟨⟨{ tRun with pw := { railsUp := false } }, [true, true, true, true], by decide⟩,
   ⟨tRun, 1000, by decide, by decide⟩,
   ⟨tRun, 199, by decide⟩,
   ⟨{ State.reset with clock := uPerMs }, { slotMv := 1000, vddio4Mv := 1000, bootSel := false, ringEnd := false, panelKey := false }, by decide, by decide, by decide⟩,
   ⟨{ State.reset with pw := { inReset := false, boot := .released } }, true, false, by decide, by decide⟩,
   ⟨{ State.reset with pw := { inReset := false, boot := .ready } }, by decide⟩,
   ⟨{ State.reset with pw := { inReset := false, boot := .ready } }, by decide, by decide⟩,
   ⟨{ State.reset with pw := { inReset := false, boot := .ready }, pt := { rolledBack := some 0 } }, 0, by decide, by decide⟩,
   ⟨{ State.reset with pw := { inReset := false, boot := .verified }, hs := { vsyn := { lock := 4 }, nsyn := { lock := 4 } } }, by decide, by decide, by decide⟩,
   ⟨{ State.reset with pw := { inReset := false, boot := .verified } }, by decide⟩⟩

theorem witness_FaultRows :
    (∃ (s : State), (s.mode = .configure ∨ s.mode = .freerun ∨ s.mode = .acquire ∨ s.mode = .locked ∨ s.mode = .holdover)) ∧
    (∃ (s : State), (s.mode = .configure ∨ s.mode = .freerun ∨ s.mode = .acquire ∨ s.mode = .locked ∨ s.mode = .holdover)) ∧
    (∃ (s : State), (s.mode = .configure ∨ s.mode = .freerun ∨ s.mode = .acquire ∨ s.mode = .locked ∨ s.mode = .holdover)) ∧
    (∃ (s : State) (r : Rail), s.pw.inReset = false ∧ (s.mode = .configure ∨ s.mode = .freerun ∨ s.mode = .acquire ∨ s.mode = .locked ∨ s.mode = .holdover)) ∧
    (∃ (s : State), (s.mode = .configure ∨ s.mode = .freerun ∨ s.mode = .acquire ∨ s.mode = .locked ∨ s.mode = .holdover)) ∧
    (∃ (s : State) (c p : Int), s.pw.inReset = false ∧ (s.mode = .configure ∨ s.mode = .freerun ∨ s.mode = .acquire ∨ s.mode = .locked ∨ s.mode = .holdover) ∧ 11500 ≤ c ∧ s.pw.temp = some p ∧ 11500 ≤ p) ∧
    (∃ (s : State), s.mode = .safe ∧ s.evtAt < fabricCycle s) ∧
    (∃ (s : State), s.mode = .safe ∧ fabricCycle s ≤ s.evtAt ∧ s.evtRank = rankFault ∧ s.safeAt = s.evtAt) ∧
    (∃ (s : State), s.mode = .boot) ∧
    (∃ (s : State), s.mode ≠ .boot ∧ s.mode ≠ .hush) :=
  ⟨⟨tRun, by decide⟩,
   ⟨tRun, by decide⟩,
   ⟨tRun, by decide⟩,
   ⟨tRun, .vddCore, by decide, by decide⟩,
   ⟨tRun, by decide⟩,
   ⟨{ tRun with pw := { tRun.pw with temp := some 11600 } }, 11550, 11600, by decide, by decide, by decide, by decide, by decide⟩,
   ⟨{ tRun with mode := .safe }, by decide, by decide⟩,
   ⟨{ tRun with mode := .safe, evtAt := fabricCycle tRun, evtRank := rankFault, safeAt := fabricCycle tRun }, by decide, by decide, by decide, by decide⟩,
   ⟨State.reset, by decide⟩,
   ⟨tRun, by decide, by decide⟩⟩

theorem witness_PowerAndHush :
    (∃ (s : State) (l : Bool) (ms : Nat), s.pw.panelKey = true ∧ s.pw.inReset = false ∧ 20 ≤ ms) ∧
    (∃ (s : State) (l : Bool) (ms : Nat), ms < 20) ∧
    (∃ (s : State) (c : Int), s.pw.inReset = false ∧ c < 10800) ∧
    (∃ (s : State) (c : Int), s.pw.inReset = false ∧ 10800 ≤ c ∧ c < 11500 ∧ s.pw.tempAlarmed = false) ∧
    (∃ (s : State) (d : Nat), d ≤ 10 ∧ Sized s ∧ (getDom s d).run = some true ∧ (getDom s d).since + domTime s.live d true ≤ s.clock) ∧
    (∃ (s : State) (d : Nat), d ≤ 10 ∧ Sized s ∧ (getDom s d).run = some false ∧ (getDom s d).since + domTime s.live d false ≤ s.clock) ∧
    (∃ (s : State) (n : Nat), s.pw.hush = .entering n ∧ s.pw.hushAt + 20 * uPerMs ≤ s.clock ∧ FenceInv s) ∧
    (∃ (s : State), s.pw.hush = .hushed ∧ s.pw.wakeHeld = true) ∧
    (∃ (s : State), s.pw.hush = .waking ∧ s.mode = .hush ∧ wakeLocked s = true ∧ s.spindle % frameLen (f441 s) = 0 ∧ s.pw.safeOnWake = false) ∧
    (∃ (s : State), s.pw.hush = .waking ∧ s.mode = .hush ∧ wakeLocked s = true ∧ s.spindle % frameLen (f441 s) = 0 ∧ s.pw.safeOnWake = true ∧ s.safeCause ≠ 0) :=
  ⟨⟨{ tRun with pw := { tRun.pw with panelKey := true } }, true, 20, by decide, by decide, by decide⟩,
   ⟨tRun, true, 19, by decide⟩,
   ⟨tRun, 2500, by decide, by decide⟩,
   ⟨tRun, 10800, by decide, by decide, by decide, by decide⟩,
   ⟨{ tRun with pw := { tRun.pw with domains := List.replicate 11 { run := some true } } }, 6, by decide, by decide, by decide, by decide⟩,
   ⟨{ tRun with pw := { tRun.pw with domains := List.replicate 11 { on := true, run := some false } } }, 6, by decide, by decide, by decide, by decide⟩,
   ⟨{ tRun with pw := { tRun.pw with hush := .entering 1 } }, 1, by decide, by decide, by decide⟩,
   ⟨{ tRun with pw := { tRun.pw with hush := .hushed, wakeHeld := true } }, by decide, by decide⟩,
   ⟨{ tRun with mode := .hush, pw := { tRun.pw with hush := .waking }, hs := { ssyn := { lock := 4 }, nsyn := { lock := 4 }, vsyn := { lock := 4 } } }, by decide, by decide, by decide, by decide, by decide⟩,
   ⟨{ tRun with mode := .hush, pw := { tRun.pw with hush := .waking, safeOnWake := true }, hs := { ssyn := { lock := 4 }, nsyn := { lock := 4 }, vsyn := { lock := 4 } } , safeCause := 32 }, by decide, by decide, by decide, by decide, by decide, by decide⟩⟩

theorem witness_Synthesisers :
    (∃ (s : State) (x : Syn), (getSyn s x).lock ≠ 0 ∧ (getSyn s x).lock ≠ 4) ∧
    (∃ (s : State) (x : Syn), (getSyn s x).lock ≠ 0 ∧ (getSyn s x).lock ≠ 4 ∧ (getSyn s x).lockFrom + uPerMs ≤ s.clock ∧ (s.mode = .configure ∨ s.mode = .freerun ∨ s.mode = .acquire ∨ s.mode = .locked ∨ s.mode = .holdover)) ∧
    (∃ (s : State) (x : Syn), (getSyn s x).lock ≠ 0 ∧ (getSyn s x).lock ≠ 4 ∧ (getSyn s x).lockFrom + uPerMs ≤ s.clock ∧ s.mode = .boot) ∧
    (∃ (s : State) (x : Syn), (getSyn s x).lock = 4 ∧ (s.mode = .configure ∨ s.mode = .freerun ∨ s.mode = .acquire ∨ s.mode = .locked ∨ s.mode = .holdover)) ∧
    (∃ (s : State) (x : Syn), (getSyn s x).moving = true ∧ (getSyn s x).suspended = false ∧ (getSyn s x).owed = 0) ∧
    (∃ (s : State) (x : Syn), moveRuns (getSyn s x) = true) ∧
    (∃ (s : State) (x : Syn), moveRuns (getSyn s x) = true) :=
  ⟨⟨{ tRun with hs := { vsyn := { lock := 3, word := 7 } } }, .vsyn, by decide, by decide⟩,
   ⟨{ tRun with hs := { nsyn := { lock := 2 } } }, .nsyn, by decide, by decide, by decide, by decide⟩,
   ⟨{ tRun with mode := .boot, hs := { nsyn := { lock := 2 } } }, .nsyn, by decide, by decide, by decide, by decide⟩,
   ⟨{ tRun with hs := { msyn := { lock := 4 } } }, .msyn, by decide, by decide⟩,
   ⟨{ tRun with hs := { ssyn := { lock := 4, moving := true, owed := 0 } } }, .ssyn, by decide, by decide, by decide⟩,
   ⟨{ tRun with hs := { ssyn := { lock := 4, moving := true, owed := 3 } } }, .ssyn, by decide⟩,
   ⟨{ tRun with hs := { ssyn := { lock := 4, moving := true, owed := 3 } } }, .ssyn, by decide⟩⟩

theorem witness_Roots :
    (∃ (s : State) (r : RootId), ((getRoot s r).st = .qualified ∨ (getRoot s r).st = .requalifying) ∧ (getRoot s (otherRoot r)).st = .qualified ∧ rootNow s = r) ∧
    (∃ (s : State) (r : RootId), ((getRoot s r).st = .qualified ∨ (getRoot s r).st = .requalifying) ∧ (getRoot s (otherRoot r)).st ≠ .qualified ∧ rootNow s = r ∧ (s.mode = .configure ∨ s.mode = .freerun ∨ s.mode = .acquire ∨ s.mode = .locked ∨ s.mode = .holdover)) ∧
    (∃ (s : State) (r : RootId), (getRoot s r).st = .disqualified) ∧
    (∃ (s : State) (r : RootId), (getRoot s r).st = .requalifying ∧ (getRoot s r).since + uPerS ≤ s.clock ∧ s.hs.heldUnfit = false ∧ (rootNow s = r ∨ (getRoot s (rootNow s)).st = .qualified)) ∧
    (∃ (s : State) (r : RootId), (getRoot s r).st = .requalifying ∧ (getRoot s r).since + uPerS ≤ s.clock ∧ s.hs.heldUnfit = false ∧ s.hs.force = none ∧ rootNow s ≠ r ∧ (getRoot s (rootNow s)).st ≠ .qualified) ∧
    (∃ (s : State), s.live.root.revert = true ∧ s.hs.force = none ∧ rootNow s ≠ rootPref s.live ∧ (getRoot s (rootPref s.live)).st = .qualified ∧ (getRoot s (rootPref s.live)).since + 10 * uPerS ≤ s.clock) ∧
    (∃ (s : State) (d a b : Int), d.natAbs ≤ s.live.root.tol * 1000) ∧
    (∃ (s : State) (d a b : Int), s.live.root.tol * 1000 < d.natAbs ∧ s.hs.disagree = false ∧ s.mode ≠ .locked) :=
  ⟨⟨{ tRun with hs := { rootA := { st := .qualified }, rootB := { st := .qualified } } }, .a, by decide, by decide, by decide⟩,
   ⟨{ tRun with hs := { rootA := { st := .qualified } } }, .a, by decide, by decide, by decide, by decide⟩,
   ⟨{ tRun with hs := { rootB := { st := .disqualified } } }, .b, by decide⟩,
   ⟨{ tRun with hs := { rootA := { st := .qualified }, rootB := { st := .requalifying } } }, .b, by decide, by decide, by decide, by decide⟩,
   ⟨{ tRun with hs := { rootB := { st := .requalifying } } }, .b, by decide, by decide, by decide, by decide, by decide, by decide⟩,
   ⟨{ tRun with live := { root := { revert := true } }, hs := { nowB := true, rootA := { st := .qualified } } }, by decide, by decide, by decide, by decide, by decide⟩,
   ⟨tRun, 100, 5, 5, by decide⟩,
   ⟨tRun, 600000, 5, 5, by decide, by decide, by decide⟩⟩

theorem witness_ToolRest :
    (∃ (s : State) (o n : Nat), o < 12 ∧ Sized s ∧ s.firstLive = true ∧ (clkOf s.live o).mode ≠ 0 ∧ windowLimit s.live o < n) ∧
    (∃ (s : State) (o n : Nat), o < 12 ∧ Sized s ∧ s.firstLive = true ∧ (clkOf s.live o).mode ≠ 0 ∧ n ≤ windowLimit s.live o) ∧
    (∃ (s : State) (o a : Nat), o < 12 ∧ Sized s ∧ s.firstLive = true ∧ (clkOf s.live o).mode ≠ 0 ∧ (getSyn s (tapSyn (clkOf s.live o).tap)).lock = 4 ∧ cyclesPassed s.live o (getSyn s (tapSyn (clkOf s.live o).tap)).lockAt s.clock = true ∧ (nth {} s.hs.gate o).aligned = some a ∧ cyclesPassed s.live o a s.clock = true ∧ clkHeld s = false ∧ ((nth {} s.hs.gate o).gate = 2 → ∃ b, (nth {} s.hs.gate o).cleanAt = some b ∧ cyclesPassed s.live o b s.clock = true)) :=
  ⟨⟨{ tRun with live := { clk := [(3, { mode := 2 })] } }, 3, 100000, by decide, by decide, by decide, by decide, by decide⟩,
   ⟨{ tRun with live := { clk := [(3, { mode := 2 })] } }, 3, 1, by decide, by decide, by decide, by decide, by decide⟩,
   ⟨{ tRun with live := { clk := [(3, { mode := 2 })] }, hs := { msyn := { lock := 4 }, gate := List.replicate 12 { aligned := some 0 } } }, 3, 0, by decide, by decide, by decide, by decide, by decide, by decide, by decide, by decide, by decide, by decide⟩⟩

theorem witness_Candidates :
    (∃ (s : State) (i : Nat), Sized s ∧ i < 12 ∧ (candSt s i).st = .noSignal ∧ candUsable s i = true) ∧
    (∃ (s : State) (i : Nat) (f d : Int), Sized s ∧ i < 12 ∧ (candSt s i).st = .qualifying ∧ failedCriterion s i f (deltaOf s i (measNow s i d)) = 0) ∧
    (∃ (s : State) (i : Nat) (f d : Int), Sized s ∧ i < 12 ∧ (candSt s i).st = .qualifying ∧ s.tk.selected ≠ some i ∧ failedCriterion s i f (deltaOf s i (measNow s i d)) ≠ 0) ∧
    (∃ (s : State) (d : Int), Sized s ∧ (candSt s 0).st = .qualifying ∧ (candSt s 0).qualLeft = 0 ∧ s.mode = .freerun) ∧
    (∃ (s : State) (i : Nat) (d : Int), Sized s ∧ i < 12 ∧ (candSt s i).st = .qualifying ∧ (candSt s i).qualLeft = 0 ∧ s.mode = .configure) ∧
    (∃ (s : State) (i : Nat) (b : Bool), Sized s ∧ i < 12 ∧ (candSt s i).st ≠ .off ∧ (candSt s i).st ≠ .noSignal ∧ s.tk.selected ≠ some i ∧ lossDue s i b = true) ∧
    (∃ (s : State) (i : Nat) (b : Bool), lossDue s i b = false) ∧
    (∃ (s : State) (u : Nat), s.mode = .acquire ∧ s.tk.lockSince = some u ∧ u + 2 * uPerS ≤ s.clock ∧ s.spindle % frameLen (f441 s) = 0) :=
  ⟨⟨{ tRun with live := { cand := [(0, { typ := 3 })] }, tk := { cand := List.replicate 12 { st := .noSignal } } }, 0, by decide, by decide, by decide, by decide⟩,
   ⟨{ tRun with tk := { cand := List.replicate 12 { st := .qualifying, qualLeft := 4 } } }, 2, 0, 0, by decide, by decide, by decide, by decide⟩,
   ⟨{ tRun with tk := { cand := List.replicate 12 { st := .qualifying, qualLeft := 4 } } }, 2, 20000000, 0, by decide, by decide, by decide, by decide, by decide⟩,
   ⟨{ tRun with tk := { cand := List.replicate 12 { st := .qualifying, qualLeft := 0 } } }, 0, by decide, by decide, by decide, by decide⟩,
   ⟨{ tRun with mode := .configure, tk := { cand := List.replicate 12 { st := .qualifying, qualLeft := 0 } } }, 1, 0, by decide, by decide, by decide, by decide, by decide⟩,
   ⟨tCand 3, 0, true, by decide, by decide, by decide, by decide, by decide, by decide⟩,
   ⟨tRun, 0, false, by decide⟩,
   ⟨{ tRun with mode := .acquire, tk := { lockSince := some 0 } }, 0, by decide, by decide, by decide, by decide⟩⟩

theorem witness_LoopAndHoldover :
    (∃ (s : State) (i : Nat) (d : Int), s.mb.resetBusy = none ∧ loopDue s = true ∧ s.tk.selected = some i ∧ (candSt s i).st = .qualified ∧ Sized s ∧ i < 12 ∧ (s.mode = .acquire ∨ s.mode = .locked)) ∧
    (∃ (s : State) (d : Int), loopDue s = false) ∧
    (∃ (s : State) (d : Int), s.tk.selected = none) ∧
    (∃ (s : State) (c : Int), s.mode = .holdover ∧ s.mb.resetBusy = none ∧ s.role ≠ .standby ∧ -50000000000000000000 ≤ s.tk.yh ∧ s.tk.yh ≤ 50000000000000000000) ∧
    (∃ (s : State), s.tk.hoAged = false ∧ s.tk.hoList ≠ [] ∧ s.tk.hoLast + s.live.tk.hoAge * 3600 * uPerS < s.clock) ∧
    (∃ (s : State), s.tk.leapPend = 1 ∧ s.tk.leapAt ≤ secOf s.spindle) ∧
    (∃ (s : State), s.tk.leapPend = 2 ∧ s.tk.leapAt ≤ secOf s.spindle) ∧
    (∃ (s : State) (i : Nat) (f : Int), presentCand s 3 = some i ∧ Sized s ∧ i < 12) ∧
    (∃ (s : State) (i a : Nat), presentCand s 4 = some i ∧ Sized s ∧ i < 12 ∧ wclkBad (vfmtRate (candCfg s.live i).vfmt) ((a :: s.dg.wclk).take 5) = false) ∧
    (∃ (s : State) (i : Nat) (w : VideoWindow), presentCand s 9 = some i ∧ Sized s ∧ i < 12 ∧ w.bad = false ∧ w.template = true) ∧
    (∃ (s : State) (i : Nat) (w : VideoWindow), presentCand s 9 = some i ∧ Sized s ∧ i < 12 ∧ w.bad = false ∧ w.template = false ∧ 1 ≤ s.tk.videoMisses ∧ s.tk.selected ≠ some i) :=
  ⟨⟨{ tCand 3 with mode := .locked, tk := { (tCand 3).tk with selected := some 0 } }, 0, 0, by decide, by decide, by decide, by decide, by decide, by decide, by decide⟩,
   ⟨{ tRun with tk := { loopLast := some tRun.clock } }, 0, by decide⟩,
   ⟨tRun, 5, by decide⟩,
   ⟨{ tRun with mode := .holdover }, 5, by decide, by decide, by decide, by decide, by decide⟩,
   ⟨{ tRun with clock := 100000 * uPerS, tk := { hoList := [(0, 2500)] } }, by decide, by decide, by decide⟩,
   ⟨{ tRun with tk := { leapPend := 1, utcNow := 37 } }, by decide, by decide⟩,
   ⟨{ tRun with tk := { leapPend := 2, utcNow := 37 } }, by decide, by decide⟩,
   ⟨tCand 3, 0, 5, by decide, by decide, by decide⟩,
   ⟨tCand 4, 0, 20, by decide, by decide, by decide, by decide⟩,
   ⟨tCand 9, 0, { j := 3, bad := false, template := true, late := 0, icorr := 5, qcorr := 0 }, by decide, by decide, by decide, by decide, by decide⟩,
   ⟨{ tCand 9 with tk := { (tCand 9).tk with videoMisses := 1 } }, 0, { j := 0, bad := false, template := false, late := 0, icorr := 0, qcorr := 0 }, by decide, by decide, by decide, by decide, by decide, by decide, by decide⟩⟩

theorem witness_NetworkLinks :
    (∃ (s : State) (n : Nat) (id : Bytes), n < 2 ∧ (getPort s n).modabs = true ∧ portPowered s n = true ∧ s.mode ≠ .boot ∧ s.mode ≠ .hush ∧ portMode s.live n ≠ 0) ∧
    (∃ (s : State) (n : Nat), n < 2 ∧ (getPort s n).modabs = false) ∧
    (∃ (s : State) (n : Nat), n < 2 ∧ s.firstLive = false ∧ (getPort s n).link = 1 ∧ (getPort s n).tryAt + 500 * uPerMs ≤ s.clock) ∧
    (∃ (s : State) (n ms : Nat), n < 2 ∧ (getPort s n).link = 1 ∧ 100 ≤ ms) ∧
    (∃ (s : State) (n ms : Nat), ms < 100) ∧
    (∃ (s : State) (n us : Nat), us ≤ 1000) ∧
    (∃ (s : State) (n us : Nat) (b : Bool), n < 2 ∧ linkUp s n = true ∧ (b = true ∨ 1000 < us)) :=
  ⟨⟨{ tNet with nw := {} }, 1, [1, 2, 3], by decide, by decide, by decide, by decide, by decide, by decide⟩,
   ⟨tNet, 1, by decide, by decide⟩,
   ⟨{ tNet with firstLive := false, nw := { port1 := { link := 1 } } }, 1, by decide, by decide, by decide, by decide⟩,
   ⟨{ tNet with nw := { port1 := { link := 1 } } }, 1, 100, by decide, by decide, by decide⟩,
   ⟨{ tNet with nw := { port1 := { link := 1 } } }, 1, 99, by decide⟩,
   ⟨tNet, 0, 1000, by decide⟩,
   ⟨tNet, 0, 1001, false, by decide, by decide, by decide⟩⟩

theorem witness_NetworkFrames :
    (∃ (s : State) (n : Nat) (f : NetFrame), portServes s n = true ∧ frameHandled s n f = true) ∧
    (∃ (s : State) (n : Nat) (f : NetFrame), portServes s n = true ∧ frameHandled s n f = false) ∧
    (∃ (s : State) (n a b : Nat), portServes s n = true ∧ s.fenceOpen = true) ∧
    (∃ (s : State) (n a b : Nat), s.fenceOpen = false ∧ (portCfg s.live n).serviceIp ≠ (portCfg s.live n).unitIp) ∧
    (∃ (s : State) (n a b : Nat), portServes s n = true ∧ (portCfg s.live n).serviceIp ≠ (portCfg s.live n).unitIp) ∧
    (∃ (s : State) (n ip mac : Nat), portServes s n = true) ∧
    (∃ (s : State) (n ip : Nat), n < 2 ∧ (getPort s n).arp.all (fun e => e.1 != ip || decide (e.2.2 + 300 * uPerS ≤ s.clock)) = true) ∧
    (∃ (s : State) (n ip : Nat), portServes s n = true ∧ (hopsWanted s n).contains ip = true ∧ arpKnown s n ip = false ∧ (getPort s n).arpReq = []) ∧
    (∃ (s : State) (n ip t0 : Nat), (getPort s n).arpReq = [(ip, t0)] ∧ s.clock < t0 + uPerS) ∧
    (∃ (s : State), s.nw.garp = true ∧ s.fenceOpen = true ∧ portServes s 0 = true ∧ portServes s 1 = true) ∧
    (∃ (s : State) (n src dst : Nat) (d : Bytes), portServes s n = true ∧ d.length ≤ 1472 ∧ (getPort s n).icmpSec = s.clock / uPerS ∧ (getPort s n).icmpCount < 100 ∧ dst = (portCfg s.live n).serviceIp ∧ s.fenceOpen = true) ∧
    (∃ (s : State) (n src dst : Nat) (d : Bytes), portServes s n = true ∧ d.length ≤ 1472 ∧ (getPort s n).icmpSec = s.clock / uPerS ∧ (getPort s n).icmpCount < 100 ∧ dst = (portCfg s.live n).unitIp ∧ dst ≠ (portCfg s.live n).serviceIp) ∧
    (∃ (s : State) (n src dst : Nat) (d : Bytes), portServes s n = true ∧ dst = (portCfg s.live n).unitIp ∧ (1472 < d.length ∨ (getPort s n).icmpSec = s.clock / uPerS ∧ 100 ≤ (getPort s n).icmpCount)) ∧
    (∃ (s : State) (n src dst : Nat) (d : Bytes), dst ≠ (portCfg s.live n).unitIp ∧ (dst ≠ (portCfg s.live n).serviceIp ∨ s.fenceOpen = false)) ∧
    (∃ (s : State) (n g : Nat), portServes s n = true ∧ igmpVersion s n = 3) ∧
    (∃ (s : State) (n : Nat), portServes s n = true ∧ igmpVersion s n = 3) :=
  ⟨⟨tNet, 0, tNetFrame .icmpEcho, by decide, by decide⟩,
   ⟨tNet, 0, tNetFrame .ipv6, by decide, by decide⟩,
   ⟨tNet, 0, 1, 1, by decide, by decide⟩,
   ⟨{ tNet with fenceOpen := false }, 0, 1, 1, by decide, by decide⟩,
   ⟨{ tNet with fenceOpen := false }, 0, 1, 1, by decide, by decide⟩,
   ⟨tNet, 1, 1, 1, by decide⟩,
   ⟨{ tNet with clock := 400 * uPerS, nw := { port0 := { arp := [(3, 4, 0), (5, 6, 0)] } } }, 0, 3, by decide, by decide⟩,
   ⟨{ tNet with live := { tNet.live with txFlow := [(0, some { dstA := 0x0A000009 })] } }, 0, 0x0A000009, by decide, by decide, by decide, by decide⟩,
   ⟨{ tNet with nw := { port0 := { arpReq := [(7, 100 * uPerS)] } } }, 0, 7, 100 * uPerS, by decide, by decide⟩,
   ⟨{ tNet with nw := { tNet.nw with garp := true } }, by decide, by decide, by decide, by decide⟩,
   ⟨{ tNet with nw := { tNet.nw with port0 := { link := 4, icmpSec := 100 } } }, 0, 1, 0x0A000006, [1], by decide, by decide, by decide, by decide, by decide, by decide⟩,
   ⟨{ tNet with nw := { tNet.nw with port0 := { link := 4, icmpSec := 100 } } }, 0, 1, 0x0A000005, [1], by decide, by decide, by decide, by decide, by decide, by decide⟩,
   ⟨{ tNet with nw := { tNet.nw with port0 := { link := 4, icmpSec := 100, icmpCount := 100 } } }, 0, 1, 0x0A000005, [1], by decide, by decide, by decide⟩,
   ⟨tNet, 0, 1, 9, [1], by decide, by decide⟩,
   ⟨tNet, 0, 0xEF000001, by decide, by decide⟩,
   ⟨tNet, 0, by decide, by decide⟩⟩

theorem witness_MediaPackets :
    (∃ (s : State) (n : Nat) (p : RtpPacket), portServes s n = true ∧ s.live.rx.all (fun e => match e.2 with | some c => !flowTakes c n p | none => true) = true) ∧
    (∃ (s : State) (n i : Nat) (c : FlowCfg) (p : RtpPacket), portServes s n = true ∧ s.dataPlane = .running ∧ s.live.rx = [(i, some c)] ∧ flowTakes c n p = true ∧ mediaCount s c ≤ fullCount (mediaCount s c) p.ts + flowL c ∧ fullCount (mediaCount s c) p.ts + flowN c ≤ mediaCount s c + flowDs c ∧ (rxState s i).buf.any (fun e => e.1 == fullCount (mediaCount s c) p.ts) = false ∧ (rxState s i).played.contains (fullCount (mediaCount s c) p.ts) = false) ∧
    (∃ (s : State) (n i : Nat) (c : FlowCfg) (p : RtpPacket), portServes s n = true ∧ s.dataPlane = .running ∧ s.live.rx = [(i, some c)] ∧ flowTakes c n p = true ∧ fullCount (mediaCount s c) p.ts + flowL c < mediaCount s c ∧ (rxState s i).buf.any (fun e => e.1 == fullCount (mediaCount s c) p.ts) = false ∧ (rxState s i).played.contains (fullCount (mediaCount s c) p.ts) = false) ∧
    (∃ (s : State) (p : RtpOut), s.nw.dueAt ≤ s.clock ∧ s.nw.due = [p] ∧ mediaSends s = true ∧ nbit p.ports 0 = true ∧ nbit p.ports 1 = false ∧ portServes s 0 = true ∧ resolved s 0 p.dstA = true) ∧
    (∃ (s : State), s.nw.dueAt ≤ s.clock ∧ s.fenceOpen = false) ∧
    (∃ (s : State) (i : Nat) (c : FlowCfg), rxFlow s.live i = some c ∧ c.en = true ∧ (rxState s i).lost = false ∧ s.firstLive = true ∧ s.mode ≠ .hush ∧ (rxState s i).aLast + lossTime c ≤ s.clock ∧ (rxState s i).bLast + lossTime c ≤ s.clock) ∧
    (∃ (s : State) (i : Nat) (c : FlowCfg), rxFlow s.live i = some c ∧ c.en = true ∧ c.ports = 3 ∧ (rxState s i).bOk = true ∧ (rxState s i).bLast + lossTime c ≤ s.clock) :=
  ⟨⟨tNet, 1, tRtp 0xEF000001 0, by decide, by decide⟩,
   ⟨tNet, 0, 4, { ch := 2, dstA := 0xEF000001, ports := 1 }, tRtp 0xEF000001 2400000, by decide, by decide, by decide, by decide, by decide, by decide, by decide, by decide⟩,
   ⟨tNet, 0, 4, { ch := 2, dstA := 0xEF000001, ports := 1 }, tRtp 0xEF000001 2390000, by decide, by decide, by decide, by decide, by decide, by decide, by decide⟩,
   ⟨{ tNet with nw := { tNet.nw with due := [{ flow := 2, ports := 1, dstA := 0xEF000001, udpA := 5004, dstB := 0, udpB := 0, udpSrc := 5004, dscp := 34, ttl := 64, pt := 96, ssrc := 1, seq := 0, ts := 0, payload := [] }] } }, { flow := 2, ports := 1, dstA := 0xEF000001, udpA := 5004, dstB := 0, udpB := 0, udpSrc := 5004, dscp := 34, ttl := 64, pt := 96, ssrc := 1, seq := 0, ts := 0, payload := [] }, by decide, by decide, by decide, by decide, by decide, by decide, by decide⟩,
   ⟨{ tNet with fenceOpen := false }, by decide, by decide⟩,
   ⟨tNet, 4, { ch := 2, dstA := 0xEF000001, ports := 1 }, by decide, by decide, by decide, by decide, by decide, by decide, by decide⟩,
   ⟨{ tNet with live := { rx := [(4, some { ports := 3 })] }, nw := { rx := [(4, { bOk := true })] } }, 4, { ports := 3 }, by decide, by decide, by decide, by decide, by decide⟩⟩

theorem witness_PtpReceived :
    (∃ (s : State) (n : Nat) (h : PtpHeader) (b : Bool) (x y : Int), ptpOn s n = true ∧ h.source.clock = clockId s.live) ∧
    (∃ (s : State) (n : Nat) (h : PtpHeader) (x y : Int), ptpOn s n = true ∧ h.source.clock ≠ clockId s.live ∧ h.domain = s.live.ptp.domain ∧ fromParent s n h = true) ∧
    (∃ (s : State) (n : Nat) (h : PtpHeader) (x y : Int), ptpOn s n = true ∧ h.source.clock ≠ clockId s.live ∧ h.domain = s.live.ptp.domain ∧ fromParent s n h = true) ∧
    (∃ (s : State) (n : Nat) (h : PtpHeader) (x y : Int), ptpOn s n = true ∧ h.source.clock ≠ clockId s.live ∧ h.domain = s.live.ptp.domain ∧ fromParent s n h = true ∧ (getPtp s n).sync = some (h.seq, y)) ∧
    (∃ (s : State) (n : Nat) (h : PtpHeader) (q : Nat) (x y : Int), ptpOn s n = true ∧ h.source.clock ≠ clockId s.live ∧ h.domain = s.live.ptp.domain ∧ fromParent s n h = true ∧ (getPtp s n).sync = some (q, y) ∧ q ≠ h.seq) ∧
    (∃ (s : State) (n : Nat) (h : PtpHeader) (x d t3 : Int), ptpOn s n = true ∧ h.source.clock ≠ clockId s.live ∧ h.domain = s.live.ptp.domain ∧ fromParent s n h = true ∧ (getPtp s n).dreq = some (h.seq, t3) ∧ (getPtp s n).t21 = some d ∧ s.role ≠ .standby ∧ s.role ≠ .fenced) ∧
    (∃ (s : State) (n : Nat) (h : PtpHeader) (a : Announce), ptpOn s n = true ∧ h.source.clock ≠ clockId s.live ∧ h.domain = s.live.ptp.domain) ∧
    (∃ (s : State) (n : Nat) (h : PtpHeader) (x : Int), ptpOn s n = true ∧ h.source.clock ≠ clockId s.live ∧ h.domain = s.live.ptp.domain ∧ masterSends s n = true ∧ (getPtp s n).dreqSec = s.clock / uPerS ∧ (getPtp s n).dreqCount < 32768) ∧
    (∃ (s : State) (n : Nat) (h : PtpHeader) (x : Int), ptpOn s n = true ∧ h.source.clock ≠ clockId s.live ∧ h.domain = s.live.ptp.domain ∧ masterSends s n = true ∧ (getPtp s n).dreqSec = s.clock / uPerS ∧ 32768 ≤ (getPtp s n).dreqCount) :=
  ⟨⟨tNet, 0, { tHdr 3 with source := ⟨77, 2⟩ }, true, 5, 5, by decide, by decide⟩,
   ⟨tNet, 0, tHdr 3, 5, 5, by decide, by decide, by decide, by decide⟩,
   ⟨tNet, 0, tHdr 3, 5, 5, by decide, by decide, by decide, by decide⟩,
   ⟨{ tNet with nw := { tNet.nw with ptp0 := { tNet.nw.ptp0 with sync := some (3, 9) } } }, 0, tHdr 3, 5, 9, by decide, by decide, by decide, by decide, by decide⟩,
   ⟨{ tNet with nw := { tNet.nw with ptp0 := { tNet.nw.ptp0 with sync := some (3, 9) } } }, 0, tHdr 4, 3, 5, 9, by decide, by decide, by decide, by decide, by decide, by decide⟩,
   ⟨{ tNet with nw := { tNet.nw with ptp0 := { tNet.nw.ptp0 with dreq := some (3, 9), t21 := some 7 } } }, 0, tHdr 3, 5, 7, 9, by decide, by decide, by decide, by decide, by decide, by decide, by decide, by decide⟩,
   ⟨tNet, 0, tHdr 3, tAnn, by decide, by decide, by decide⟩,
   ⟨{ tNet with nw := { tNet.nw with ptp1 := { st := 6, dreqSec := 100 } } }, 1, tHdr 3, 5, by decide, by decide, by decide, by decide, by decide, by decide⟩,
   ⟨{ tNet with nw := { tNet.nw with ptp1 := { st := 6, dreqSec := 100, dreqCount := 32768 } } }, 1, tHdr 3, 5, by decide, by decide, by decide, by decide, by decide, by decide⟩⟩

theorem witness_PtpSent :
    (∃ (s : State) (n : Nat), masterSends s n = true ∧ (getPtp s n).followUp = none ∧ placeNow s (syncPlace s n).2 = true ∧ (getPtp s n).syncNo ≠ some (syncPlace s n).1) ∧
    (∃ (s : State) (n q t0 : Nat), masterSends s n = true ∧ (getPtp s n).followUp = some (q, t0) ∧ (getPtp s n).syncNo = some (syncPlace s n).1) ∧
    (∃ (s : State) (n : Nat), (getPtp s n).st ≠ 5 ∧ (getPtp s n).followUp = none ∧ (s.fenceOpen = false ∨ s.timeValid = false ∨ eligible s = false)) ∧
    (∃ (s : State) (n : Nat), masterSends s n = true ∧ (getPtp s n).followUp = none ∧ placeNow s (annPlace s n).2 = true ∧ (getPtp s n).annNo ≠ some (annPlace s n).1) ∧
    (∃ (s : State) (n : Nat), placeNow s (syncPlace s n).2 = false ∧ (getPtp s n).st ≠ 5 ∧ (getPtp s n).followUp = none) ∧
    (∃ (s : State) (n : Nat) (x : Int), ptpOn s n = true ∧ ((getPtp s n).st = 8 ∨ (getPtp s n).st = 9) ∧ s.fenceOpen = true ∧ s.mode ≠ .safe ∧ (getPtp s n).dreqAt = none) ∧
    (∃ (s : State) (n : Nat), ptpOn s n = true ∧ (getPtp s n).st = 4 ∧ (getPtp s n).foreign = [] ∧ ((ptpPortCfg s.live n).role = 1 ∨ (ptpPortCfg s.live n).role = 3 ∧ (getPtp s (1 - n)).foreign = []) ∧ (getPtp s n).listenFrom + (ptpPortCfg s.live n).tmo * logTime (ptpPortCfg s.live n).logAnn ≤ s.clock) :=
  ⟨⟨{ tNet with spindle := 50 * uPerS + 6 * uPerUs }, 1, by decide, by decide, by decide, by decide⟩,
   ⟨{ tNet with nw := { tNet.nw with ptp1 := { st := 6, followUp := some (7, 9), syncNo := some (syncPlace tNet 1).1 } } }, 1, 7, 9, by decide, by decide, by decide⟩,
   ⟨{ tNet with fenceOpen := false }, 0, by decide, by decide, by decide⟩,
   ⟨{ tNet with spindle := 50 * uPerS + 6 * uPerUs }, 1, by decide, by decide, by decide, by decide⟩,
   ⟨tNet, 1, by decide, by decide, by decide⟩,
   ⟨tNet, 0, 5, by decide, by decide, by decide, by decide, by decide⟩,
   ⟨{ tNet with nw := { tNet.nw with ptp1 := { st := 4 } } }, 1, by decide, by decide, by decide, by decide, by decide⟩⟩

theorem witness_CalipersTriggers :
    (∃ (s : State) (n : Nat) (e : Edge), n < 2 ∧ s.live.seqReg.src = 0x0D + n ∧ s.live.seqInj.src ≠ 0x0D + n ∧ edgeFits s.live.seqReg e = true ∧ s.live.seqReg.len ≠ 0 ∧ s.dataPlane = .running ∧ (∀ x ∈ s.ad.late, s.clock < x.2) ∧ s.ad.reg.phase = 0 ∧ (∀ u, s.ad.reg.endAt = some u → u < s.clock) ∧ s.ad.reg.lastTrig ≠ some s.clock) ∧
    (∃ (s : State) (n : Nat) (e : Edge), n < 4 ∧ s.live.seqReg.src = 5 + n ∧ s.live.seqInj.src ≠ 5 + n ∧ edgeFits s.live.seqReg e = true ∧ s.live.seqReg.len ≠ 0 ∧ s.dataPlane = .running ∧ (∀ x ∈ s.ad.late, s.clock < x.2) ∧ s.ad.reg.phase ≠ 0 ∧ s.ad.reg.lastTrig ≠ some s.clock) ∧
    (∃ (s : State) (n : Nat) (e : Edge), n < 4 ∧ s.live.seqInj.src = 5 + n ∧ s.live.seqReg.src ≠ 5 + n ∧ edgeFits s.live.seqInj e = true ∧ s.live.seqInj.len ≠ 0 ∧ s.dataPlane = .running ∧ (∀ x ∈ s.ad.late, s.clock < x.2) ∧ s.ad.inj.phase ≠ 0 ∧ s.ad.inj.lastTrig ≠ some s.clock) ∧
    (∃ (s : State) (n : Nat), n < 4 ∧ (tabGet {} s.live.timers n).en = true ∧ s.dataPlane = .running ∧ secCycles s = (tabGet {} s.live.timers n).phase + 3 * (tabGet {} s.live.timers n).period ∧ s.live.seqReg.src = 1 + n ∧ s.live.seqInj.src ≠ 1 + n ∧ s.live.seqReg.len ≠ 0 ∧ (∀ x ∈ s.ad.late, s.clock < x.2) ∧ s.ad.reg.phase = 0 ∧ (∀ u, s.ad.reg.endAt = some u → u < s.clock) ∧ s.ad.reg.lastTrig ≠ some s.clock) ∧
    (∃ (s : State) (n : Nat), (tabGet {} s.live.timers n).en = false) ∧
    (∃ (s : State) (n t0 : Nat), Sized s ∧ n < 4 ∧ nth none s.ad.alarms n = some t0 ∧ t0 ≤ s.spindle ∧ s.dataPlane = .running) ∧
    (∃ (s : State) (n t0 : Nat), nth none s.ad.alarms n = some t0 ∧ s.spindle < t0) ∧
    (∃ (s : State) (p t0 : Nat), Sized s ∧ p < 4 ∧ (nth {} s.ad.pairs p).due = some t0 ∧ t0 ≤ s.clock ∧ (nth {} s.pw.domains p).on = true ∧ refBad s p = false) ∧
    (∃ (s : State) (p : Nat), Sized s ∧ p < 4 ∧ refOf s.live p = 1) ∧
    (∃ (s : State) (p : Nat), Sized s ∧ p < 4 ∧ refOf s.live p = 1 ∧ (nth {} s.pw.domains p).on = true ∧ (nth {} s.ad.pairs p).due = none) :=
  ⟨⟨{ tRun with live := { seqReg := { len := 1, src := 0x0D } } }, 0, .rise, by decide, by decide, by decide, by decide, by decide, by decide, by decide, by decide, by decide, by decide⟩,
   ⟨{ tRun with live := { seqReg := { len := 1, src := 6, edge := 2 } }, ad := { reg := { phase := 2 } } }, 1, .fall, by decide, by decide, by decide, by decide, by decide, by decide, by decide, by decide, by decide⟩,
   ⟨{ tRun with live := { seqInj := { len := 1, src := 6, edge := 2 } }, ad := { inj := { phase := 2 } } }, 1, .fall, by decide, by decide, by decide, by decide, by decide, by decide, by decide, by decide, by decide⟩,
   ⟨{ tRun with spindle := 50 * uPerS + 3 * 245760 * mclkLen false, live := { seqReg := { len := 1, src := 3 }, timers := [(2, { en := true })] } }, 2, by decide, by decide, by decide, by decide, by decide, by decide, by decide, by decide, by decide, by decide, by decide⟩,
   ⟨tRun, 2, by decide⟩,
   ⟨{ tRun with ad := { alarms := [none, none, some 5, none] } }, 2, 5, by decide, by decide, by decide, by decide, by decide⟩,
   ⟨{ tRun with ad := { alarms := [none, none, some (60 * uPerS), none] } }, 2, 60 * uPerS, by decide, by decide⟩,
   ⟨{ tNet with ad := { pairs := List.replicate 4 { due := some 3 } } }, 2, 3, by decide, by decide, by decide, by decide, by decide, by decide⟩,
   ⟨{ tNet with live := { pairRef := [(1, 1)] } }, 1, by decide, by decide, by decide⟩,
   ⟨{ tNet with live := { pairRef := [(1, 1)] } }, 1, by decide, by decide, by decide, by decide, by decide⟩⟩

theorem witness_CalipersSlots :
    (∃ (s : State), s.dataPlane = .running ∧ s.ad.reg.phase = 1 ∧ s.ad.reg.due ≤ s.clock ∧ s.ad.injEnd ≤ s.clock ∧ s.ad.inj.phase = 0 ∧ s.ad.late = []) ∧
    (∃ (s : State), s.dataPlane = .running ∧ s.ad.inj.phase = 1 ∧ s.ad.inj.due ≤ s.clock ∧ s.ad.late = []) ∧
    (∃ (s : State) (q : SeqId), s.dataPlane ≠ .running ∧ s.ad.late = []) ∧
    (∃ (s : State) (q : SeqId) (r : SlotRun) (x : AdcSamples), s.ad.late = [] ∧ nextPub (q == .injected) s = some r ∧ slotEnd s r + 17 * mclkLen (f441 s) ≤ s.clock ∧ r.adcs = [x.adc] ∧ r.dead = [] ∧ x.values.length = r.cfg.settle + r.cfg.win + 1) :=
  ⟨⟨{ tRun with ad := { reg := { phase := 1, slot := 2 } } }, by decide, by decide, by decide, by decide, by decide, by decide⟩,
   ⟨{ tRun with ad := { inj := { phase := 1, slot := 2 } } }, by decide, by decide, by decide, by decide⟩,
   ⟨{ tRun with dataPlane := .dark }, .regular, by decide, by decide⟩,
   ⟨{ tRun with ad := { reg := { phase := 2, cur := some { inj := false, idx := 0, cfg := { codes := 0x7FFFF8, win := 2, settle := 1 }, adcs := [0], start := 0, dead := [], unsettled := [], env := [(0, { diag := 0, mic6 := 0, mic7 := 0, dds := {}, refs := [] })] } } } }, .regular, { inj := false, idx := 0, cfg := { codes := 0x7FFFF8, win := 2, settle := 1 }, adcs := [0], start := 0, dead := [], unsettled := [], env := [(0, { diag := 0, mic6 := 0, mic7 := 0, dds := {}, refs := [] })] }, { adc := 0, vref := 1000000000000, recov := 0, values := [5, 3, 9000, -2] }, by decide, by decide, by decide, by decide, by decide, by decide⟩⟩

theorem witness_DacAndProfile :
    (∃ (s : State) (d : Nat), s.firstLive = true ∧ s.dataPlane = .running ∧ s.live.bank.lg0 = 1 ∧ s.live.bank.lg1 ≠ 1 ∧ strobeNear s 0 = false ∧ Sized s ∧ d < 4 ∧ (outCfg s.live d).src = 5 ∧ dacSafe s d = false ∧ (dacState s d).rangeEnd = none) ∧
    (∃ (s : State) (e : Edge), s.dataPlane ≠ .running) ∧
    (∃ (s : State) (d e : Nat), Sized s ∧ d < 8 ∧ (dacState s d).rangeEnd = some e ∧ e ≤ s.clock ∧ (outCfg s.live d).src ≠ 5) ∧
    (∃ (s : State), Sized s ∧ s.da.safe = 2 ∧ s.firstLive = true ∧ Nat.land s.safeCause 257 = 0 ∧ strobeNear s 0 = false ∧ strobeNear s 1 = false) ∧
    (∃ (s : State) (codes : List Int), s.da.flashDue = some codes) ∧
    (∃ (s : State) (q u : Nat), Sized s ∧ q < 4 ∧ (psState s q).st = 1 ∧ psClocked s q = true ∧ (psCfg s.live q).pre = none ∧ startInstant s q = some u ∧ scaleUnits s (psV s.live q) (psState s q).since < u) ∧
    (∃ (s : State) (q : Nat), Sized s ∧ q < 4 ∧ (psState s q).st = 2 ∧ psClocked s q = true ∧ (psState s q).segStart + segLen (psState s q).cur ≤ clkEdge s (psV s.live q) s.spindle * 65536) ∧
    (∃ (s : State) (q : Nat), psClocked s q = false) ∧
    (∃ (s : State) (q : Nat) (p : PsPreset), Sized s ∧ q < 4 ∧ (psCfg s.live q).pre = some p ∧ isLtc p.id = true ∧ (psCfg s.live q).en = true ∧ (psState s q).wrote < ltcNext s q) :=
  ⟨⟨{ tRun with live := { bank := { lg0 := 1 }, outCfg := [(2, { src := 5 })] } }, 2, by decide, by decide, by decide, by decide, by decide, by decide, by decide, by decide, by decide, by decide⟩,
   ⟨{ tRun with dataPlane := .dark }, .rise, by decide⟩,
   ⟨{ tRun with da := { dac := List.replicate 8 { rangeEnd := some 3 } } }, 2, 3, by decide, by decide, by decide, by decide, by decide⟩,
   ⟨{ tRun with mode := .safe, safeCause := 8, da := { safe := 2 } }, by decide, by decide, by decide, by decide, by decide, by decide⟩,
   ⟨{ tRun with da := { flashDue := some [1] } }, [1], by decide⟩,
   ⟨{ tRun with live := { ps := [(1, { en := true, period := 5120 })] }, ps := List.replicate 4 { st := 1 } }, 1, 12288000000 * 65536, by decide, by decide, by decide, by decide, by decide, by decide, by decide⟩,
   ⟨{ tRun with live := { ps := [(1, { en := true, period := 5120, last := 3 })] }, ps := List.replicate 4 { st := 2, cur := { dur := 100 } } }, 1, by decide, by decide, by decide, by decide, by decide⟩,
   ⟨{ tRun with dataPlane := .dark }, 1, by decide⟩,
   ⟨{ tRun with live := { ps := [(1, { en := true, period := 5120, pre := some { id := 0x11, base := 0, blank := 0, code1V := 1, dds := 0, rate := 0, edge := 0, hz := 0, lvl := 0, zone := 0, jam := 0, ub := 0 } })] } }, 1, { id := 0x11, base := 0, blank := 0, code1V := 1, dds := 0, rate := 0, edge := 0, hz := 0, lvl := 0, zone := 0, jam := 0, ub := 0 }, by decide, by decide, by decide, by decide, by decide, by decide⟩⟩

theorem witness_OutputsAndEngines :
    (∃ (s : State) (o : Nat), Sized s ∧ o < 12 ∧ s.firstLive = true ∧ (clkOf s.live o).mode ≠ 0 ∧ (getSyn s (tapSyn (clkOf s.live o).tap)).lock = 4 ∧ (getSyn s (tapSyn (clkOf s.live o).tap)).resOwed = 0 ∧ (nth {} s.hs.gate o).aligned = none) ∧
    (∃ (s : State) (t0 : Nat), s.dg.ppsFrom = some t0 ∧ t0 ≤ s.spindle ∧ s.dataPlane = .running ∧ s.spindle % uPerS = 0 ∧ s.timeValid = true ∧ s.da.safe = 0 ∧ s.mode ≠ .hush) ∧
    (∃ (s : State), s.dg.ppsHigh = true ∧ s.dg.ppsWidth * uPerUs ≤ s.spindle % uPerS) ∧
    (∃ (s : State) (n r : Nat), Sized s ∧ n < 4 ∧ rxRuns s.live n = true ∧ 30000000 ≤ r ∧ r ≤ 200000000) ∧
    (∃ (s : State) (n k e : Nat), Sized s ∧ n < 4 ∧ (nth {} s.dg.rx n).lock = true ∧ (4 ≤ k ∨ 8 < e)) ∧
    (∃ (s : State) (n k e : Nat), k < 4 ∧ e ≤ 8) ∧
    (∃ (s : State) (e k : Nat), (teCfg s.live e).en = true ∧ s.dataPlane = .running ∧ k < (teCfg s.live e).len ∧ (s.mode = .configure ∨ s.mode = .freerun ∨ s.mode = .acquire ∨ s.mode = .locked ∨ s.mode = .holdover)) ∧
    (∃ (s : State) (n r : Nat), Sized s ∧ n < 4 ∧ (nth {} s.dg.rx n).lock = true ∧ 2684355 ≤ r ∧ r ≤ 73819750 ∧ s.dataPlane = .running ∧ (List.range 32).any (fun e => (teCfg s.live e).en && (asrcOf s.live e).any (fun a => a % 4 == n)) = true) ∧
    (∃ (s : State) (k c n : Nat) (a b : Int), (tabGet {} s.xb.op k).ended = some (a, b, c, n)) ∧
    (∃ (s : State) (k : Nat), (tabGet {} s.xb.op k).ended = none) :=
  ⟨⟨{ tRun with live := { clk := [(3, { mode := 1 })] }, hs := { msyn := { lock := 4 } } }, 3, by decide, by decide, by decide, by decide, by decide, by decide, by decide⟩,
   ⟨{ tRun with timeValid := true, dg := { ppsFrom := some 0 } }, 0, by decide, by decide, by decide, by decide, by decide, by decide, by decide⟩,
   ⟨{ tRun with spindle := 50 * uPerS + uPerMs, dg := { ppsHigh := true, ppsWidth := 100 } }, by decide, by decide⟩,
   ⟨{ tRun with live := { rxEn := 15 } }, 2, 48000000, by decide, by decide, by decide, by decide, by decide⟩,
   ⟨{ tRun with dg := { rx := List.replicate 4 { lock := true } } }, 2, 4, 0, by decide, by decide, by decide, by decide⟩,
   ⟨tRun, 2, 3, 8, by decide, by decide⟩,
   ⟨{ tRun with live := { te := [(2, { en := true, len := 5 })] } }, 2, 3, by decide, by decide, by decide, by decide⟩,
   ⟨{ tRun with live := { te := [(0, { en := true, len := 1 })], ops := [(0, { kind := 7, arg := 3 })] }, dg := { rx := List.replicate 4 { lock := true } } }, 3, 16777216, by decide, by decide, by decide, by decide, by decide, by decide, by decide⟩,
   ⟨{ tRun with xb := { op := [(7, { ended := some (-3, 5, 9, 2) })] } }, 7, 9, 2, -3, 5, by decide⟩,
   ⟨tRun, 7, by decide⟩⟩

theorem witness_FrontPanelJack :
    (∃ (s : State) (l : Bool), l ≠ s.fp.jackLevel) ∧
    (∃ (s : State), jackIn s = true ∧ s.fp.jack = false ∧ s.fp.jackSince + s.live.jack.deb * uPerMs ≤ s.clock ∧ s.pw.inReset = false ∧ s.live.jack.acc = false) ∧
    (∃ (s : State), jackIn s = true ∧ s.fp.jack = false ∧ s.fp.jackSince + s.live.jack.deb * uPerMs ≤ s.clock ∧ s.pw.inReset = false ∧ s.live.jack.acc = true ∧ s.mode ≠ .hush ∧ s.mode ≠ .safe ∧ s.fenceOpen = true ∧ s.firstLive = true) ∧
    (∃ (s : State), jackIn s = false ∧ s.fp.jack = true ∧ s.fp.jackSince + s.live.jack.deb * uPerMs ≤ s.clock ∧ s.pw.inReset = false) ∧
    (∃ (s : State) (t0 a b ld : Nat), s.fp.identAt = some t0 ∧ t0 + 39 * uPerMs ≤ s.clock) ∧
    (∃ (s : State) (t0 : Nat), s.fp.releaseAt = some t0 ∧ t0 ≤ s.clock) ∧
    (∃ (s : State), twinPos s = true ∧ s.fenceOpen = false ∧ s.fp.fenceClosed + uPerMs ≤ s.clock) ∧
    (∃ (s : State), biasWanted s = true ∧ s.fenceOpen = true ∧ s.fp.fenceOpened + 2 * uPerMs ≤ s.clock) ∧
    (∃ (s : State) (a b : Nat), apart s.fp.btnAt uPerMs s = true ∧ s.live.jack.btn = true ∧ s.fp.acc = 3 ∧ s.fp.bias = true ∧ s.dataPlane = .running ∧ a ≤ b ∧ b < 65536 ∧ btnBand s.live.jack (nodeUv s.live.jack a) = btnBand s.live.jack (nodeUv s.live.jack b)) ∧
    (∃ (s : State) (a b : Nat), apart s.fp.btnAt uPerMs s = false) ∧
    (∃ (s : State), s.fp.btnNew ≠ s.fp.btn ∧ s.live.jack.btnDeb ≤ s.fp.btnRun) ∧
    (∃ (s : State), s.fp.btnNew = s.fp.btn) :=
  ⟨⟨tRun, false, by decide⟩,
   ⟨{ tRun with fp := { jackLevel := false } }, by decide, by decide, by decide, by decide, by decide⟩,
   ⟨{ tRun with live := { jack := { acc := true } }, fp := { jackLevel := false } }, by decide, by decide, by decide, by decide, by decide, by decide, by decide, by decide, by decide⟩,
   ⟨{ tRun with fp := { jack := true, acc := 3 } }, by decide, by decide, by decide, by decide⟩,
   ⟨{ tRun with fp := { jack := true, acc := 1, identAt := some 3 } }, 3, 1, 1, 1, by decide, by decide⟩,
   ⟨{ tRun with fp := { releaseAt := some 3 } }, 3, by decide, by decide⟩,
   ⟨{ tRun with pw := { slotSel := 0 }, fenceOpen := false, fp := { bias := true } }, by decide, by decide, by decide⟩,
   ⟨{ tNet with fp := { jack := true, acc := 3 } }, by decide, by decide, by decide⟩,
   ⟨{ tRun with live := { jack := { btn := true } }, fp := { acc := 3, bias := true } }, 10, 12, by decide, by decide, by decide, by decide, by decide, by decide, by decide, by decide⟩,
   ⟨{ tRun with fp := { btnAt := some tRun.clock } }, 10, 12, by decide⟩,
   ⟨{ tRun with fp := { btnNew := 2, btnRun := 20 } }, by decide, by decide⟩,
   ⟨tRun, by decide⟩⟩

theorem witness_HeadphoneAndSentinel :
    (∃ (s : State), s.fp.hp.run = some true ∧ s.fp.hp.queue = [] ∧ s.fp.hp.since + 20 * uPerMs ≤ s.clock ∧ s.fp.hpSafe = false) ∧
    (∃ (s : State), s.fp.hp.run = some false ∧ s.fp.hp.queue = [] ∧ s.fp.hp.since + 20 * uPerMs ≤ s.clock ∧ s.fp.hpSafe = false) ∧
    (∃ (s : State), s.fp.hp.run = none) ∧
    (∃ (s : State), s.fp.hpSafe = true ∧ s.da.safeAt + 20 * uPerMs ≤ s.clock) ∧
    (∃ (s : State) (r : Bool), s.fp.hp.on = true) ∧
    (∃ (s : State) (b : SentinelBlock), snWorks s = true ∧ apart s.sn.blockAt (10 * uPerMs) s = true ∧ b.audio = true ∧ s.live.sn.t3 = true ∧ s.live.sn.cont = false ∧ s.live.sn.glass = false ∧ t3Complete s.live.sn.groups (tonePresent s.live.sn b) s.sn = true) ∧
    (∃ (s : State) (b : SentinelBlock), snWorks s = true ∧ apart s.sn.blockAt (10 * uPerMs) s = true ∧ b.audio = false) ∧
    (∃ (s : State) (b : SentinelBlock), apart s.sn.blockAt (10 * uPerMs) s = false) ∧
    (∃ (s : State) (b : SentinelBlock), (s.mode = .boot ∨ s.mode = .configure ∨ s.live.sn.en = false)) ∧
    (∃ (s : State) (t0 : Nat), s.sn.holdEnd = some t0 ∧ t0 ≤ s.clock) :=
  ⟨⟨{ tRun with fp := { hp := { run := some true } } }, by decide, by decide, by decide, by decide⟩,
   ⟨{ tRun with fp := { hp := { on := true, run := some false } } }, by decide, by decide, by decide, by decide⟩,
   ⟨tRun, by decide⟩,
   ⟨{ tRun with mode := .safe, fp := { hpSafe := true, hp := { on := true } } }, by decide, by decide⟩,
   ⟨{ tRun with fp := { hp := { on := true } } }, true, by decide⟩,
   ⟨{ tRun with live := { sn := { en := true, t3 := true, cont := false, glass := false } }, sn := { tone := true, run := 500, pulses := 2, groups := 1 } }, { audio := true, peakDb := -90, bandDb := -95, peakHz := 3000, onset := false, highDb := -90 }, by decide, by decide, by decide, by decide, by decide, by decide, by decide⟩,
   ⟨{ tRun with live := { sn := { en := true } } }, { audio := false, peakDb := -90, bandDb := -95, peakHz := 3000, onset := false, highDb := -90 }, by decide, by decide, by decide⟩,
   ⟨{ tRun with sn := { blockAt := some tRun.clock } }, { audio := true, peakDb := -90, bandDb := -95, peakHz := 3000, onset := false, highDb := -90 }, by decide⟩,
   ⟨{ tRun with mode := .configure }, { audio := true, peakDb := -90, bandDb := -95, peakHz := 3000, onset := false, highDb := -90 }, by decide⟩,
   ⟨{ tRun with sn := { alarmOut := true, holdEnd := some 3 } }, 3, by decide, by decide⟩⟩

theorem witness_LeaseFrames :
    (∃ (s : State) (p : TwinPath) (d : Nat), twinPos s = true ∧ pathUp s p = true ∧ pathServes p d s = false) ∧
    (∃ (s : State) (p : TwinPath) (d : Nat), twinPos s = true ∧ pathUp s p = false ∧ pathServes p d s = true) ∧
    (∃ (s : State) (c d : Nat), leaseRuns s = true ∧ renewNow s = true ∧ s.tw.holds = true ∧ c ≤ 1500 ∧ d ≤ 1500) ∧
    (∃ (s : State) (c d : Nat), leaseRuns s = true ∧ renewNow s = true ∧ s.tw.holds = true ∧ (1500 < c ∨ 1500 < d)) ∧
    (∃ (s : State) (c d : Nat), leaseRuns s = true ∧ renewNow s = true ∧ s.tw.holds = false ∧ s.tw.claiming = false) ∧
    (∃ (s : State) (p : TwinPath) (f : LeaseBits), leaseRuns s = true ∧ frameCopy 1 p f s = false ∧ s.tw.holds = false ∧ s.tw.claiming = false ∧ s.tw.slotClash = false ∧ s.tw.swap = none ∧ f.slotB ≠ (s.pw.slotSel == 1) ∧ pathUp s p = true ∧ s.mode ≠ .boot) ∧
    (∃ (s : State) (p : TwinPath) (f : LeaseBits), leaseRuns s = true ∧ frameCopy 1 p f s = true ∧ s.tw.holds = false ∧ s.tw.claiming = false ∧ s.tw.slotClash = false ∧ pathUp s p = true ∧ s.mode ≠ .boot) ∧
    (∃ (s : State) (p : TwinPath) (f : LeaseBits), leaseRuns s = true ∧ frameCopy 1 p f s = false ∧ s.tw.holds = true ∧ s.pw.slotSel = 1 ∧ f.slotB = false) ∧
    (∃ (s : State) (p : TwinPath) (f : LeaseBits), leaseRuns s = true ∧ frameCopy 1 p f s = false ∧ s.tw.holds = true ∧ s.pw.slotSel = 0 ∧ f.slotB = true) ∧
    (∃ (s : State) (p : TwinPath) (f : LeaseBits) (u : Nat), leaseRuns s = true ∧ frameCopy 2 p f s = false ∧ s.tw.holds = true ∧ s.tw.claiming = false ∧ f.slotB ≠ (s.pw.slotSel == 1) ∧ s.tw.unacked = some u ∧ f.seq = (s.tw.seq + 63) % 64) ∧
    (∃ (s : State) (p : TwinPath) (f : LeaseBits), leaseRuns s = true ∧ frameCopy 3 p f s = false ∧ f.slotB ≠ (s.pw.slotSel == 1) ∧ mayTake s = true) ∧
    (∃ (s : State) (p : TwinPath) (f : LeaseBits), leaseRuns s = true ∧ frameCopy 4 p f s = false ∧ f.slotB ≠ (s.pw.slotSel == 1) ∧ s.tw.holds = true) ∧
    (∃ (s : State) (p : TwinPath) (f : LeaseBits), leaseRuns s = true ∧ frameCopy 0 p f s = false ∧ f.slotB ≠ (s.pw.slotSel == 1)) ∧
    (∃ (s : State) (p : TwinPath) (f : LeaseBits), leaseRuns s = true ∧ frameCopy 0 p f s = true) ∧
    (∃ (s : State) (p : TwinPath) (f : LeaseBits), leaseRuns s = true ∧ frameCopy 0 p f s = false ∧ f.slotB = (s.pw.slotSel == 1) ∧ s.tw.slotClash = false ∧ s.role = .standby) :=
  ⟨⟨tTwin, .tsl1, 3000, by decide, by decide, by decide⟩,
   ⟨{ tTwin with tw := { tTwin.tw with tsl1 := false, heard := List.replicate 3 (100 * uPerS) } }, .tsl1, 300, by decide, by decide, by decide⟩,
   ⟨tTwin, 1500, 1500, by decide, by decide, by decide, by decide, by decide⟩,
   ⟨tTwin, 1501, 0, by decide, by decide, by decide, by decide⟩,
   ⟨tStby, 0, 0, by decide, by decide, by decide, by decide⟩,
   ⟨tStby, .tsl1, tLease false, by decide, by decide, by decide, by decide, by decide, by decide, by decide, by decide, by decide⟩,
   ⟨{ tStby with tw := { tStby.tw with lastFrame := some (1, tLease false, [.tsl0]) } }, .tsl1, tLease false, by decide, by decide, by decide, by decide, by decide, by decide, by decide⟩,
   ⟨{ tTwin with pw := { tTwin.pw with slotSel := 1 } }, .tsl0, tLease false, by decide, by decide, by decide, by decide, by decide⟩,
   ⟨tTwin, .tsl0, tLease true, by decide, by decide, by decide, by decide, by decide⟩,
   ⟨{ tTwin with tw := { tTwin.tw with unacked := some 5, seq := 6 } }, .tsl0, tLease true, 5, by decide, by decide, by decide, by decide, by decide, by decide, by decide⟩,
   ⟨tStby, .tsl0, tLease false, by decide, by decide, by decide, by decide⟩,
   ⟨tTwin, .tsl0, tLease true, by decide, by decide, by decide, by decide⟩,
   ⟨tTwin, .tsl0, tLease true, by decide, by decide, by decide⟩,
   ⟨{ tStby with tw := { tStby.tw with lastFrame := some (0, tLease false, [.tsl0]) } }, .tsl1, tLease false, by decide, by decide⟩,
   ⟨tStby, .tsl0, tLease true, by decide, by decide, by decide, by decide, by decide⟩⟩

theorem witness_TakeoversAndFence :
    (∃ (s : State) (e : Nat), s.tw.holds = true ∧ s.tw.leaseEnd = some e ∧ e ≤ s.clock) ∧
    (∃ (s : State) (e : Nat), s.tw.leaseEnd = some e ∧ s.clock < e) ∧
    (∃ (s : State) (a : Nat), mayTake s = true ∧ s.tw.ackSent = some a ∧ a + (leaseEff s + 2) * uPerUs ≤ s.clock ∧ s.tw.lastRenew ≤ a) ∧
    (∃ (s : State), mayTake s = false) ∧
    (∃ (s : State) (h : Nat), mayTake s = true ∧ s.tw.healthySince = some h ∧ h + 50 * uPerMs ≤ s.clock ∧ s.tw.peerHoldAt ≤ h ∧ s.tw.peerH = false ∧ s.tw.claiming = false ∧ arbWinner s = true) ∧
    (∃ (s : State) (w : SwapState), s.tw.swap = some w ∧ w.released = false ∧ w.acked = true ∧ w.at_ ≤ s.spindle ∧ s.mb.pend = none ∧ s.tw.holds = true ∧ peerReady s = true) ∧
    (∃ (s : State) (w : SwapState), s.tw.swap = some w ∧ w.released = false ∧ w.acked = false ∧ w.at_ ≤ s.spindle ∧ s.mb.pend = none) ∧
    (∃ (s : State) (w : SwapState), s.tw.swap = some w ∧ w.released = true ∧ w.releasedAt + uPerMs ≤ s.clock) ∧
    (∃ (s : State), lanesUp s = [] ∧ s.role = .standby ∧ s.tw.laneLostAt + 10 * uPerMs ≤ s.clock) :=
  ⟨⟨{ tTwin with tw := { tTwin.tw with leaseEnd := some 5 } }, 5, by decide, by decide, by decide⟩,
   ⟨tTwin, 101 * uPerS, by decide, by decide⟩,
   ⟨{ tStby with tw := { tStby.tw with ackSent := some 5 } }, 5, by decide, by decide, by decide, by decide⟩,
   ⟨tTwin, by decide⟩,
   ⟨tStby, 0, by decide, by decide, by decide, by decide, by decide, by decide, by decide⟩,
   ⟨{ tTwin with tw := { tTwin.tw with swap := some { at_ := 5, cmd := 9, acked := true, released := false, releasedAt := 0 } } }, { at_ := 5, cmd := 9, acked := true, released := false, releasedAt := 0 }, by decide, by decide, by decide, by decide, by decide, by decide, by decide⟩,
   ⟨{ tTwin with tw := { tTwin.tw with swap := some { at_ := 5, cmd := 9, acked := false, released := false, releasedAt := 0 } } }, { at_ := 5, cmd := 9, acked := false, released := false, releasedAt := 0 }, by decide, by decide, by decide, by decide, by decide⟩,
   ⟨{ tTwin with role := .fenced, tw := { tTwin.tw with holds := false, swap := some { at_ := 5, cmd := 9, acked := true, released := true, releasedAt := 0 } } }, { at_ := 5, cmd := 9, acked := true, released := true, releasedAt := 0 }, by decide, by decide, by decide⟩,
   ⟨{ tStby with tw := { hot := true } }, by decide, by decide, by decide⟩⟩

theorem witness_LaneMessages :
    (∃ (s : State), twinPos s = true ∧ s.mode ≠ .boot ∧ s.tw.msAt ≠ some (s.spindle / uPerMs)) ∧
    (∃ (s : State) (lane lv v : Nat) (a b c d : Int), laneTakes s = true ∧ s.tw.level = some v ∧ Sized s ∧ lane < 2 ∧ s.tw.holds = true ∧ s.role ≠ .standby) ∧
    (∃ (s : State) (lane lv v : Nat) (a b c d : Int), laneTakes s = true ∧ s.tw.level = some v ∧ s.role = .standby ∧ s.tw.timeLoaded = true ∧ lane < 2) ∧
    (∃ (s : State) (lane lv v : Nat) (m : PeerState), laneTakes s = true ∧ s.tw.level = some v) ∧
    (∃ (s : State) (lane lv v : Nat) (m : MirrorMsg), laneTakes s = true ∧ s.tw.level = some v ∧ s.role = .standby) ∧
    (∃ (s : State) (lane lv v a : Nat) (m : RelayMsg), laneTakes s = true ∧ s.tw.level = some v ∧ m.ref = none ∧ m.facc = some a ∧ s.fenceOpen = false ∧ s.fp.identAt = none) ∧
    (∃ (s : State) (lane lv v i : Nat) (d f : Int) (n : Option (Nat × Nat)), laneTakes s = true ∧ s.tw.level = some v ∧ Sized s ∧ i < 12 ∧ s.role = .active ∧ presentCand s 0x0A = some i) ∧
    (∃ (s : State) (lane lv v : Nat) (e : Bytes), laneTakes s = true ∧ s.tw.level = some v ∧ s.lg.queue.length < 4096 ∧ s.pt.retain = false ∧ s.role ≠ .standby) ∧
    (∃ (s : State) (lane lv v at_ : Nat), laneTakes s = true ∧ s.tw.level = some v) ∧
    (∃ (s : State) (lane lv v at_ : Nat) (w : SwapState), laneTakes s = true ∧ s.tw.level = some v ∧ s.tw.swap = some w ∧ w.at_ = at_ ∧ w.released = false) ∧
    (∃ (s : State) (lane lv v at_ : Nat) (w : SwapState), laneTakes s = true ∧ s.tw.level = some v ∧ s.tw.swap = some w ∧ w.at_ = at_ ∧ w.released = false) ∧
    (∃ (s : State) (lane lv v g d n : Nat), laneTakes s = true ∧ s.tw.level = some v ∧ s.tw.holds = true) ∧
    (∃ (s : State) (lane lv v g d n : Nat), laneTakes s = true ∧ s.tw.level = some v ∧ s.tw.holds = false) ∧
    (∃ (s : State) (lane lv v : Nat), laneTakes s = true ∧ s.tw.level = some v ∧ s.role = .standby ∧ s.tw.resync = true ∧ s.tw.asked = true ∧ s.tw.needImage = false ∧ s.tw.needPend = false) ∧
    (∃ (s : State) (lane lv v n : Nat) (d : Bytes), laneTakes s = true ∧ s.tw.level = some v ∧ s.role = .standby ∧ s.tw.resync = true ∧ s.tw.asked = true ∧ s.tw.needImage = true ∧ s.tw.pulled = false ∧ d.length < n) ∧
    (∃ (s : State) (b : Nat), s.tw.pulled = true ∧ s.tw.resyncAt = some b ∧ s.role = .standby ∧ b ≤ s.spindle ∧ s.spindle % frameLen (f441 s) = 0 ∧ s.dataPlane = .running ∧ s.firstLive = true) :=
  ⟨⟨tTwin, by decide, by decide, by decide⟩,
   ⟨tTwin, 1, 1, 16, 5, 5, 5, 5, by decide, by decide, by decide, by decide, by decide, by decide⟩,
   ⟨tStby, 1, 1, 16, 5, 5, 5, 5, by decide, by decide, by decide, by decide, by decide⟩,
   ⟨tTwin, 1, 16, 16, tPeer .standby, by decide, by decide⟩,
   ⟨tStby, 1, 16, 16, tMirror, by decide, by decide, by decide⟩,
   ⟨tStby, 1, 1, 16, 3, { ref := none, period := none, facc := some 3 }, by decide, by decide, by decide, by decide, by decide, by decide⟩,
   ⟨{ tTwin with live := { cand := [(2, { typ := 0x0A })] }, tk := { cand := List.replicate 12 { st := .qualified } } }, 0, 16, 16, 2, 5, 7, none, by decide, by decide, by decide, by decide, by decide, by decide⟩,
   ⟨tTwin, 1, 1, 16, [1, 2, 3], by decide, by decide, by decide, by decide, by decide⟩,
   ⟨tStby, 1, 1, 16, 1, by decide, by decide⟩,
   ⟨{ tTwin with tw := { tTwin.tw with swap := some { at_ := 5, cmd := 9, acked := false, released := false, releasedAt := 0 } } }, 1, 1, 16, 5, { at_ := 5, cmd := 9, acked := false, released := false, releasedAt := 0 }, by decide, by decide, by decide, by decide, by decide⟩,
   ⟨{ tTwin with tw := { tTwin.tw with swap := some { at_ := 5, cmd := 9, acked := false, released := false, releasedAt := 0 } } }, 1, 1, 16, 5, { at_ := 5, cmd := 9, acked := false, released := false, releasedAt := 0 }, by decide, by decide, by decide, by decide, by decide⟩,
   ⟨tTwin, 1, 1, 16, 1, 1, 1, by decide, by decide, by decide⟩,
   ⟨tStby, 1, 1, 16, 1, 1, 1, by decide, by decide, by decide⟩,
   ⟨{ tStby with tw := { tStby.tw with resync := true, asked := true } }, 1, 1, 16, by decide, by decide, by decide, by decide, by decide, by decide, by decide⟩,
   ⟨{ tStby with tw := { tStby.tw with resync := true, asked := true, needImage := true } }, 1, 1, 16, 9000, [1, 2], by decide, by decide, by decide, by decide, by decide, by decide, by decide, by decide⟩,
   ⟨{ tStby with tw := { tStby.tw with pulled := true, resyncAt := some 5 } }, 5, by decide, by decide, by decide, by decide, by decide, by decide, by decide⟩⟩

theorem witness_RingForwarding :
    (∃ (s : State) (f : RingFrame), ringRuns s = true ∧ f.crcOk = true ∧ f.hops ≠ 63 ∧ s.mode ≠ .hush ∧ f.dst ≠ s.ig.addr ∧ f.dst ≠ 63) ∧
    (∃ (s : State) (f : RingFrame), ringRuns s = true ∧ (f.crcOk = false ∨ f.hops = 63) ∧ s.mode ≠ .hush) ∧
    (∃ (s : State) (f : RingFrame), ringRuns s = true ∧ f.crcOk = true ∧ f.hops ≠ 63 ∧ f.dst = s.ig.addr ∧ f.dst ≠ 63 ∧ (f.typ = 0 ∨ 16 < f.typ)) ∧
    (∃ (s : State) (f : RingFrame), ringRuns s = true ∧ f.typ = 1 ∧ f.crcOk = true ∧ f.hops ≠ 63 ∧ s.mode ≠ .hush ∧ f.dst = 63 ∧ f.src = 0 ∧ f.len = 12 ∧ s.ig.resetting = none ∧ s.ig.addr = 63 ∧ u8 f.payload 0 ≤ 62 ∧ (∀ i < 12, (candCfg s.live i).typ ≠ 0x0A ∧ (candCfg s.live i).typ ≠ 0x0B)) ∧
    (∃ (s : State) (f : RingFrame), ringRuns s = true ∧ f.typ = 1 ∧ f.crcOk = true ∧ f.hops ≠ 63 ∧ s.mode ≠ .hush ∧ f.dst = 63 ∧ f.src = 0 ∧ f.len = 12 ∧ s.ig.resetting = none ∧ s.ig.addr ≠ 63) ∧
    (∃ (s : State) (f : RingFrame), ringRuns s = true ∧ f.typ = 2 ∧ f.crcOk = true ∧ f.hops ≠ 63 ∧ s.mode ≠ .hush ∧ f.dst = 63 ∧ f.src = 0 ∧ f.len = 12) ∧
    (∃ (s : State) (t0 : Nat), s.ig.resetting = some t0 ∧ t0 + 2 * uPerMs ≤ s.clock) ∧
    (∃ (s : State), ringRuns s = true ∧ s.ig.addr = 63 ∧ s.ig.joinLast = none ∧ s.ig.own.length < 16) ∧
    (∃ (s : State), s.ig.addr ≠ 63) ∧
    (∃ (s : State), ringRuns s = true) ∧
    (∃ (s : State), ringRuns s = true ∧ s.ig.inUp = true ∧ s.ig.own.length < 16) ∧
    (∃ (s : State) (t0 : Nat), ringRuns s = true ∧ s.ig.inUp = false ∧ s.ig.breakLast = some t0 ∧ t0 + uPerMs ≤ s.clock ∧ s.ig.own.length < 16) :=
  ⟨⟨tRing, tFrame 3 9 0 [], by decide, by decide, by decide, by decide, by decide, by decide⟩,
   ⟨tRing, { tFrame 3 9 0 [] with crcOk := false }, by decide, by decide, by decide⟩,
   ⟨tRing, tFrame 0x20 5 0 [], by decide, by decide, by decide, by decide, by decide, by decide⟩,
   ⟨{ tRing with ig := { forwarding := true } }, tFrame 1 63 0 [7, 0, 0, 0, 0, 0, 0, 0, 0, 0, 0, 0], by decide, by decide, by decide, by decide, by decide, by decide, by decide, by decide, by decide, by decide, by decide, by decide⟩,
   ⟨tRing, tFrame 1 63 0 [7, 0, 0, 0, 0, 0, 0, 0, 0, 0, 0, 0], by decide, by decide, by decide, by decide, by decide, by decide, by decide, by decide, by decide, by decide⟩,
   ⟨tRing, tFrame 2 63 0 (List.replicate 12 0), by decide, by decide, by decide, by decide, by decide, by decide, by decide, by decide⟩,
   ⟨{ tRing with ig := { resetting := some 5 } }, 5, by decide, by decide⟩,
   ⟨{ tRing with ig := { forwarding := true } }, by decide, by decide, by decide, by decide⟩,
   ⟨tRing, by decide⟩,
   ⟨tRing, by decide⟩,
   ⟨tRing, by decide, by decide, by decide⟩,
   ⟨{ tRing with ig := { forwarding := true, breakLast := some 5 } }, 5, by decide, by decide, by decide, by decide, by decide⟩⟩

theorem witness_RingHostAccess :
    (∃ (s : State) (f : RingFrame), ringRuns s = true ∧ f.typ = 3 ∧ f.crcOk = true ∧ f.hops ≠ 63 ∧ s.mode ≠ .hush ∧ f.dst = s.ig.addr ∧ f.dst ≠ 63 ∧ f.src = 0 ∧ f.len = 64 ∧ ringReady s = true ∧ s.ig.queue = [] ∧ s.mb.held ≠ []) ∧
    (∃ (s : State) (f : RingFrame), ringRuns s = true ∧ f.typ = 3 ∧ f.crcOk = true ∧ f.hops ≠ 63 ∧ s.mode ≠ .hush ∧ f.dst = s.ig.addr ∧ f.dst ≠ 63 ∧ f.src = 0 ∧ f.len = 64 ∧ ringReady s = true ∧ s.ig.queue.length < 32) ∧
    (∃ (s : State) (f : RingFrame), ringRuns s = true ∧ f.typ = 3 ∧ f.crcOk = true ∧ f.hops ≠ 63 ∧ s.mode ≠ .hush ∧ f.dst = s.ig.addr ∧ f.dst ≠ 63 ∧ f.src = 0 ∧ f.len = 64 ∧ ringReady s = true ∧ 32 ≤ s.ig.queue.length ∧ s.ig.own = []) ∧
    (∃ (s : State) (f : RingFrame), ringRuns s = true ∧ f.typ = 3 ∧ f.crcOk = true ∧ f.dst = s.ig.addr ∧ f.dst ≠ 63 ∧ f.src = 0 ∧ s.mode = .hush ∧ s.ig.own = []) ∧
    (∃ (s : State) (f : RingFrame), ringRuns s = true ∧ f.typ = 6 ∧ f.crcOk = true ∧ f.hops ≠ 63 ∧ s.mode ≠ .hush ∧ f.dst = s.ig.addr ∧ f.dst ≠ 63 ∧ f.src = 0 ∧ f.len = 12 ∧ 1 ≤ u16 f.payload 4 ∧ u16 f.payload 4 ≤ 1024 ∧ u32 f.payload 0 + u16 f.payload 4 ≤ 0x18000 ∧ s.ig.own = []) ∧
    (∃ (s : State) (f : RingFrame), ringRuns s = true ∧ f.typ = 8 ∧ f.crcOk = true ∧ f.hops ≠ 63 ∧ s.mode ≠ .hush ∧ f.dst = s.ig.addr ∧ f.dst ≠ 63 ∧ f.src = 0 ∧ 1 ≤ (f.payload.drop 4).length ∧ (f.payload.drop 4).length ≤ 1024 ∧ f.len = 4 + (f.payload.drop 4).length ∧ 0x8000 ≤ u32 f.payload 0 ∧ u32 f.payload 0 + (f.payload.drop 4).length ≤ 0x18000 ∧ memWf s ∧ s.ig.own = []) ∧
    (∃ (s : State) (f : RingFrame), ringRuns s = true ∧ f.typ = 9 ∧ f.crcOk = true ∧ f.dst = s.ig.addr ∧ f.dst ≠ 63 ∧ f.src = 0 ∧ f.len = 12 ∧ s.mode = .hush ∧ s.pw.hush = .hushed) ∧
    (∃ (s : State) (f : RingFrame), ringRuns s = true ∧ f.typ = 9 ∧ f.crcOk = true ∧ f.hops ≠ 63 ∧ s.mode ≠ .hush ∧ f.dst = s.ig.addr ∧ f.dst ≠ 63 ∧ f.src = 0 ∧ f.len = 12 ∧ s.pw.hush = .awake) ∧
    (∃ (s : State) (f : RingFrame), ringRuns s = true ∧ f.typ = 0x0A ∧ f.crcOk = true ∧ f.hops ≠ 63 ∧ s.mode ≠ .hush ∧ f.dst = s.ig.addr ∧ f.dst ≠ 63 ∧ f.src = 0 ∧ f.len = 12 ∧ ringKeys f = some 1) ∧
    (∃ (s : State), ringRuns s = true ∧ s.ig.evtBits ≠ 0 ∧ s.ig.evtLast = none ∧ s.ig.own.length < 16) :=
  ⟨⟨{ tRing with mb := { held := [[1]] } }, tFrame 3 5 0 (List.replicate 64 0), by decide, by decide, by decide, by decide, by decide, by decide, by decide, by decide, by decide, by decide, by decide, by decide⟩,
   ⟨tRing, tFrame 3 5 0 (List.replicate 64 0), by decide, by decide, by decide, by decide, by decide, by decide, by decide, by decide, by decide, by decide, by decide⟩,
   ⟨{ tRing with ig := { tRing.ig with queue := List.replicate 32 (1, []) } }, tFrame 3 5 0 (List.replicate 64 0), by decide, by decide, by decide, by decide, by decide, by decide, by decide, by decide, by decide, by decide, by decide, by decide⟩,
   ⟨{ tRing with mode := .hush }, tFrame 3 5 0 (List.replicate 64 0), by decide, by decide, by decide, by decide, by decide, by decide, by decide, by decide⟩,
   ⟨tRing, tFrame 6 5 0 [0, 0x10, 0, 0, 4, 0, 0, 0, 0, 0, 0, 0], by decide, by decide, by decide, by decide, by decide, by decide, by decide, by decide, by decide, by decide, by decide, by decide, by decide⟩,
   ⟨tRing, tFrame 8 5 0 [1, 0x80, 0, 0, 4, 7], by decide, by decide, by decide, by decide, by decide, by decide, by decide, by decide, by decide, by decide, by decide, by decide, by decide, by decide, by decide⟩,
   ⟨{ tRing with mode := .hush, pw := { tRing.pw with hush := .hushed } }, tFrame 9 5 0 (List.replicate 12 0), by decide, by decide, by decide, by decide, by decide, by decide, by decide, by decide, by decide⟩,
   ⟨tRing, tFrame 9 5 0 (List.replicate 12 0), by decide, by decide, by decide, by decide, by decide, by decide, by decide, by decide, by decide, by decide⟩,
   ⟨tRing, tFrame 0x0A 5 0 [1, 0, 0xA5, 0xA5, 1, 0, 0x5A, 0x5A, 0, 0, 0, 0], by decide, by decide, by decide, by decide, by decide, by decide, by decide, by decide, by decide, by decide⟩,
   ⟨{ tRing with ig := { tRing.ig with evtBits := 4 } }, by decide, by decide, by decide, by decide⟩⟩

theorem witness_RingTimeAndBarriers :
    (∃ (s : State), ringRuns s = true ∧ sendsTime s = true) ∧
    (∃ (s : State), sendsTime s = false) ∧
    (∃ (s : State) (f : RingFrame) (a d t0 : Nat), ringRuns s = true ∧ f.typ = 0x0D ∧ f.crcOk = true ∧ f.hops ≠ 63 ∧ s.mode ≠ .hush ∧ f.dst = 63 ∧ f.hops + 1 = s.ig.pos ∧ readFull f.payload 0 = some t0 ∧ presentCand s 0x0B = none) ∧
    (∃ (s : State) (f : RingFrame) (a d t0 : Nat), ringRuns s = true ∧ f.typ = 0x0D ∧ f.crcOk = true ∧ f.hops ≠ 63 ∧ s.mode ≠ .hush ∧ f.dst = 63 ∧ f.hops + 1 ≠ s.ig.pos ∧ readFull f.payload 0 = some t0) ∧
    (∃ (s : State) (f : RingFrame), ringRuns s = true ∧ f.typ = 0x0B ∧ f.crcOk = true ∧ f.hops ≠ 63 ∧ s.mode ≠ .hush ∧ f.dst = 63 ∧ f.src = 0 ∧ f.len = 12 ∧ s.ig.addr ≠ 63 ∧ u8 f.payload 4 = 1) ∧
    (∃ (s : State) (f : RingFrame) (b : BarrierState), ringRuns s = true ∧ f.typ = 0x0B ∧ f.crcOk = true ∧ f.hops ≠ 63 ∧ s.mode ≠ .hush ∧ f.dst = 63 ∧ f.src = 0 ∧ f.len = 12 ∧ s.ig.addr ≠ 63 ∧ u8 f.payload 4 = 2 ∧ s.ig.barrier = some b ∧ b.id = u32 f.payload 0 ∧ s.ig.own = [] ∧ barrierDone b.mark s = true) ∧
    (∃ (s : State) (f : RingFrame) (b : BarrierState), ringRuns s = true ∧ f.typ = 0x0B ∧ f.crcOk = true ∧ f.hops ≠ 63 ∧ s.mode ≠ .hush ∧ f.dst = 63 ∧ f.src = 0 ∧ f.len = 12 ∧ s.ig.addr ≠ 63 ∧ u8 f.payload 4 = 2 ∧ s.ig.barrier = some b ∧ b.id = u32 f.payload 0 ∧ s.ig.own = [] ∧ barrierDone b.mark s = false) ∧
    (∃ (s : State) (f : RingFrame) (b : BarrierState), ringRuns s = true ∧ s.ig.barrier = some b ∧ b.held = some f ∧ barrierDone b.mark s = true) ∧
    (∃ (s : State) (f : RingFrame) (b : BarrierState), ringRuns s = true ∧ s.ig.barrier = some b ∧ b.held = some f ∧ b.heldAt + uPerS ≤ s.clock) ∧
    (∃ (s : State) (f : RingFrame) (x : Nat), ringRuns s = true ∧ f.typ = 0x0C ∧ f.crcOk = true ∧ f.hops ≠ 63 ∧ s.mode ≠ .hush ∧ f.dst = 63 ∧ f.src = 0 ∧ f.len = 12 ∧ readCompact s.spindle f.payload 0 = some x) ∧
    (∃ (s : State), s.ig.snapState = 1 ∧ s.ig.snapAt ≤ s.spindle ∧ s.dataPlane = .running) :=
  ⟨⟨{ tRing with mode := .locked, timeValid := true, live := { igMaster := 5 } }, by decide, by decide⟩,
   ⟨tRing, by decide⟩,
   ⟨{ tRing with ig := { tRing.ig with pos := 2 } }, tFrame 13 63 1 (fullForm 441), 1, 1, 441, by decide, by decide, by decide, by decide, by decide, by decide, by decide, by decide, by decide⟩,
   ⟨tRing, tFrame 13 63 1 (fullForm 441), 1, 1, 441, by decide, by decide, by decide, by decide, by decide, by decide, by decide, by decide⟩,
   ⟨tRing, tFrame 11 63 0 [3, 0, 0, 0, 1, 0, 0, 0, 0, 0, 0, 0], by decide, by decide, by decide, by decide, by decide, by decide, by decide, by decide, by decide, by decide⟩,
   ⟨{ tRing with ig := { tRing.ig with barrier := some ⟨3, 0, none, 0⟩ } }, tFrame 11 63 0 [3, 0, 0, 0, 2, 0, 0, 0, 0, 0, 0, 0], ⟨3, 0, none, 0⟩, by decide, by decide, by decide, by decide, by decide, by decide, by decide, by decide, by decide, by decide, by decide, by decide, by decide, by decide⟩,
   ⟨{ tRing with ig := { tRing.ig with barrier := some ⟨3, 2, none, 0⟩, queue := [(1, [])] } }, tFrame 11 63 0 [3, 0, 0, 0, 2, 0, 0, 0, 0, 0, 0, 0], ⟨3, 2, none, 0⟩, by decide, by decide, by decide, by decide, by decide, by decide, by decide, by decide, by decide, by decide, by decide, by decide, by decide, by decide⟩,
   ⟨{ tRing with ig := { tRing.ig with barrier := some ⟨3, 2, some (tFrame 11 63 0 [3]), 0⟩ } }, tFrame 11 63 0 [3], ⟨3, 2, some (tFrame 11 63 0 [3]), 0⟩, by decide, by decide, by decide, by decide⟩,
   ⟨{ tRing with ig := { tRing.ig with barrier := some ⟨3, 2, some (tFrame 11 63 0 [3]), 0⟩ } }, tFrame 11 63 0 [3], ⟨3, 2, some (tFrame 11 63 0 [3]), 0⟩, by decide, by decide, by decide, by decide⟩,
   ⟨tRing, tFrame 12 63 0 [0, 0, 0, 0, 60, 0, 0, 0, 9, 0, 0, 0], 60 * uPerS, by decide, by decide, by decide, by decide, by decide, by decide, by decide, by decide, by decide⟩,
   ⟨{ tRing with ig := { snapState := 1, snapAt := 5 } }, by decide, by decide, by decide⟩⟩

theorem witness_LedgerEvents :
    (∃ (s : State) (o : OpenEntry), s.lg.open_ = [o] ∧ o.first + 100 * uPerMs ≤ s.clock ∧ s.lg.queue.length < 4096 ∧ s.pt.retain = false) ∧
    (∃ (s : State) (o : OpenEntry), s.lg.open_ = [o] ∧ s.clock < o.first + 100 * uPerMs) ∧
    (∃ (s : State) (o : OpenEntry), s.lg.open_ = [o] ∧ o.first + 100 * uPerMs ≤ s.clock ∧ 4096 ≤ s.lg.queue.length) ∧
    (∃ (s : State) (e : LgEntry) (q : List LgEntry), s.pw.inReset = false ∧ s.lg.queue = e :: q ∧ s.pt.retain = false ∧ s.lg.flush = []) ∧
    (∃ (s : State) (e : LgEntry) (q : List LgEntry) (c : Cmd), s.pw.inReset = false ∧ s.lg.queue = e :: q ∧ s.pt.retain = false ∧ s.lg.flush = [(c.n, 1)] ∧ s.mb.cmds = [c] ∧ c.opcode = 0x0C11) ∧
    (∃ (s : State), s.lg.queue = []) ∧
    (∃ (s : State) (n : Nat), s.pw.inReset = false ∧ n = (s.lg.oldest / 2048 + 1) * 2048 ∧ n ≤ s.lg.released ∧ n ≤ s.lg.next) ∧
    (∃ (s : State), s.lg.released < (s.lg.oldest / 2048 + 1) * 2048) :=
  ⟨⟨{ tRun with clock := uPerS, lg := { open_ := [⟨{ sec := 50, ns := 0, kind := 2, origin := 0, timeValid := false, opcode := 0x0312, outcome := 0, gen := 1, digest := 0 }, [], 0⟩] } }, ⟨{ sec := 50, ns := 0, kind := 2, origin := 0, timeValid := false, opcode := 0x0312, outcome := 0, gen := 1, digest := 0 }, [], 0⟩, by decide, by decide, by decide, by decide⟩,
   ⟨{ tRun with clock := 99 * uPerMs, lg := { open_ := [⟨{ sec := 50, ns := 0, kind := 2, origin := 0, timeValid := false, opcode := 0x0312, outcome := 0, gen := 1, digest := 0 }, [], 0⟩] } }, ⟨{ sec := 50, ns := 0, kind := 2, origin := 0, timeValid := false, opcode := 0x0312, outcome := 0, gen := 1, digest := 0 }, [], 0⟩, by decide, by decide⟩,
   ⟨{ tRun with clock := uPerS, lg := { open_ := [⟨{ sec := 50, ns := 0, kind := 2, origin := 0, timeValid := false, opcode := 0x0312, outcome := 0, gen := 1, digest := 0 }, [], 0⟩], queue := List.replicate 4096 { sec := 50, ns := 0, kind := 2, origin := 0, timeValid := false, opcode := 0x0312, outcome := 0, gen := 1, digest := 0 } } }, ⟨{ sec := 50, ns := 0, kind := 2, origin := 0, timeValid := false, opcode := 0x0312, outcome := 0, gen := 1, digest := 0 }, [], 0⟩, by decide, by decide, by decide⟩,
   ⟨{ tRun with lg := { queue := [{ sec := 50, ns := 0, kind := 2, origin := 0, timeValid := false, opcode := 0x0312, outcome := 0, gen := 1, digest := 0 }, { sec := 50, ns := 0, kind := 2, origin := 0, timeValid := false, opcode := 0x0312, outcome := 0, gen := 1, digest := 0 }], next := 7 } }, { sec := 50, ns := 0, kind := 2, origin := 0, timeValid := false, opcode := 0x0312, outcome := 0, gen := 1, digest := 0 }, [{ sec := 50, ns := 0, kind := 2, origin := 0, timeValid := false, opcode := 0x0312, outcome := 0, gen := 1, digest := 0 }], by decide, by decide, by decide, by decide⟩,
   ⟨{ tRun with mb := { cmds := [tCmd 0x0C11 []] }, lg := { queue := [{ sec := 50, ns := 0, kind := 2, origin := 0, timeValid := false, opcode := 0x0312, outcome := 0, gen := 1, digest := 0 }, { sec := 50, ns := 0, kind := 2, origin := 0, timeValid := false, opcode := 0x0312, outcome := 0, gen := 1, digest := 0 }], next := 7, flush := [(0, 1)] } }, { sec := 50, ns := 0, kind := 2, origin := 0, timeValid := false, opcode := 0x0312, outcome := 0, gen := 1, digest := 0 }, [{ sec := 50, ns := 0, kind := 2, origin := 0, timeValid := false, opcode := 0x0312, outcome := 0, gen := 1, digest := 0 }], tCmd 0x0C11 [], by decide, by decide, by decide, by decide, by decide, by decide⟩,
   ⟨tRun, by decide⟩,
   ⟨{ tRun with lg := { next := 5000, released := 2050, flash := [(2048, { sec := 50, ns := 0, kind := 2, origin := 0, timeValid := false, opcode := 0x0312, outcome := 0, gen := 1, digest := 0 }), (2047, { sec := 50, ns := 0, kind := 2, origin := 0, timeValid := false, opcode := 0x0312, outcome := 0, gen := 1, digest := 0 })] } }, 2048, by decide, by decide, by decide, by decide⟩,
   ⟨{ tRun with lg := { next := 5000, released := 2047 } }, by decide⟩⟩

theorem witness_ProtectionEvents :
    (∃ (s : State) (q : Proposal), s.pt.proposal = some q ∧ q.until_ ≤ s.clock) ∧
    (∃ (s : State) (q : Proposal), s.pt.proposal = some q ∧ s.clock < q.until_) ∧
    (∃ (s : State) (i n : Nat), Sized s ∧ i < 8 ∧ (credSlot s i).lockedAt = some n ∧ n + 10 * uPerS ≤ s.clock) ∧
    (∃ (s : State) (i n : Nat), (credSlot s i).lockedAt = some n ∧ s.clock < n + 10 * uPerS) :=
  ⟨⟨{ tRun with pt := { proposal := some { id := 4, digest := 9, recs := [], slot := 0, origin := 0, seq := 1, until_ := 100 * uPerS } } }, { id := 4, digest := 9, recs := [], slot := 0, origin := 0, seq := 1, until_ := 100 * uPerS }, by decide, by decide⟩,
   ⟨{ tRun with clock := 99 * uPerS, pt := { proposal := some { id := 4, digest := 9, recs := [], slot := 0, origin := 0, seq := 1, until_ := 100 * uPerS } } }, { id := 4, digest := 9, recs := [], slot := 0, origin := 0, seq := 1, until_ := 100 * uPerS }, by decide, by decide⟩,
   ⟨{ tRun with pw := { tRun.pw with domains := List.replicate 11 {} }, pt := { cred := { cls := 1, lockedAt := some 0 } :: List.replicate 7 {} } }, 0, 0, by decide, by decide, by decide, by decide⟩,
   ⟨{ tRun with pt := { cred := { cls := 1, lockedAt := some (91 * uPerS) } :: List.replicate 7 {} } }, 0, 91 * uPerS, by decide, by decide⟩⟩

theorem witness_CommitLiveRow :
    (∃ (s : State) (p : PendCommit), s.mb.pend = some p ∧ p.boundary ≤ s.spindle ∧ s.spindle % frameLen (f441 s) = 0 ∧ s.dataPlane = .running ∧ s.firstLive = true) ∧
    (∃ (s : State) (p : PendCommit), s.mb.pend = some p ∧ p.boundary ≤ s.spindle ∧ s.spindle % frameLen (f441 s) = 0 ∧ s.dataPlane = .dark ∧ s.firstLive = false) ∧
    (∃ (s : State) (p : PendCommit), s.mb.pend = some p ∧ (s.spindle < p.boundary ∨ s.spindle % frameLen (f441 s) ≠ 0 ∨ s.dataPlane = .relock ∨ s.dataPlane = .second)) :=
  ⟨⟨{ tRun with spindle := 0, mb := { pend := some { tables := { tw := { leaseUs := 20 } }, gen := 5, digest := 77, boundary := 0, cmd := none, recs := [], full := false } } }, { tables := { tw := { leaseUs := 20 } }, gen := 5, digest := 77, boundary := 0, cmd := none, recs := [], full := false }, by decide, by decide, by decide, by decide, by decide⟩,
   ⟨{ tRun with mode := .configure, firstLive := false, dataPlane := .dark, spindle := 0, mb := { pend := some { tables := { tw := { leaseUs := 20 } }, gen := 5, digest := 77, boundary := 0, cmd := none, recs := [], full := false } } }, { tables := { tw := { leaseUs := 20 } }, gen := 5, digest := 77, boundary := 0, cmd := none, recs := [], full := false }, by decide, by decide, by decide, by decide, by decide⟩,
   ⟨{ tRun with spindle := 5, mb := { pend := some { tables := { tw := { leaseUs := 20 } }, gen := 5, digest := 77, boundary := 0, cmd := none, recs := [], full := false } } }, { tables := { tw := { leaseUs := 20 } }, gen := 5, digest := 77, boundary := 0, cmd := none, recs := [], full := false }, by decide, by decide⟩⟩

theorem witness_FrameAndRestart :
    (∃ (inp : FrameInput) (s : State), spindleRuns s = true ∧ s.tk.step = none ∧ s.mb.pend = none ∧ frameCmds s = []) ∧
    (∃ (inp : FrameInput) (s : State), spindleRuns s = true ∧ s.mb.pend = none ∧ frameCmds s = [] ∧ s.tk.step = none ∧ s.fenceOpen = true ∧ s.nw.fenceSeen = false) ∧
    (∃ (s : State), s.dataPlane = .relock ∧ s.hs.msyn.lock = 4 ∧ s.spindle % frameLen (f441 s) = 0 ∧ s.tk.step = none ∧ s.tk.stepCmds = [] ∧ s.mb.pend = none ∧ frameCmds s = []) ∧
    (∃ (s : State), s.dataPlane = .second ∧ s.hs.msyn.lock = 4 ∧ s.spindle % uPerS = 0 ∧ residualsDone s = true ∧ s.tk.step = none ∧ s.tk.stepCmds = [] ∧ s.mb.pend = none ∧ frameCmds s = []) ∧
    (∃ (s : State), (s.hs.msyn.lock ≠ 4 ∨ s.dataPlane = .running ∨ s.dataPlane = .dark ∨ (s.dataPlane = .second ∧ (s.spindle % uPerS ≠ 0 ∨ residualsDone s = false)) ∨ (s.dataPlane = .relock ∧ s.spindle % frameLen (f441 s) ≠ 0))) :=
  ⟨⟨tInput, tRun, by decide, by decide, by decide, by decide⟩,
   ⟨tInput, tRun, by decide, by decide, by decide, by decide, by decide, by decide⟩,
   ⟨{ tRun with dataPlane := .relock, spindle := 0, hs := { msyn := { lock := 4 } } }, by decide, by decide, by decide, by decide, by decide, by decide, by decide⟩,
   ⟨{ tRun with dataPlane := .second, spindle := 5 * uPerS, hs := { msyn := { lock := 4 } } }, by decide, by decide, by decide, by decide, by decide, by decide, by decide, by decide⟩,
   ⟨tRun, by decide⟩⟩

theorem witness_CommandsStartInOrder :
    (∃ (i : Instr) (k : OrdClass) (op : Nat) (s : State), (rowKind i = (k, .staged op) ∨ rowKind i = (k, .direct op) ∨ rowKind i = (k, .status op) ∨ rowKind i = (k, .immediate op)) ∧ starting k op s = none) ∧
    (∃ (i : Instr) (k : OrdClass) (op : Nat) (s : State) (d : Cmd) (cs : List Cmd), (rowKind i = (k, .staged op) ∨ rowKind i = (k, .direct op) ∨ rowKind i = (k, .status op) ∨ rowKind i = (k, .immediate op)) ∧ s.mb.cmds = d :: cs ∧ d.order = k ∧ d.phase ≠ .waiting ∧ d.phase ≠ .mid) ∧
    (∃ (i : Instr) (k : OrdClass) (op : Nat) (s : State), (rowKind i = (k, .staged op) ∨ rowKind i = (k, .direct op) ∨ rowKind i = (k, .status op) ∨ rowKind i = (k, .immediate op)) ∧ serving s = false) :=
  ⟨⟨.hsStatus .zero, .zero, 0x0E10, tRun, by decide, by decide⟩,
   ⟨.hsStatus .zero, .zero, 0x0E10, { tRun with mb := { cmds := [{ tCmd 0x0D20 [0, 0, 0, 0] with phase := .running }, tCmd 0x0E10 [0, 0, 0, 0]] } }, { tCmd 0x0D20 [0, 0, 0, 0] with phase := .running }, [tCmd 0x0E10 [0, 0, 0, 0]], by decide, by decide, by decide, by decide, by decide⟩,
   ⟨.hsStatus .zero, .zero, 0x0E10, { tRun with mode := .hush }, by decide, by decide⟩⟩

theorem witness_CommandsRefusedByMode :
    (∃ (i : Instr) (k : OrdClass) (op : Nat) (s : State) (c : Cmd), (rowKind i = (k, .staged op) ∨ rowKind i = (k, .direct op) ∨ rowKind i = (k, .status op) ∨ rowKind i = (k, .immediate op)) ∧ starting k op s = some c ∧ s.mode = .boot ∧ recoveryOps.contains op = false ∧ HostReady s c ∧ (lgLogged op 0 && lgBlocked op s) = false) ∧
    (∃ (i : Instr) (k : OrdClass) (op : Nat) (s : State) (c : Cmd), (rowKind i = (k, .staged op) ∨ rowKind i = (k, .direct op) ∨ rowKind i = (k, .status op) ∨ rowKind i = (k, .immediate op)) ∧ starting k op s = some c ∧ s.mode = .safe ∧ servedInSafe op = false ∧ HostReady s c ∧ (lgLogged op 0 && lgBlocked op s) = false) ∧
    (∃ (i : Instr) (k : OrdClass) (op : Nat) (s : State) (c : Cmd), (rowKind i = (k, .staged op) ∨ rowKind i = (k, .direct op) ∨ rowKind i = (k, .status op) ∨ rowKind i = (k, .immediate op)) ∧ starting k op s = some c ∧ s.mode ≠ .boot ∧ s.mode ≠ .safe ∧ s.firstLive = false ∧ needsLive.contains op = true ∧ HostReady s c ∧ (lgLogged op 0 && lgBlocked op s) = false) ∧
    (∃ (i : Instr) (k : OrdClass) (op : Nat) (s : State) (c : Cmd), (rowKind i = (k, .direct op) ∨ rowKind i = (k, .immediate op)) ∧ starting k op s = some c ∧ lgLogged op 0 = true ∧ 4096 ≤ s.lg.queue.length ∧ HostReady s c) :=
  ⟨⟨.hsStatus .zero, .zero, 0x0E10, { tRun with mb := { cmds := [tCmd 0x0E10 [0, 0, 0, 0]] }, mode := .boot }, tCmd 0x0E10 [0, 0, 0, 0], by decide, by decide, by decide, by decide, by decide, by decide⟩,
   ⟨.hsSlew .zero, .zero, 0x0317, { tRun with mb := { cmds := [tCmd 0x0317 [0, 0, 1, 0]] }, mode := .safe }, tCmd 0x0317 [0, 0, 1, 0], by decide, by decide, by decide, by decide, by decide, by decide⟩,
   ⟨.teEnable .zero, .zero, 0x0625, { tRun with mb := { cmds := [tCmd 0x0625 [0, 0, 0, 0, 0, 0, 0, 0, 0, 0, 0, 0]] }, mode := .configure, firstLive := false }, tCmd 0x0625 [0, 0, 0, 0, 0, 0, 0, 0, 0, 0, 0, 0], by decide, by decide, by decide, by decide, by decide, by decide, by decide, by decide⟩,
   ⟨.hsSlew .zero, .zero, 0x0317, { tRun with mb := { cmds := [tCmd 0x0317 [0, 0, 1, 0]] }, lg := { queue := List.replicate 4096 { sec := 50, ns := 0, kind := 2, origin := 0, timeValid := false, opcode := 0x0312, outcome := 0, gen := 1, digest := 0 } } }, tCmd 0x0317 [0, 0, 1, 0], by decide, by decide, by decide, by decide, by decide⟩⟩

theorem witness_StagedRows :
    (∃ (i : Instr) (k : OrdClass) (op : Nat) (s : State) (c : Cmd), rowKind i = (k, .staged op) ∧ starting k op s = some c ∧ modeGate s op = none ∧ s.pt.signedCfg = false ∧ recFieldsOk op c.payload = true ∧ (op = 0x0710 → portAddrOk (twinPos s) c.payload = true) ∧ s.mb.stageBytes + recSize c.payload.length ≤ 4194304) ∧
    (∃ (i : Instr) (k : OrdClass) (op : Nat) (s : State) (c : Cmd), rowKind i = (k, .staged op) ∧ starting k op s = some c ∧ modeGate s op = none ∧ s.pt.signedCfg = false ∧ recFieldsOk op c.payload = false ∧ HostReady s c) ∧
    (∃ (k : OrdClass) (s : State) (c : Cmd), starting k 0x0710 s = some c ∧ modeGate s 0x0710 = none ∧ s.pt.signedCfg = false ∧ portAddrOk (twinPos s) c.payload = false ∧ HostReady s c) ∧
    (∃ (i : Instr) (k : OrdClass) (op : Nat) (s : State) (c : Cmd), rowKind i = (k, .staged op) ∧ starting k op s = some c ∧ modeGate s op = none ∧ s.pt.signedCfg = true ∧ HostReady s c) ∧
    (∃ (i : Instr) (k : OrdClass) (op : Nat) (s : State) (c : Cmd), rowKind i = (k, .staged op) ∧ starting k op s = some c ∧ modeGate s op = none ∧ s.pt.signedCfg = false ∧ recFieldsOk op c.payload = true ∧ (op = 0x0710 → portAddrOk (twinPos s) c.payload = true) ∧ 4194304 < s.mb.stageBytes + recSize c.payload.length ∧ HostReady s c) :=
  ⟨⟨.hsRootCfg .zero, .zero, 0x0310, { tRun with mb := { cmds := [tCmd 0x0310 [1, 0, 0, 0, 244, 1, 0, 0]] } }, tCmd 0x0310 [1, 0, 0, 0, 244, 1, 0, 0], by decide, by decide, by decide, by decide, by decide, by decide, by decide⟩,
   ⟨.hsRootCfg .zero, .zero, 0x0310, { tRun with mb := { cmds := [tCmd 0x0310 [1, 0, 0, 0, 5, 0, 0, 0]] } }, tCmd 0x0310 [1, 0, 0, 0, 5, 0, 0, 0], by decide, by decide, by decide, by decide, by decide, by decide⟩,
   ⟨.zero, { tTwin with mb := { cmds := [{ tCmd 0x0710 ([0, 1, 0, 0] ++ zeros 28) with n := 0 }] } }, { tCmd 0x0710 ([0, 1, 0, 0] ++ zeros 28) with n := 0 }, by decide, by decide, by decide, by decide, by decide⟩,
   ⟨.hsRootCfg .zero, .zero, 0x0310, { tRun with mb := { cmds := [tCmd 0x0310 [1, 0, 0, 0, 244, 1, 0, 0]] }, pt := { signedCfg := true } }, tCmd 0x0310 [1, 0, 0, 0, 244, 1, 0, 0], by decide, by decide, by decide, by decide, by decide⟩,
   ⟨.hsRootCfg .zero, .zero, 0x0310, { tRun with mb := { cmds := [tCmd 0x0310 [1, 0, 0, 0, 244, 1, 0, 0]], stageBytes := 4194304 } }, tCmd 0x0310 [1, 0, 0, 0, 244, 1, 0, 0], by decide, by decide, by decide, by decide, by decide, by decide, by decide, by decide⟩⟩

theorem witness_DirectRows :
    (∃ (i : Instr) (k : OrdClass) (op : Nat) (s : State) (c : Cmd), rowKind i = (k, .direct op) ∧ starting k op s = some c ∧ startGate s op = none ∧ startCheck op c.payload s = none) ∧
    (∃ (i : Instr) (k : OrdClass) (op : Nat) (s : State) (c : Cmd) (n : Nat), rowKind i = (k, .direct op) ∧ starting k op s = some c ∧ startGate s op = none ∧ startCheck op c.payload s = some n ∧ HostReady s c) :=
  ⟨⟨.hsSlew .zero, .zero, 0x0317, { tRun with mb := { cmds := [tCmd 0x0317 [0, 0, 1, 0]] } }, tCmd 0x0317 [0, 0, 1, 0], by decide, by decide, by decide, by decide⟩,
   ⟨.hsSlew .zero, .zero, 0x0317, { tRun with mb := { cmds := [tCmd 0x0317 [0, 0, 0, 0]] } }, tCmd 0x0317 [0, 0, 0, 0], stBad, by decide, by decide, by decide, by decide, by decide⟩⟩

theorem witness_FrameAppliesDirects :
    (∃ (inp : FrameInput) (s x : State) (c : Cmd), x = atDirects inp s ∧ serving x = true ∧ frameCmds x = [c]) ∧
    (∃ (inp : FrameInput) (s x : State) (c d : Cmd), x = atDirects inp s ∧ serving x = true ∧ frameCmds x = [c, d] ∧ (c.opcode = 0x0324 ∨ d.opcode ≠ 0x0324) ∧ stillWaits (applyDirect c (stageHolds x)) d = true) ∧
    (∃ (inp : FrameInput) (s x : State) (c d : Cmd), x = atDirects inp s ∧ serving x = true ∧ frameCmds x = [c, d] ∧ c.opcode ≠ 0x0324 ∧ d.opcode = 0x0324 ∧ stillWaits (applyDirect d (stageHolds x)) c = true) ∧
    (∃ (inp : FrameInput) (s x : State), x = atDirects inp s ∧ (frameCmds x = [] ∨ serving x = false)) ∧
    (∃ (s : State) (c : Cmd) (n : Nat), directCheck c.opcode c.payload s = some n ∧ HostReady s c) :=
  ⟨⟨tInput, { tRun with mb := { cmds := [{ tCmd 0x0317 [0, 0, 1, 0] with phase := .frame 0 }] } }, atDirects tInput { tRun with mb := { cmds := [{ tCmd 0x0317 [0, 0, 1, 0] with phase := .frame 0 }] } }, { tCmd 0x0317 [0, 0, 1, 0] with phase := .frame 0 }, by decide, by decide, by decide⟩,
   ⟨tInput, { tRun with mb := { cmds := [{ tCmd 0x0317 [0, 0, 1, 0] with phase := .frame 0 }, { tCmd 0x0317 [0, 0, 1, 0] with n := 3, phase := .frame 1 }] } }, atDirects tInput { tRun with mb := { cmds := [{ tCmd 0x0317 [0, 0, 1, 0] with phase := .frame 0 }, { tCmd 0x0317 [0, 0, 1, 0] with n := 3, phase := .frame 1 }] } }, { tCmd 0x0317 [0, 0, 1, 0] with phase := .frame 0 }, { tCmd 0x0317 [0, 0, 1, 0] with n := 3, phase := .frame 1 }, by decide, by decide, by decide, by decide, by decide⟩,
   ⟨tInput, { tRun with mb := { cmds := [{ tCmd 0x0317 [0, 0, 1, 0] with phase := .frame 0 }, { tCmd 0x0324 [0, 0, 0, 0, 0, 0, 100, 0, 0, 0, 0, 0, 1, 0, 0, 0] with n := 3, phase := .frame 1 }] } }, atDirects tInput { tRun with mb := { cmds := [{ tCmd 0x0317 [0, 0, 1, 0] with phase := .frame 0 }, { tCmd 0x0324 [0, 0, 0, 0, 0, 0, 100, 0, 0, 0, 0, 0, 1, 0, 0, 0] with n := 3, phase := .frame 1 }] } }, { tCmd 0x0317 [0, 0, 1, 0] with phase := .frame 0 }, { tCmd 0x0324 [0, 0, 0, 0, 0, 0, 100, 0, 0, 0, 0, 0, 1, 0, 0, 0] with n := 3, phase := .frame 1 }, by decide, by decide, by decide, by decide, by decide, by decide⟩,
   ⟨tInput, tRun, atDirects tInput tRun, by decide, by decide⟩,
   ⟨{ tRun with mb := { cmds := [{ tCmd 0x0317 [0, 0, 0, 0] with phase := .frame 0 }] } }, { tCmd 0x0317 [0, 0, 0, 0] with phase := .frame 0 }, stBad, by decide, by decide⟩⟩

theorem witness_DirectClocks :
    (∃ (s : State) (c : Cmd), c.opcode = 0x0311 ∧ directCheck c.opcode c.payload s = none ∧ u8 c.payload 0 = 0) ∧
    (∃ (s : State) (c : Cmd), c.opcode = 0x0311 ∧ directCheck c.opcode c.payload s = none ∧ u8 c.payload 0 = 0 ∧ rootNow s = rootPref s.live ∧ rootQualified s (rootNow s) = true) ∧
    (∃ (s : State) (c : Cmd), c.opcode = 0x0311 ∧ directCheck c.opcode c.payload s = none ∧ u8 c.payload 0 = 1) ∧
    (∃ (s : State) (c : Cmd), c.opcode = 0x0311 ∧ directCheck c.opcode c.payload s = none ∧ u8 c.payload 0 = 2) ∧
    (∃ (s : State) (c : Cmd), c.opcode = 0x0312 ∧ directCheck c.opcode c.payload s = none ∧ laterWrite c s = false) ∧
    (∃ (s : State) (c : Cmd), c.opcode = 0x0314 ∧ directCheck c.opcode c.payload s = none ∧ laterWrite c s = false) ∧
    (∃ (s : State) (c : Cmd), (c.opcode = 0x0312 ∨ c.opcode = 0x0314) ∧ laterWrite c s = true) ∧
    (∃ (s : State) (c : Cmd), c.opcode = 0x0315 ∧ directCheck c.opcode c.payload s = none ∧ (getSyn s (synOf (u8 c.payload 0))).lock = 4) ∧
    (∃ (s : State) (c : Cmd), c.opcode = 0x0316 ∧ directCheck c.opcode c.payload s = none ∧ (getSyn s (synOf (u8 c.payload 0))).lock = 4) ∧
    (∃ (s : State) (c : Cmd), c.opcode = 0x0315 ∧ directCheck c.opcode c.payload s = none ∧ (getSyn s (synOf (u8 c.payload 0))).lock ≠ 4) ∧
    (∃ (s : State) (c : Cmd), c.opcode = 0x0317 ∧ directCheck c.opcode c.payload s = none) ∧
    (∃ (s : State) (c : Cmd), c.opcode = 0x0318 ∧ directCheck c.opcode c.payload s = none) ∧
    (∃ (s : State) (c : Cmd), c.opcode = 0x031A ∧ directCheck c.opcode c.payload s = none) ∧
    (∃ (s : State) (c : Cmd) (n : Nat), c.opcode = 0x0324 ∧ directCheck c.opcode c.payload s = none ∧ readFull c.payload 0 = some n ∧ s.dataPlane ≠ .dark) ∧
    (∃ (s : State) (c : Cmd) (n : Nat), c.opcode = 0x0324 ∧ directCheck c.opcode c.payload s = none ∧ readFull c.payload 0 = some n ∧ s.dataPlane = .dark) ∧
    (∃ (s : State) (c : Cmd), c.opcode = 0x0325 ∧ directCheck c.opcode c.payload s = none ∧ s.tk.leapPort.isSome = true) ∧
    (∃ (s : State) (c : Cmd), c.opcode = 0x0325 ∧ directCheck c.opcode c.payload s = none ∧ s.tk.leapPort = none) ∧
    (∃ (s : State) (c : Cmd), c.opcode = 0x0326 ∧ directCheck c.opcode c.payload s = none ∧ u8 c.payload 0 = 255) ∧
    (∃ (s : State) (c : Cmd), c.opcode = 0x0326 ∧ directCheck c.opcode c.payload s = none ∧ u8 c.payload 0 ≠ 255 ∧ (s.mode = .acquire ∨ s.mode = .locked)) ∧
    (∃ (s : State) (c : Cmd), c.opcode = 0x0326 ∧ directCheck c.opcode c.payload s = none ∧ u8 c.payload 0 ≠ 255 ∧ s.mode ≠ .acquire ∧ s.mode ≠ .locked) ∧
    (∃ (s : State) (c : Cmd), c.opcode = 0x0327 ∧ directCheck c.opcode c.payload s = none) :=
  ⟨⟨tRun, { tCmd 0x0311 [0, 0, 0, 0] with phase := .frame 0 }, by decide, by decide, by decide⟩,
   ⟨{ tRun with hs := { rootA := { st := .qualified }, rootB := { st := .qualified } } }, { tCmd 0x0311 [0, 0, 0, 0] with phase := .frame 0 }, by decide, by decide, by decide, by decide, by decide⟩,
   ⟨{ tRun with hs := { nowB := true, rootA := { st := .qualified }, rootB := { st := .qualified } } }, { tCmd 0x0311 [1, 0, 0, 0] with phase := .frame 0 }, by decide, by decide, by decide⟩,
   ⟨{ tRun with hs := { rootA := { st := .qualified }, rootB := { st := .qualified } } }, { tCmd 0x0311 [2, 0, 0, 0] with phase := .frame 0 }, by decide, by decide, by decide⟩,
   ⟨{ tRun with hs := { msyn := { lock := 4, word := 2 ^ 48 * 204, lockWord := 2 ^ 48 * 204 }, vsyn := { lock := 4 }, nsyn := { lock := 4 }, ssyn := { lock := 4 } }, live := { synth := { manM := true, manV := true, manN := true } } }, { tCmd 0x0312 [0, 0, 235, 1, 133, 235, 81, 184, 30, 133, 0, 0] with phase := .frame 0 }, by decide, by decide, by decide⟩,
   ⟨{ tRun with hs := { msyn := { lock := 4, word := 2 ^ 48 * 204, lockWord := 2 ^ 48 * 204 }, vsyn := { lock := 4 }, nsyn := { lock := 4 }, ssyn := { lock := 4 } }, live := { synth := { manM := true, manV := true, manN := true } } }, { tCmd 0x0314 [0, 0, 0, 0, 0, 0, 0, 0] with phase := .frame 0 }, by decide, by decide, by decide⟩,
   ⟨{ tRun with mb := { cmds := [{ tCmd 0x0312 [3, 0, 0, 0, 0, 0, 0, 0, 0, 0, 1, 0] with phase := .frame 0 }, { tCmd 0x0314 [3, 0, 0, 0, 1, 0, 0, 0] with n := 4, phase := .frame 1 }] } }, { tCmd 0x0312 [3, 0, 0, 0, 0, 0, 0, 0, 0, 0, 1, 0] with phase := .frame 0 }, by decide, by decide⟩,
   ⟨{ tRun with hs := { msyn := { lock := 4, word := 2 ^ 48 * 204, lockWord := 2 ^ 48 * 204 }, vsyn := { lock := 4 }, nsyn := { lock := 4 }, ssyn := { lock := 4 } }, live := { synth := { manM := true, manV := true, manN := true } } }, { tCmd 0x0315 [0, 0, 0, 0, 9, 0, 0, 0, 0, 0, 0, 0] with phase := .frame 0 }, by decide, by decide, by decide⟩,
   ⟨{ tRun with hs := { msyn := { lock := 4, word := 2 ^ 48 * 204, lockWord := 2 ^ 48 * 204 }, vsyn := { lock := 4 }, nsyn := { lock := 4 }, ssyn := { lock := 4 } }, live := { synth := { manM := true, manV := true, manN := true } } }, { tCmd 0x0316 [0, 0, 0, 0, 9, 0, 0, 0, 0, 0, 0, 0] with phase := .frame 0 }, by decide, by decide, by decide⟩,
   ⟨{ tRun with live := { synth := { manM := true } } }, { tCmd 0x0315 [0, 0, 0, 0, 9, 0, 0, 0, 0, 0, 0, 0] with phase := .frame 0 }, by decide, by decide, by decide⟩,
   ⟨tRun, { tCmd 0x0317 [0, 0, 1, 0] with phase := .frame 0 }, by decide, by decide⟩,
   ⟨tRun, { tCmd 0x0318 [3, 1, 0, 0] with phase := .frame 0 }, by decide, by decide⟩,
   ⟨{ tRun with hs := { msyn := { lock := 4, word := 2 ^ 48 * 204, lockWord := 2 ^ 48 * 204 }, vsyn := { lock := 4 }, nsyn := { lock := 4 }, ssyn := { lock := 4 } }, live := { synth := { manM := true, manV := true, manN := true } } }, { tCmd 0x031A [0, 0, 0, 0] with phase := .frame 0 }, by decide, by decide⟩,
   ⟨tRun, { tCmd 0x0324 [0, 0, 0, 0, 0, 0, 100, 0, 0, 0, 0, 0, 1, 0, 0, 0] with phase := .frame 0 }, 100 * uPerS, by decide, by decide, by decide, by decide⟩,
   ⟨{ tRun with mode := .configure, firstLive := false, dataPlane := .dark }, { tCmd 0x0324 [0, 0, 0, 0, 0, 0, 100, 0, 0, 0, 0, 0, 1, 0, 0, 0] with phase := .frame 0 }, 100 * uPerS, by decide, by decide, by decide, by decide⟩,
   ⟨{ tRun with tk := { leapPort := some 0 } }, { tCmd 0x0325 [37, 0, 1, 0, 100, 0, 0, 0, 0, 0, 0, 0] with phase := .frame 0 }, by decide, by decide, by decide⟩,
   ⟨tRun, { tCmd 0x0325 [37, 0, 1, 0, 100, 0, 0, 0, 0, 0, 0, 0] with phase := .frame 0 }, by decide, by decide, by decide⟩,
   ⟨tRun, { tCmd 0x0326 [255, 0, 0, 0] with phase := .frame 0 }, by decide, by decide, by decide⟩,
   ⟨{ tCand 1 with mode := .locked }, { tCmd 0x0326 [0, 0, 0, 0] with phase := .frame 0 }, by decide, by decide, by decide, by decide⟩,
   ⟨tCand 1, { tCmd 0x0326 [0, 0, 0, 0] with phase := .frame 0 }, by decide, by decide, by decide, by decide, by decide⟩,
   ⟨{ tCand 1 with mode := .locked }, { tCmd 0x0327 [0, 0, 0, 0] with phase := .frame 0 }, by decide, by decide⟩⟩

theorem witness_DirectConverters :
    (∃ (s : State) (c : Cmd), c.opcode = 0x0416 ∧ directCheck c.opcode c.payload s = none ∧ Sized s ∧ bit c.payload 1 0 = false) ∧
    (∃ (s : State) (c : Cmd), c.opcode = 0x0416 ∧ directCheck c.opcode c.payload s = none ∧ Sized s ∧ bit c.payload 1 0 = true) ∧
    (∃ (s : State) (c : Cmd), c.opcode = 0x0417 ∧ directCheck c.opcode c.payload s = none ∧ (seqCfg s.live (bit c.payload 0 0)).len ≠ 0 ∧ s.dataPlane = .running ∧ (getSeq (bit c.payload 0 0) s).phase = 0 ∧ (∀ u, (getSeq (bit c.payload 0 0) s).endAt = some u → u < s.clock) ∧ (getSeq (bit c.payload 0 0) s).lastTrig ≠ some s.clock) ∧
    (∃ (s : State) (c : Cmd), c.opcode = 0x0417 ∧ directCheck c.opcode c.payload s = none ∧ ((seqCfg s.live (bit c.payload 0 0)).len = 0 ∨ s.dataPlane ≠ .running) ∧ HostReady s c) ∧
    (∃ (s : State) (c : Cmd), c.opcode = 0x0418 ∧ directCheck c.opcode c.payload s = none) ∧
    (∃ (s : State) (c : Cmd), c.opcode = 0x0419 ∧ directCheck c.opcode c.payload s = none) ∧
    (∃ (s : State) (c : Cmd), c.opcode = 0x041A ∧ directCheck c.opcode c.payload s = none ∧ bit c.payload 1 0 = true) ∧
    (∃ (s : State) (c : Cmd), c.opcode = 0x041A ∧ directCheck c.opcode c.payload s = none ∧ bit c.payload 1 0 = false) ∧
    (∃ (s : State) (c : Cmd) (n : Nat), frameCmds s = [c] ∧ c.opcode = 0x0513 ∧ u8 c.payload 0 ≤ 1 ∧ n < 4 ∧ Sized s) ∧
    (∃ (s : State) (c : Cmd), c.opcode = 0x0513 ∧ directCheck c.opcode c.payload s = none) ∧
    (∃ (s : State) (c : Cmd), c.opcode = 0x0514 ∧ directCheck c.opcode c.payload s = none ∧ s.dataPlane = .running ∧ bit c.payload 0 0 = true ∧ bit c.payload 0 1 = false) ∧
    (∃ (s : State) (c : Cmd), c.opcode = 0x0514 ∧ directCheck c.opcode c.payload s = none ∧ s.dataPlane = .running ∧ bit c.payload 0 0 = false ∧ bit c.payload 0 1 = true) ∧
    (∃ (s : State) (c : Cmd), c.opcode = 0x0514 ∧ directCheck c.opcode c.payload s = none ∧ s.dataPlane ≠ .running) ∧
    (∃ (s : State) (c : Cmd), c.opcode = 0x0522 ∧ directCheck c.opcode c.payload s = none) ∧
    (∃ (s : State) (c : Cmd), c.opcode = 0x0525 ∧ directCheck c.opcode c.payload s = none) :=
  ⟨⟨{ tRun with pw := { tRun.pw with domains := List.replicate 11 {} } }, { tCmd 0x0416 [1, 0, 0, 0, 0, 0, 0, 0, 0, 0, 0, 0] with phase := .frame 0 }, by decide, by decide, by decide, by decide⟩,
   ⟨{ tRun with pw := { tRun.pw with domains := List.replicate 11 {} } }, { tCmd 0x0416 [1, 1, 0, 0, 0, 0, 0, 0, 60, 0, 0, 0] with phase := .frame 0 }, by decide, by decide, by decide, by decide⟩,
   ⟨{ tRun with live := { seqReg := { len := 2 }, seqInj := { len := 1 } } }, { tCmd 0x0417 [0, 0, 0, 0] with phase := .frame 0 }, by decide, by decide, by decide, by decide, by decide, by decide, by decide⟩,
   ⟨tRun, { tCmd 0x0417 [0, 0, 0, 0] with phase := .frame 0 }, by decide, by decide, by decide, by decide⟩,
   ⟨tRun, { tCmd 0x0418 [5, 0, 0, 0] with phase := .frame 0 }, by decide, by decide⟩,
   ⟨tRun, { tCmd 0x0419 [6, 20, 0, 0] with phase := .frame 0 }, by decide, by decide⟩,
   ⟨tRun, { tCmd 0x041A [3, 1, 0, 0] with phase := .frame 0 }, by decide, by decide, by decide⟩,
   ⟨tRun, { tCmd 0x041A [3, 0, 0, 0] with phase := .frame 0 }, by decide, by decide, by decide⟩,
   ⟨{ { tRun with pw := { tRun.pw with domains := List.replicate 11 {} } } with mb := { cmds := [{ tCmd 0x0513 [0, 3, 0, 0, 5, 0, 6, 0, 0, 0, 0, 0] with phase := .frame 0 }] } }, { tCmd 0x0513 [0, 3, 0, 0, 5, 0, 6, 0, 0, 0, 0, 0] with phase := .frame 0 }, 1, by decide, by decide, by decide, by decide, by decide⟩,
   ⟨tRun, { tCmd 0x0513 [0, 3, 0, 0, 5, 0, 6, 0, 0, 0, 0, 0] with phase := .frame 0 }, by decide, by decide⟩,
   ⟨tRun, { tCmd 0x0514 [1, 0, 0, 0] with phase := .frame 0 }, by decide, by decide, by decide, by decide, by decide⟩,
   ⟨tRun, { tCmd 0x0514 [2, 0, 0, 0] with phase := .frame 0 }, by decide, by decide, by decide, by decide, by decide⟩,
   ⟨{ tRun with dataPlane := .relock }, { tCmd 0x0514 [1, 0, 0, 0] with phase := .frame 0 }, by decide, by decide, by decide⟩,
   ⟨tRun, { tCmd 0x0522 [0, 0, 3, 0, 5, 0, 0, 0, 0, 0, 0, 0, 0, 0, 0, 0, 0, 0, 0, 0] with phase := .frame 0 }, by decide, by decide⟩,
   ⟨{ tRun with live := { ps := [(0, { pre := some { id := 16, base := 0, blank := 0, code1V := 0, dds := 0, rate := 0, edge := 0, hz := 0, lvl := 0, zone := 0, jam := 0, ub := 0 } })] } }, { tCmd 0x0525 [0, 0, 15, 0] with phase := .frame 0 }, by decide, by decide⟩⟩

theorem witness_DirectTableWrites :
    (∃ (s : State) (c : Cmd), c.opcode = 0x0612 ∧ directCheck c.opcode c.payload s = none ∧ s.dataPlane = .running) ∧
    (∃ (s : State) (c : Cmd), c.opcode = 0x0624 ∧ directCheck c.opcode c.payload s = none ∧ s.dataPlane = .running) ∧
    (∃ (s : State) (c : Cmd), c.opcode = 0x0625 ∧ directCheck c.opcode c.payload s = none ∧ s.dataPlane = .running) ∧
    (∃ (s : State) (c : Cmd) (w : Nat), c.opcode = 0x0626 ∧ directCheck c.opcode c.payload s = none ∧ s.dataPlane = .running ∧ gainWordAt c.payload s.live = some w) ∧
    (∃ (s : State) (c : Cmd) (w : Nat), c.opcode = 0x0627 ∧ directCheck c.opcode c.payload s = none ∧ s.dataPlane = .running ∧ bandWordAt c.payload s.live = some w) ∧
    (∃ (s : State) (c : Cmd) (w : Nat), c.opcode = 0x0628 ∧ directCheck c.opcode c.payload s = none ∧ s.dataPlane = .running ∧ tapWordAt c.payload s.live = some w) ∧
    (∃ (s : State) (c : Cmd), c.opcode = 0x0812 ∧ directCheck c.opcode c.payload s = none) ∧
    (∃ (s : State) (c : Cmd), c.opcode = 0x0522 ∧ directCheck c.opcode c.payload s = none) ∧
    (∃ (s : State) (c : Cmd), c.opcode = 0x0525 ∧ directCheck c.opcode c.payload s = none) ∧
    (∃ (s : State) (c : Cmd), c.opcode = 0x0715 ∧ directCheck c.opcode c.payload s = none) ∧
    (∃ (s : State) (c : Cmd), c.opcode = 0x0419 ∧ directCheck c.opcode c.payload s = none) ∧
    (∃ (s : State) (c : Cmd), s.mode ≠ .safe) ∧
    (∃ (s : State) (c : Cmd), [0x0612, 0x0624, 0x0625, 0x0626, 0x0627, 0x0628].contains c.opcode = true ∧ directCheck c.opcode c.payload s = none ∧ s.dataPlane ≠ .running) :=
  ⟨⟨{ tRun with live := { te := [(0, { en := true, len := 8 })], ops := [(0, { kind := 3, n := 4, src := 0 }), (1, { kind := 2, n := 1 }), (2, { kind := 4, n := 2 }), (3, { kind := 5, n := 1, arg := 100 })], dp := [(0, { adc := [0, 1, 255, 255] })] } }, { tCmd 0x0612 [0, 1, 0, 1, 5, 0, 0, 0, 0, 0, 0, 0] with phase := .frame 0 }, by decide, by decide, by decide⟩,
   ⟨{ tRun with live := { te := [(0, { en := true, len := 8 })], ops := [(0, { kind := 3, n := 4, src := 0 }), (1, { kind := 2, n := 1 }), (2, { kind := 4, n := 2 }), (3, { kind := 5, n := 1, arg := 100 })], dp := [(0, { adc := [0, 1, 255, 255] })] } }, { tCmd 0x0624 [0, 0, 20, 0, 1, 0, 0, 0, 5, 0, 0, 0] with phase := .frame 0 }, by decide, by decide, by decide⟩,
   ⟨{ tRun with live := { te := [(0, { en := true, len := 8 })], ops := [(0, { kind := 3, n := 4, src := 0 }), (1, { kind := 2, n := 1 }), (2, { kind := 4, n := 2 }), (3, { kind := 5, n := 1, arg := 100 })], dp := [(0, { adc := [0, 1, 255, 255] })] } }, { tCmd 0x0625 [0, 0, 0, 0, 1, 2, 0, 0, 3, 0, 0, 0] with phase := .frame 0 }, by decide, by decide, by decide⟩,
   ⟨{ tRun with live := { te := [(0, { en := true, len := 8 })], ops := [(0, { kind := 3, n := 4, src := 0 }), (1, { kind := 2, n := 1 }), (2, { kind := 4, n := 2 }), (3, { kind := 5, n := 1, arg := 100 })], dp := [(0, { adc := [0, 1, 255, 255] })] } }, { tCmd 0x0626 [0, 0, 1, 0, 0, 0, 0, 0] with phase := .frame 0 }, 0, by decide, by decide, by decide, by decide⟩,
   ⟨{ tRun with live := { te := [(0, { en := true, len := 8 })], ops := [(0, { kind := 3, n := 4, src := 0 }), (1, { kind := 2, n := 1 }), (2, { kind := 4, n := 2 }), (3, { kind := 5, n := 1, arg := 100 })], dp := [(0, { adc := [0, 1, 255, 255] })] } }, { tCmd 0x0627 [0, 0, 2, 0, 0, 0, 100, 0, 160, 134, 1, 0, 100, 0, 0, 0] with phase := .frame 0 }, 0, by decide, by decide, by decide, by decide⟩,
   ⟨{ tRun with live := { te := [(0, { en := true, len := 8 })], ops := [(0, { kind := 3, n := 4, src := 0 }), (1, { kind := 2, n := 1 }), (2, { kind := 4, n := 2 }), (3, { kind := 5, n := 1, arg := 100 })], dp := [(0, { adc := [0, 1, 255, 255] })] } }, { tCmd 0x0628 [0, 0, 3, 0, 5, 0, 0, 0] with phase := .frame 0 }, 0, by decide, by decide, by decide, by decide⟩,
   ⟨{ tRun with live := { te := [(0, { en := true, len := 8 })], ops := [(0, { kind := 3, n := 4, src := 0 }), (1, { kind := 2, n := 1 }), (2, { kind := 4, n := 2 }), (3, { kind := 5, n := 1, arg := 100 })], dp := [(0, { adc := [0, 1, 255, 255] })] } }, { tCmd 0x0812 [9, 0, 0, 0] with phase := .frame 0 }, by decide, by decide⟩,
   ⟨{ tRun with live := { te := [(0, { en := true, len := 8 })], ops := [(0, { kind := 3, n := 4, src := 0 }), (1, { kind := 2, n := 1 }), (2, { kind := 4, n := 2 }), (3, { kind := 5, n := 1, arg := 100 })], dp := [(0, { adc := [0, 1, 255, 255] })] } }, { tCmd 0x0522 [0, 0, 3, 0, 5, 0, 0, 0, 0, 0, 0, 0, 0, 0, 0, 0, 0, 0, 0, 0] with phase := .frame 0 }, by decide, by decide⟩,
   ⟨{ tRun with live := { ps := [(0, { pre := some { id := 16, base := 0, blank := 0, code1V := 0, dds := 0, rate := 0, edge := 0, hz := 0, lvl := 0, zone := 0, jam := 0, ub := 0 } })] } }, { tCmd 0x0525 [0, 0, 15, 0] with phase := .frame 0 }, by decide, by decide⟩,
   ⟨tNet, { tCmd 0x0715 [4, 0, 0, 0] with phase := .frame 0 }, by decide, by decide⟩,
   ⟨tRun, { tCmd 0x0419 [6, 20, 0, 0] with phase := .frame 0 }, by decide, by decide⟩,
   ⟨tRun, { tCmd 0x0612 [0, 1, 0, 1, 5, 0, 0, 0, 0, 0, 0, 0] with phase := .frame 0 }, by decide⟩,
   ⟨{ tRun with dataPlane := .relock, live := { dp := [(0, { adc := [0, 1, 255, 255] })] } }, { tCmd 0x0612 [0, 1, 0, 1, 5, 0, 0, 0, 0, 0, 0, 0] with phase := .frame 0 }, by decide, by decide, by decide⟩⟩

theorem witness_DirectRest :
    (∃ (s : State) (c : Cmd), c.opcode = 0x0716 ∧ directCheck c.opcode c.payload s = none ∧ HostReady s c) ∧
    (∃ (s : State) (c : Cmd), c.opcode = 0x0811 ∧ directCheck c.opcode c.payload s = none ∧ s.fp.hp.run = none ∧ s.fp.hp.on ≠ bit c.payload 0 0) ∧
    (∃ (s : State) (c : Cmd), c.opcode = 0x0811 ∧ directCheck c.opcode c.payload s = none ∧ s.fp.hp.run = none ∧ s.fp.hp.on = bit c.payload 0 0 ∧ HostReady s c) ∧
    (∃ (s : State) (c : Cmd), c.opcode = 0x0812 ∧ directCheck c.opcode c.payload s = none) ∧
    (∃ (s : State) (c : Cmd), c.opcode = 0x0814 ∧ directCheck c.opcode c.payload s = none) ∧
    (∃ (s : State) (c : Cmd), c.opcode = 0x0817 ∧ directCheck c.opcode c.payload s = none ∧ s.sn.during = false) ∧
    (∃ (s : State) (c : Cmd), c.opcode = 0x0817 ∧ directCheck c.opcode c.payload s = none ∧ s.sn.during = true ∧ s.live.sn.holdS ≠ 0) ∧
    (∃ (s : State) (c : Cmd), c.opcode = 0x0912 ∧ directCheck c.opcode c.payload s = none ∧ s.tw.holds = false) ∧
    (∃ (s : State) (c : Cmd), c.opcode = 0x0A11 ∧ directCheck c.opcode c.payload s = none) ∧
    (∃ (s : State) (c : Cmd), c.opcode = 0x0A12 ∧ directCheck c.opcode c.payload s = none) ∧
    (∃ (s : State) (c : Cmd), c.opcode = 0x0D20 ∧ directCheck c.opcode c.payload s = none) ∧
    (∃ (s : State) (c : Cmd), c.opcode = 0x0D21 ∧ directCheck c.opcode c.payload s = none ∧ Sized s ∧ (getDom s (u8 c.payload 0)).run = none ∧ (getDom s (u8 c.payload 0)).on ≠ bit c.payload 1 0) ∧
    (∃ (s : State) (c : Cmd), c.opcode = 0x0D21 ∧ directCheck c.opcode c.payload s = none ∧ (getDom s (u8 c.payload 0)).run = none ∧ (getDom s (u8 c.payload 0)).on = bit c.payload 1 0 ∧ HostReady s c) ∧
    (∃ (s : State) (c : Cmd), c.opcode = 0x0D21 ∧ directCheck c.opcode c.payload s = none ∧ Sized s ∧ (getDom s (u8 c.payload 0)).run ≠ none ∧ (getDom s (u8 c.payload 0)).queue.length = 4 ∧ HostReady s c) :=
  ⟨⟨{ tRun with nw := { port0 := { modabs := false, module := [1, 2, 3, 4, 5] } } }, { tCmd 0x0716 [0, 80, 0, 4] with phase := .frame 0 }, by decide, by decide, by decide⟩,
   ⟨tRun, { tCmd 0x0811 [1, 0, 0, 0] with phase := .frame 0 }, by decide, by decide, by decide, by decide⟩,
   ⟨tRun, { tCmd 0x0811 [0, 0, 0, 0] with phase := .frame 0 }, by decide, by decide, by decide, by decide, by decide⟩,
   ⟨tRun, { tCmd 0x0812 [9, 0, 0, 0] with phase := .frame 0 }, by decide, by decide⟩,
   ⟨{ tRun with fp := { jack := true }, live := { jack := { acc := true } } }, { tCmd 0x0814 [0, 0, 0, 0] with phase := .frame 0 }, by decide, by decide⟩,
   ⟨{ tRun with sn := { alarmOut := true } }, { tCmd 0x0817 [0, 0, 0, 0] with phase := .frame 0 }, by decide, by decide, by decide⟩,
   ⟨{ tRun with sn := { alarmOut := true, during := true }, live := { sn := { holdS := 2 } } }, { tCmd 0x0817 [0, 0, 0, 0] with phase := .frame 0 }, by decide, by decide, by decide, by decide⟩,
   ⟨{ tStby with role := .fenced, tw := { tStby.tw with tsl0 := false, tsl1 := false, witness := false } }, { tCmd 0x0912 [1, 0, 0, 0] with phase := .frame 0 }, by decide, by decide, by decide⟩,
   ⟨tRun, { tCmd 0x0A11 [5, 0, 0, 0] with phase := .frame 0 }, by decide, by decide⟩,
   ⟨tRun, { tCmd 0x0A12 [0, 0, 0, 0, 5, 0, 0, 0] with phase := .frame 0 }, by decide, by decide⟩,
   ⟨tRun, { tCmd 0x0D20 [1, 0, 0, 0] with phase := .frame 0 }, by decide, by decide⟩,
   ⟨{ tRun with pw := { tRun.pw with domains := List.replicate 11 {} } }, { tCmd 0x0D21 [6, 1, 0, 0] with phase := .frame 0 }, by decide, by decide, by decide, by decide, by decide⟩,
   ⟨{ tRun with pw := { tRun.pw with domains := List.replicate 11 {} } }, { tCmd 0x0D21 [6, 0, 0, 0] with phase := .frame 0 }, by decide, by decide, by decide, by decide, by decide⟩,
   ⟨{ tRun with pw := { tRun.pw with domains := List.replicate 11 { run := some true, queue := List.replicate 4 { target := false, cmd := some 50 } } } }, { tCmd 0x0D21 [6, 1, 0, 0] with phase := .frame 0 }, by decide, by decide, by decide, by decide, by decide, by decide⟩⟩

theorem witness_StatusRows :
    (∃ (k : OrdClass) (s : State) (c : Cmd), starting k 0x0E01 s = some c ∧ startGate s 0x0E01 = none ∧ HostReady s c ∧ u8 c.payload 0 ≤ 1) ∧
    (∃ (k : OrdClass) (s : State) (c : Cmd), starting k 0x0E10 s = some c ∧ startGate s 0x0E10 = none ∧ HostReady s c ∧ u8 c.payload 0 ≤ 3) ∧
    (∃ (k : OrdClass) (s : State) (c : Cmd), starting k 0x0E11 s = some c ∧ startGate s 0x0E11 = none ∧ HostReady s c) ∧
    (∃ (k : OrdClass) (s : State) (c : Cmd), starting k 0x0E12 s = some c ∧ startGate s 0x0E12 = none ∧ HostReady s c) ∧
    (∃ (k : OrdClass) (s : State) (c : Cmd), starting k 0x0E13 s = some c ∧ startGate s 0x0E13 = none ∧ HostReady s c ∧ u8 c.payload 0 < 12) ∧
    (∃ (k : OrdClass) (s : State) (c : Cmd), starting k 0x0E20 s = some c ∧ startGate s 0x0E20 = none ∧ HostReady s c ∧ u8 c.payload 0 ≤ 1) ∧
    (∃ (k : OrdClass) (s : State) (c : Cmd), starting k 0x0E21 s = some c ∧ startGate s 0x0E21 = none ∧ HostReady s c ∧ u8 c.payload 0 ≤ 1) ∧
    (∃ (k : OrdClass) (s : State) (c : Cmd), starting k 0x0E22 s = some c ∧ startGate s 0x0E22 = none ∧ HostReady s c) ∧
    (∃ (k : OrdClass) (s : State) (c : Cmd), starting k 0x0E30 s = some c ∧ startGate s 0x0E30 = none ∧ HostReady s c ∧ (u8 c.payload 0 ≤ 7 ∧ adcSystem s.live (u8 c.payload 0) = false)) ∧
    (∃ (k : OrdClass) (s : State) (c : Cmd), starting k 0x0E31 s = some c ∧ startGate s 0x0E31 = none ∧ HostReady s c ∧ (u8 c.payload 0 ≤ 19 ∧ u8 c.payload 1 ≤ 7 ∧ u8 c.payload 2 ≤ 4 ∧ adcSystem s.live (u8 c.payload 1) = false)) ∧
    (∃ (k : OrdClass) (s : State) (c : Cmd), starting k 0x0E40 s = some c ∧ startGate s 0x0E40 = none ∧ HostReady s c ∧ u8 c.payload 0 < 8) ∧
    (∃ (k : OrdClass) (s : State) (c : Cmd), starting k 0x0E41 s = some c ∧ startGate s 0x0E41 = none ∧ HostReady s c ∧ u8 c.payload 0 < 4) ∧
    (∃ (k : OrdClass) (s : State) (c : Cmd), starting k 0x0E50 s = some c ∧ startGate s 0x0E50 = none ∧ HostReady s c ∧ (u8 c.payload 0 < 32 ∧ u16 c.payload 2 < 1024)) ∧
    (∃ (k : OrdClass) (s : State) (c : Cmd), starting k 0x0E51 s = some c ∧ startGate s 0x0E51 = none ∧ HostReady s c ∧ (u8 c.payload 0 < 32 ∧ u16 c.payload 1 < 1024 ∧ u8 c.payload 3 ≤ 1 ∧ (teOp s.live (u8 c.payload 0) (u16 c.payload 1)).kind = 6)) ∧
    (∃ (k : OrdClass) (s : State) (c : Cmd), starting k 0x0E60 s = some c ∧ startGate s 0x0E60 = none ∧ HostReady s c) ∧
    (∃ (k : OrdClass) (s : State) (c : Cmd), starting k 0x0E61 s = some c ∧ startGate s 0x0E61 = none ∧ HostReady s c) ∧
    (∃ (k : OrdClass) (s : State) (c : Cmd), starting k 0x0E70 s = some c ∧ startGate s 0x0E70 = none ∧ HostReady s c ∧ u8 c.payload 0 < 12) ∧
    (∃ (k : OrdClass) (s : State) (c : Cmd), starting k 0x0E71 s = some c ∧ startGate s 0x0E71 = none ∧ HostReady s c ∧ u8 c.payload 0 < 4) ∧
    (∃ (k : OrdClass) (s : State) (c : Cmd), starting k 0x0E80 s = some c ∧ startGate s 0x0E80 = none ∧ HostReady s c) ∧
    (∃ (k : OrdClass) (s : State) (c : Cmd), starting k 0x0E90 s = some c ∧ startGate s 0x0E90 = none ∧ HostReady s c) ∧
    (∃ (k : OrdClass) (s : State) (c : Cmd), starting k 0x0E91 s = some c ∧ startGate s 0x0E91 = none ∧ HostReady s c ∧ u8 c.payload 0 ≤ 8) ∧
    (∃ (k : OrdClass) (s : State) (c : Cmd), starting k 0x0EA0 s = some c ∧ startGate s 0x0EA0 = none ∧ HostReady s c ∧ u8 c.payload 0 ≤ 3) ∧
    (∃ (k : OrdClass) (s : State) (c : Cmd), starting k 0x0EB0 s = some c ∧ startGate s 0x0EB0 = none ∧ HostReady s c) ∧
    (∃ (k : OrdClass) (s : State) (c : Cmd), starting k 0x0E10 s = some c ∧ startGate s 0x0E10 = none ∧ HostReady s c ∧ 3 < u8 c.payload 0) ∧
    (∃ (k : OrdClass) (s : State) (c : Cmd), starting k 0x0E31 s = some c ∧ startGate s 0x0E31 = none ∧ HostReady s c ∧ 19 < u8 c.payload 0) :=
  ⟨⟨.zero, { tRun with mb := { cmds := [tCmd 0x0E01 [0, 0, 0, 0]] } }, tCmd 0x0E01 [0, 0, 0, 0], by decide, by decide, by decide, by decide⟩,
   ⟨.zero, { tRun with mb := { cmds := [tCmd 0x0E10 [0, 0, 0, 0]] } }, tCmd 0x0E10 [0, 0, 0, 0], by decide, by decide, by decide, by decide⟩,
   ⟨.zero, { tRun with mb := { cmds := [tCmd 0x0E11 [0, 0, 0, 0]] } }, tCmd 0x0E11 [0, 0, 0, 0], by decide, by decide, by decide⟩,
   ⟨.zero, { tRun with mb := { cmds := [tCmd 0x0E12 [0, 0, 0, 0]] } }, tCmd 0x0E12 [0, 0, 0, 0], by decide, by decide, by decide⟩,
   ⟨.zero, { tRun with mb := { cmds := [tCmd 0x0E13 [0, 0, 0, 0]] } }, tCmd 0x0E13 [0, 0, 0, 0], by decide, by decide, by decide, by decide⟩,
   ⟨.zero, { tRun with mb := { cmds := [tCmd 0x0E20 [0, 0, 0, 0]] } }, tCmd 0x0E20 [0, 0, 0, 0], by decide, by decide, by decide, by decide⟩,
   ⟨.zero, { tRun with mb := { cmds := [tCmd 0x0E21 [0, 0, 0, 0]] } }, tCmd 0x0E21 [0, 0, 0, 0], by decide, by decide, by decide, by decide⟩,
   ⟨.zero, { tRun with mb := { cmds := [tCmd 0x0E22 [0, 0, 0, 0]] } }, tCmd 0x0E22 [0, 0, 0, 0], by decide, by decide, by decide⟩,
   ⟨.zero, { tRun with mb := { cmds := [tCmd 0x0E30 [0, 0, 0, 0]] } }, tCmd 0x0E30 [0, 0, 0, 0], by decide, by decide, by decide, by decide⟩,
   ⟨.zero, { tRun with mb := { cmds := [tCmd 0x0E31 [0, 0, 0, 0]] } }, tCmd 0x0E31 [0, 0, 0, 0], by decide, by decide, by decide, by decide⟩,
   ⟨.zero, { tRun with mb := { cmds := [tCmd 0x0E40 [0, 0, 0, 0]] } }, tCmd 0x0E40 [0, 0, 0, 0], by decide, by decide, by decide, by decide⟩,
   ⟨.zero, { tRun with mb := { cmds := [tCmd 0x0E41 [0, 0, 0, 0]] } }, tCmd 0x0E41 [0, 0, 0, 0], by decide, by decide, by decide, by decide⟩,
   ⟨.zero, { tRun with mb := { cmds := [tCmd 0x0E50 [0, 0, 0, 0]] } }, tCmd 0x0E50 [0, 0, 0, 0], by decide, by decide, by decide, by decide⟩,
   ⟨.zero, { tRun with mb := { cmds := [tCmd 0x0E51 [0, 0, 0, 0]] }, live := { te := [(0, { len := 2 })], ops := [(0, { kind := 6 })] } }, tCmd 0x0E51 [0, 0, 0, 0], by decide, by decide, by decide, by decide⟩,
   ⟨.zero, { tRun with mb := { cmds := [tCmd 0x0E60 [0, 0, 0, 0]] } }, tCmd 0x0E60 [0, 0, 0, 0], by decide, by decide, by decide⟩,
   ⟨.zero, { tRun with mb := { cmds := [tCmd 0x0E61 [0, 0, 0, 0]] } }, tCmd 0x0E61 [0, 0, 0, 0], by decide, by decide, by decide⟩,
   ⟨.zero, { tRun with mb := { cmds := [tCmd 0x0E70 [0, 0, 0, 0]] } }, tCmd 0x0E70 [0, 0, 0, 0], by decide, by decide, by decide, by decide⟩,
   ⟨.zero, { tRun with mb := { cmds := [tCmd 0x0E71 [0, 0, 0, 0]] } }, tCmd 0x0E71 [0, 0, 0, 0], by decide, by decide, by decide, by decide⟩,
   ⟨.zero, { tRun with mb := { cmds := [tCmd 0x0E80 [0, 0, 0, 0]] } }, tCmd 0x0E80 [0, 0, 0, 0], by decide, by decide, by decide⟩,
   ⟨.zero, { tRun with mb := { cmds := [tCmd 0x0E90 [0, 0, 0, 0]] } }, tCmd 0x0E90 [0, 0, 0, 0], by decide, by decide, by decide⟩,
   ⟨.zero, { tRun with mb := { cmds := [tCmd 0x0E91 [0, 0, 0, 0]] } }, tCmd 0x0E91 [0, 0, 0, 0], by decide, by decide, by decide, by decide⟩,
   ⟨.zero, { tRun with mb := { cmds := [tCmd 0x0EA0 [0, 0, 0, 0]] } }, tCmd 0x0EA0 [0, 0, 0, 0], by decide, by decide, by decide, by decide⟩,
   ⟨.zero, { tRun with mb := { cmds := [tCmd 0x0EB0 [0, 0, 0, 0]] } }, tCmd 0x0EB0 [0, 0, 0, 0], by decide, by decide, by decide⟩,
   ⟨.zero, { tRun with mb := { cmds := [tCmd 0x0E10 [4, 0, 0, 0]] } }, tCmd 0x0E10 [4, 0, 0, 0], by decide, by decide, by decide, by decide⟩,
   ⟨.zero, { tRun with mb := { cmds := [tCmd 0x0E31 [20, 0, 0, 0]] } }, tCmd 0x0E31 [20, 0, 0, 0], by decide, by decide, by decide, by decide⟩⟩

theorem witness_SessionRows :
    (∃ (k : OrdClass) (s : State) (c : Cmd), starting k 0x0110 s = some c ∧ startGate s 0x0110 = none ∧ HostReady s c) ∧
    (∃ (k : OrdClass) (s : State) (c : Cmd), starting k 0x0E00 s = some c ∧ startGate s 0x0E00 = none ∧ HostReady s c) ∧
    (∃ (k : OrdClass) (s : State) (c : Cmd), starting k 0x0111 s = some c ∧ startGate s 0x0111 = none ∧ s.mb.cmds = [c] ∧ c.origin ≠ 1 ∧ c.mute = false ∧ c.doomed = false ∧ s.mb.held = [] ∧ rspUnread s < 256 ∧ memWf s) ∧
    (∃ (k : OrdClass) (s : State) (c d : Cmd), starting k 0x0111 s = some c ∧ startGate s 0x0111 = none ∧ s.mb.cmds = [d, c] ∧ d.n < c.n ∧ d.opcode ≠ 0x0111) :=
  ⟨⟨.zero, { tRun with mb := { cmds := [tCmd 0x0110 []] } }, tCmd 0x0110 [], by decide, by decide, by decide⟩,
   ⟨.zero, { tRun with mb := { cmds := [tCmd 0x0E00 []], alarmBlocks := 5 } }, tCmd 0x0E00 [], by decide, by decide, by decide⟩,
   ⟨.zero, { tRun with mb := { cmds := [tCmd 0x0111 []] } }, tCmd 0x0111 [], by decide, by decide, by decide, by decide, by decide, by decide, by decide, by decide, by decide⟩,
   ⟨.zero, { tRun with mb := { cmds := [{ tCmd 0x0D20 [] with phase := .mid }, { tCmd 0x0111 [] with n := 3 }] } }, { tCmd 0x0111 [] with n := 3 }, { tCmd 0x0D20 [] with phase := .mid }, by decide, by decide, by decide, by decide, by decide⟩⟩

theorem witness_StagingRows :
    (∃ (k : OrdClass) (s : State) (c : Cmd), starting k 0x0210 s = some c ∧ startGate s 0x0210 = none ∧ u8 c.payload 0 ≤ 1 ∧ HostReady s c) ∧
    (∃ (k : OrdClass) (s : State) (c : Cmd), starting k 0x0210 s = some c ∧ startGate s 0x0210 = none ∧ 1 < u8 c.payload 0 ∧ HostReady s c) ∧
    (∃ (k : OrdClass) (s : State) (c : Cmd), starting k 0x0211 s = some c ∧ startGate s 0x0211 = none ∧ HostReady s c) ∧
    (∃ (k : OrdClass) (s : State) (c : Cmd) (got : Bytes), starting k 0x0214 s = some c ∧ startGate s 0x0214 = none ∧ u32 c.payload 0 ≠ 0 ∧ s.mb.image = some (u32 c.payload 4, got) ∧ got.length = u32 c.payload 0 ∧ u32 c.payload 0 + (c.payload.drop 8).length < u32 c.payload 4 ∧ HostReady s c) ∧
    (∃ (k : OrdClass) (s : State) (c : Cmd), starting k 0x0214 s = some c ∧ startGate s 0x0214 = none ∧ u32 c.payload 0 = 0 ∧ (c.payload.drop 8).length < u32 c.payload 4 ∧ HostReady s c) ∧
    (∃ (k : OrdClass) (s : State) (c : Cmd) (n : Nat) (got : Bytes), starting k 0x0214 s = some c ∧ startGate s 0x0214 = none ∧ u32 c.payload 0 ≠ 0 ∧ s.mb.image = some (n, got) ∧ (n ≠ u32 c.payload 4 ∨ got.length ≠ u32 c.payload 0 ∨ n < u32 c.payload 0 + (c.payload.drop 8).length) ∧ HostReady s c) ∧
    (∃ (k : OrdClass) (s : State) (c : Cmd) (got : Bytes) (n : Nat), starting k 0x0214 s = some c ∧ startGate s 0x0214 = none ∧ u32 c.payload 0 ≠ 0 ∧ s.mb.image = some (u32 c.payload 4, got) ∧ got.length = u32 c.payload 0 ∧ u32 c.payload 0 + (c.payload.drop 8).length = u32 c.payload 4 ∧ imageCheck (got ++ c.payload.drop 8) { s with mb := { s.mb with image := none } } = ([], some n) ∧ HostReady s c) ∧
    (∃ (k : OrdClass) (s : State) (c : Cmd) (got : Bytes) (rs : List Rec), starting k 0x0214 s = some c ∧ startGate s 0x0214 = none ∧ u32 c.payload 0 ≠ 0 ∧ s.mb.image = some (u32 c.payload 4, got) ∧ got.length = u32 c.payload 0 ∧ u32 c.payload 0 + (c.payload.drop 8).length = u32 c.payload 4 ∧ imageCheck (got ++ c.payload.drop 8) { s with mb := { s.mb with image := none } } = (rs, none) ∧ HostReady s c) :=
  ⟨⟨.zero, { tRun with mb := { cmds := [tCmd 0x0210 [1, 0, 0, 0]], staging := some { full := false, recs := [{ opcode := 0x0318, expert := false, direct := false, payload := [] }] }, stageBytes := 8 } }, tCmd 0x0210 [1, 0, 0, 0], by decide, by decide, by decide, by decide⟩,
   ⟨.zero, { tRun with mb := { cmds := [tCmd 0x0210 [2, 0, 0, 0]] } }, tCmd 0x0210 [2, 0, 0, 0], by decide, by decide, by decide, by decide⟩,
   ⟨.zero, { tRun with mb := { cmds := [tCmd 0x0211 []], staging := some { full := false, recs := [{ opcode := 0x0318, expert := false, direct := false, payload := [] }] }, stageBytes := 8 } }, tCmd 0x0211 [], by decide, by decide, by decide⟩,
   ⟨.zero, { tRun with mb := { cmds := [tCmd 0x0214 [2, 0, 0, 0, 9, 0, 0, 0, 5, 6]], image := some (9, [1, 2]) } }, tCmd 0x0214 [2, 0, 0, 0, 9, 0, 0, 0, 5, 6], [1, 2], by decide, by decide, by decide, by decide, by decide, by decide, by decide⟩,
   ⟨.zero, { tRun with mb := { cmds := [tCmd 0x0214 [0, 0, 0, 0, 9, 0, 0, 0, 5, 6]], staging := some { full := false, recs := [{ opcode := 0x0318, expert := false, direct := false, payload := [] }] }, stageBytes := 8 } }, tCmd 0x0214 [0, 0, 0, 0, 9, 0, 0, 0, 5, 6], by decide, by decide, by decide, by decide, by decide⟩,
   ⟨.zero, { tRun with mb := { cmds := [tCmd 0x0214 [3, 0, 0, 0, 9, 0, 0, 0, 5, 6]], image := some (9, [1, 2]) } }, tCmd 0x0214 [3, 0, 0, 0, 9, 0, 0, 0, 5, 6], 9, [1, 2], by decide, by decide, by decide, by decide, by decide, by decide⟩,
   ⟨.zero, { tRun with mb := { cmds := [tCmd 0x0214 [2, 0, 0, 0, 4, 0, 0, 0, 5, 6]], image := some (4, [1, 2]) } }, tCmd 0x0214 [2, 0, 0, 0, 4, 0, 0, 0, 5, 6], [1, 2], stBad, by decide, by decide, by decide, by decide, by decide, by decide, by decide, by decide⟩,
   ⟨.zero, { tRun with mb := { cmds := [tCmd 0x0214 (le 4 2 ++ le 4 64 ++ tImage.drop 2)], image := some (64, tImage.take 2) } }, tCmd 0x0214 (le 4 2 ++ le 4 64 ++ tImage.drop 2), tImage.take 2, [], by decide, by decide, by decide, by decide, by decide, by decide, by decide, by decide⟩⟩

theorem witness_CommitRow :
    (∃ (k : OrdClass) (s : State) (c : Cmd) (st : Staging) (b : Nat), starting k 0x0212 s = some c ∧ startGate s 0x0212 = none ∧ s.mb.pend = none ∧ (bit c.payload 0 0 = false ∨ u32 c.payload 4 = s.mb.gen) ∧ s.mb.staging = some st ∧ (st.full = true ∨ st.recs ≠ []) ∧ commitBoundary c s = (b, none) ∧ commitCheck s st.recs.reverse (buildTables (if st.full then {} else s.live) st.recs.reverse) = none) ∧
    (∃ (k : OrdClass) (s : State) (c : Cmd), starting k 0x0212 s = some c ∧ startGate s 0x0212 = none ∧ s.mb.pend ≠ none ∧ (commitBoundary c s).2 ≠ some stBad ∧ HostReady s c) ∧
    (∃ (k : OrdClass) (s : State) (c : Cmd), starting k 0x0212 s = some c ∧ startGate s 0x0212 = none ∧ s.mb.pend = none ∧ bit c.payload 0 0 = true ∧ u32 c.payload 4 ≠ s.mb.gen ∧ (commitBoundary c s).2 ≠ some stBad ∧ HostReady s c) ∧
    (∃ (k : OrdClass) (s : State) (c : Cmd), starting k 0x0212 s = some c ∧ startGate s 0x0212 = none ∧ s.mb.pend = none ∧ bit c.payload 0 0 = false ∧ s.mb.staging = none ∧ HostReady s c) :=
  ⟨⟨.zero, { tRun with mb := { cmds := [tCmd 0x0212 [0, 0, 0, 0, 0, 0, 0, 0]], staging := some { full := true, recs := [] } } }, tCmd 0x0212 [0, 0, 0, 0, 0, 0, 0, 0], { full := true, recs := [] }, nextFrame false (50 * uPerS), by decide, by decide, by decide, by decide, by decide, by decide, by decide, by decide⟩,
   ⟨.zero, { tRun with mb := { cmds := [tCmd 0x0212 [0, 0, 0, 0, 0, 0, 0, 0]], pend := some { tables := {}, gen := 5, digest := 7, boundary := 99 * uPerS, cmd := none, recs := [], full := false } } }, tCmd 0x0212 [0, 0, 0, 0, 0, 0, 0, 0], by decide, by decide, by decide, by decide, by decide⟩,
   ⟨.zero, { tRun with mb := { cmds := [tCmd 0x0212 [1, 0, 0, 0, 3, 0, 0, 0]] } }, tCmd 0x0212 [1, 0, 0, 0, 3, 0, 0, 0], by decide, by decide, by decide, by decide, by decide, by decide, by decide⟩,
   ⟨.zero, { tRun with mb := { cmds := [tCmd 0x0212 [0, 0, 0, 0, 0, 0, 0, 0]] } }, tCmd 0x0212 [0, 0, 0, 0, 0, 0, 0, 0], by decide, by decide, by decide, by decide, by decide, by decide⟩⟩

theorem witness_CancelRow :
    (∃ (k : OrdClass) (s : State) (c m : Cmd) (p : PendCommit), starting k 0x0213 s = some c ∧ startGate s 0x0213 = none ∧ s.mb.pend = some p ∧ p.cmd = some m.n ∧ s.mb.cmds = [m, c] ∧ m.n ≠ c.n ∧ m.opcode = 0x0212 ∧ m.origin ≠ 1 ∧ m.mute = false ∧ m.doomed = false ∧ HostReady s c ∧ rspUnread s < 255 ∧ s.spindle + 100 * uPerUs ≤ p.boundary) ∧
    (∃ (k : OrdClass) (s : State) (c : Cmd) (p : PendCommit), starting k 0x0213 s = some c ∧ startGate s 0x0213 = none ∧ s.mb.pend = some p ∧ p.boundary < s.spindle + 100 * uPerUs ∧ HostReady s c) ∧
    (∃ (k : OrdClass) (s : State) (c : Cmd), starting k 0x0213 s = some c ∧ startGate s 0x0213 = none ∧ s.mb.pend = none ∧ HostReady s c) ∧
    (∃ (s : State) (p : PendCommit), s.mb.pend = some p ∧ p.boundary ≤ s.spindle ∧ s.spindle % frameLen (f441 s) = 0 ∧ (s.dataPlane = .running ∨ s.dataPlane = .dark)) :=
  ⟨⟨.zero, { tRun with mb := { cmds := [{ tCmd 0x0212 [0, 0, 0, 0, 0, 0, 0, 0] with phase := .mid, n := 4 }, tCmd 0x0213 []], pend := some tPend } }, tCmd 0x0213 [], { tCmd 0x0212 [0, 0, 0, 0, 0, 0, 0, 0] with phase := .mid, n := 4 }, tPend, by decide, by decide, by decide, by decide, by decide, by decide, by decide, by decide, by decide, by decide, by decide, by decide, by decide⟩,
   ⟨.zero, { tRun with spindle := 60 * uPerS, mb := { pend := some tPend, cmds := [tCmd 0x0213 []] } }, tCmd 0x0213 [], tPend, by decide, by decide, by decide, by decide, by decide⟩,
   ⟨.zero, { tRun with mb := { cmds := [tCmd 0x0213 []] } }, tCmd 0x0213 [], by decide, by decide, by decide, by decide⟩,
   ⟨{ tRun with spindle := 60 * uPerS, mb := { pend := some tPend } }, tPend, by decide, by decide, by decide, by decide⟩⟩

theorem witness_TwinCommandRows :
    (∃ (k : OrdClass) (s : State) (c : Cmd), starting k 0x0911 s = some c ∧ startGate s 0x0911 = none ∧ s.pw.slotSel ≠ 2 ∧ s.role = .active ∧ u64 c.payload 4 = 0 ∧ s.tw.peerRole = some .standby ∧ s.tw.peerHot = true ∧ s.tw.genMatch = true ∧ (s.tw.tsl0 = true ∨ s.tw.tsl1 = true) ∧ s.tw.swap = none) ∧
    (∃ (k : OrdClass) (s : State) (c : Cmd), starting k 0x0911 s = some c ∧ startGate s 0x0911 = none ∧ s.role ≠ .active ∧ HostReady s c) ∧
    (∃ (k : OrdClass) (s : State) (c : Cmd), starting k 0x0913 s = some c ∧ startGate s 0x0913 = none ∧ s.pw.slotSel ≠ 2 ∧ s.role = .standby ∧ (s.tw.tsl0 = true ∨ s.tw.tsl1 = true)) ∧
    (∃ (k : OrdClass) (s : State) (c : Cmd), starting k 0x0913 s = some c ∧ startGate s 0x0913 = none ∧ s.role ≠ .standby ∧ HostReady s c) :=
  ⟨⟨.zero, { tTwin with mb := { cmds := [tCmd 0x0911 [0, 0, 0, 0, 0, 0, 0, 0, 0, 0, 0, 0]] } }, tCmd 0x0911 [0, 0, 0, 0, 0, 0, 0, 0, 0, 0, 0, 0], by decide, by decide, by decide, by decide, by decide, by decide, by decide, by decide, by decide, by decide⟩,
   ⟨.zero, { tStby with mb := { cmds := [tCmd 0x0911 [0, 0, 0, 0, 0, 0, 0, 0, 0, 0, 0, 0]] } }, tCmd 0x0911 [0, 0, 0, 0, 0, 0, 0, 0, 0, 0, 0, 0], by decide, by decide, by decide, by decide⟩,
   ⟨.zero, { tStby with mb := { cmds := [tCmd 0x0913 []] } }, tCmd 0x0913 [], by decide, by decide, by decide, by decide, by decide⟩,
   ⟨.zero, { tTwin with mb := { cmds := [tCmd 0x0913 []] } }, tCmd 0x0913 [], by decide, by decide, by decide, by decide⟩⟩

theorem witness_ProposalRows :
    (∃ (k : OrdClass) (s : State) (c : Cmd) (rs : List Rec), starting k 0x0B10 s = some c ∧ startGate s 0x0B10 = none ∧ proposeRecs c.payload = some rs ∧ s.pt.proposal = none ∧ rs.all (releaseOk s) = true ∧ officersOk rs s = true ∧ isProtected s.pt.cred = false ∧ c.auth = false) ∧
    (∃ (k : OrdClass) (s : State) (c : Cmd) (rs : List Rec), starting k 0x0B10 s = some c ∧ startGate s 0x0B10 = none ∧ proposeRecs c.payload = some rs ∧ s.pt.proposal = none ∧ rs.all (releaseOk s) = true ∧ officersOk rs s = true ∧ isProtected s.pt.cred = true) ∧
    (∃ (k : OrdClass) (s : State) (c : Cmd), starting k 0x0B10 s = some c ∧ startGate s 0x0B10 = none ∧ proposeRecs c.payload = none ∧ HostReady s c) ∧
    (∃ (k : OrdClass) (s : State) (c : Cmd) (q : Proposal), starting k 0x0B11 s = some c ∧ startGate s 0x0B11 = none ∧ s.pt.proposal = some q ∧ s.clock < q.until_ ∧ c.auth = true ∧ c.cred ≠ q.slot ∧ s.pt.splitOrigin = false ∧ u32 c.payload 0 = q.id ∧ u64 c.payload 8 = q.digest) ∧
    (∃ (k : OrdClass) (s : State) (c : Cmd) (q : Proposal), starting k 0x0B11 s = some c ∧ startGate s 0x0B11 = none ∧ s.pt.proposal = some q ∧ s.clock < q.until_ ∧ (c.auth = false ∨ c.cred = q.slot) ∧ HostReady s c) ∧
    (∃ (k : OrdClass) (s : State) (c : Cmd), starting k 0x0B11 s = some c ∧ startGate s 0x0B11 = none ∧ s.pt.proposal = none ∧ s.pt.expired ≠ some (u32 c.payload 0) ∧ HostReady s c) ∧
    (∃ (k : OrdClass) (s : State) (c : Cmd), starting k 0x0B11 s = some c ∧ startGate s 0x0B11 = none ∧ s.pt.proposal = none ∧ s.pt.expired = some (u32 c.payload 0) ∧ HostReady s c) ∧
    (∃ (k : OrdClass) (s : State) (c : Cmd) (q : Proposal), starting k 0x0B12 s = some c ∧ startGate s 0x0B12 = none ∧ s.pt.proposal = some q ∧ u32 c.payload 0 = q.id) ∧
    (∃ (k : OrdClass) (s : State) (c : Cmd), starting k 0x0B12 s = some c ∧ startGate s 0x0B12 = none ∧ s.pt.proposal = none ∧ HostReady s c) :=
  ⟨⟨.zero, { tRun with mb := { cmds := [tCmd 0x0B10 [1, 0, 0, 0, 12, 0, 0, 0, 34, 11, 0, 0, 4, 0, 0, 0, 5, 0, 0, 0]] } }, tCmd 0x0B10 [1, 0, 0, 0, 12, 0, 0, 0, 34, 11, 0, 0, 4, 0, 0, 0, 5, 0, 0, 0], [{ opcode := 0x0B22, expert := false, direct := false, payload := [5, 0, 0, 0] }], by decide, by decide, by decide, by decide, by decide, by decide, by decide, by decide⟩,
   ⟨.zero, { tRun with mb := { cmds := [tCmd 0x0B10 [1, 0, 0, 0, 12, 0, 0, 0, 34, 11, 0, 0, 4, 0, 0, 0, 5, 0, 0, 0]] }, pt := { cred := [{ cls := 3 }, { cls := 3 }, {}, {}, {}, {}, {}, {}] } }, tCmd 0x0B10 [1, 0, 0, 0, 12, 0, 0, 0, 34, 11, 0, 0, 4, 0, 0, 0, 5, 0, 0, 0], [{ opcode := 0x0B22, expert := false, direct := false, payload := [5, 0, 0, 0] }], by decide, by decide, by decide, by decide, by decide, by decide, by decide⟩,
   ⟨.zero, { tRun with mb := { cmds := [tCmd 0x0B10 [0, 0, 0, 0, 0, 0, 0, 0]] } }, tCmd 0x0B10 [0, 0, 0, 0, 0, 0, 0, 0], by decide, by decide, by decide, by decide⟩,
   ⟨.zero, { tRun with mb := { cmds := [{ tCmd 0x0B11 [4, 0, 0, 0, 0, 0, 0, 0, 9, 0, 0, 0, 0, 0, 0, 0] with auth := true, cred := 1 }] }, pt := { cred := [{ cls := 3 }, { cls := 3 }, {}, {}, {}, {}, {}, {}], proposal := some { id := 4, digest := 9, recs := [], slot := 0, origin := 0, seq := 1, until_ := 900 * uPerS } } }, { tCmd 0x0B11 [4, 0, 0, 0, 0, 0, 0, 0, 9, 0, 0, 0, 0, 0, 0, 0] with auth := true, cred := 1 }, { id := 4, digest := 9, recs := [], slot := 0, origin := 0, seq := 1, until_ := 900 * uPerS }, by decide, by decide, by decide, by decide, by decide, by decide, by decide, by decide, by decide⟩,
   ⟨.zero, { tRun with mb := { cmds := [tCmd 0x0B11 [4, 0, 0, 0, 0, 0, 0, 0, 9, 0, 0, 0, 0, 0, 0, 0]] }, pt := { proposal := some { id := 4, digest := 9, recs := [], slot := 0, origin := 0, seq := 1, until_ := 900 * uPerS } } }, tCmd 0x0B11 [4, 0, 0, 0, 0, 0, 0, 0, 9, 0, 0, 0, 0, 0, 0, 0], { id := 4, digest := 9, recs := [], slot := 0, origin := 0, seq := 1, until_ := 900 * uPerS }, by decide, by decide, by decide, by decide, by decide, by decide⟩,
   ⟨.zero, { tRun with mb := { cmds := [tCmd 0x0B11 [4, 0, 0, 0, 0, 0, 0, 0, 9, 0, 0, 0, 0, 0, 0, 0]] } }, tCmd 0x0B11 [4, 0, 0, 0, 0, 0, 0, 0, 9, 0, 0, 0, 0, 0, 0, 0], by decide, by decide, by decide, by decide, by decide⟩,
   ⟨.zero, { tRun with mb := { cmds := [tCmd 0x0B11 [4, 0, 0, 0, 0, 0, 0, 0, 9, 0, 0, 0, 0, 0, 0, 0]] }, pt := { expired := some 4 } }, tCmd 0x0B11 [4, 0, 0, 0, 0, 0, 0, 0, 9, 0, 0, 0, 0, 0, 0, 0], by decide, by decide, by decide, by decide, by decide⟩,
   ⟨.zero, { tRun with mb := { cmds := [tCmd 0x0B12 [4, 0, 0, 0]] }, pt := { proposal := some { id := 4, digest := 9, recs := [], slot := 0, origin := 0, seq := 1, until_ := 900 * uPerS } } }, tCmd 0x0B12 [4, 0, 0, 0], { id := 4, digest := 9, recs := [], slot := 0, origin := 0, seq := 1, until_ := 900 * uPerS }, by decide, by decide, by decide, by decide⟩,
   ⟨.zero, { tRun with mb := { cmds := [tCmd 0x0B12 [4, 0, 0, 0]] } }, tCmd 0x0B12 [4, 0, 0, 0], by decide, by decide, by decide, by decide⟩⟩

theorem witness_LedgerCommandRows :
    (∃ (k : OrdClass) (s : State) (c : Cmd) (e : LgEntry), starting k 0x0C10 s = some c ∧ startGate s 0x0C10 = none ∧ 1 ≤ u16 c.payload 4 ∧ u16 c.payload 4 ≤ 2048 ∧ u32 c.payload 8 % 4 = 0 ∧ u32 c.payload 8 + 32 * u16 c.payload 4 ≤ 65536 ∧ s.lg.oldest ≤ u32 c.payload 0 ∧ u32 c.payload 0 < s.lg.next ∧ s.lg.flash.filter (fun e => decide (u32 c.payload 0 ≤ e.1) && decide (e.1 < u32 c.payload 0 + u16 c.payload 4)) = [(u32 c.payload 0, e)] ∧ HostReady s c) ∧
    (∃ (k : OrdClass) (s : State) (c : Cmd), starting k 0x0C10 s = some c ∧ startGate s 0x0C10 = none ∧ (u16 c.payload 4 = 0 ∨ 2048 < u16 c.payload 4 ∨ u32 c.payload 8 % 4 ≠ 0 ∨ 65536 < u32 c.payload 8 + 32 * u16 c.payload 4 ∨ u32 c.payload 0 < s.lg.oldest ∨ s.lg.next ≤ u32 c.payload 0) ∧ HostReady s c) ∧
    (∃ (k : OrdClass) (s : State) (c : Cmd), starting k 0x0C11 s = some c ∧ startGate s 0x0C11 = none ∧ s.lg.open_ = [] ∧ s.lg.queue = [] ∧ HostReady s c) ∧
    (∃ (k : OrdClass) (s : State) (c : Cmd), starting k 0x0C11 s = some c ∧ startGate s 0x0C11 = none ∧ s.lg.open_ = [] ∧ s.lg.queue ≠ []) :=
  ⟨⟨.zero, { tRun with mb := { cmds := [tCmd 0x0C10 [1, 0, 0, 0, 2, 0, 0, 0, 0, 0, 0, 0]] }, lg := { next := 2, flash := [(1, { sec := 50, ns := 0, kind := 2, origin := 0, timeValid := false, opcode := 0x0312, outcome := 0, gen := 1, digest := 0 }), (0, { sec := 50, ns := 0, kind := 2, origin := 0, timeValid := false, opcode := 0x0312, outcome := 0, gen := 1, digest := 0 })] } }, tCmd 0x0C10 [1, 0, 0, 0, 2, 0, 0, 0, 0, 0, 0, 0], { sec := 50, ns := 0, kind := 2, origin := 0, timeValid := false, opcode := 0x0312, outcome := 0, gen := 1, digest := 0 }, by decide, by decide, by decide, by decide, by decide, by decide, by decide, by decide, by decide, by decide⟩,
   ⟨.zero, { tRun with mb := { cmds := [tCmd 0x0C10 [1, 0, 0, 0, 0, 0, 0, 0, 0, 0, 0, 0]] } }, tCmd 0x0C10 [1, 0, 0, 0, 0, 0, 0, 0, 0, 0, 0, 0], by decide, by decide, by decide, by decide⟩,
   ⟨.zero, { tRun with mb := { cmds := [tCmd 0x0C11 []] } }, tCmd 0x0C11 [], by decide, by decide, by decide, by decide, by decide⟩,
   ⟨.zero, { tRun with mb := { cmds := [tCmd 0x0C11 []] }, lg := { queue := [{ sec := 50, ns := 0, kind := 2, origin := 0, timeValid := false, opcode := 0x0312, outcome := 0, gen := 1, digest := 0 }] } }, tCmd 0x0C11 [], by decide, by decide, by decide, by decide⟩⟩

theorem witness_FirmwareRows :
    (∃ (k : OrdClass) (s : State) (c : Cmd), starting k 0x0D10 s = some c ∧ startGate s 0x0D10 = none ∧ u32 c.payload 0 = 0 ∧ u32 c.payload 4 ≤ 12582912 ∧ (c.payload.drop 8).length < u32 c.payload 4 ∧ prefB s.pt = runningB s ∧ HostReady s c) ∧
    (∃ (k : OrdClass) (s : State) (c : Cmd), starting k 0x0D10 s = some c ∧ startGate s 0x0D10 = none ∧ u32 c.payload 4 ≤ 12582912 ∧ prefB s.pt ≠ runningB s ∧ HostReady s c) ∧
    (∃ (k : OrdClass) (s : State) (c : Cmd), starting k 0x0D11 s = some c ∧ startGate s 0x0D11 = none ∧ u8 c.payload 0 ≤ 1 ∧ u8 c.payload 1 ≤ 3 ∧ s.pt.writing = none ∧ (fwSlot s (if u8 c.payload 0 = 0 then !runningB s else runningB s)).image = none ∧ (fwSlot s (if u8 c.payload 0 = 0 then !runningB s else runningB s)).verifies = true ∧ HostReady s c) ∧
    (∃ (k : OrdClass) (s : State) (c : Cmd), starting k 0x0D11 s = some c ∧ startGate s 0x0D11 = none ∧ u8 c.payload 0 ≤ 1 ∧ u8 c.payload 1 ≤ 3 ∧ s.pt.writing = none ∧ (fwSlot s (if u8 c.payload 0 = 0 then !runningB s else runningB s)).image = none ∧ (fwSlot s (if u8 c.payload 0 = 0 then !runningB s else runningB s)).verifies = false ∧ HostReady s c) ∧
    (∃ (k : OrdClass) (s : State) (c : Cmd), starting k 0x0D12 s = some c ∧ startGate s 0x0D12 = none ∧ u16 c.payload 0 = 0x5A4E ∧ s.pw.boot = .recovery ∧ (s.pw.panelKey = false ∨ s.pw.panelNow = true)) ∧
    (∃ (k : OrdClass) (s : State) (c : Cmd), starting k 0x0D12 s = some c ∧ startGate s 0x0D12 = none ∧ s.pw.boot ≠ .recovery ∧ HostReady s c) ∧
    (∃ (k : OrdClass) (s : State) (c : Cmd), starting k 0x0D12 s = some c ∧ startGate s 0x0D12 = none ∧ u16 c.payload 0 = 0x5A4E ∧ s.pw.boot = .recovery ∧ s.pw.panelKey = true ∧ s.pw.panelNow = false ∧ HostReady s c) :=
  ⟨⟨.zero, { tRun with mb := { cmds := [tCmd 0x0D10 [0, 0, 0, 0, 9, 0, 0, 0, 1, 2]] } }, tCmd 0x0D10 [0, 0, 0, 0, 9, 0, 0, 0, 1, 2], by decide, by decide, by decide, by decide, by decide, by decide, by decide⟩,
   ⟨.zero, { tRun with mb := { cmds := [tCmd 0x0D10 [0, 0, 0, 0, 9, 0, 0, 0, 1, 2]] }, pt := { runB := true } }, tCmd 0x0D10 [0, 0, 0, 0, 9, 0, 0, 0, 1, 2], by decide, by decide, by decide, by decide, by decide⟩,
   ⟨.zero, { tRun with mb := { cmds := [tCmd 0x0D11 [0, 1, 0, 0]] } }, tCmd 0x0D11 [0, 1, 0, 0], by decide, by decide, by decide, by decide, by decide, by decide, by decide, by decide⟩,
   ⟨.zero, { tRun with mb := { cmds := [tCmd 0x0D11 [0, 1, 0, 0]] }, pt := { slotB := { verifies := false } } }, tCmd 0x0D11 [0, 1, 0, 0], by decide, by decide, by decide, by decide, by decide, by decide, by decide, by decide⟩,
   ⟨.zero, { tRun with mb := { cmds := [tCmd 0x0D12 [78, 90, 0, 0]] }, mode := .boot, pw := { tRun.pw with boot := .recovery } }, tCmd 0x0D12 [78, 90, 0, 0], by decide, by decide, by decide, by decide, by decide⟩,
   ⟨.zero, { tRun with mb := { cmds := [tCmd 0x0D12 [78, 90, 0, 0]] } }, tCmd 0x0D12 [78, 90, 0, 0], by decide, by decide, by decide, by decide⟩,
   ⟨.zero, { tRun with mb := { cmds := [tCmd 0x0D12 [78, 90, 0, 0]] }, mode := .boot, pw := { tRun.pw with boot := .recovery, panelKey := true } }, tCmd 0x0D12 [78, 90, 0, 0], by decide, by decide, by decide, by decide, by decide, by decide, by decide⟩⟩

theorem witness_StagedRecordTables :
    (∃ (t : Tables) (r : Rec), r.opcode = 0x0310) ∧
    (∃ (t : Tables) (r : Rec), r.opcode = 0x0313) ∧
    (∃ (t : Tables) (r : Rec), r.opcode = 0x0319 ∧ tabWf 0 t.ceil = true) ∧
    (∃ (t : Tables) (r : Rec), r.opcode = 0x0320) ∧
    (∃ (t : Tables) (r : Rec), r.opcode = 0x0321 ∧ tabWf {} t.cand = true) ∧
    (∃ (t : Tables) (r : Rec), r.opcode = 0x0322) ∧
    (∃ (t : Tables) (r : Rec), r.opcode = 0x0323 ∧ tabWf {} t.rootChar = true) ∧
    (∃ (t : Tables) (r : Rec), r.opcode = 0x0410 ∧ tabWf {} t.adc = true) ∧
    (∃ (t : Tables) (r : Rec), r.opcode = 0x0411 ∧ tabWf 0 t.pairRef = true) ∧
    (∃ (t : Tables) (r : Rec), r.opcode = 0x0412) ∧
    (∃ (t : Tables) (r : Rec), r.opcode = 0x0413 ∧ tabWf {} t.slots = true) ∧
    (∃ (t : Tables) (r : Rec), r.opcode = 0x0414) ∧
    (∃ (t : Tables) (r : Rec), r.opcode = 0x0415 ∧ tabWf {} t.timers = true) ∧
    (∃ (t : Tables) (r : Rec), r.opcode = 0x0510 ∧ tabWf {} t.outCfg = true) ∧
    (∃ (t : Tables) (r : Rec), r.opcode = 0x0511) ∧
    (∃ (t : Tables) (r : Rec), r.opcode = 0x0512 ∧ tabWf {} t.dds = true) ∧
    (∃ (t : Tables) (r : Rec), r.opcode = 0x0515 ∧ tabWf 0 t.faultCode = true) ∧
    (∃ (t : Tables) (r : Rec), r.opcode = 0x0520 ∧ tabWf {} t.ps = true) ∧
    (∃ (t : Tables) (r : Rec), r.opcode = 0x0521 ∧ tabWf {} t.segs = true) ∧
    (∃ (t : Tables) (r : Rec), r.opcode = 0x0523 ∧ tabWf zeros256 t.shapes = true) ∧
    (∃ (t : Tables) (r : Rec), r.opcode = 0x0524) ∧
    (∃ (t : Tables) (r : Rec), r.opcode = 0x0530 ∧ tabWf {} t.clk = true) ∧
    (∃ (t : Tables) (r : Rec), r.opcode = 0x0531) ∧
    (∃ (t : Tables) (r : Rec), r.opcode = 0x0532 ∧ tabWf {} t.tx = true) ∧
    (∃ (t : Tables) (r : Rec), r.opcode = 0x0533) ∧
    (∃ (t : Tables) (r : Rec), r.opcode = 0x0534) ∧
    (∃ (t : Tables) (r : Rec), r.opcode = 0x0610) ∧
    (∃ (t : Tables) (r : Rec), r.opcode = 0x0611 ∧ tabWf {} t.dp = true) ∧
    (∃ (t : Tables) (r : Rec), r.opcode = 0x0620 ∧ tabWf {} t.te = true) ∧
    (∃ (t : Tables) (r : Rec), r.opcode = 0x0621 ∧ tabWf {} t.ops = true) ∧
    (∃ (t : Tables) (r : Rec), r.opcode = 0x0622 ∧ tabWf {} t.opnds = true) ∧
    (∃ (t : Tables) (r : Rec), r.opcode = 0x0623 ∧ tabWf 0 t.coefs = true) ∧
    (∃ (t : Tables) (r : Rec), r.opcode = 0x0630) ∧
    (∃ (t : Tables) (r : Rec), r.opcode = 0x0710 ∧ tabWf none t.port = true) ∧
    (∃ (t : Tables) (r : Rec), r.opcode = 0x0711) ∧
    (∃ (t : Tables) (r : Rec), r.opcode = 0x0712 ∧ tabWf none t.ptpPort = true) ∧
    (∃ (t : Tables) (r : Rec), r.opcode = 0x0713 ∧ tabWf none t.rx = true) ∧
    (∃ (t : Tables) (r : Rec), r.opcode = 0x0714 ∧ tabWf none t.txFlow = true) ∧
    (∃ (t : Tables) (r : Rec), r.opcode = 0x0810) ∧
    (∃ (t : Tables) (r : Rec), r.opcode = 0x0813) ∧
    (∃ (t : Tables) (r : Rec), r.opcode = 0x0815) ∧
    (∃ (t : Tables) (r : Rec), r.opcode = 0x0816) ∧
    (∃ (t : Tables) (r : Rec), r.opcode = 0x0910) ∧
    (∃ (t : Tables) (r : Rec), r.opcode = 0x0A10) ∧
    (∃ (t : Tables) (r : Rec), (isChangeRecord r.opcode = true ∨ opRow r.opcode = none)) :=
  ⟨⟨{}, { opcode := 0x0310, expert := false, direct := false, payload := zeros 64 }, by decide⟩,
   ⟨{}, { opcode := 0x0313, expert := false, direct := false, payload := zeros 64 }, by decide⟩,
   ⟨{}, { opcode := 0x0319, expert := false, direct := false, payload := zeros 64 }, by decide, by decide⟩,
   ⟨{}, { opcode := 0x0320, expert := false, direct := false, payload := zeros 64 }, by decide⟩,
   ⟨{}, { opcode := 0x0321, expert := false, direct := false, payload := zeros 64 }, by decide, by decide⟩,
   ⟨{}, { opcode := 0x0322, expert := false, direct := false, payload := zeros 64 }, by decide⟩,
   ⟨{}, { opcode := 0x0323, expert := false, direct := false, payload := zeros 64 }, by decide, by decide⟩,
   ⟨{}, { opcode := 0x0410, expert := false, direct := false, payload := zeros 64 }, by decide, by decide⟩,
   ⟨{}, { opcode := 0x0411, expert := false, direct := false, payload := zeros 64 }, by decide, by decide⟩,
   ⟨{}, { opcode := 0x0412, expert := false, direct := false, payload := zeros 64 }, by decide⟩,
   ⟨{}, { opcode := 0x0413, expert := false, direct := false, payload := zeros 64 }, by decide, by decide⟩,
   ⟨{}, { opcode := 0x0414, expert := false, direct := false, payload := zeros 64 }, by decide⟩,
   ⟨{}, { opcode := 0x0415, expert := false, direct := false, payload := zeros 64 }, by decide, by decide⟩,
   ⟨{}, { opcode := 0x0510, expert := false, direct := false, payload := zeros 64 }, by decide, by decide⟩,
   ⟨{}, { opcode := 0x0511, expert := false, direct := false, payload := zeros 64 }, by decide⟩,
   ⟨{}, { opcode := 0x0512, expert := false, direct := false, payload := zeros 64 }, by decide, by decide⟩,
   ⟨{}, { opcode := 0x0515, expert := false, direct := false, payload := zeros 64 }, by decide, by decide⟩,
   ⟨{}, { opcode := 0x0520, expert := false, direct := false, payload := zeros 64 }, by decide, by decide⟩,
   ⟨{}, { opcode := 0x0521, expert := false, direct := false, payload := zeros 64 }, by decide, by decide⟩,
   ⟨{}, { opcode := 0x0523, expert := false, direct := false, payload := zeros 64 }, by decide, by decide⟩,
   ⟨{}, { opcode := 0x0524, expert := false, direct := false, payload := zeros 64 }, by decide⟩,
   ⟨{}, { opcode := 0x0530, expert := false, direct := false, payload := zeros 64 }, by decide, by decide⟩,
   ⟨{}, { opcode := 0x0531, expert := false, direct := false, payload := zeros 64 }, by decide⟩,
   ⟨{}, { opcode := 0x0532, expert := false, direct := false, payload := zeros 64 }, by decide, by decide⟩,
   ⟨{}, { opcode := 0x0533, expert := false, direct := false, payload := zeros 64 }, by decide⟩,
   ⟨{}, { opcode := 0x0534, expert := false, direct := false, payload := zeros 64 }, by decide⟩,
   ⟨{}, { opcode := 0x0610, expert := false, direct := false, payload := zeros 64 }, by decide⟩,
   ⟨{}, { opcode := 0x0611, expert := false, direct := false, payload := zeros 64 }, by decide, by decide⟩,
   ⟨{}, { opcode := 0x0620, expert := false, direct := false, payload := zeros 64 }, by decide, by decide⟩,
   ⟨{}, { opcode := 0x0621, expert := false, direct := false, payload := zeros 64 }, by decide, by decide⟩,
   ⟨{}, { opcode := 0x0622, expert := false, direct := false, payload := zeros 64 }, by decide, by decide⟩,
   ⟨{}, { opcode := 0x0623, expert := false, direct := false, payload := zeros 64 }, by decide, by decide⟩,
   ⟨{}, { opcode := 0x0630, expert := false, direct := false, payload := zeros 64 }, by decide⟩,
   ⟨{}, { opcode := 0x0710, expert := false, direct := false, payload := zeros 64 }, by decide, by decide⟩,
   ⟨{}, { opcode := 0x0711, expert := false, direct := false, payload := zeros 64 }, by decide⟩,
   ⟨{}, { opcode := 0x0712, expert := false, direct := false, payload := zeros 64 }, by decide, by decide⟩,
   ⟨{}, { opcode := 0x0713, expert := false, direct := false, payload := zeros 64 }, by decide, by decide⟩,
   ⟨{}, { opcode := 0x0714, expert := false, direct := false, payload := zeros 64 }, by decide, by decide⟩,
   ⟨{}, { opcode := 0x0810, expert := false, direct := false, payload := zeros 64 }, by decide⟩,
   ⟨{}, { opcode := 0x0813, expert := false, direct := false, payload := zeros 64 }, by decide⟩,
   ⟨{}, { opcode := 0x0815, expert := false, direct := false, payload := zeros 64 }, by decide⟩,
   ⟨{}, { opcode := 0x0816, expert := false, direct := false, payload := zeros 64 }, by decide⟩,
   ⟨{}, { opcode := 0x0910, expert := false, direct := false, payload := zeros 64 }, by decide⟩,
   ⟨{}, { opcode := 0x0A10, expert := false, direct := false, payload := zeros 64 }, by decide⟩,
   ⟨{}, { opcode := 0x0B22, expert := false, direct := false, payload := [] }, by decide⟩⟩

theorem witness_SizedKept :
    (∃ (s t : State), Sized s ∧ step s = .next t) :=
  ⟨{ tRun with pw := { tRun.pw with domains := List.replicate 11 {} } }, idleStep { tRun with pw := { tRun.pw with domains := List.replicate 11 {} } }, by decide, rfl⟩

theorem witness_HoldoverStays :
    (∃ (s : State), s.mode = .holdover ∧ s.pending = []) ∧
    (∃ (inp : FrameInput) (s : State), s.mode = .holdover ∧ s.mb.pend = none ∧ frameCmds s = [] ∧ s.tk.step = none) ∧
    (∃ (s : State) (n : Int), s.mode = .holdover) ∧
    (∃ (s : State) (n : Int), s.mode = .holdover) ∧
    (∃ (s : State), s.mode = .holdover ∧ s.tk.hoAged = false ∧ s.tk.hoList ≠ [] ∧ s.tk.hoLast + s.live.tk.hoAge * 3600 * uPerS < s.clock) :=
  ⟨⟨{ tRun with mode := .holdover }, by decide, by decide⟩,
   ⟨tInput, { tRun with mode := .holdover }, by decide, by decide, by decide, by decide⟩,
   ⟨{ tRun with mode := .holdover }, 5, by decide⟩,
   ⟨{ tRun with mode := .holdover }, 5, by decide⟩,
   ⟨{ tRun with mode := .holdover, clock := 100000 * uPerS, tk := { hoList := [(0, 2500)] } }, by decide, by decide, by decide, by decide⟩⟩
end

section
/-! The frame boundary does not leave the outstanding commands alone: a boundary at which the data plane restarts gives
every TK_SET_TIME that waits for the restart its DONE (R138). -/
namespace Sys2Proof.Proofs
open Sys2Proof.Machine

/-- A TK_SET_TIME for 49 s whose step is loaded: it waits, without a response, for the restart of the data plane (R138). -/
def setTimeInProgress : Cmd :=
  { n := 0, origin := 0, order := .zero, tag := 9, opcode := 0x0324, expert := false, auth := false, cred := 0, seq := 1,
    sched := none, payload := [0, 0, 0, 0, 0, 0, 49, 0, 0, 0, 0, 0, 1, 0, 0, 0], phase := .running, ringNo := 0,
    mute := false, doomed := false }

/-- A device in FREERUN whose data plane stands still after the Spindle step of that command, half a frame before the whole
second at which it may restart: MSYN is locked and no residual move is owed. -/
def halfFrameBeforeRestart : State :=
  { pw := { inReset := false, boot := .done }, ig := { forwarding := true }, mode := .freerun, role := .solo,
    fenceOpen := true, firstLive := true, timeValid := true, dataPlane := .second, clock := 100 * uPerS,
    spindle := 50 * uPerS - frameLen false / 2, hs := { msyn := { lock := 4 } },
    tk := { stepCmds := [setTimeInProgress.n] }, mb := { cmds := [setTimeInProgress] } }

/-- A frame in which nothing comes from outside. -/
def silentFrame : FrameInput := { adc := [], pdm := [], asrc := [], rx := [], adcOver := 0, codes := [], fec := [] }

/-- The boundary falls on the whole second, so the data plane restarts (R127) and TK_SET_TIME has its final response: it is
outstanding no more (R138, R396). -/
theorem frameBoundary_answers_setTime : (frameBoundary silentFrame halfFrameBeforeRestart).mb.cmds = [] := by decide

/-- Refutes O37: its first clause, under which FRAME_BOUNDARY keeps the outstanding commands, does not ask that no
TK_SET_TIME waits for the restart (`tk.stepCmds = []`, as the clauses of DATA_PLANE_RESTART do). At a boundary on the whole
second the data plane restarts and that command is answered. -/
theorem not_frameAndRestart : ¬ Obligations.FrameAndRestart := by
  unfold Obligations.FrameAndRestart
  rintro ⟨boundaryKeepsCmds, -⟩
  obtain ⟨t, hexec, -, -, -, -, -, -, hcmds⟩ :=
    boundaryKeepsCmds silentFrame halfFrameBeforeRestart (by decide) (by decide) (by decide) (by decide)
  have ht : frameBoundary silentFrame halfFrameBeforeRestart = t := Host.Outcome.next.inj hexec
  have hkept : (frameBoundary silentFrame halfFrameBeforeRestart).mb.cmds = [setTimeInProgress] := ht ▸ hcmds
  rw [frameBoundary_answers_setTime] at hkept
  exact List.cons_ne_nil _ _ hkept.symm

end Sys2Proof.Proofs
end

section
/-! The kinds of rows (`rowKind`), and what a row of each kind runs: the one case split over the table that the statements
about staged, direct, status and immediate commands share. -/
namespace Sys2Proof.Proofs
open Sys2Proof.Machine

/-- A staging row runs `startStaged` on its class and opcode. -/
theorem exec_of_staged {i : Instr} {k : OrdClass} {op : Nat} (s : State) (h : rowKind i = (k, .staged op)) :
    ∃ ok, exec i s = .next (startStaged k op ok s) := by
  cases i <;> cases h <;> exact ⟨_, rfl⟩

/-- A direct row runs `startDirect` on its class and opcode. -/
theorem exec_of_direct {i : Instr} {k : OrdClass} {op : Nat} (s : State) (h : rowKind i = (k, .direct op)) :
    ∃ check, exec i s = .next (startDirect k op check s) := by
  cases i <;> cases h <;> exact ⟨_, rfl⟩

/-- A status row runs `startStatus` on its class and opcode. -/
theorem exec_of_status {i : Instr} {k : OrdClass} {op : Nat} (s : State) (h : rowKind i = (k, .status op)) :
    ∃ ok result, exec i s = .next (startStatus k op ok result s) := by
  cases i <;> cases h <;> exact ⟨_, _, rfl⟩

end Sys2Proof.Proofs
end

section
/-! The fence is kept by every row (R16, R17): a row whose command is staged, accepted or answered touches nothing that the
fence depends on, and each event keeps the invariant. -/
namespace Sys2Proof.Proofs
open Sys2Proof.Machine Sys2Proof.Laws

/-- The fence invariant holds in the next state, when there is one. -/
def FenceKept (o : Host.Outcome State Fault Refusal) : Prop := ∀ t, o = .next t → fenceOk (fkey t)

@[simp] theorem fenceKept_next (s : State) : FenceKept (.next s) ↔ fenceOk (fkey s) :=
  ⟨fun h => h s rfl, fun h _ ht => Host.Outcome.next.inj ht ▸ h⟩

@[simp] theorem fenceKept_ite (c : Prop) [Decidable c] (a b : Host.Outcome State Fault Refusal) :
    FenceKept (if c then a else b) ↔ (c → FenceKept a) ∧ (¬ c → FenceKept b) := by
  split <;> simp [*]

@[simp] theorem fenceOk_ite (c : Prop) [Decidable c] (a b : Role × Mode × Bool × Bool × Bool × Bool) :
    fenceOk (if c then a else b) ↔ (c → fenceOk a) ∧ (¬ c → fenceOk b) := by
  split <;> simp [*]

/-- An immediate row runs a meaning that leaves alone what the fence depends on. -/
theorem exec_of_immediate {i : Instr} {k : OrdClass} {op : Nat} (s : State) (h : rowKind i = (k, .immediate op)) :
    ∃ run, exec i s = .next (startNow k op run s) ∧ ∀ c t, fkey (run c t) = fkey t := by
  cases i <;> cases h <;> refine ⟨_, rfl, fun c t => ?_⟩ <;> simp

/-- A ring row keeps the invariant when what the frame does to this unit, and as a broadcast, keeps it. -/
theorem inv_ringRow (typ : Nat) (f : RingFrame) (own : State → State) (cast : State → State × Option Bytes) (s : State)
    (hown : ∀ t, fenceOk (fkey t) → fenceOk (fkey (own t))) (hcast : ∀ t, fenceOk (fkey t) → fenceOk (fkey (cast t).1))
    (h : fenceOk (fkey s)) : fenceOk (fkey (ringRow typ f own cast s)) := by
  have hd : fenceOk (fkey (ringDrain s)) := by rwa [key_ringDrain]
  have hc := hcast _ hd
  unfold ringRow
  dsimp only
  split
  · exact h
  · split
    · simpa using h
    · split
      · simpa using h
      · split
        · split
          · simpa using h
          · split <;> simpa using hc
        · split
          · split
            · exact hown _ hd
            · exact hd
          · simpa using h

/-- A broadcast keeps the invariant when its effect does. -/
theorem inv_castOf (len : Nat) (f : RingFrame) (act : State → State × Option Bytes) (t : State)
    (hact : ∀ u, fenceOk (fkey u) → fenceOk (fkey (act u).1)) (h : fenceOk (fkey t)) :
    fenceOk (fkey (castOf len f act t).1) := by
  unfold castOf
  split
  · exact h
  · split
    · simpa using h
    · exact hact t h

section Rows
variable {s : State} (h0 : fenceOk (fkey s))
include h0

theorem fenceKept_synthLockDeclared (x : Syn) : FenceKept (exec (.synthLockDeclared x) s) := by
  simp only [exec, execSynthLockDeclared]
  cases (getSyn s x).relockCmd <;> simp [h0]

theorem fenceKept_rootDisqualified (r : RootId) : FenceKept (exec (.rootDisqualified r) s) := by
  simp only [exec, execRootDisqualified]
  split <;> simp [h0]

theorem fenceKept_candidateIntervalEval (i : Nat) (f d : Int) : FenceKept (exec (.candidateIntervalEval i f d) s) := by
  simp only [exec, execCandidateIntervalEval]
  split
  · simp [h0]
  · split
    · simp [h0]
    · split <;> simp [h0]

theorem fenceKept_acquisitionComplete : FenceKept (exec .acquisitionComplete s) := by
  simp only [exec, execAcquisitionComplete]
  split
  · next t hm _ =>
    split
    · simp [setMode, hm]
    · simp [h0]
  · simp [h0]

theorem fenceKept_loopUpdate (d : Int) : FenceKept (exec (.loopUpdate d) s) := by
  simp only [exec, execLoopUpdate]
  split
  · simp [h0]
  · split <;> simp [h0]

theorem fenceKept_ppsInEdge (f : Int) : FenceKept (exec (.ppsInEdge f) s) := by
  simp only [exec, execPpsInEdge]
  split <;> simp [h0]

theorem fenceKept_wclkInEdge (a : Nat) : FenceKept (exec (.wclkInEdge a) s) := by
  simp only [exec, execWclkInEdge]
  split
  · split <;> simp [h0]
  · simp [h0]

theorem fenceKept_videoRefWindow (w : VideoWindow) : FenceKept (exec (.videoRefWindow w) s) := by
  simp only [exec, execVideoRefWindow]
  split <;> simp [h0]

theorem fenceKept_spindleAlarmFire (n : Nat) : FenceKept (exec (.spindleAlarmFire n) s) := by
  simp only [exec, execSpindleAlarmFire]
  split <;> simp [h0]

theorem fenceKept_rangeChangeEnd (d : Nat) : FenceKept (exec (.rangeChangeEnd d) s) := by
  simp only [exec, execRangeChangeEnd]
  split <;> simp [h0]

theorem fenceKept_ppsOutPulse (e : Edge) : FenceKept (exec (.ppsOutPulse e) s) := by
  cases e <;> simp [exec, execPpsOutPulse, h0]

theorem fenceKept_identificationComplete (a b l : Nat) : FenceKept (exec (.identificationComplete a b l) s) := by
  simp only [exec, execIdentificationComplete]
  split <;> simp [h0]

theorem fenceKept_refSettled (p : Nat) : FenceKept (exec (.refSettled p) s) := by
  simp only [exec, execRefSettled]
  split <;> simp [h0]

theorem fenceKept_faultCodeLoad : FenceKept (exec .faultCodeLoad s) := by
  have hk : fkey (countStrobe 1 (countStrobe 0 s)) = fkey s := by simp
  simp only [exec, execFaultCodeLoad]
  split
  · exact (fenceKept_next _).2 (hk.symm ▸ h0)
  · simp [h0]

theorem fenceKept_faultValuesFlashWrite : FenceKept (exec .faultValuesFlashWrite s) := by
  simp only [exec, execFaultValuesFlashWrite]
  split <;> simp [h0]

theorem fenceKept_hpClampRelease : FenceKept (exec .hpClampRelease s) := by
  simp only [exec, execHpClampRelease]
  split <;> simp [h0]

theorem fenceKept_alarmOutHoldExpiry : FenceKept (exec .alarmOutHoldExpiry s) := by
  simp only [exec, execAlarmOutHoldExpiry]
  split <;> simp [h0]

theorem fenceKept_ringEnumerate (f : RingFrame) : FenceKept (exec (.ringEnumerate f) s) :=
  (fenceKept_next _).2 (inv_ringRow _ _ _ _ _ (fun _ h => h) (fun _ h => inv_castOf _ _ _ _ (inv_enumerate f) h) h0)

theorem fenceKept_ringResetFrame (f : RingFrame) : FenceKept (exec (.ringResetFrame f) s) :=
  (fenceKept_next _).2
    (inv_ringRow _ _ _ _ _ (inv_ringResetOwn f) (fun _ h => inv_castOf _ _ _ _ (inv_ringResetCast f) h) h0)

theorem fenceKept_ringDoorbell (f : RingFrame) : FenceKept (exec (.ringDoorbell f) s) := by
  have bell : ∀ t, fenceOk (fkey t) → fenceOk (fkey (if f.len = 12 then doorbell 0 t else ringNak 5 0 0x09 t)) := by
    intro t ht
    split <;> simp [ht]
  exact (fenceKept_next _).2 (inv_ringRow _ _ _ _ _ bell bell h0)

/-- The rows of ring frames whose effect touches nothing that the fence depends on. -/
theorem fenceOk_ringRow_of_key (typ : Nat) (f : RingFrame) (own : State → State) (cast : State → State × Option Bytes)
    (hown : ∀ t, fkey (own t) = fkey t) (hcast : ∀ t, fkey (cast t).1 = fkey t) :
    FenceKept (.next (ringRow typ f own cast s)) :=
  (fenceKept_next _).2 (by rwa [key_ringRow _ _ _ _ _ hown hcast])

/-- Every event keeps the fence invariant: the rows with a guard of their own or a search one by one, the others by the
law of the one operation that they run. -/
theorem fenceKept_of_event {i : Instr} {k : OrdClass} (hi : rowKind i = (k, .event)) : FenceKept (exec i s) := by
  cases i with
  | synthLockDeclared x => exact fenceKept_synthLockDeclared h0 x
  | rootDisqualified r => exact fenceKept_rootDisqualified h0 r
  | candidateIntervalEval i f d => exact fenceKept_candidateIntervalEval h0 i f d
  | acquisitionComplete => exact fenceKept_acquisitionComplete h0
  | loopUpdate d => exact fenceKept_loopUpdate h0 d
  | ppsInEdge f => exact fenceKept_ppsInEdge h0 f
  | wclkInEdge a => exact fenceKept_wclkInEdge h0 a
  | videoRefWindow w => exact fenceKept_videoRefWindow h0 w
  | spindleAlarmFire n => exact fenceKept_spindleAlarmFire h0 n
  | rangeChangeEnd d => exact fenceKept_rangeChangeEnd h0 d
  | ppsOutPulse e => exact fenceKept_ppsOutPulse h0 e
  | identificationComplete a b l => exact fenceKept_identificationComplete h0 a b l
  | refSettled p => exact fenceKept_refSettled h0 p
  | faultCodeLoad => exact fenceKept_faultCodeLoad h0
  | faultValuesFlashWrite => exact fenceKept_faultValuesFlashWrite h0
  | hpClampRelease => exact fenceKept_hpClampRelease h0
  | alarmOutHoldExpiry => exact fenceKept_alarmOutHoldExpiry h0
  | ringEnumerate f => exact fenceKept_ringEnumerate h0 f
  | ringDoorbell f => exact fenceKept_ringDoorbell h0 f
  | ringResetFrame f => exact fenceKept_ringResetFrame h0 f
  | ringReset f => exact fenceOk_ringRow_of_key h0 _ _ _ _ (by simp) fun _ => key_castOf _ _ _ _ (by simp)
  | ringCommand f => exact fenceOk_ringRow_of_key h0 _ _ _ _ (by simp) (by simp)
  | ringWread f => exact fenceOk_ringRow_of_key h0 _ _ _ _ (by simp) (by simp)
  | ringWwrite f => exact fenceOk_ringRow_of_key h0 _ _ _ _ (by simp) (by simp)
  | ringBarrier f => exact fenceOk_ringRow_of_key h0 _ _ _ _ (by simp) fun _ => key_castOf _ _ _ _ (by simp)
  | ringSnapshot f => exact fenceOk_ringRow_of_key h0 _ _ _ _ (by simp) fun _ => key_castOf _ _ _ _ (by simp)
  | rstNLow ns => simp [exec, execRstNLow, h0]
  | synthLockTimeout x => simp [exec, execSynthLockTimeout, h0]
  | synthLossOfLock x => simp [exec, execSynthLossOfLock, h0]
  | phaseMoveComplete x => simp [exec, execPhaseMoveComplete, h0]
  | rootConditionClear r => simp [exec, execRootConditionClear, h0]
  | rootQualified r => simp [exec, execRootQualified, h0]
  | rootRevert => simp [exec, execRootRevert, h0]
  | rootRatioUpdate d a b => simp [exec, execRootRatioUpdate, h0]
  | toolrestWindow o n => simp [exec, execToolrestWindow, h0]
  | toolrestGateOpen o => simp [exec, execToolrestGateOpen, h0]
  | candidateSignalAppear i => simp [exec, execCandidateSignalAppear, h0]
  | candidateQualified i d => simp [exec, execCandidateQualified, h0]
  | holdoverUpdate n => simp [exec, execHoldoverUpdate, h0]
  | holdoverAged => simp [exec, execHoldoverAged, h0]
  | sfpModuleInserted n d => simp [exec, execSfpModuleInserted, h0]
  | linkTrainingAlternate n => simp [exec, execLinkTrainingAlternate, h0]
  | measurementTimerFire n => simp [exec, execMeasurementTimerFire, h0]
  | aes3RxLock n x => simp [exec, execAes3RxLock, h0]
  | engineFrameOverrun e n => simp [exec, execEngineFrameOverrun, h0]
  | asrcLock n r => simp [exec, execAsrcLock, h0]
  | vrefInRangeChange b => simp [exec, execVrefInRangeChange, h0]
  | _ => cases hi <;> refine (fenceKept_next _).2 ?_ <;> simp [h0]

/-- Every row keeps the fence invariant. -/
theorem fenceKept_exec (i : Instr) : FenceKept (exec i s) := by
  rcases hi : rowKind i with ⟨k, op | op | op | op | -⟩
  case staged =>
    obtain ⟨ok, he⟩ := exec_of_staged s hi
    simpa [he] using h0
  case direct =>
    obtain ⟨check, he⟩ := exec_of_direct s hi
    simpa [he] using h0
  case status =>
    obtain ⟨ok, result, he⟩ := exec_of_status s hi
    simpa [he] using h0
  case immediate =>
    obtain ⟨run, he, hrun⟩ := exec_of_immediate s hi
    simpa [he, key_startNow _ _ _ _ hrun] using h0
  case event => exact fenceKept_of_event h0 hi

end Rows

/-- Settles O5: an idle step keeps the invariant, and so does the row at the front of the queue. -/
theorem fenceInvKept : Obligations.FenceInvKept := by
  unfold Obligations.FenceInvKept
  intro s t hs ht
  have h0 : fenceOk (fkey s) := (fenceInv_iff s).1 hs
  refine (fenceInv_iff t).2 ?_
  unfold step at ht
  split at ht
  · exact Host.Outcome.next.inj ht ▸ inv_idleStep s h0
  · next c q _ => exact fenceKept_exec (s := { s with pending := q }) h0 c t ht

/-- Settles O4: the fence is closed at reset. -/
theorem fenceInvReset : Obligations.FenceInvReset :=
  fun h => absurd h (by decide)

/-- Settles O3: each field is the reset value that `State.reset` gives it. -/
theorem resetState : Obligations.ResetState :=
  ⟨rfl, rfl, rfl, rfl, rfl, fun _ => rfl, rfl, rfl⟩

end Sys2Proof.Proofs
end

section
/-! HOLDOVER ends at a step on an empty queue when a first commit is due at that instant. -/
namespace Sys2Proof.Proofs
open Sys2Proof.Machine

/-- A device in HOLDOVER, before any commit has become live, whose pending commit of the empty configuration is due now. -/
def holdoverFirstCommitDue : State :=
  { mode := .holdover,
    mb := { pend := some { tables := {}, gen := 1, digest := 0, boundary := 0, cmd := none, recs := [], full := true } } }

set_option maxRecDepth 20000 in
/-- The commit becomes live before time passes, and the first one enters FREERUN (R25). -/
theorem idleStep_firstCommit_mode : (idleStep holdoverFirstCommitDue).mode = .freerun := by decide

/-- Refutes O59: its first clause asks nothing of a pending commit, as the clause of the frame boundary does
(`s.mb.pend = none`). On an empty queue a commit that is due becomes live first, and a first commit enters FREERUN
whatever the mode was. -/
theorem not_holdoverStays : ¬ Obligations.HoldoverStays := by
  unfold Obligations.HoldoverStays
  rintro ⟨idleKeepsMode, -⟩
  obtain ⟨t, hstep, hmode⟩ := idleKeepsMode holdoverFirstCommitDue rfl rfl
  have ht : idleStep holdoverFirstCommitDue = t := Host.Outcome.next.inj hstep
  rw [← ht, idleStep_firstCommit_mode] at hmode
  exact absurd hmode (by decide)

end Sys2Proof.Proofs
end

section
/-! A commit that builds an LTC preset again keeps the frames that the firmware has written for it (`keepLtc`, R250, R255), so
the live configuration is not the committed one word for word. -/
namespace Sys2Proof.Proofs
open Sys2Proof.Machine

/-- An LTC preset with its profile from segment 0 on. -/
def ltcPreset : PsPreset :=
  { id := 0x10, base := 0, blank := 0, code1V := 1, dds := 0, rate := 0, edge := 0, hz := 0, lvl := 0, zone := 0, jam := 0,
    ub := 0 }

/-- A configuration in which sequencer 0 plays that preset; no segment is given. -/
def ltcTables : Tables := { ps := [(0, { pre := some ltcPreset })] }

/-- The same configuration in use: a frame of the time code stands in segment 0. -/
def ltcRunning : Tables := { ltcTables with segs := [(0, { dur := 9 })] }

/-- A commit of the configuration, due at once. -/
def ltcCommit : PendCommit :=
  { tables := ltcTables, gen := 2, digest := 0, boundary := 0, cmd := none, recs := [], full := true }

/-- A device that runs the preset when the commit of the same preset falls due. -/
def ltcCommitDue : State :=
  { mode := .freerun, dataPlane := .running, firstLive := true, live := ltcRunning, mb := { pend := some ltcCommit } }

set_option maxRecDepth 20000 in
/-- The frame stays where it is. -/
theorem keepLtc_keeps_frame : tabGet {} (keepLtc ltcRunning ltcTables).segs 0 = ({ dur := 9 } : Seg) := by decide

theorem keepLtc_ne_committed : keepLtc ltcRunning ltcTables ≠ ltcTables := by
  intro heq
  have hframe := keepLtc_keeps_frame
  rw [heq] at hframe
  exact absurd hframe (by decide)

set_option maxRecDepth 20000 in
theorem commitLive_ltc_live : (commitLive ltcCommitDue).live = keepLtc ltcRunning ltcTables := by rfl

set_option maxRecDepth 20000 in
theorem idleStep_ltc_live : (idleStep ltcCommitDue).live = keepLtc ltcRunning ltcTables := by rfl

/-- Refutes O36: its first clause says that the committed tables are live word for word (`t.live = p.tables`). A commit
that builds the running LTC preset again leaves the frames that the firmware has written in the segments. -/
theorem not_commitLiveRow : ¬ Obligations.CommitLiveRow := by
  unfold Obligations.CommitLiveRow
  rintro ⟨commitGoesLive, -⟩
  obtain ⟨t, hexec, -, -, -, hlive, -⟩ :=
    commitGoesLive ltcCommitDue ltcCommit rfl (by decide) (by decide) rfl rfl
  have ht : commitLive ltcCommitDue = t := Host.Outcome.next.inj hexec
  rw [← ht, commitLive_ltc_live] at hlive
  exact keepLtc_ne_committed hlive

/-- Refutes O2: its second clause says the same of the commit that becomes live in a step on an empty queue. -/
theorem not_idleTick : ¬ Obligations.IdleTick := by
  unfold Obligations.IdleTick
  rintro ⟨-, dueGoesLive⟩
  obtain ⟨t, hstep, -, -, -, hlive⟩ :=
    dueGoesLive ltcCommitDue ltcCommit rfl rfl (by decide) (by decide) rfl rfl
  have ht : idleStep ltcCommitDue = t := Host.Outcome.next.inj hstep
  rw [← ht, idleStep_ltc_live] at hlive
  exact keepLtc_ne_committed hlive

end Sys2Proof.Proofs
end

section
/-! A staged record at a commit (R401, R403): `putRec` writes the table of its opcode alone. -/
namespace Sys2Proof.Proofs
open Sys2Proof.Machine Sys2Proof.Laws

section KeyedTables
variable {α : Type} [DecidableEq α] {d : α} {u : Tab α}

/-- A write of one key: the form is kept, the key reads the value, every other key reads as before. -/
theorem tabSet_written {k : Nat} {v : α} (h : tabWf d u = true) :
    tabWf d (tabSet d u k v) = true ∧ tabGet d (tabSet d u k v) k = v ∧
      ∀ j, j ≠ k → tabGet d (tabSet d u k v) j = tabGet d u j := by
  refine ⟨tabWf_set d u k v h, ?_, fun j hj => ?_⟩
  · rw [tabGet_set d u k v k h, if_pos rfl]
  · rw [tabGet_set d u k v j h, if_neg hj]

theorem nth_map_range (e : α) (f : Nat → α) : ∀ {n j : Nat}, j < n → nth e ((List.range n).map f) j = f j := by
  have nth_eq : ∀ (l : List α) (j : Nat) (hj : j < l.length), nth e l j = l[j] := by
    intro l
    induction l with
    | nil => intro j hj; exact absurd hj (by simp)
    | cons x xs ih =>
      intro j hj
      cases j with
      | zero => rfl
      | succ j => exact ih j (by simpa using hj)
  intro n j hj
  rw [nth_eq _ j (by simpa using hj)]
  simp

/-- A run of `n` writes: the form is kept, the run reads back, every key outside it reads as before. -/
theorem tabSetList_written {k n : Nat} {f : Nat → α} (h : tabWf d u = true) :
    tabWf d (tabSetList d u k ((List.range n).map f)) = true ∧
      (∀ j < n, tabGet d (tabSetList d u k ((List.range n).map f)) (k + j) = f j) ∧
      ∀ j, (j < k ∨ k + n ≤ j) → tabGet d (tabSetList d u k ((List.range n).map f)) j = tabGet d u j := by
  refine ⟨tabWf_setList d _ u k h, fun j hj => ?_, fun j hj => ?_⟩
  · rw [tabGet_setList d _ u k j h (by simpa using hj), nth_map_range d f hj]
  · exact tabGet_setList_other d _ u k j h (by simpa using hj)

end KeyedTables

/-- AD_PRESET writes the slots of its sequence and the length of it. -/
theorem putAdPreset_frame (p : Bytes) (t : Tables) :
    { putAdPreset p t with slots := t.slots, seqReg := t.seqReg, seqInj := t.seqInj } = t := by
  unfold putAdPreset
  dsimp only
  split <;> rfl

/-- A preset writes its sequencer, its segments, the two shapes of its edges and, where it uses one, its DDS. -/
theorem buildPreset_frame (q : Nat) (p : PsPreset) (t : Tables) :
    { buildPreset q p t with ps := t.ps, segs := t.segs, shapes := t.shapes, dds := t.dds } = t := by
  unfold buildPreset
  dsimp only
  split <;> rfl

/-- The opcodes of the staging commands. -/
def stagedOps : List Nat :=
  [0x0310, 0x0313, 0x0319, 0x0320, 0x0321, 0x0322, 0x0323, 0x0410, 0x0411, 0x0412, 0x0413, 0x0414, 0x0415, 0x0510, 0x0511,
   0x0512, 0x0515, 0x0520, 0x0521, 0x0523, 0x0524, 0x0530, 0x0531, 0x0532, 0x0533, 0x0534, 0x0610, 0x0611, 0x0620, 0x0621,
   0x0622, 0x0623, 0x0630, 0x0710, 0x0711, 0x0712, 0x0713, 0x0714, 0x0810, 0x0813, 0x0815, 0x0816, 0x0910, 0x0A10]

/-- A record of any other opcode writes nothing. -/
theorem putRec_of_not_staged (t : Tables) (r : Rec) (h : r.opcode ∉ stagedOps) : putRec t r = t := by
  unfold putRec
  split
  case h_45 => rfl
  all_goals next hop => exact absurd (hop ▸ by decide : r.opcode ∈ stagedOps) h

/-- Every staging opcode has its row in the opcode list, and none is that of a change record. -/
theorem stagedOps_known : ∀ op ∈ stagedOps, isChangeRecord op = false ∧ (opRow op).isSome = true := by decide

theorem not_staged_of_change_or_unknown {op : Nat} (h : isChangeRecord op = true ∨ opRow op = none) : op ∉ stagedOps := by
  intro hmem
  obtain ⟨hchange, hrow⟩ := stagedOps_known op hmem
  rcases h with h | h
  · exact absurd (h.symm.trans hchange) (by decide)
  · simp [h] at hrow

/-- Settles O56: a record of one key by `tabSet_written`, a run of entries by `tabSetList_written`, a record without keys
and the rest of every record by the field that `putRec` replaces. -/
theorem stagedRecordTables : Obligations.StagedRecordTables := by
  unfold Obligations.StagedRecordTables
  refine ⟨?rootCfg, ?synthCfg, ?toolrest, ?tkCfg, ?tkCand, ?tkPolicy, ?rootChar, ?adCfg, ?adPairCfg, ?adSeqCfg, ?adSlot,
    ?adPreset, ?adTimer, ?daOutCfg, ?daBankCfg, ?ddsCfg, ?faultValues, ?psCfg, ?psSeg, ?psShape, ?psPreset, ?clkCfg, ?ppsCfg,
    ?txCfg, ?csRaw, ?rxCfg, ?route, ?dpCfg, ?teCfg, ?teOps, ?teOperands, ?teCoefs, ?tePreset, ?portCfg, ?ptpCfg, ?ptpPort,
    ?rxFlow, ?txFlow, ?hpCfg, ?jackCfg, ?pdmCfg, ?snCfg, ?twCfg, ?igCfg, ?other⟩
  case rootCfg | synthCfg | tkCfg | tkPolicy | adSeqCfg | daBankCfg | ppsCfg | rxCfg | ptpCfg | hpCfg | jackCfg | snCfg |
      twCfg | igCfg | csRaw | route | tePreset | pdmCfg =>
    intro t r hop
    simp only [putRec, hop]
    rfl
  case toolrest | tkCand | rootChar | adCfg | adPairCfg | adSlot | adTimer | daOutCfg | ddsCfg | psCfg | psSeg | psShape |
      clkCfg | txCfg | dpCfg | teCfg | portCfg | ptpPort | rxFlow | txFlow =>
    intro t r hop hwf
    simp only [putRec, hop, putToolrest, putTkCand, putRootChar, putAdCfg, putAdPairCfg, putAdSlot, putAdTimer, putDaOutCfg,
      putDdsCfg, putPsCfg, putPsSeg, putSegs, tabSetList, putPsShape, putDgClkCfg, putDgTxCfg, putXbDpCfg, putTeCfg, putNwPortCfg,
      putNwPtpPort, readPtpPort, putNwRxFlow, putNwTxFlow, true_and]
    exact tabSet_written hwf
  case faultValues | teOps | teOperands | teCoefs =>
    intro t r hop hwf
    simp only [putRec, hop]
    exact ⟨rfl, tabSetList_written hwf⟩
  case adPreset =>
    intro t r hop
    simp only [putRec, hop]
    exact putAdPreset_frame _ t
  case psPreset =>
    intro t r hop
    simp only [putRec, hop]
    exact buildPreset_frame _ _ t
  case other => exact fun t r h => putRec_of_not_staged t r (not_staged_of_change_or_unknown h)

end Sys2Proof.Proofs
end

section
/-! What an answer leaves alone in the mailbox: the pending commit, the staging area and the committed generation stay, and
no interrupt bit that is set is cleared. The ledger changes nothing but itself. -/
namespace Sys2Proof.Proofs
open Sys2Proof.Machine Sys2Proof.Laws

/-! ### The ledger -/

/-- The states differ in their ledger at most. -/
def LedgerOnly (s t : State) : Prop := ∃ l, t = { s with lg := l }

theorem LedgerOnly.mb {s t : State} : LedgerOnly s t → t.mb = s.mb := by rintro ⟨l, rfl⟩; rfl
theorem LedgerOnly.mem {s t : State} : LedgerOnly s t → t.mem = s.mem := by rintro ⟨l, rfl⟩; rfl

theorem LedgerOnly.refl (s : State) : LedgerOnly s s := ⟨s.lg, rfl⟩

theorem LedgerOnly.trans {s t u : State} : LedgerOnly s t → LedgerOnly t u → LedgerOnly s u := by
  rintro ⟨l, rfl⟩ ⟨m, rfl⟩
  exact ⟨m, rfl⟩

theorem ledgerOnly_foldl {α : Type} (f : State → α → State) (hf : ∀ t a, LedgerOnly t (f t a)) (l : List α) :
    ∀ s, LedgerOnly s (l.foldl f s) := by
  induction l with
  | nil => exact LedgerOnly.refl
  | cons a l ih => exact fun s => (hf s a).trans (ih _)

theorem ledgerOnly_lgLastPlace (s : State) : LedgerOnly s (lgLastPlace s) := by
  unfold lgLastPlace
  split
  · exact ⟨_, rfl⟩
  · exact .refl s

theorem ledgerOnly_lgPut (e : LgEntry) (s : State) : LedgerOnly s (lgPut e s) := by
  unfold lgPut
  split
  · exact LedgerOnly.trans (t := lgOwn e s) ⟨_, rfl⟩ (ledgerOnly_lgLastPlace _)
  · exact ⟨_, rfl⟩

theorem ledgerOnly_lgEvent (code digest : Nat) (s : State) : LedgerOnly s (lgEvent code digest s) := ledgerOnly_lgPut _ s

theorem ledgerOnly_lgCloseAll (s : State) : LedgerOnly s (lgCloseAll s) := by
  unfold lgCloseAll
  refine LedgerOnly.trans (t := { s with lg := { s.lg with open_ := [] } }) ⟨_, rfl⟩ ?_
  exact ledgerOnly_foldl (fun (t : State) (x : OpenEntry) => lgPut x.e t) (fun t x => ledgerOnly_lgPut x.e t) _ _

theorem ledgerOnly_lgDirect (e : LgEntry) (key : Bytes) (s : State) : LedgerOnly s (lgDirect e key s) := by
  unfold lgDirect
  dsimp only
  split
  · exact LedgerOnly.trans (t := { s with lg := { s.lg with open_ := (lgJoin s e key s.lg.open_).1 } }) ⟨_, rfl⟩
      (ledgerOnly_foldl _ (fun t x => ledgerOnly_lgPut x t) _ _)
  · split
    · next o os _ =>
      split
      · exact LedgerOnly.trans (t := { s with lg := { s.lg with open_ := os } }) ⟨_, rfl⟩
          ((ledgerOnly_lgPut o.e _).trans ⟨_, rfl⟩)
      · exact ⟨_, rfl⟩
    · exact ⟨_, rfl⟩

theorem ledgerOnly_lgCommand (c : Cmd) (status : Nat) (s : State) : LedgerOnly s (lgCommand c status s) := by
  unfold lgCommand
  split
  · exact .refl s
  · dsimp only
    split
    · exact ledgerOnly_lgDirect _ _ s
    · exact ledgerOnly_lgPut _ s

theorem ledgerOnly_lgAddCause (causes : Nat) (s : State) : LedgerOnly s (lgAddCause causes s) := ⟨_, rfl⟩

/-! ### The mailbox -/

/-- The pending commit, the staging area and the generation of the mailbox `m` are those of `m0`, and every interrupt bit of
`m0` is set in `m`. -/
structure MailKept (m0 m : MbState) : Prop where
  pend : m.pend = m0.pend
  staging : m.staging = m0.staging
  stageBytes : m.stageBytes = m0.stageBytes
  gen : m.gen = m0.gen
  irq : ∀ b, nbit m0.irqStatus b = true → nbit m.irqStatus b = true

theorem MailKept.refl (m : MbState) : MailKept m m := ⟨rfl, rfl, rfl, rfl, fun _ h => h⟩

/-- Bit `b` of a number is the bit of the library. -/
theorem nbit_eq_testBit (n b : Nat) : nbit n b = n.testBit b := by
  rw [nbit, Nat.testBit_eq_decide_div_mod_eq, Bool.beq_eq_decide_eq]

/-- Adding a clear bit sets it and leaves every other bit. -/
theorem nbit_add_two_pow {n b : Nat} (h : nbit n b = false) (j : Nat) :
    nbit (n + 2 ^ b) j = (nbit n j || decide (b = j)) := by
  simp only [nbit_eq_testBit] at h ⊢
  rcases Nat.lt_trichotomy j b with hj | rfl | hj
  · have hne : b ≠ j := by omega
    rw [Nat.add_comm, Nat.testBit_two_pow_add_gt hj]
    simp [hne]
  · rw [Nat.add_comm, Nat.testBit_two_pow_add_eq]
    simp [h]
  · have hne : b ≠ j := by omega
    have hhigh : (n + 2 ^ b) / 2 ^ (b + 1) = n / 2 ^ (b + 1) := by
      have hclear : n / 2 ^ b % 2 ≠ 1 := by simpa [Nat.testBit_eq_decide_div_mod_eq] using h
      rw [Nat.pow_succ, ← Nat.div_div_eq_div_mul, ← Nat.div_div_eq_div_mul, Nat.add_div_right _ (Nat.two_pow_pos b)]
      omega
    obtain ⟨i, rfl⟩ : ∃ i, j = i + (b + 1) := ⟨j - (b + 1), by omega⟩
    rw [Nat.testBit_add, Nat.testBit_add, hhigh]
    simp [hne]

theorem nbit_setBit_self (n b : Nat) : nbit (setBit n b) b = true := by
  unfold setBit
  split
  · assumption
  · next h => rw [nbit_add_two_pow (by simpa using h)]; simp

theorem raiseIrq_sets (b : Nat) (s : State) : nbit (raiseIrq b s).mb.irqStatus b = true := by
  unfold raiseIrq
  split
  · assumption
  · next h => simp [nbit_add_two_pow (Bool.eq_false_iff.2 h)]

section Mail
variable {m : MbState} {s : State} (h : MailKept m s.mb)
include h

theorem MailKept.of_ledger {t : State} (hl : LedgerOnly s t) : MailKept m t.mb := hl.mb ▸ h

theorem mailKept_lgEvent (code digest : Nat) : MailKept m (lgEvent code digest s).mb := h.of_ledger (ledgerOnly_lgEvent _ _ s)

theorem mailKept_lgCloseAll : MailKept m (lgCloseAll s).mb := h.of_ledger (ledgerOnly_lgCloseAll s)

theorem mailKept_lgCommand (c : Cmd) (status : Nat) : MailKept m (lgCommand c status s).mb :=
  h.of_ledger (ledgerOnly_lgCommand c status s)

theorem mailKept_raiseIrq (b : Nat) : MailKept m (raiseIrq b s).mb := by
  unfold raiseIrq
  split
  · exact h
  · next hb =>
    refine ⟨h.pend, h.staging, h.stageBytes, h.gen, fun j hj => ?_⟩
    simp [nbit_add_two_pow (Bool.eq_false_iff.2 hb), h.irq j hj]

theorem mailKept_rspWrite (slot : Bytes) : MailKept m (rspWrite slot s).mb := by
  unfold rspWrite
  refine mailKept_raiseIrq ?_ 0
  exact ⟨h.pend, h.staging, h.stageBytes, h.gen, h.irq⟩

theorem mailKept_rspSend (c : Cmd) (slot : Bytes) : MailKept m (rspSend c slot s).mb := by
  unfold rspSend
  split
  · exact h
  · split
    · unfold ringSend
      split <;> exact h
    · unfold rspHost
      split
      · exact mailKept_rspWrite h slot
      · exact ⟨h.pend, h.staging, h.stageBytes, h.gen, h.irq⟩

theorem mailKept_dropCmd (n : Nat) : MailKept m (dropCmd n s).mb := ⟨h.pend, h.staging, h.stageBytes, h.gen, h.irq⟩

theorem mailKept_setPhase (n : Nat) (ph : CmdPhase) : MailKept m (setPhase n ph s).mb :=
  ⟨h.pend, h.staging, h.stageBytes, h.gen, h.irq⟩

theorem mailKept_respondFinal (c : Cmd) (status : Nat) (res : Bytes) : MailKept m (respondFinal c status res s).mb :=
  mailKept_dropCmd (mailKept_lgCommand (mailKept_rspSend h c _) c _) c.n

end Mail

theorem mailKept_settleDrains {m : MbState} : ∀ (n : Nat) {s : State}, MailKept m s.mb → MailKept m (settleDrains n s).mb
  | 0, _, h => h
  | n + 1, s, h => by
    unfold settleDrains
    split
    · exact h
    · exact mailKept_settleDrains n (mailKept_respondFinal h _ _ _)

section Mail
variable {m : MbState} {s : State} (h : MailKept m s.mb)
include h

theorem mailKept_respond (c : Cmd) (status : Nat) (res : Bytes) : MailKept m (respond c status res s).mb :=
  mailKept_settleDrains _ (mailKept_respondFinal h c status res)

theorem mailKept_respondTo (n status : Nat) (res : Bytes) : MailKept m (respondTo n status res s).mb := by
  unfold respondTo
  split
  · exact mailKept_respond h _ _ _
  · exact h

theorem mailKept_respondMid (c : Cmd) (status : Nat) (res : Bytes) : MailKept m (respondMid c status res s).mb := by
  have hsend := mailKept_rspSend h c (rspSlot s c.tag status c.opcode false false false res)
  unfold respondMid
  refine mailKept_setPhase ?_ _ _
  split
  · exact mailKept_lgCommand hsend _ _
  · exact hsend

end Mail

/-! ### A final response in the response ring -/

theorem tabRead_eq_map {α : Type} (d : α) (t : Tab α) : ∀ (n k : Nat),
    tabRead d t k n = (List.range n).map (fun i => tabGet d t (k + i))
  | 0, _ => rfl
  | n + 1, k => by
    rw [tabRead, tabRead_eq_map d t n, List.range_succ_eq_map, List.map_cons, List.map_map]
    refine congrArg _ (List.map_congr_left fun i _ => ?_)
    simp only [Function.comp_apply]
    congr 1
    omega

theorem tabRead_setList {α : Type} [DecidableEq α] (d : α) : ∀ (vs : List α) (t : Tab α) (k : Nat), tabWf d t = true →
    tabRead d (tabSetList d t k vs) k vs.length = vs
  | [], _, _, _ => rfl
  | v :: vs, t, k, h => by
    have hw := tabWf_set d t k v h
    rw [List.length_cons, tabRead, tabSetList, tabRead_setList d vs _ _ hw,
      tabGet_setList_other d vs _ _ _ hw (by omega), tabGet_set d t k v k h, if_pos rfl]

/-- A list of bytes written to the window reads back. -/
theorem memReadList_memWriteList (a : Nat) (bs : Bytes) (s : State) (h : memWf s) :
    memReadList (memWriteList a bs s) a bs.length = bs := tabRead_setList 0 bs s.mem a h

@[simp] theorem length_le : ∀ n v : Nat, (le n v).length = n
  | 0, _ => rfl
  | n + 1, v => by rw [le, List.length_cons, length_le]

theorem length_rspSlot (s : State) (tag status op : Nat) (f d m : Bool) (res : Bytes) :
    (rspSlot s tag status op f d m res).length = 32 := by
  simp [rspSlot, padTo, zeros]
  omega

@[simp] theorem raiseIrq_mem (b : Nat) (s : State) : (raiseIrq b s).mem = s.mem := by unfold raiseIrq; split <;> rfl
@[simp] theorem raiseIrq_rspHead (b : Nat) (s : State) : (raiseIrq b s).mb.rspHead = s.mb.rspHead := by
  unfold raiseIrq; split <;> rfl
@[simp] theorem raiseIrq_cmds (b : Nat) (s : State) : (raiseIrq b s).mb.cmds = s.mb.cmds := by unfold raiseIrq; split <;> rfl

@[simp] theorem rspWrite_mem (slot : Bytes) (s : State) :
    (rspWrite slot s).mem = (memWriteList (0x5000 + 32 * (s.mb.rspHead % 256)) slot s).mem := by simp [rspWrite]
@[simp] theorem rspWrite_rspHead (slot : Bytes) (s : State) :
    (rspWrite slot s).mb.rspHead = (s.mb.rspHead + 1) % 65536 := by simp [rspWrite]
@[simp] theorem rspWrite_cmds (slot : Bytes) (s : State) : (rspWrite slot s).mb.cmds = s.mb.cmds := by simp [rspWrite]

/-- Without a MB_DRAIN among the outstanding commands none is due. -/
theorem drainReady_none {s : State} (h : ∀ d ∈ s.mb.cmds, d.opcode ≠ 0x0111) : drainReady s = none := by
  unfold drainReady
  rw [List.find?_eq_none]
  intro d hd
  simp [h d hd]

theorem settleDrains_of_none {s : State} (h : drainReady s = none) : ∀ n, settleDrains n s = s
  | 0 => rfl
  | n + 1 => by rw [settleDrains, h]

/-- A response ring with room takes the final response of a host command (R395, R396). -/
theorem answered_respond {s : State} {c : Cmd} (hc : HostReady s c) (status : Nat) (res : Bytes) :
    Answered s (respond c status res s) c status res := by
  obtain ⟨horigin, hmute, hdoomed, hheld, hroom, hwf, hdrain⟩ := hc
  have hsend : ∀ slot, rspSend c slot s = rspWrite slot s := by
    intro slot
    simp [rspSend, rspHost, horigin, hmute, hheld, hroom]
  have hfinal : respondFinal c status res s =
      dropCmd c.n (lgCommand c status (rspWrite (rspSlot s c.tag status c.opcode true false false res) s)) := by
    simp [respondFinal, hdoomed, hsend]
  have hled := ledgerOnly_lgCommand c status (rspWrite (rspSlot s c.tag status c.opcode true false false res) s)
  have hcmds : (respondFinal c status res s).mb.cmds = s.mb.cmds.filter (fun d => d.n != c.n) := by
    rw [hfinal]
    simp [dropCmd, hled.mb]
  have hnone : drainReady (respondFinal c status res s) = none :=
    drainReady_none (by rw [hcmds]; exact fun d hd => hdrain d (List.mem_filter.1 hd).1)
  have hresp : respond c status res s = respondFinal c status res s := settleDrains_of_none hnone _
  rw [hresp]
  refine ⟨?_, ?_, ?_⟩
  · have hmem : (respondFinal c status res s).mem =
        (memWriteList (0x5000 + 32 * (s.mb.rspHead % 256)) (rspSlot s c.tag status c.opcode true false false res) s).mem := by
      rw [hfinal]
      simp [hled.mem]
    have hread := memReadList_memWriteList (0x5000 + 32 * (s.mb.rspHead % 256))
      (rspSlot s c.tag status c.opcode true false false res) s hwf
    rw [length_rspSlot] at hread
    simpa only [memReadList, hmem] using hread
  · rw [hfinal]
    simp [dropCmd, hled.mb]
  · rw [hcmds]
    intro d hd
    simpa using (List.mem_filter.1 hd).2

end Sys2Proof.Proofs
end

section
/-! Staging commands (R401, R409, R472): what each row checks, and the four ways in which `runStaged` answers. -/
namespace Sys2Proof.Proofs
open Sys2Proof.Machine Sys2Proof.Laws

/-- The check of a staging row: the fields of its record, and for NW_PORT_CFG the addresses of the unit as well. -/
def stagedFieldsOk (s : State) (op : Nat) (p : Bytes) : Bool :=
  recFieldsOk op p && (op != 0x0710 || portAddrOk (twinPos s) p)

theorem stagedFieldsOk_iff (s : State) (op : Nat) (p : Bytes) :
    stagedFieldsOk s op p = true ↔ recFieldsOk op p = true ∧ (op = 0x0710 → portAddrOk (twinPos s) p = true) := by
  by_cases h : op = 0x0710 <;> simp [stagedFieldsOk, h]

/-- A staging row runs `startStaged` with that check. -/
theorem exec_of_staged_fields {i : Instr} {k : OrdClass} {op : Nat} (s : State) (h : rowKind i = (k, .staged op)) :
    exec i s = .next (startStaged k op (stagedFieldsOk s op) s) := by
  cases i <;> cases h <;>
    exact congrArg (fun ok => Host.Outcome.next (startStaged _ _ ok s)) (funext fun p => by simp [stagedFieldsOk, recFieldsOk])

theorem opcode_of_starting {k : OrdClass} {op : Nat} {s : State} {c : Cmd} (h : starting k op s = some c) : c.opcode = op := by
  unfold starting at h
  split at h
  · split at h
    · split at h
      · next hop => exact Option.some.inj h ▸ hop
      · exact absurd h (by simp)
    · exact absurd h (by simp)
  · exact absurd h (by simp)

section Row
variable {i : Instr} {k : OrdClass} {op : Nat} {s : State} {c : Cmd}
  (hi : rowKind i = (k, .staged op)) (hc : starting k op s = some c) (hgate : modeGate s op = none)
include hi hc hgate

theorem exec_of_staged_starting : exec i s = .next (runStaged (stagedFieldsOk s op) c s) := by
  rw [exec_of_staged_fields s hi]
  simp [startStaged, hc, hgate]

/-- A staging command that is refused: its status, and the staging area as it was. -/
theorem next_staged_refused {status : Nat} (hrun : runStaged (stagedFieldsOk s op) c s = respond c status [] s)
    (hready : HostReady s c) :
    Next i s fun t => Answered s t c status [] ∧ t.plant = s.plant ∧ t.mb.staging = s.mb.staging ∧ t.mb.pend = s.mb.pend := by
  refine ⟨respond c status [] s, by rw [exec_of_staged_starting hi hc hgate, hrun], answered_respond hready status [],
    plant_respond c status [] s, ?_, ?_⟩
  · exact (mailKept_respond (.refl s.mb) c status []).staging
  · exact (mailKept_respond (.refl s.mb) c status []).pend

end Row

section Run
variable {ok : Bytes → Bool} {c : Cmd} {s : State}

theorem runStaged_signed (h : s.pt.signedCfg = true) : runStaged ok c s = respond c stAccess [] s := by
  simp [runStaged, h]

theorem runStaged_bad (h : s.pt.signedCfg = false) (hok : ok c.payload = false) : runStaged ok c s = respond c stBad [] s := by
  simp [runStaged, h, hok]

theorem runStaged_full (h : s.pt.signedCfg = false) (hok : ok c.payload = true)
    (hsize : 4194304 < s.mb.stageBytes + recSize c.payload.length) : runStaged ok c s = respond c stResource [] s := by
  simp [runStaged, h, hok, hsize]

theorem runStaged_room (h : s.pt.signedCfg = false) (hok : ok c.payload = true)
    (hsize : s.mb.stageBytes + recSize c.payload.length ≤ 4194304) :
    runStaged ok c s = respond c stAccepted []
      (stageRec { opcode := c.opcode, expert := c.expert, direct := false, payload := c.payload } s) := by
  simp [runStaged, h, hok, Nat.not_lt.2 hsize]

end Run

/-- The record is staged before the answer: the response ring and the outstanding commands are those of the state before. -/
theorem answered_of_stageRec {r : Rec} {s t : State} {c : Cmd} {status : Nat} {res : Bytes}
    (h : Answered (stageRec r s) t c status res) : Answered s t c status res := h

/-- Settles O40: a staging row runs `runStaged` with the check of its opcode, and each clause is one of its four branches. -/
theorem stagedRows : Obligations.StagedRows := by
  unfold Obligations.StagedRows
  refine ⟨?room, ?bad, ?address, ?signed, ?full⟩
  case room =>
    intro i k op s c hi hc hgate hunsigned hfields haddr hsize
    have hop : c.opcode = op := opcode_of_starting hc
    have hok : stagedFieldsOk s op c.payload = true := (stagedFieldsOk_iff s op c.payload).2 ⟨hfields, haddr⟩
    have hexec := exec_of_staged_starting hi hc hgate
    rw [runStaged_room hunsigned hok hsize, hop] at hexec
    have hkept := mailKept_respond (.refl (stageRec { opcode := op, expert := c.expert, direct := false, payload := c.payload } s).mb)
      c stAccepted []
    refine ⟨_, hexec, hkept.staging, hkept.stageBytes, hkept.pend, ?_, fun hready => ?_⟩
    · rw [plant_respond, plant_stageRec]
    · exact answered_of_stageRec (answered_respond (s := stageRec _ s) hready stAccepted [])
  case bad =>
    intro i k op s c hi hc hgate hunsigned hfields hready
    have hok : stagedFieldsOk s op c.payload = false := by simp [stagedFieldsOk, hfields]
    exact next_staged_refused hi hc hgate (runStaged_bad hunsigned hok) hready
  case address =>
    intro k s c hc hgate hunsigned haddr hready
    have hok : stagedFieldsOk s 0x0710 c.payload = false := by simp [stagedFieldsOk, haddr]
    exact next_staged_refused rfl hc hgate (runStaged_bad hunsigned hok) hready
  case signed =>
    intro i k op s c hi hc hgate hsigned hready
    exact next_staged_refused hi hc hgate (runStaged_signed hsigned) hready
  case full =>
    intro i k op s c hi hc hgate hunsigned hfields haddr hsize hready
    have hok : stagedFieldsOk s op c.payload = true := (stagedFieldsOk_iff s op c.payload).2 ⟨hfields, haddr⟩
    exact next_staged_refused hi hc hgate (runStaged_full hunsigned hok hsize) hready

end Sys2Proof.Proofs
end

section
/-! MB_COMMIT (R403 to R405): the refusals without a record, and the commit that becomes pending. -/
namespace Sys2Proof.Proofs
open Sys2Proof.Machine Sys2Proof.Laws

section Row
variable {k : OrdClass} {s : State} {c : Cmd} (hc : starting k 0x0212 s = some c) (hgate : startGate s 0x0212 = none)
include hc hgate

theorem exec_mbCommit_starting : exec (.mbCommit k) s = .next (runCommit c s) := by
  simp [exec, execMbCommit, startNow, hc, hgate]

/-- An MB_COMMIT that is refused: its status, and the commit and the staging area as they were. -/
theorem next_commit_refused {status : Nat} (hrun : runCommit c s = respond c status noRecord s) (hready : HostReady s c) :
    Next (.mbCommit k) s fun t =>
      Answered s t c status noRecord ∧ t.mb.pend = s.mb.pend ∧ t.mb.staging = s.mb.staging ∧ t.plant = s.plant := by
  have hkept := mailKept_respond (.refl s.mb) c status noRecord
  refine ⟨respond c status noRecord s, by rw [exec_mbCommit_starting hc hgate, hrun], answered_respond hready status noRecord,
    hkept.pend, hkept.staging, plant_respond c status noRecord s⟩

end Row

theorem runCommit_pending {c : Cmd} {s : State} (htime : (commitBoundary c s).2 ≠ some stBad) (hpend : s.mb.pend ≠ none) :
    runCommit c s = respond c stState noRecord s := by
  simp [runCommit, htime, Option.isSome_iff_ne_none.2 hpend]

theorem runCommit_wrongGen {c : Cmd} {s : State} (htime : (commitBoundary c s).2 ≠ some stBad) (hpend : s.mb.pend = none)
    (hbit : bit c.payload 0 0 = true) (hgen : u32 c.payload 4 ≠ s.mb.gen) :
    runCommit c s = respond c stState noRecord s := by
  simp [runCommit, htime, hpend, hbit, hgen]

theorem runCommit_empty {c : Cmd} {s : State} (hpend : s.mb.pend = none) (hbit : bit c.payload 0 0 = false)
    (hstaging : s.mb.staging = none) : runCommit c s = respond c stBad noRecord s := by
  simp [runCommit, hpend, hbit, hstaging]

theorem runCommit_accepted {c : Cmd} {s : State} {st : Staging} {b : Nat} (hpend : s.mb.pend = none)
    (hgen : bit c.payload 0 0 = false ∨ u32 c.payload 4 = s.mb.gen) (hstaging : s.mb.staging = some st)
    (hrecs : st.full = true ∨ st.recs ≠ []) (htime : commitBoundary c s = (b, none))
    (hcheck : commitCheck s st.recs.reverse (buildTables (if st.full then {} else s.live) st.recs.reverse) = none) :
    runCommit c s = acceptCommit c st (buildTables (if st.full then {} else s.live) st.recs.reverse) b s := by
  have hgen' : ¬ (bit c.payload 0 0 = true ∧ u32 c.payload 4 ≠ s.mb.gen) := by
    rcases hgen with h | h <;> simp [h]
  have hrecs' : ¬ (st.full = false ∧ st.recs = []) := by
    rcases hrecs with h | h <;> simp [h]
  simp only [runCommit, hstaging, htime, hpend, Option.getD_some, hcheck, if_neg hgen', if_neg hrecs']
  simp

theorem setPhase_phase {n : Nat} {ph : CmdPhase} {s : State} : ∀ d ∈ (setPhase n ph s).mb.cmds, d.n = n → d.phase = ph := by
  intro d hd hn
  obtain ⟨e, -, rfl⟩ := List.mem_map.1 hd
  by_cases he : e.n = n
  · simp [he]
  · simp [he] at hn

/-- Settles O50: each clause is one branch of `runCommit`. -/
theorem commitRow : Obligations.CommitRow := by
  unfold Obligations.CommitRow
  refine ⟨?accepted, ?pending, ?wrongGen, ?empty⟩
  case accepted =>
    intro k s c st b hc hgate hpend hgen hstaging hrecs htime hcheck
    have hrun := runCommit_accepted hpend hgen hstaging hrecs htime hcheck
    have hexec := exec_mbCommit_starting hc hgate
    rw [hrun, acceptCommit] at hexec
    refine ⟨_, hexec, (mailKept_respondMid (.refl _) _ _ _).pend, (mailKept_respondMid (.refl _) _ _ _).staging, ?_,
      (mailKept_respondMid (.refl _) _ _ _).gen, setPhase_phase⟩
    rw [plant_respondMid]
    rfl
  case pending =>
    intro k s c hc hgate hpend htime hready
    exact next_commit_refused hc hgate (runCommit_pending htime hpend) hready
  case wrongGen =>
    intro k s c hc hgate hpend hbit hgen htime hready
    obtain ⟨t, hexec, ht⟩ := next_commit_refused hc hgate (runCommit_wrongGen htime hpend hbit hgen) hready
    exact ⟨t, hexec, hpend ▸ ht⟩
  case empty =>
    intro k s c hc hgate hpend hbit hstaging hready
    obtain ⟨t, hexec, ht⟩ := next_commit_refused hc hgate (runCommit_empty hpend hbit hstaging) hready
    rw [hpend, hstaging] at ht
    exact ⟨t, hexec, ht⟩

end Sys2Proof.Proofs
end

section
/-! SAFE entry (R15, R35, R417): what each part of it leaves of the mode, the cause, the role and the straps, and of the
mailbox. -/
namespace Sys2Proof.Proofs
open Sys2Proof.Machine Sys2Proof.Laws

/-- The mode, the cause of SAFE, the role and the power state. -/
def duty (s : State) : Mode × Nat × Role × PwState := (s.mode, s.safeCause, s.role, s.pw)

/-- What leaves the plant alone leaves these alone. -/
theorem duty_of_plant {s t : State} (h : t.plant = s.plant) : duty t = duty s := by
  have hduty := congrArg duty h
  exact hduty

@[simp] theorem duty_respondTo (n status : Nat) (res : Bytes) (s : State) : duty (respondTo n status res s) = duty s :=
  duty_of_plant (plant_respondTo n status res s)

@[simp] theorem duty_raiseIrq (b : Nat) (s : State) : duty (raiseIrq b s) = duty s := duty_of_plant (plant_raiseIrq b s)

@[simp] theorem duty_raiseAlarm (blk : Nat) (s : State) : duty (raiseAlarm blk s) = duty s :=
  duty_of_plant (plant_raiseAlarm blk s)

theorem duty_alarmIf (p : Prop) [Decidable p] (blk : Nat) (s : State) :
    duty (if p then raiseAlarm blk s else s) = duty s := by
  split
  · exact duty_raiseAlarm blk s
  · rfl

@[simp] theorem duty_lgEvent (code digest : Nat) (s : State) : duty (lgEvent code digest s) = duty s :=
  duty_of_plant (plant_lgEvent code digest s)

@[simp] theorem duty_lgCloseAll (s : State) : duty (lgCloseAll s) = duty s := duty_of_plant (plant_lgCloseAll s)

@[simp] theorem duty_safeAnswers (s : State) : duty (safeAnswers s) = duty s := duty_of_plant (plant_safeAnswers s)

@[simp] theorem duty_identAbandon (s : State) : duty (identAbandon s) = duty s := by
  unfold identAbandon
  split
  · rfl
  · dsimp only
    split
    · rw [duty_respondTo]; rfl
    · rfl

@[simp] theorem duty_fenceEval (s : State) : duty (fenceEval s) = duty s := by
  unfold fenceEval
  dsimp only
  split
  · rfl
  · split
    · rfl
    · rw [duty_identAbandon]; rfl

theorem duty_setMode (m : Mode) (s : State) : duty (setMode m s) = (m, s.safeCause, s.role, s.pw) := by
  unfold setMode
  split
  · next h => rw [duty, h]
  · simp only [duty_fenceEval, duty_raiseIrq, duty_lgEvent]
    rfl

theorem duty_setRole (r : Role) (s : State) : duty (setRole r s) = (s.mode, s.safeCause, r, s.pw) := by
  unfold setRole
  split
  · next h => rw [duty_fenceEval, duty, h]
  · have hevent : duty (raiseIrq 5 (lgEvent 0xFF04 (roleCode s.role + 256 * roleCode r + 65536 * s.tw.lastCause)
        { s with role := r })) = (s.mode, s.safeCause, r, s.pw) := by
      rw [duty_raiseIrq, duty_lgEvent]
      rfl
    dsimp only
    rw [duty_fenceEval]
    generalize raiseIrq 5 _ = t at hevent ⊢
    rw [← hevent]
    repeat' split
    all_goals rfl

theorem duty_swapEnd (result : Nat) (s : State) : duty (swapEnd result s) = duty s := by
  unfold swapEnd
  split
  · rfl
  · rw [duty_respondTo]; rfl

theorem duty_releaseChuck (cause : Nat) (s : State) :
    duty (releaseChuck cause s) = (s.mode, s.safeCause, .fenced, s.pw) := duty_setRole .fenced _

/-- A unit in a twin position may lose its role. -/
theorem duty_twinFault (s : State) : ∃ r, duty (twinFault s) = (s.mode, s.safeCause, r, s.pw) := by
  unfold twinFault
  split
  · exact ⟨s.role, rfl⟩
  · split
    · exact ⟨_, (duty_swapEnd 2 _).trans (duty_releaseChuck 1 s)⟩
    · dsimp only
      split
      · exact ⟨_, duty_setRole .fenced _⟩
      · exact ⟨s.role, rfl⟩

/-- Outside a twin position it changes nothing. -/
theorem twinFault_of_solo {s : State} (h : s.pw.slotSel = 2) : twinFault s = s := by
  simp [twinFault, twinPos, h]

@[simp] theorem duty_safeOutputs (s : State) : duty (safeOutputs s) = duty s := by
  unfold safeOutputs
  dsimp only
  split <;> rfl

@[simp] theorem duty_inOrder (rank : Nat) (s : State) : duty (inOrder rank s) = duty s := by
  unfold inOrder
  split <;> rfl

section Mail
variable {m : MbState} {s : State} (h : MailKept m s.mb)
include h

theorem mailKept_identAbandon : MailKept m (identAbandon s).mb := by
  unfold identAbandon
  split
  · exact h
  · dsimp only
    split
    · refine mailKept_respondTo ?_ _ _ _
      exact h
    · exact h

theorem mailKept_fenceEval : MailKept m (fenceEval s).mb := by
  unfold fenceEval
  dsimp only
  split
  · exact h
  · split
    · exact h
    · refine mailKept_identAbandon ?_
      exact h

theorem mailKept_setMode (x : Mode) : MailKept m (setMode x s).mb := by
  unfold setMode
  split
  · exact h
  · refine mailKept_fenceEval (mailKept_raiseIrq (mailKept_lgEvent ?_ _ _) 4)
    exact h

theorem mailKept_setRole (r : Role) : MailKept m (setRole r s).mb := by
  unfold setRole
  split
  · exact mailKept_fenceEval h
  · have hevent : MailKept m (raiseIrq 5 (lgEvent 0xFF04 (roleCode s.role + 256 * roleCode r + 65536 * s.tw.lastCause)
        { s with role := r })).mb := by
      refine mailKept_raiseIrq (mailKept_lgEvent ?_ _ _) 5
      exact h
    dsimp only
    apply mailKept_fenceEval
    generalize raiseIrq 5 _ = t at hevent ⊢
    repeat' split
    all_goals exact hevent

theorem mailKept_swapEnd (result : Nat) : MailKept m (swapEnd result s).mb := by
  unfold swapEnd
  split
  · exact h
  · refine mailKept_respondTo ?_ _ _ _
    exact h

theorem mailKept_leaseSend (paths : List TwinPath) (typ seq : Nat) : MailKept m (leaseSend paths typ seq s).mb := h

theorem mailKept_releaseChuck (cause : Nat) : MailKept m (releaseChuck cause s).mb := by
  unfold releaseChuck
  refine mailKept_leaseSend (mailKept_setRole ?_ .fenced) _ 3 0
  exact h

theorem mailKept_twinFault : MailKept m (twinFault s).mb := by
  unfold twinFault
  split
  · exact h
  · split
    · exact mailKept_swapEnd (mailKept_releaseChuck h 1) 2
    · dsimp only
      split
      · refine mailKept_setRole ?_ .fenced
        exact h
      · exact h

theorem mailKept_safeOutputs : MailKept m (safeOutputs s).mb := by
  unfold safeOutputs
  dsimp only
  split <;> exact h

end Mail

theorem mailKept_foldl {α : Type} {m : MbState} (f : State → α → State)
    (hf : ∀ (t : State) a, MailKept m t.mb → MailKept m (f t a).mb) (l : List α) :
    ∀ {s : State}, MailKept m s.mb → MailKept m (l.foldl f s).mb := by
  induction l with
  | nil => exact id
  | cons a l ih => exact fun h => ih (hf _ a h)

/-- The answers of R417. -/
theorem mailKept_safeAnswers {m : MbState} {s : State} (h : MailKept m s.mb) : MailKept m (safeAnswers s).mb := by
  unfold safeAnswers
  dsimp only
  refine mailKept_foldl _ (fun t c ht => mailKept_respondTo ht _ _ _) _ ?_
  exact ⟨h.pend, h.staging, h.stageBytes, h.gen, h.irq⟩

/-- What SAFE entry leaves: the mode, the causes, HW_IRQ_SAFE, no pending commit and no staging area; a SOLO unit outside a
twin position stays SOLO. -/
structure SafeEntered (causes : Nat) (s t : State) : Prop where
  mode : t.mode = .safe
  cause : t.safeCause = causes
  irq : nbit t.mb.irqStatus 3 = true
  pend : t.mb.pend = none
  staging : t.mb.staging = none
  solo : s.role = .solo → s.pw.slotSel = 2 → t.role = .solo

/-- The state in which SAFE entry answers the commands: mode, cause and HW_IRQ_SAFE stand (R35). -/
def safeStanding (causes : Nat) (s : State) : State :=
  lgCloseAll (lgEvent 0xFF03 causes (raiseIrq 3 (setMode .safe s)))

theorem duty_safeStanding (causes : Nat) (s : State) : duty (safeStanding causes s) = (.safe, s.safeCause, s.role, s.pw) := by
  simp [safeStanding, duty_setMode]

theorem safeStanding_irq (causes : Nat) (s : State) : nbit (safeStanding causes s).mb.irqStatus 3 = true := by
  have hkept := mailKept_lgCloseAll (mailKept_lgEvent (.refl (raiseIrq 3 (setMode .safe s)).mb) 0xFF03 causes)
  exact hkept.irq 3 (raiseIrq_sets 3 _)

/-- SAFE entry after the mode has changed: the answers, the commit and the staging area ended, the Chuck and the outputs. -/
def safeEnd (s : State) : State :=
  safeOutputs (twinFault { safeAnswers s with
    mb := { (safeAnswers s).mb with staging := none, stageBytes := 0, image := none, pend := none } })

theorem duty_safeEnd (s : State) : ∃ r, duty (safeEnd s) = (s.mode, s.safeCause, r, s.pw) ∧
    (s.pw.slotSel = 2 → r = s.role) := by
  have hans : duty (safeAnswers s) = duty s := duty_safeAnswers s
  simp only [duty, Prod.mk.injEq] at hans
  obtain ⟨hmode, hcause, hrole, hpw⟩ := hans
  by_cases hslot : s.pw.slotSel = 2
  · refine ⟨s.role, ?_, fun _ => rfl⟩
    rw [safeEnd, duty_safeOutputs, twinFault_of_solo (hpw ▸ hslot)]
    exact duty_safeAnswers s
  · obtain ⟨r, hr⟩ := duty_twinFault { safeAnswers s with
      mb := { (safeAnswers s).mb with staging := none, stageBytes := 0, image := none, pend := none } }
    refine ⟨r, ?_, fun h => absurd h hslot⟩
    rw [safeEnd, duty_safeOutputs, hr, hmode, hcause, hpw]

theorem mail_safeEnd (s : State) : (safeEnd s).mb.pend = none ∧ (safeEnd s).mb.staging = none ∧
    ∀ b, nbit s.mb.irqStatus b = true → nbit (safeEnd s).mb.irqStatus b = true := by
  have hans := mailKept_safeAnswers (.refl s.mb)
  have hend := mailKept_safeOutputs (mailKept_twinFault (s := { safeAnswers s with
    mb := { (safeAnswers s).mb with staging := none, stageBytes := 0, image := none, pend := none } }) (.refl _))
  exact ⟨hend.pend, hend.staging, fun b hb => hend.irq b (hans.irq b hb)⟩

/-- The state at the start of SAFE entry: its cause, its cycle and the end of a HUSH in progress. -/
def safeStart (causes : Nat) (s : State) : State :=
  { s with safeCause := causes, safeAt := eventCycle s, pw := { s.pw with
    hush := if s.pw.hush == .waking && Nat.land causes fScrub == 0 then .waking else .awake, wakeHeld := false, safeOnWake := false } }

theorem enterSafe_eq (causes : Nat) (s : State) : enterSafe causes s = safeEnd (safeStanding causes (safeStart causes s)) := by
  unfold enterSafe safeEnd safeStanding safeStart
  rfl

theorem enterSafe_entered (causes : Nat) (s : State) : SafeEntered causes s (enterSafe causes s) := by
  obtain ⟨s1, hs1, hcause, hrole, hslot⟩ : ∃ s1, safeStart causes s = s1 ∧ s1.safeCause = causes ∧ s1.role = s.role ∧
      s1.pw.slotSel = s.pw.slotSel := ⟨_, rfl, rfl, rfl, rfl⟩
  have hstand := duty_safeStanding causes s1
  simp only [duty, Prod.mk.injEq] at hstand
  obtain ⟨hmode2, hcause2, hrole2, hpw2⟩ := hstand
  obtain ⟨r, hr, hsolo⟩ := duty_safeEnd (safeStanding causes s1)
  obtain ⟨hpend, hstaging, hirq⟩ := mail_safeEnd (safeStanding causes s1)
  simp only [duty, Prod.mk.injEq] at hr
  obtain ⟨hmode, hcauseEnd, hroleEnd, _⟩ := hr
  rw [enterSafe_eq, hs1]
  refine ⟨hmode.trans hmode2, (hcauseEnd.trans hcause2).trans hcause, hirq 3 (safeStanding_irq causes s1), hpend, hstaging,
    fun hs hsel => ?_⟩
  have hsel2 : (safeStanding causes s1).pw.slotSel = 2 := by rw [hpw2, hslot, hsel]
  rw [hroleEnd, hsolo hsel2, hrole2, hrole, hs]

/-! ### FAULT events -/

theorem raiseAlarm_sets (blk : Nat) (s : State) : nbit (raiseAlarm blk s).mb.alarmBlocks blk = true := by
  unfold raiseAlarm raiseIrq
  split <;> exact nbit_setBit_self _ _

/-- The modes in which a FAULT enters SAFE at once. -/
def Running (m : Mode) : Prop := m = .configure ∨ m = .freerun ∨ m = .acquire ∨ m = .locked ∨ m = .holdover

theorem raiseFault_of_running {s : State} (h : Running s.mode) (causes : Nat) :
    raiseFault causes s = enterSafe causes (inOrder rankFault s) := by
  unfold raiseFault
  rcases h with h | h | h | h | h <;> rw [h]

theorem raiseFault_entered {s : State} (h : Running s.mode) (causes : Nat) : SafeEntered causes s (raiseFault causes s) := by
  rw [raiseFault_of_running h]
  have he := enterSafe_entered causes (inOrder rankFault s)
  have hd := duty_inOrder rankFault s
  refine ⟨he.mode, he.cause, he.irq, he.pend, he.staging, fun hsolo hslot => he.solo ?_ ?_⟩
  · exact (congrArg (·.2.2.1) hd).trans hsolo
  · exact (congrArg (·.2.2.2.slotSel) hd).trans hslot

/-- A row that raises a FAULT in such a mode. -/
theorem next_fault {i : Instr} {s : State} {causes : Nat} (hexec : exec i s = .next (raiseFault causes s)) (h : Running s.mode) :
    Next i s fun t => t.mode = .safe ∧ t.safeCause = causes ∧ nbit t.mb.irqStatus 3 = true ∧ t.mb.pend = none ∧
      t.mb.staging = none ∧ (s.role = .solo → s.pw.slotSel = 2 → t.role = .solo) := by
  have he := raiseFault_entered h causes
  exact ⟨_, hexec, he.mode, he.cause, he.irq, he.pend, he.staging, he.solo⟩

/-- The second reading in a row of 115 C raises the FAULT (R486). -/
theorem tempReading_trip {s : State} {c p : Int} (hreset : s.pw.inReset = false) (hmode : Running s.mode) (hc : 11500 ≤ c)
    (htemp : s.pw.temp = some p) (hp : 11500 ≤ p) : SafeEntered fTemp s (tempReading c s) := by
  obtain ⟨t, w, hrun, hduty, hslot⟩ : ∃ t w, tempReading c s = raiseFault fTemp t ∧
      duty t = (s.mode, s.safeCause, s.role, w) ∧ w.slotSel = s.pw.slotSel := by
    simp only [tempReading, hreset, htemp, hc, hp, ge_iff_le, decide_true, Bool.and_self, if_true, Bool.false_eq_true, if_false]
    refine ⟨_, _, rfl, duty_alarmIf _ _ _, ?_⟩
    exact Eq.refl s.pw.slotSel
  simp only [duty, Prod.mk.injEq] at hduty
  obtain ⟨hm, _, hrole, hw⟩ := hduty
  have he := raiseFault_entered (s := t) (hm ▸ hmode) fTemp
  rw [hrun]
  exact ⟨he.mode, he.cause, he.irq, he.pend, he.staging, fun hs hsel => he.solo (hrole.trans hs) (hw ▸ hslot.trans hsel)⟩

/-- A FAULT of a later fabric cycle of SAFE is counted. -/
theorem raiseFault_counted {s : State} (hmode : s.mode = .safe) (hlater : s.evtAt < fabricCycle s) (causes : Nat) :
    raiseFault causes s =
      lgEvent 0xFF03 causes { s with evtAt := fabricCycle s, evtRank := rankFault, faultCount := s.faultCount + 1 } := by
  have hcycle : eventCycle s = fabricCycle s := if_neg (by omega)
  have hne : fabricCycle s ≠ s.evtAt := by omega
  simp [raiseFault, hmode, safeFault, inOrder, hcycle, hne, hne.symm]

/-- A FAULT of the cycle of the entry adds its cause to it (log entry 88). -/
theorem raiseFault_joins {s : State} (hmode : s.mode = .safe) (hcycle : fabricCycle s ≤ s.evtAt) (hrank : s.evtRank = rankFault)
    (hsafe : s.safeAt = s.evtAt) (causes : Nat) :
    raiseFault causes s = lgAddCause causes { s with safeCause := Nat.lor s.safeCause causes } := by
  have hevent : eventCycle s = s.evtAt := by
    unfold eventCycle
    split <;> omega
  have horder : inOrder rankFault s = s := by
    simp only [inOrder, hevent, hrank, Nat.lt_irrefl, and_false, if_false]
    rw [← hrank]
  simp [raiseFault, hmode, safeFault, hevent, hrank, horder, hsafe]

theorem exec_lockstepMismatch (s : State) : exec .lockstepMismatch s = .next (raiseFault fLockstep s) := rfl

/-- Settles O10: a FAULT in a running mode by the law of SAFE entry, one in SAFE by the two laws of `safeFault`. -/
theorem faultRows : Obligations.FaultRows := by
  unfold Obligations.FaultRows
  refine ⟨fun s h => next_fault rfl h, fun s h => next_fault rfl h, fun s h => next_fault rfl h, fun s r hreset h => ?supply,
    fun s h => next_fault rfl h, ?temp, ?counted, ?joins, ?boot, ?correctable⟩
  case supply => exact next_fault (by simp [exec, execSupplyMonitorTrip, hreset, fSupply]) h
  case temp =>
    intro s c p hreset hmode hc htemp hp
    have he := tempReading_trip hreset hmode hc htemp hp
    exact ⟨_, rfl, he.mode, he.cause, he.irq⟩
  case counted =>
    intro s hmode hlater
    obtain ⟨l, hl⟩ := ledgerOnly_lgEvent 0xFF03 fLockstep
      { s with evtAt := fabricCycle s, evtRank := rankFault, faultCount := s.faultCount + 1 }
    have hnext : exec .lockstepMismatch s = _ := (exec_lockstepMismatch s).trans
      (congrArg _ ((raiseFault_counted hmode hlater fLockstep).trans hl))
    exact ⟨_, hnext, hmode, rfl, rfl, rfl⟩
  case joins =>
    intro s hmode hcycle hrank hsafe
    have hnext : exec .lockstepMismatch s = _ := (exec_lockstepMismatch s).trans
      (congrArg _ (raiseFault_joins hmode hcycle hrank hsafe fLockstep))
    exact ⟨_, hnext, hmode, rfl, rfl, rfl⟩
  case boot =>
    intro s h
    simp [exec, execWatchdogExpiry, raiseFault, h]
  case correctable =>
    intro s hboot hhush
    have hmode := congrArg (·.1) (duty_raiseAlarm blkPW s)
    exact ⟨raiseAlarm blkPW s, by simp [exec, execEccError, hboot, hhush], hmode, raiseAlarm_sets blkPW s, raiseIrq_sets 2 _,
      plant_raiseAlarm blkPW s⟩

end Sys2Proof.Proofs
end

section
/-! The loop, holdover, the leap and the references that come in by wire (R117, R123, R129, R131, R139, R350). -/
namespace Sys2Proof.Proofs
open Sys2Proof.Machine Sys2Proof.Laws

/-- What leaves the plant alone leaves the tracking state alone. -/
theorem tk_of_plant {s t : State} (h : t.plant = s.plant) : t.tk = s.tk := by
  have htk := congrArg State.tk h
  exact htk

@[simp] theorem raiseAlarm_tk (blk : Nat) (s : State) : (raiseAlarm blk s).tk = s.tk := tk_of_plant (plant_raiseAlarm blk s)

@[simp] theorem raiseAlarm_mode (blk : Nat) (s : State) : (raiseAlarm blk s).mode = s.mode :=
  congrArg (·.1) (duty_raiseAlarm blk s)

@[simp] theorem lgEvent_tk (code digest : Nat) (s : State) : (lgEvent code digest s).tk = s.tk :=
  tk_of_plant (plant_lgEvent code digest s)

theorem lgEvent_spindle (code digest : Nat) (s : State) : (lgEvent code digest s).spindle = s.spindle := by
  obtain ⟨l, hl⟩ := ledgerOnly_lgEvent code digest s
  rw [hl]

/-! ### Candidates -/

theorem nth_modNth_self {α : Type} (d : α) (f : α → α) : ∀ {l : List α} {i : Nat}, i < l.length →
    nth d (modNth f l i) i = f (nth d l i)
  | [], _, h => absurd h (by simp)
  | _ :: _, 0, _ => rfl
  | _ :: l, i + 1, h => nth_modNth_self d f (l := l) (by simpa using h)

theorem Sized.cand {s : State} (h : Sized s) : s.tk.cand.length = 12 := by
  obtain ⟨_, _, hcand, _⟩ := h
  exact hcand

section Cand
variable {s : State} {i : Nat} (hsized : Sized s) (hi : i < 12)
include hsized hi

theorem candSt_modCand (f : CandState → CandState) : candSt (modCand i f s) i = f (candSt s i) := by
  have hlen : i < s.tk.cand.length := by rw [Sized.cand hsized]; exact hi
  exact nth_modNth_self {} f hlen

theorem setMeas_phase (v : Int) : (candSt (setMeas i v s) i).phase = deltaOf s i v := by
  rw [setMeas, candSt_modCand hsized hi]

theorem setMeas_st (v : Int) : (candSt (setMeas i v s) i).st = (candSt s i).st := by
  rw [setMeas, candSt_modCand hsized hi]

end Cand

/-- A candidate of a present signal is in service. -/
theorem presentCand_st {s : State} {typ i : Nat} (h : presentCand s typ = some i) :
    (candSt s i).st ≠ .off ∧ (candSt s i).st ≠ .noSignal := by
  unfold presentCand at h
  split at h
  · next j _ =>
    split at h
    · exact absurd h (by simp)
    · exact absurd h (by simp)
    · next hoff hno =>
      obtain rfl := Option.some.inj h
      exact ⟨hoff, hno⟩
  · exact absurd h (by simp)

theorem toNoSignal_st {s : State} {i : Nat} (hsized : Sized s) (hi : i < 12) : (candSt (toNoSignal i s) i).st = .noSignal := by
  have hst := congrArg CandState.st (candSt_modCand hsized hi (fun c => { c with st := .noSignal, hasFreq := false }))
  unfold toNoSignal
  dsimp only
  split <;> exact hst

theorem toNoSignal_mode (i : Nat) (s : State) : (toNoSignal i s).mode = s.mode := by
  unfold toNoSignal
  dsimp only
  split <;> rfl

/-- The loss of a candidate that is not selected (R117): it has no signal, with an ALARM. -/
theorem loseCand_unselected {s : State} {i : Nat} (hsized : Sized s) (hi : i < 12) (hoff : (candSt s i).st ≠ .off)
    (hno : (candSt s i).st ≠ .noSignal) (hsel : s.tk.selected ≠ some i) :
    (candSt (loseCand i s) i).st = .noSignal ∧ nbit (loseCand i s).mb.alarmBlocks 1 = true ∧ (loseCand i s).mode = s.mode := by
  obtain ⟨u, hlose, hu, hmode⟩ : ∃ u, loseCand i s = raiseAlarm blkTK (toNoSignal i u) ∧ Sized u ∧ u.mode = s.mode := by
    unfold loseCand
    split
    · next h => exact absurd h hoff
    · next h => exact absurd h hno
    · rw [if_neg hsel]
      exact ⟨_, rfl, hsized, rfl⟩
  rw [hlose]
  refine ⟨?_, raiseAlarm_sets blkTK _, ?_⟩
  · rw [candSt, raiseAlarm_tk]
    exact toNoSignal_st hu hi
  · rw [raiseAlarm_mode, toNoSignal_mode, hmode]

/-! ### The words of the loop -/

/-- The states differ in their synthesisers at most. -/
def HsOnly (s t : State) : Prop := ∃ h, t = { s with hs := h }

theorem hsOnly_modSyn (x : Syn) (f : SynState → SynState) {s t : State} : HsOnly s t → HsOnly s (modSyn x f t) := by
  rintro ⟨h, rfl⟩
  cases x <;> exact ⟨_, rfl⟩

/-- The loop writes words of synthesisers only. -/
theorem hsOnly_writeWords (lim : Nat) (y : Int) (s : State) : HsOnly s (writeWords lim y s) := by
  have hfold : ∀ (f : State → Group → State), (∀ t g, HsOnly s t → HsOnly s (f t g)) → ∀ (l : List Group) (t : State),
      HsOnly s t → HsOnly s (l.foldl f t) := by
    intro f hf l
    induction l with
    | nil => exact fun t h => h
    | cons g l ih => exact fun t h => ih _ (hf t g h)
  unfold writeWords
  refine hfold _ ?_ allGroups s ⟨s.hs, rfl⟩
  intro t g h
  dsimp only
  split
  · exact hsOnly_modSyn _ _ h
  · exact h

/-- What the loop's computation keeps: the candidates, the time of the computation, the mode and Spindle time. -/
def loopKey (s : State) : List CandState × Option Nat × Mode × Nat := (s.tk.cand, s.tk.loopLast, s.mode, s.spindle)

theorem loopKey_tkY (s : State) (y yi : Int) : loopKey { s with tk := { s.tk with y, yi } } = loopKey s := rfl

theorem loopKey_writeWords (lim : Nat) (y : Int) (s : State) : loopKey (writeWords lim y s) = loopKey s := by
  obtain ⟨h, hw⟩ := hsOnly_writeWords lim y s
  rw [hw]
  rfl

theorem loopKey_loopWrite (i : Nat) (s : State) : loopKey (loopWrite i s) = loopKey s := by
  unfold loopWrite
  split
  · exact loopKey_tkY s _ _
  · exact loopKey_writeWords _ _ _

theorem loopKey_trackLock (i : Nat) (s : State) : loopKey (trackLock i s) = loopKey s := rfl

theorem loopKey_holdoverLearn (s : State) : loopKey (holdoverLearn s) = loopKey s := by
  unfold holdoverLearn
  unfold loopKey
  dsimp only
  split
  · rfl
  · split <;> rfl

/-- A loop update that is due computes on the selected candidate, which is QUALIFIED. -/
theorem exec_loopUpdate {s : State} {i : Nat} {d : Int} (hreset : s.mb.resetBusy = none) (hdue : loopDue s = true)
    (hsel : s.tk.selected = some i) (hqual : (candSt s i).st = .qualified) (hmode : s.mode = .acquire ∨ s.mode = .locked) :
    exec (.loopUpdate d) s = .next (holdoverLearn (trackLock i (loopWrite i
      (setMeas i (measNow s i d) { s with tk := { s.tk with loopLast := some s.clock } })))) := by
  have hheld : loopHeld s = false := by simp [loopHeld, hreset]
  have hgone : selectedGone s = false := by simp [selectedGone, hsel, hqual]
  have hmodes : ¬(s.mode ≠ .acquire ∧ s.mode ≠ .locked) := by rcases hmode with h | h <;> simp [h]
  simp [exec, execLoopUpdate, hheld, hdue, hsel, hgone, hmodes]

/-- A value limited to a range lies in it. -/
theorem clampInt_mem {lo hi : Int} (h : lo ≤ hi) (v : Int) : lo ≤ clampInt lo hi v ∧ clampInt lo hi v ≤ hi := by
  unfold clampInt
  split
  · omega
  · split <;> omega

/-- The estimate after one update in HOLDOVER. -/
def holdoverNext (s : State) (centi : Int) : Int :=
  clampInt (-50000000000000000000) 50000000000000000000
    (clampInt (s.tk.yh - 10000000000000) (s.tk.yh + 10000000000000) (holdoverY s centi))

/-- The limits of Table TK-3 on a holdover estimate within 50 ppm. -/
theorem holdoverNext_limits {s : State} (hlo : -50000000000000000000 ≤ s.tk.yh) (hhi : s.tk.yh ≤ 50000000000000000000) (c : Int) :
    s.tk.yh - 10000000000000 ≤ holdoverNext s c ∧ holdoverNext s c ≤ s.tk.yh + 10000000000000 ∧
      -50000000000000000000 ≤ holdoverNext s c ∧ holdoverNext s c ≤ 50000000000000000000 := by
  have hinner := clampInt_mem (lo := s.tk.yh - 10000000000000) (hi := s.tk.yh + 10000000000000) (by omega) (holdoverY s c)
  unfold holdoverNext
  generalize clampInt (s.tk.yh - 10000000000000) (s.tk.yh + 10000000000000) (holdoverY s c) = w at hinner ⊢
  unfold clampInt
  split
  · omega
  · split <;> omega

theorem exec_holdoverUpdate {s : State} (hmode : s.mode = .holdover) (hreset : s.mb.resetBusy = none) (hrole : s.role ≠ .standby)
    (c : Int) : exec (.holdoverUpdate c) s = .next (writeWords 10000000000000 (holdoverNext s c)
      { s with tk := { s.tk with yh := holdoverNext s c, y := holdoverNext s c } }) := by
  have hheld : loopHeld s = false := by simp [loopHeld, hreset]
  have hgo : ¬(s.mode ≠ .holdover ∨ loopHeld s = true) := by simp [hmode, hheld]
  simp only [exec, execHoldoverUpdate, if_neg hgo, if_neg hrole]
  rfl

theorem leapNow_due {s : State} (hpend : s.tk.leapPend ≠ 0) (hat : s.tk.leapAt ≤ secOf s.spindle) :
    (leapNow s).tk.utcNow = s.tk.utcNow + (if s.tk.leapPend = 1 then 1 else -1) ∧ (leapNow s).tk.leapPend = 0 ∧
      (leapNow s).spindle = s.spindle := by
  unfold leapNow
  rw [if_pos ⟨hpend, hat⟩]
  dsimp only
  rw [lgEvent_tk, lgEvent_spindle]
  exact ⟨rfl, rfl, rfl⟩

/-! ### A window of the video reference that holds the template (R129) -/

theorem videoFound_misses (i : Nat) (w : VideoWindow) (s : State) : (videoFound i w s).tk.videoMisses = 0 := by
  unfold videoFound
  dsimp only
  split
  · rfl
  · split <;> rfl

theorem videoFound_tk (i : Nat) (w : VideoWindow) (s : State) : { videoFound i w s with tk := s.tk } = s := by
  unfold videoFound
  dsimp only
  split
  · rfl
  · split <;> rfl

theorem videoFound_coarse (i : Nat) {w : VideoWindow} (s : State) (hj : w.j = 0) :
    (videoFound i w s).tk.videoCoarse = some w.late ∧ (videoFound i w s).tk.cand = s.tk.cand := by
  simp [videoFound, hj]

theorem videoFound_fine {s : State} {i : Nat} {w : VideoWindow} {a : Int} (hsized : Sized s) (hi : i < 12) (hj : w.j ≠ 0)
    (ha : s.tk.videoCoarse = some a) : (candSt (videoFound i w s) i).phase =
      deltaOf s i (-(videoLate (candCfg s.live i).vfmt a w.icorr w.qcorr)) := by
  have hphase := setMeas_phase (s := { s with tk := { s.tk with videoMisses := 0 } }) hsized hi
    (-(videoLate (candCfg s.live i).vfmt a w.icorr w.qcorr))
  simp only [videoFound, hj, ha, if_false]
  exact hphase

/-- Settles O16: a clause per row, by the laws of the operation that it runs. -/
theorem loopAndHoldover : Obligations.LoopAndHoldover := by
  unfold Obligations.LoopAndHoldover
  refine ⟨?loop, ?notDue, ?unselected, ?holdover, ?aged, ?leapForward, ?leapBack, ?pps, ?wclk, ?video, ?videoLost⟩
  case loop =>
    intro s i d hreset hdue hsel hqual hsized hi hmode
    let s1 : State := { s with tk := { s.tk with loopLast := some s.clock } }
    have hkey : loopKey (holdoverLearn (trackLock i (loopWrite i (setMeas i (measNow s i d) s1)))) =
        loopKey (setMeas i (measNow s i d) s1) := by
      rw [loopKey_holdoverLearn, loopKey_trackLock, loopKey_loopWrite]
    simp only [loopKey, Prod.mk.injEq] at hkey
    obtain ⟨hcand, hlast, hm, hsp⟩ := hkey
    refine ⟨_, exec_loopUpdate hreset hdue hsel hqual hmode, ?_, hlast, hm, hsp⟩
    rw [candSt, hcand]
    exact setMeas_phase (s := s1) hsized hi (measNow s i d)
  case notDue =>
    intro s d hdue
    simp [exec, execLoopUpdate, hdue]
  case unselected =>
    intro s d hsel
    simp [exec, execLoopUpdate, hsel]
  case holdover =>
    intro s c hmode hreset hrole hlo hhi
    obtain ⟨h, hw⟩ := hsOnly_writeWords 10000000000000 (holdoverNext s c)
      { s with tk := { s.tk with yh := holdoverNext s c, y := holdoverNext s c } }
    obtain ⟨h1, h2, h3, h4⟩ := holdoverNext_limits hlo hhi c
    have hexec : exec (.holdoverUpdate c) s = _ := (exec_holdoverUpdate hmode hreset hrole c).trans (congrArg _ hw)
    exact ⟨_, hexec, rfl, h1, h2, h3, h4, hmode⟩
  case aged =>
    intro s haged hlist hlast
    refine ⟨raiseAlarm blkTK { s with tk := { s.tk with hoAged := true } }, if_pos ⟨haged, hlist, hlast⟩, ?_, raiseAlarm_sets _ _, ?_⟩
    · rw [raiseAlarm_tk]
    · rw [raiseAlarm_mode]
  case leapForward =>
    intro s hpend hat
    obtain ⟨hutc, hzero, hsp⟩ := leapNow_due (by simp [hpend]) hat
    exact ⟨_, rfl, by simpa [hpend] using hutc, hzero, hsp⟩
  case leapBack =>
    intro s hpend hat
    obtain ⟨hutc, hzero, hsp⟩ := leapNow_due (by simp [hpend]) hat
    exact ⟨_, rfl, by simpa [hpend, Int.sub_eq_add_neg] using hutc, hzero, hsp⟩
  case pps =>
    intro s i f hpresent hsized hi
    refine ⟨setMeas i (-f) { s with tk := { s.tk with ppsLast := some s.clock } }, ?_, ?_, rfl, ?_, rfl⟩
    · simp [exec, execPpsInEdge, hpresent]
    · exact setMeas_phase (s := { s with tk := { s.tk with ppsLast := some s.clock } }) hsized hi (-f)
    · exact setMeas_st (s := { s with tk := { s.tk with ppsLast := some s.clock } }) hsized hi (-f)
  case wclk =>
    intro s i a hpresent hsized hi hgood
    obtain ⟨u, hu⟩ : ∃ u : State, u = { s with
      dg := { s.dg with wclk := List.take 5 (a :: s.dg.wclk) }, tk := { s.tk with wclkLast := some s.clock } } := ⟨_, rfl⟩
    have husized : Sized u := hu ▸ hsized
    refine ⟨setMeas i (-(a : Int)) u, ?_, ?_, ?_, ?_⟩
    · simp only [exec, execWclkInEdge, hpresent, hgood, hu]
      rfl
    · rw [setMeas_phase husized hi, hu]
      rfl
    · rw [hu]
      rfl
    · rw [setMeas_st husized hi, hu]
      rfl
  case video =>
    intro s i w hpresent hsized hi hbad htemplate
    have hexec : exec (.videoRefWindow w) s = .next (videoFound i w s) := by
      simp [exec, execVideoRefWindow, hpresent, hbad, htemplate]
    exact ⟨_, hexec, videoFound_misses i w s, videoFound_coarse i s, fun hj a ha => videoFound_fine hsized hi hj ha,
      videoFound_tk i w s⟩
  case videoLost =>
    intro s i w hpresent hsized hi hbad htemplate hmisses hsel
    obtain ⟨hoff, hno⟩ := presentCand_st hpresent
    refine ⟨loseCand i s, ?_, loseCand_unselected hsized hi hoff hno hsel⟩
    simp [exec, execVideoRefWindow, hpresent, hbad, htemplate, hmisses]

end Sys2Proof.Proofs
end

section
/-! What no operation of the mailbox, of the ledger, of the tracking loop or of a port touches: the power state, the data
plane, the live tables and the cause of SAFE. -/
namespace Sys2Proof.Proofs
open Sys2Proof.Machine Sys2Proof.Laws

/-- The power state, the data plane, the live tables and the cause of SAFE, as one value. -/
def viewOf (pw : PwState) (plane : DataPlane) (live : Tables) (cause : Nat) : PwState × DataPlane × Tables × Nat :=
  (pw, plane, live, cause)

/-- Those of a state. -/
abbrev powerView (s : State) := viewOf s.pw s.dataPlane s.live s.safeCause

theorem powerView_iff {s t : State} : powerView t = powerView s ↔
    t.pw = s.pw ∧ t.dataPlane = s.dataPlane ∧ t.live = s.live ∧ t.safeCause = s.safeCause := by
  simp only [powerView, viewOf, Prod.mk.injEq]

theorem pw_of_view {s t : State} (h : powerView t = powerView s) : t.pw = s.pw := (powerView_iff.1 h).1
theorem dataPlane_of_view {s t : State} (h : powerView t = powerView s) : t.dataPlane = s.dataPlane := (powerView_iff.1 h).2.1
theorem live_of_view {s t : State} (h : powerView t = powerView s) : t.live = s.live := (powerView_iff.1 h).2.2.1
theorem safeCause_of_view {s t : State} (h : powerView t = powerView s) : t.safeCause = s.safeCause :=
  (powerView_iff.1 h).2.2.2

theorem view_of_plant {s t : State} (h : t.plant = s.plant) : powerView t = powerView s := by
  have hview := congrArg (fun u : State => powerView u) h
  exact hview

@[simp] theorem view_ite (c : Prop) [Decidable c] (a b : State) :
    powerView (if c then a else b) = if c then powerView a else powerView b := by
  split <;> rfl

@[simp] theorem view_foldl {α : Type} (f : State → α → State) (l : List α) (s : State)
    (h : ∀ t a, powerView (f t a) = powerView t) : powerView (l.foldl f s) = powerView s := by
  induction l generalizing s with
  | nil => rfl
  | cons a l ih => rw [List.foldl_cons, ih, h]

/-! ### Answers, the ledger and the mode -/

@[simp] theorem view_raiseIrq (b : Nat) (s : State) : powerView (raiseIrq b s) = powerView s := view_of_plant (plant_raiseIrq b s)

@[simp] theorem view_raiseAlarm (blk : Nat) (s : State) : powerView (raiseAlarm blk s) = powerView s :=
  view_of_plant (plant_raiseAlarm blk s)

@[simp] theorem view_lgEvent (code digest : Nat) (s : State) : powerView (lgEvent code digest s) = powerView s :=
  view_of_plant (plant_lgEvent code digest s)

@[simp] theorem view_lgCloseAll (s : State) : powerView (lgCloseAll s) = powerView s := view_of_plant (plant_lgCloseAll s)

@[simp] theorem view_respond (c : Cmd) (status : Nat) (res : Bytes) (s : State) :
    powerView (respond c status res s) = powerView s := view_of_plant (plant_respond c status res s)

@[simp] theorem view_respondTo (n status : Nat) (res : Bytes) (s : State) : powerView (respondTo n status res s) = powerView s :=
  view_of_plant (plant_respondTo n status res s)

@[simp] theorem view_respondAll (ns : List Nat) (status : Nat) (res : Bytes) (s : State) :
    powerView (respondAll ns status res s) = powerView s := view_of_plant (plant_respondAll ns status res s)

@[simp] theorem view_respondDup (c : Cmd) (s : State) : powerView (respondDup c s) = powerView s :=
  view_of_plant (plant_respondDup c s)

@[simp] theorem view_setSeq (origin n : Nat) (s : State) : powerView (setSeq origin n s) = powerView s :=
  view_of_plant (plant_setSeq origin n s)

@[simp] theorem view_inOrder (rank : Nat) (s : State) : powerView (inOrder rank s) = powerView s := by simp [powerView, inOrder]

@[simp] theorem view_identAbandon (s : State) : powerView (identAbandon s) = powerView s := by
  unfold identAbandon
  split
  · rfl
  · dsimp only
    split
    · exact view_respondTo _ _ _ _
    · rfl

@[simp] theorem view_fenceEval (s : State) : powerView (fenceEval s) = powerView s := by simp [powerView, fenceEval]

@[simp] theorem view_setMode (m : Mode) (s : State) : powerView (setMode m s) = powerView s := by simp [powerView, setMode]

/-- The ledger on its way into flash. -/
@[simp] theorem view_lgStore (s : State) : powerView (lgStore s) = powerView s := by
  unfold lgStore
  split
  · rfl
  · rfl
  · refine (view_of_plant (plant_lgFlushStep _)).trans ((view_of_plant (plant_lgFullEvent _ _)).trans
      ((view_of_plant (plant_lgAlarm _)).trans ((view_of_plant (plant_lgWrap _)).trans ?_)))
    simp [powerView, laneSend]

@[simp] theorem view_lgStoreAll : ∀ (n : Nat) (s : State), powerView (lgStoreAll n s) = powerView s
  | 0, _ => rfl
  | n + 1, s => by
    unfold lgStoreAll
    split
    · rfl
    · rw [view_lgStoreAll n, view_lgStore]

@[simp] theorem view_lgDrain (s : State) : powerView (lgDrain s) = powerView s := view_lgStoreAll _ s

/-! ### Commands are consumed -/

@[simp] theorem view_authFail (i : Nat) (s : State) : powerView (authFail i s) = powerView s := rfl

@[simp] theorem view_accessCheck (sl : Bytes) (c : Cmd) (s : State) : powerView (accessCheck sl c s).2 = powerView s := by
  unfold accessCheck
  dsimp only
  (repeat' split) <;> simp [powerView, modCred]

@[simp] theorem view_takeSlot (sl : Bytes) (origin ringNo : Nat) (s : State) :
    powerView (takeSlot sl origin ringNo s) = powerView s := by
  unfold takeSlot
  extract_lets c m1 s1 a
  have hs1 : powerView s1 = powerView s := rfl
  have ha : powerView a.2 = powerView s := view_accessCheck sl c s1
  split
  · rw [view_respondDup, hs1]
  · split
    · rw [view_respond, hs1]
    · split
      · rw [view_respond, ha]
      · split
        · rw [view_respond, ha]
        · exact ha

@[simp] theorem view_takeHost (s : State) : powerView (takeHost s) = powerView s := by simp [powerView, takeHost]

@[simp] theorem view_takeRing (s : State) : powerView (takeRing s) = powerView s := by
  unfold takeRing
  split
  · rfl
  · exact view_takeSlot _ _ _ _

@[simp] theorem view_consumeGo : ∀ (n : Nat) (s : State), powerView (consumeGo n s) = powerView s
  | 0, _ => rfl
  | n + 1, s => by
    unfold consumeGo
    split
    · rfl
    · split
      · rw [view_consumeGo n, view_takeRing]
      · split
        · rw [view_consumeGo n, view_takeHost]
        · rfl

@[simp] theorem view_consume (s : State) : powerView (consume s) = powerView s := view_consumeGo _ s

/-! ### Synthesisers -/

@[simp] theorem view_modSyn (x : Syn) (f : SynState → SynState) (s : State) : powerView (modSyn x f s) = powerView s := by
  cases x <;> rfl

@[simp] theorem view_closeGates (x : Syn) (s : State) : powerView (closeGates x s) = powerView s := by
  simp [powerView, closeGates]

@[simp] theorem view_startLock (x : Syn) (s : State) : powerView (startLock x s) = powerView s := by
  simp [powerView, startLock, bandSearch, drawFree]

@[simp] theorem view_relockOff (x : Syn) (s : State) : powerView (relockOff x s) = powerView s := by simp [powerView, relockOff]

@[simp] theorem view_cancelHostMoves (x : Syn) (s : State) : powerView (cancelHostMoves x s) = powerView s := by
  simp [powerView, cancelHostMoves, cancelMove]

/-! ### A candidate is lost, a port and its PTP start -/

@[simp] theorem view_cancelLoopMoves (s : State) : powerView (cancelLoopMoves s) = powerView s := by
  simp [powerView, cancelLoopMoves, cancelLoop]

@[simp] theorem view_moveGroups (ps : Int) (fixed : Option Nat) (s : State) :
    powerView (moveGroups ps fixed s) = powerView s := by
  simp [powerView, moveGroups, groupMove, startMove]

@[simp] theorem view_hitlessSwitch (i : Nat) (s : State) : powerView (hitlessSwitch i s) = powerView s := by
  simp [powerView, hitlessSwitch, selectCand]

@[simp] theorem view_holdoverEntry (from6 : Bool) (s : State) : powerView (holdoverEntry from6 s) = powerView s := by
  simp [powerView, holdoverEntry]

@[simp] theorem view_selectedLost (declared from6 : Bool) (s : State) :
    powerView (selectedLost declared from6 s) = powerView s := by
  unfold selectedLost
  dsimp only
  split
  · exact view_inOrder rankLoss s
  · split
    · exact (view_hitlessSwitch _ _).trans (view_inOrder rankLoss s)
    · exact (view_holdoverEntry _ _).trans (view_inOrder rankLoss s)

@[simp] theorem view_toNoSignal (i : Nat) (s : State) : powerView (toNoSignal i s) = powerView s := by
  simp [powerView, toNoSignal]

@[simp] theorem view_loseCand (i : Nat) (s : State) : powerView (loseCand i s) = powerView s := by
  unfold loseCand
  split
  · rfl
  · rfl
  · simp [powerView]

@[simp] theorem view_losePtp (n : Nat) (s : State) : powerView (losePtp n s) = powerView s := by
  unfold losePtp
  split
  · exact view_loseCand _ s
  · rfl

@[simp] theorem view_modPtp (n : Nat) (f : PtpState → PtpState) (s : State) : powerView (modPtp n f s) = powerView s := by
  simp [powerView, modPtp]

@[simp] theorem view_ptpStart (n : Nat) (s : State) : powerView (ptpStart n s) = powerView s := by
  simp [powerView, ptpStart, ptpEnter]

@[simp] theorem view_portStart (n : Nat) (s : State) : powerView (portStart n s) = powerView s := by simp [powerView, portStart]

/-! ### Domains and the data plane -/

@[simp] theorem view_psWait (v : Bool) (s : State) : powerView (psWait v s) = powerView s := rfl
@[simp] theorem view_txStop (s : State) : powerView (txStop s) = powerView s := rfl
@[simp] theorem view_holdWait (v : Bool) (s : State) : powerView (holdWait v s) = powerView s := rfl

@[simp] theorem view_vsynOff (s : State) : powerView (vsynOff s) = powerView s := by simp [powerView, vsynOff, stopVclk]

@[simp] theorem view_domStarts (d : Nat) (up : Bool) (s : State) : powerView (domStarts d up s) = powerView s := by
  unfold domStarts
  split <;> simp [powerView, clearRef, modPair]

@[simp] theorem view_domUp (d : Nat) (s : State) : powerView (domUp d s) = powerView s := by
  unfold domUp
  split <;> simp [powerView, pairUp, setRef, modPair]

@[simp] theorem view_modSeq (inj : Bool) (f : SeqRun → SeqRun) (s : State) : powerView (modSeq inj f s) = powerView s := by
  simp [powerView, modSeq]

@[simp] theorem view_passesOff (s : State) : powerView (passesOff s) = powerView s := by simp [powerView, passesOff]

@[simp] theorem view_endPass (inj : Bool) (s : State) : powerView (endPass inj s) = powerView s := by
  unfold endPass
  extract_lets q s1 s2 next
  have hs1 : powerView s1 = powerView s := by
    simp only [s1]
    split
    · rfl
    · split
      · rfl
      · exact view_modSeq _ _ s
  have hs2 : powerView s2 = powerView s := (view_modSeq _ _ s1).trans hs1
  clear_value s2
  split <;> exact hs2

@[simp] theorem view_stopMclk (s : State) : powerView (stopMclk s) = powerView s := by simp [powerView, stopMclk]

@[simp] theorem view_hushSyns (s : State) : powerView (hushSyns s) = powerView s := by simp [powerView, hushSyns]

@[simp] theorem view_identStart (cmd : Option Nat) (s : State) : powerView (identStart cmd s) = powerView s := rfl

@[simp] theorem view_wakeHp (s : State) : powerView (wakeHp s) = powerView s := by simp [powerView, wakeHp]

end Sys2Proof.Proofs
end

section
/-! A mode that the loss of a candidate does not leave stays at the start of a port, of a domain and of a boot. -/
namespace Sys2Proof.Proofs
open Sys2Proof.Machine Sys2Proof.Laws

theorem mode_of_key {s t : State} (h : fkey t = fkey s) : t.mode = s.mode :=
  congrArg (fun k : Role × Mode × Bool × Bool × Bool × Bool => k.2.1) h

theorem setMode_mode (m : Mode) (s : State) : (setMode m s).mode = m := by
  have hduty := duty_setMode m s
  simp only [duty, Prod.mk.injEq] at hduty
  exact hduty.1

/-- A mode that the loss of the selected candidate does not leave (R121). -/
def Steady (m : Mode) : Prop := m ≠ .acquire ∧ m ≠ .locked

section Steady
variable {m : Mode} (hm : Steady m) {s : State} (h : s.mode = m)
include hm h

theorem selectedLost_mode (declared from6 : Bool) : (selectedLost declared from6 s).mode = m := by
  have horder : (inOrder rankLoss s).mode = m := (mode_of_key (key_inOrder rankLoss s)).trans h
  have hsteady : (inOrder rankLoss s).mode ≠ .acquire ∧ (inOrder rankLoss s).mode ≠ .locked := horder ▸ hm
  unfold selectedLost
  dsimp only
  rw [if_pos hsteady]
  exact horder

theorem loseCand_mode (i : Nat) : (loseCand i s).mode = m := by
  unfold loseCand
  split
  · exact h
  · exact h
  · extract_lets tk s1 s2
    have hlost : s2.mode = m := by
      simp only [s2, s1, raiseAlarm_mode, toNoSignal_mode]
      exact h
    split
    · exact selectedLost_mode hm hlost _ _
    · exact hlost

theorem losePtp_mode (n : Nat) : (losePtp n s).mode = m := by
  unfold losePtp
  split
  · exact loseCand_mode hm h _
  · exact h

theorem ptpEnter_mode (n st : Nat) : (ptpEnter n st s).mode = m := by
  have hclear (f : PtpState → PtpState) : (modPtp n f s).mode = m := (mode_of_key (key_modPtp n f s)).trans h
  unfold ptpEnter
  dsimp only
  split
  · exact h
  · split
    · exact losePtp_mode hm (hclear _) n
    · exact hclear _

theorem ptpStart_mode (n : Nat) : (ptpStart n s).mode = m :=
  (mode_of_key (key_modPtp n _ _)).trans (ptpEnter_mode hm h n _)

omit hm in
theorem portStart_mode (n : Nat) : (portStart n s).mode = m := (mode_of_key (key_portStart n s)).trans h

theorem domStarts_mode (d : Nat) (up : Bool) : (domStarts d up s).mode = m := by
  have hvsyn : (if up then relockOff .vsyn s else vsynOff s).mode = m := by
    split
    · exact (mode_of_key (key_relockOff .vsyn s)).trans h
    · exact (mode_of_key (key_vsynOff s)).trans h
  unfold domStarts
  split
  case h_6 => exact hvsyn
  case h_7 | h_8 => exact ptpStart_mode hm (portStart_mode h _) _
  case h_9 => exact h
  all_goals split <;> exact h

end Steady

end Sys2Proof.Proofs
end

section
/-! Power, reset and the steps of the boot (R40 to R43, R54 to R64, R471). -/
namespace Sys2Proof.Proofs
open Sys2Proof.Machine Sys2Proof.Laws

/-- Step 8 of Sequence PW-1 has been reached: mode CONFIGURE with the boot done. -/
structure Booted (s : State) : Prop where
  mode : s.mode = .configure
  boot : s.pw.boot = .done

theorem steady_configure : Steady .configure := ⟨by decide, by decide⟩

theorem Booted.of_view {s t : State} (h : Booted s) (hmode : t.mode = s.mode) (hview : powerView t = powerView s) : Booted t :=
  ⟨hmode.trans h.mode, (congrArg PwState.boot (pw_of_view hview)).trans h.boot⟩

theorem Booted.domStarts {s : State} (h : Booted s) (d : Nat) (up : Bool) : Booted (domStarts d up s) :=
  h.of_view ((domStarts_mode steady_configure h.mode d up).trans h.mode.symm) (view_domStarts d up s)

theorem Booted.lgEvent {s : State} (h : Booted s) (code digest : Nat) : Booted (lgEvent code digest s) :=
  h.of_view (mode_of_key (key_lgEvent code digest s)) (view_lgEvent code digest s)

theorem Booted.portStart {s : State} (h : Booted s) (n : Nat) : Booted (portStart n s) :=
  h.of_view (portStart_mode rfl n) (view_portStart n s)

theorem bootDone_booted {s : State} (hboot : s.pw.boot = .verified) (hvsyn : s.hs.vsyn.lock = 4) (hnsyn : s.hs.nsyn.lock = 4) :
    Booted (bootDone true s) := by
  unfold bootDone
  rw [if_neg (not_not_intro hboot), if_neg (by decide), if_neg (by simp [hvsyn, hnsyn])]
  extract_lets pw1 s1 up s2 s3 s4
  have hmode : Booted (setMode .configure s1) :=
    ⟨setMode_mode .configure s1, congrArg PwState.boot (pw_of_view (view_setMode .configure s1))⟩
  have hdomains : Booted s2 := by
    refine List.foldlRecOn (motive := Booted) _ up hmode fun t ht d _ => ?_
    have hstart : Booted (if d = 8 then t else domStarts d true t) := by
      split
      · exact ht
      · exact ht.domStarts d true
    exact ⟨hstart.mode, hstart.boot⟩
  have hports : Booted s3 := ((hdomains.lgEvent _ _).portStart 0).portStart 1
  have hlogged : Booted s4 := by
    simp only [s4]
    split
    · exact hports.lgEvent _ _
    · exact hports
  exact hlogged.of_view (mode_of_key (key_consume s4)) (view_consume s4)

theorem exec_rstNLow_long {ns : Nat} {s : State} (hreset : s.pw.inReset = false) (hns : 1000 ≤ ns) :
    exec (.rstNLow ns) s = .next (pinReset ns s) := by
  have hlong : ¬ ns < 200 := by omega
  simp [exec, execRstNLow, pinLow, hlong, hns, hreset]

/-- The state that the release leaves before the fence follows: the straps latched and both DAC banks starting (R43, R62). -/
def released (x : Straps) (s : State) : State :=
  domBoot 5 (domBoot 4 { s with
    pw := { s.pw with inReset := false, boot := .released, slotSel := slotSelOf x, bootSel := x.bootSel,
                      ringEnd := x.ringEnd, panelKey := x.panelKey, panelNow := x.panelKey },
    mode := .boot, role := if slotSelOf x = 2 then .solo else .fenced, fp := { s.fp with jackSince := s.clock } })

theorem resetRelease_due {x : Straps} {s : State} (hreset : s.pw.inReset = true) (hrails : s.pw.railsUp = true)
    (hdue : s.pw.releaseAt ≤ s.clock) : resetRelease x s = fenceEval (released x s) := by
  have hnow : ¬ s.clock < s.pw.releaseAt := by omega
  exact if_neg (by simp [hreset, hrails, hnow])

theorem bootSlot_retried {s : State} {k : Nat} (hfirst : s.pt.rolledBack = none) :
    bootSlot { s with pt := { s.pt with rolledBack := some k } } = !bootSlot s := by
  have hpref : prefB { s.pt with rolledBack := some k } = prefB s.pt := rfl
  simp [bootSlot, hfirst, hpref]

/-- The verification of a slot notes its result in the slot and nowhere else. -/
theorem modFwSlot_frame (slotB : Bool) (f : FwSlot → FwSlot) (s : State) :
    ∃ a b, modFwSlot slotB f s = { s with pt := { s.pt with slotA := a, slotB := b } } := by
  cases slotB
  · exact ⟨_, _, rfl⟩
  · exact ⟨_, _, rfl⟩

theorem writeHeader_runB (code : Nat) (slotB : Bool) (p : PtState) : (writeHeader code slotB p).runB = p.runB := by
  unfold writeHeader
  dsimp only
  split <;> rfl

/-- A slot that verifies boots, and the last two synthesisers start to lock (step 8). -/
theorem slotVerify_good {s : State} (hboot : s.pw.boot = .ready) :
    ∃ t, slotVerify (bootSlot s) true s = lockRest t ∧ t.pw.boot = .verified ∧ t.pt.runB = bootSlot s := by
  unfold slotVerify
  rw [if_neg (by simp [hboot]), if_pos rfl]
  refine ⟨_, rfl, ?_⟩
  split
  · exact ⟨rfl, writeHeader_runB _ _ _⟩
  · exact ⟨rfl, rfl⟩

/-- Settles O9: each row by the law of its operation; BOOT_COMPLETE by what `Booted` keeps along step 8. -/
theorem resetsAndBoot : Obligations.ResetsAndBoot := by
  unfold Obligations.ResetsAndBoot
  refine ⟨?powerUp, fun s r => ⟨_, rfl, rfl, rfl, rfl, rfl, rfl, rfl, rfl⟩, ?pinReset, ?pinShort, ?release, ?root,
    ?slotGood, ?slotFirst, ?slotSecond, ?done, ?selfTest⟩
  case powerUp =>
    intro s b h
    simp [exec, execPowerUp, h]
  case pinReset =>
    intro s ns hreset hns
    exact ⟨_, exec_rstNLow_long hreset hns, rfl, rfl, rfl, rfl, rfl, rfl⟩
  case pinShort =>
    intro s ns hns
    simp [exec, execRstNLow, hns]
  case release =>
    intro s x hreset hrails hdue
    have hexec : exec (.internalResetRelease x) s = .next (fenceEval (released x s)) :=
      congrArg _ (resetRelease_due hreset hrails hdue)
    have hduty := duty_fenceEval (released x s)
    simp only [duty, Prod.mk.injEq] at hduty
    obtain ⟨hmode, -, hrole, hpw⟩ := hduty
    refine ⟨_, hexec, ?_⟩
    dsimp only
    rw [hmode, hrole, hpw]
    exact ⟨rfl, rfl, rfl, rfl, rfl, rfl, rfl, rfl⟩
  case root =>
    intro s a b hboot hactive
    have hexec : exec (.bootRootActivity a b) s = .next (bootRoots a b s) := rfl
    rw [bootRoots, if_neg (by simp [hboot, hactive])] at hexec
    exact ⟨_, hexec, rfl, rfl, rfl, rfl, rfl⟩
  case slotGood =>
    intro s hboot
    obtain ⟨t, hrun, hverified, hslot⟩ := slotVerify_good hboot
    exact ⟨lockRest t, congrArg _ hrun, hverified, hslot⟩
  case slotFirst =>
    intro s hboot hfirst
    obtain ⟨a, b, hslot⟩ := modFwSlot_frame (bootSlot s) (fun f => { f with verifies := false }) s
    have hexec : exec (.slotVerifyComplete (bootSlot s) false) s = .next (slotVerify (bootSlot s) false s) := rfl
    simp [slotVerify, hboot, hslot, hfirst] at hexec
    exact ⟨_, hexec, hboot, bootSlot_retried (s := { s with pt := { s.pt with slotA := a, slotB := b } }) hfirst⟩
  case slotSecond =>
    intro s k hboot hsecond
    obtain ⟨a, b, hslot⟩ := modFwSlot_frame (bootSlot s) (fun f => { f with verifies := false }) s
    have hexec : exec (.slotVerifyComplete (bootSlot s) false) s = .next (slotVerify (bootSlot s) false s) := rfl
    simp [slotVerify, hboot, hslot, hsecond] at hexec
    exact ⟨_, hexec, rfl, rfl, rfl⟩
  case done =>
    intro s hboot hvsyn hnsyn
    have hbooted := bootDone_booted hboot hvsyn hnsyn
    exact ⟨_, rfl, hbooted.mode, hbooted.boot⟩
  case selfTest =>
    intro s hboot
    simp [exec, execBootComplete, bootDone, hboot]

end Sys2Proof.Proofs
end

section
/-! Panel key, die sensor, domains and HUSH (R46, R71 to R78, R486, R510). -/
namespace Sys2Proof.Proofs
open Sys2Proof.Machine Sys2Proof.Laws

/-! ### Domains -/

theorem sized_domains {s : State} (h : Sized s) : s.pw.domains.length = 11 := by
  obtain ⟨hdomains, _⟩ := h
  exact hdomains

theorem getDom_setDom {s : State} (h : Sized s) {d : Nat} (hd : d ≤ 10) (m : EnMachine) : getDom (setDom d m s) d = m := by
  have hlt : d < s.pw.domains.length := by rw [sized_domains h]; omega
  exact nth_modNth_self ({} : EnMachine) (fun _ => m) hlt

theorem getDom_of_view {s t : State} (h : powerView t = powerView s) (d : Nat) : getDom t d = getDom s d := by
  rw [getDom, getDom, pw_of_view h]

/-- The deferred requests start or are done; neither changes the state reached. -/
theorem enNext_on (now : Nat) (m : EnMachine) : ∀ rs : List EnReq, (enNext now m rs).1.on = m.on
  | [] => rfl
  | r :: rs => by
    unfold enNext
    split
    · exact enNext_on now m rs
    · rfl

theorem enDone_on (now : Nat) (m : EnMachine) : (enDone now m).1.on = enTarget m := enNext_on now _ _

/-- After the machine has moved on, the end of an action touches the power state no more. -/
theorem view_domFinish (d : Nat) (s : State) :
    powerView (domFinish d s) = powerView (setDom d (enDone s.clock (getDom s d)).1 s) := by
  unfold domFinish
  extract_lets m x s1 s2 s3
  have hup : powerView s2 = powerView s1 := by
    simp only [s2]
    split
    · exact view_domUp d s1
    · rfl
  have hanswers : powerView s3 = powerView s1 := (view_respondAll _ _ _ _).trans hup
  split
  · exact (view_domStarts _ _ _).trans hanswers
  · exact hanswers

theorem domFinish_on {s : State} (h : Sized s) {d : Nat} (hd : d ≤ 10) :
    (getDom (domFinish d s) d).on = enTarget (getDom s d) := by
  rw [getDom_of_view (view_domFinish d s), getDom_setDom h hd, enDone_on]

/-- The end of a start-up or of a shutdown leaves the domain in the state it moved to (R78, Table PW-6). -/
theorem domEvent_on {s : State} {d : Nat} {up : Bool} (hd : d ≤ 10) (h : Sized s) (hrun : (getDom s d).run = some up)
    (hdue : (getDom s d).since + domTime s.live d up ≤ s.clock) : (getDom (domEvent d up s) d).on = up := by
  have hfinish : domEvent d up s = domFinish d s := if_pos ⟨hd, hrun, hdue⟩
  rw [hfinish, domFinish_on h hd, enTarget, hrun]
  rfl

/-! ### The die sensor -/

/-- A reading below 108 C is stored, and below 103 C it re-arms the ALARM. -/
theorem tempReading_cool {s : State} {c : Int} (hreset : s.pw.inReset = false) (hc : c < 10800) :
    tempReading c s =
      { s with pw := { s.pw with temp := some c, tempAlarmed := if c < 10300 then false else s.pw.tempAlarmed } } := by
  have hcool : ¬ c ≥ 10800 := by omega
  have htrip : ¬ c ≥ 11500 := by omega
  simp [tempReading, hreset, hcool, htrip]

/-- From 108 C on, below the trip, an armed ALARM is raised. -/
theorem tempReading_alarm {s : State} {c : Int} (hreset : s.pw.inReset = false) (hhot : 10800 ≤ c) (hc : c < 11500)
    (harmed : s.pw.tempAlarmed = false) :
    tempReading c s = raiseAlarm blkPW { s with pw := { s.pw with temp := some c, tempAlarmed := true } } := by
  have htrip : ¬ c ≥ 11500 := by omega
  simp [tempReading, hreset, hhot, htrip, harmed]

/-! ### HUSH entry -/

theorem live_hushShutdowns (s : State) : (hushShutdowns s).live = s.live := by
  unfold hushShutdowns
  induction List.range 11 generalizing s with
  | nil => rfl
  | cons d ds ih =>
    rw [List.foldl_cons, ih]
    split
    · have hlive := live_of_view (view_domFinish d s)
      exact hlive
    · rfl

theorem getSyn_modSyn (x y : Syn) (f : SynState → SynState) (s : State) :
    getSyn (modSyn x f s) y = if y = x then f (getSyn s y) else getSyn s y := by
  cases x <;> cases y <;> rfl

theorem getSyn_closeGates (x y : Syn) (s : State) : getSyn (closeGates x s) y = getSyn s y := by
  unfold closeGates
  split
  · rfl
  · cases y <;> rfl

theorem hushSyns_lock (s : State) : (hushSyns s).hs.vsyn.lock = 0 ∧ (hushSyns s).hs.nsyn.lock = 0 ∧
    (hushSyns s).hs.ssyn.lock = 0 := by
  have hoff (x : Syn) (t : State) (y : Syn) : getSyn (modSyn x (fun v => { v with lock := 0 }) (closeGates x t)) y =
      if y = x then { getSyn t y with lock := 0 } else getSyn t y := by
    rw [getSyn_modSyn, getSyn_closeGates]
  have hlock (y : Syn) (hy : y ≠ .msyn) : (getSyn (hushSyns s) y).lock = 0 := by
    unfold hushSyns
    simp only [hoff]
    cases y <;> simp at hy ⊢
  exact ⟨hlock .vsyn (by decide), hlock .nsyn (by decide), hlock .ssyn (by decide)⟩

/-- With a right fence, HUSH has it closed (R17). -/
theorem fence_closed_in_hush {s : State} (h : FenceInv s) (hmode : s.mode = .hush) : s.fenceOpen = false := by
  rw [← Bool.not_eq_true]
  intro hopen
  have hwanted := h hopen
  simp [fenceWanted, hmode] at hwanted

/-- What HUSH entry leaves to power down: the mode has changed and the command is answered (steps 2 and 3 of Sequence PW-2). -/
def hushReady (n : Nat) (s : State) : State :=
  hushSyns (stopMclk (txStop (holdWait true (psWait true (passesOff
    (lgDrain (respondTo n stDone [] (lgDrain (lgCloseAll (setMode .hush (hushShutdowns s)))))))))))

theorem hushReady_lock (n : Nat) (s : State) : (hushReady n s).hs.vsyn.lock = 0 ∧ (hushReady n s).hs.nsyn.lock = 0 ∧
    (hushReady n s).hs.ssyn.lock = 0 := hushSyns_lock _

theorem hushReady_mode (n : Nat) (s : State) : (hushReady n s).mode = .hush := by
  have hkey : fkey (hushReady n s) = fkey (setMode .hush (hushShutdowns s)) := by simp only [hushReady, key_hushSyns,
    key_stopMclk, key_txStop, key_holdWait, key_psWait, key_passesOff, key_lgDrain, key_respondTo, key_lgCloseAll]
  exact (mode_of_key hkey).trans (setMode_mode .hush _)

theorem hushReady_live (n : Nat) (s : State) : (hushReady n s).live = s.live := by
  have hview : powerView (hushReady n s) = powerView (hushShutdowns s) := by
    simp [hushReady]
  exact (live_of_view hview).trans (live_hushShutdowns s)

/-- HUSH entry at its time: the planes power down from there. -/
theorem hushEntry_due {s : State} {n : Nat} (hhush : s.pw.hush = .entering n) (hdue : s.pw.hushAt + 20 * uPerMs ≤ s.clock) :
    ∃ pw fp dg nw, hushEntry s = { hushReady n s with dataPlane := .dark, pw, fp, dg, nw } ∧ pw.hush = .hushed := by
  have hnow : ¬ s.clock < s.pw.hushAt + 20 * uPerMs := by omega
  simp only [hushEntry, hhush, if_neg hnow]
  exact ⟨_, _, _, _, rfl, rfl⟩

/-! ### Waking -/

theorem getSyn_drawFree (x : Syn) (s : State) : getSyn (drawFree s).2 x = getSyn s x := by cases x <;> rfl

theorem getSyn_relockOff {x y : Syn} (h : y ≠ x) (s : State) : getSyn (relockOff x s) y = getSyn s y := by
  simp only [relockOff, startLock, bandSearch, getSyn_modSyn, getSyn_drawFree, if_neg h]

theorem relockOff_lock (x : Syn) (s : State) : (getSyn (relockOff x s) x).lock = 1 := by
  simp [relockOff, startLock, getSyn_modSyn]

/-- The start-up of an ADC pair touches neither the mode nor the power state. -/
theorem refStart_kept {d : Nat} (hd : d ∈ [0, 1, 2, 3]) (s : State) :
    (domStarts d true s).mode = s.mode ∧ powerView (domStarts d true s) = powerView s := by
  refine ⟨?_, view_domStarts d true s⟩
  simp only [List.mem_cons, List.not_mem_nil, or_false] at hd
  rcases hd with rfl | rfl | rfl | rfl <;> rfl

/-- The device wakes: SSYN and NSYN start to lock, in the mode it was in (Sequence PW-3). -/
structure Woken (s t : State) : Prop where
  hush : t.pw.hush = .waking
  held : t.pw.wakeHeld = false
  ssyn : (getSyn t .ssyn).lock = 1
  nsyn : (getSyn t .nsyn).lock = 1
  mode : t.mode = s.mode

theorem Woken.relockVsyn {s t : State} (h : Woken s t) : Woken s (relockOff .vsyn t) := by
  have hpw := pw_of_view (view_relockOff .vsyn t)
  refine ⟨(congrArg PwState.hush hpw).trans h.hush, (congrArg PwState.wakeHeld hpw).trans h.held, ?_, ?_,
    (mode_of_key (key_relockOff .vsyn t)).trans h.mode⟩
  · rw [getSyn_relockOff (by decide), h.ssyn]
  · rw [getSyn_relockOff (by decide), h.nsyn]

theorem hushWake_woken {s : State} (hhush : s.pw.hush = .hushed) (hheld : s.pw.wakeHeld = true) : Woken s (hushWake s) := by
  unfold hushWake
  rw [if_pos ⟨hhush, hheld⟩]
  extract_lets ms pw1 s1 ref s2
  obtain ⟨hrefsMode, hrefsView⟩ : ([0, 1, 2, 3].foldl ref s1).mode = s1.mode ∧
      powerView ([0, 1, 2, 3].foldl ref s1) = powerView s1 := by
    refine List.foldlRecOn (motive := fun t => t.mode = s1.mode ∧ powerView t = powerView s1) _ ref ⟨rfl, rfl⟩
      fun t ⟨htmode, htview⟩ d hd => ?_
    obtain ⟨hmode, hview⟩ := refStart_kept hd t
    simp only [ref]
    split
    · exact ⟨hmode.trans htmode, hview.trans htview⟩
    · exact ⟨htmode, htview⟩
  have hpw : s2.pw = s1.pw := pw_of_view (((view_relockOff _ _).trans (view_relockOff _ _)).trans hrefsView)
  have hwoken : Woken s s2 := by
    refine ⟨congrArg PwState.hush hpw, congrArg PwState.wakeHeld hpw, ?_, relockOff_lock .nsyn _,
      (mode_of_key ((key_relockOff _ _).trans (key_relockOff _ _))).trans hrefsMode⟩
    rw [getSyn_relockOff (by decide), relockOff_lock]
  split
  · exact hwoken.relockVsyn
  · exact hwoken

/-! ### The restart -/

theorem steady_hush : Steady .hush := ⟨by decide, by decide⟩
theorem steady_freerun : Steady .freerun := ⟨by decide, by decide⟩

/-- The data plane runs again, in the mode `m`, with the causes of `s`; the device is awake. -/
structure Restarted (m : Mode) (s t : State) : Prop where
  mode : t.mode = m
  plane : t.dataPlane = .running
  hush : t.pw.hush = .awake
  cause : t.safeCause = s.safeCause

theorem Restarted.of_kept {m : Mode} {s t u : State} (h : Restarted m s t) (hmode : u.mode = t.mode)
    (hview : powerView u = powerView t) : Restarted m s u :=
  ⟨hmode.trans h.mode, (dataPlane_of_view hview).trans h.plane, (congrArg PwState.hush (pw_of_view hview)).trans h.hush,
    (safeCause_of_view hview).trans h.cause⟩

theorem Restarted.of_key {m : Mode} {s t u : State} (h : Restarted m s t) (hkey : fkey u = fkey t)
    (hview : powerView u = powerView t) : Restarted m s u :=
  h.of_kept (mode_of_key hkey) hview

theorem Restarted.portStart {m : Mode} {s t : State} (hm : Steady m) (h : Restarted m s t) (n : Nat) :
    Restarted m s (ptpStart n (portStart n t)) :=
  h.of_kept ((ptpStart_mode hm (portStart_mode h.mode n) n).trans h.mode.symm) ((view_ptpStart n _).trans (view_portStart n t))

theorem wakePlanes_restarted {m : Mode} {s : State} (hm : Steady m) (hmode : s.mode = m) : Restarted m s (wakePlanes s) := by
  unfold wakePlanes
  extract_lets pw1 s1 ad2 s2 s3
  have hs3 : Restarted m s s3 := ⟨hmode, rfl, rfl, rfl⟩
  clear_value s3
  exact ((hs3.portStart hm 0).portStart hm 1).of_key (key_wakeFlows _) rfl

theorem hushRestart_restarted (s : State) : Restarted .freerun s (hushRestart s) := by
  unfold hushRestart
  extract_lets s5 s6
  have hplanes := wakePlanes_restarted steady_freerun (setMode_mode .freerun s)
  have hs5 : Restarted .freerun (setMode .freerun s) s5 := hplanes.of_key (key_wakeHp _) (view_wakeHp _)
  clear_value s5
  have hs6 : Restarted .freerun (setMode .freerun s) s6 := by
    simp only [s6]
    split
    · exact hs5.of_key (key_identStart none s5) (view_identStart none s5)
    · exact hs5.of_key (key_modFp _ s5) rfl
  clear_value s6
  have hend := (hs6.of_key (key_biasEval s6) rfl).of_key (key_consume _) (view_consume _)
  exact ⟨hend.mode, hend.plane, hend.hush, hend.cause.trans (safeCause_of_view (view_setMode .freerun s))⟩

theorem enterSafe_awake {causes : Nat} {s : State} (h : s.pw.hush = .awake) : (enterSafe causes s).pw.hush = .awake := by
  obtain ⟨r, hend, -⟩ := duty_safeEnd (safeStanding causes (safeStart causes s))
  have hstanding := duty_safeStanding causes (safeStart causes s)
  simp only [duty, Prod.mk.injEq] at hend hstanding
  obtain ⟨-, -, -, hpw⟩ := hend
  obtain ⟨-, -, -, hpwStanding⟩ := hstanding
  rw [enterSafe_eq, hpw, hpwStanding]
  simp [safeStart, h]

/-- A trip in HUSH leads into SAFE at the end of the exit, with its causes (R76). -/
theorem hushExit_safe {s : State} (hwaking : s.pw.hush = .waking) (hmode : s.mode = .hush) (hlocked : wakeLocked s = true)
    (hframe : s.spindle % frameLen (f441 s) = 0) (htrip : s.pw.safeOnWake = true) (hcause : s.safeCause ≠ 0) :
    hushExit true s = consume (enterSafe s.safeCause (inOrder rankFault (wakePlanes s))) := by
  have hcauses : wakeCauses true s = s.safeCause := by
    simp [wakeCauses, htrip]
  simp [hushExit, hwaking, hlocked, hframe, hmode, hcauses, hcause]

theorem hushExit_restart {s : State} (hwaking : s.pw.hush = .waking) (hmode : s.mode = .hush) (hlocked : wakeLocked s = true)
    (hframe : s.spindle % frameLen (f441 s) = 0) (htrip : s.pw.safeOnWake = false) : hushExit true s = hushRestart s := by
  have hcauses : wakeCauses true s = 0 := by
    simp [wakeCauses, htrip]
  simp [hushExit, hwaking, hlocked, hframe, hmode, hcauses]

/-- Settles O11: each row by the law of its operation; HUSH entry by what is left to power down, the restart by what
`Restarted` keeps, SAFE after a trip by the law of SAFE entry. -/
theorem powerAndHush : Obligations.PowerAndHush := by
  unfold Obligations.PowerAndHush
  refine ⟨?panelHeld, ?panelShort, ?cool, ?alarm, ?up, ?down, ?entry, ?wake, ?restart, ?safe⟩
  case panelHeld =>
    intro s l ms hpanel hreset hms
    simp [exec, execPanelKeyChange, hpanel, hreset, hms]
  case panelShort =>
    intro s l ms hms
    have hshort : ¬ 20 ≤ ms := by omega
    simp [exec, execPanelKeyChange, hshort]
  case cool =>
    intro s c hreset hc
    have hexec : exec (.dieTempSample c) s = .next (tempReading c s) := rfl
    rw [hexec, tempReading_cool hreset hc]
  case alarm =>
    intro s c hreset hhot hc harmed
    have hexec : exec (.dieTempSample c) s = .next (tempReading c s) := rfl
    rw [tempReading_alarm hreset hhot hc harmed] at hexec
    have hpw := pw_of_view (view_raiseAlarm blkPW { s with pw := { s.pw with temp := some c, tempAlarmed := true } })
    exact ⟨_, hexec, congrArg PwState.temp hpw, congrArg PwState.tempAlarmed hpw, raiseAlarm_sets blkPW _,
      raiseAlarm_mode blkPW _⟩
  case up =>
    intro s d hd hsized hrun hdue
    exact ⟨_, rfl, domEvent_on hd hsized hrun hdue⟩
  case down =>
    intro s d hd hsized hrun hdue
    exact ⟨_, rfl, domEvent_on hd hsized hrun hdue⟩
  case entry =>
    intro s n hhush hdue hfence
    have hexec : exec .hushEntryComplete s = .next (hushEntry s) := rfl
    have hright : FenceInv (hushEntry s) := (fenceInv_iff _).2 (inv_hushEntry s ((fenceInv_iff s).1 hfence))
    obtain ⟨pw, fp, dg, nw, hentry, hhushed⟩ := hushEntry_due hhush hdue
    obtain ⟨hvsyn, hnsyn, hssyn⟩ := hushReady_lock n s
    have hmode := hushReady_mode n s
    have hlive := hushReady_live n s
    rw [hentry] at hexec hright
    generalize hushReady n s = u at hexec hright hvsyn hnsyn hssyn hmode hlive
    exact ⟨_, hexec, hmode, hhushed, rfl, fence_closed_in_hush hright hmode, hvsyn, hnsyn, hssyn, hlive⟩
  case wake =>
    intro s hhush hheld
    have hwoken := hushWake_woken hhush hheld
    exact ⟨_, rfl, hwoken.hush, hwoken.held, hwoken.ssyn, hwoken.nsyn, hwoken.mode⟩
  case restart =>
    intro s hwaking hmode hlocked hframe htrip
    have hend := hushRestart_restarted s
    have hexec : exec (.hushExitRestart true) s = .next (hushExit true s) := rfl
    rw [hushExit_restart hwaking hmode hlocked hframe htrip] at hexec
    exact ⟨_, hexec, hend.mode, hend.hush, hend.plane⟩
  case safe =>
    intro s hwaking hmode hlocked hframe htrip hcause
    have hexec : exec (.hushExitRestart true) s = .next (hushExit true s) := rfl
    rw [hushExit_safe hwaking hmode hlocked hframe htrip hcause] at hexec
    have hplanes := (wakePlanes_restarted steady_hush hmode).of_key (key_inOrder rankFault _) (view_inOrder rankFault _)
    have hsafe := enterSafe_entered s.safeCause (inOrder rankFault (wakePlanes s))
    have hconsume := view_consume (enterSafe s.safeCause (inOrder rankFault (wakePlanes s)))
    exact ⟨_, hexec, (mode_of_key (key_consume _)).trans hsafe.mode,
      (congrArg PwState.hush (pw_of_view hconsume)).trans (enterSafe_awake hplanes.hush),
      (safeCause_of_view hconsume).trans hsafe.cause⟩

end Sys2Proof.Proofs
end

section
/-! The reset scopes (R67 to R69, R391, R414): what SESSION and CONTROL clear and keep, that no part of a FULL reset
touches the commands and events that wait, and the reset-complete response. -/
namespace Sys2Proof.Proofs
open Sys2Proof.Machine Sys2Proof.Laws

/-! ### SESSION and CONTROL -/

/-- The second key of the scope that the first one named, within 1 ms, performs the scope (R391). -/
theorem resetWrite_secondKey {s : State} {k t0 : Nat} (hready : windowReady s = true) (hk : 1 ≤ k ∧ k ≤ 3)
    (hkey : s.mb.resetKey = some (k, t0)) (hdue : s.clock ≤ t0 + uPerMs) :
    resetWrite (0x5A5A0000 + k) s = runScope k false { s with mb := { s.mb with resetKey := none } } := by
  have hscope : (0x5A5A0000 + k) % 256 = k := by omega
  have hsecond : (0x5A5A0000 + k) / 256 = 0x5A5A00 := by omega
  simp [resetWrite, hready, hkey, hdue, hscope, hsecond]

/-- Cancelling a proposal touches the protection state and the ledger alone. -/
theorem cancelProposal_frame (s : State) : ∃ p l, cancelProposal s = { s with pt := p, lg := l } := by
  unfold cancelProposal
  split
  · exact ⟨s.pt, s.lg, rfl⟩
  · obtain ⟨l, hl⟩ := ledgerOnly_lgEvent 0xFF09 _ { s with pt := { s.pt with proposal := none } }
    exact ⟨_, l, hl⟩

/-- A key that a filter drops reads as unlisted. -/
theorem tabGet_filter_dropped {α : Type} (d : α) (p : Nat → Bool) {k : Nat} (hk : p k = false) :
    ∀ t : Tab α, tabGet d (t.filter (fun c => p c.1)) k = d
  | [] => rfl
  | (j, v) :: t => by
    by_cases hj : p j = true
    · have hne : k ≠ j := by
        rintro rfl
        simp [hk] at hj
      simpa [List.filter_cons, hj, tabGet, hne] using tabGet_filter_dropped d p hk t
    · simpa [List.filter_cons, hj] using tabGet_filter_dropped d p hk t

/-- The host's side of a SESSION or CONTROL reset: it shows as busy; the rings with their bytes, the interrupt registers,
the staging area and the host's sequence numbers are cleared; the configuration, the pending commit, the mode and the role
stay (R67, R68, Table PW-3). -/
def ScopeCleared (k : Scope) (s t : State) : Prop :=
  t.mb.resetBusy = some k ∧ t.mb.cmdHead = 0 ∧ t.mb.cmdTail = 0 ∧ t.mb.rspHead = 0 ∧ t.mb.rspTail = 0 ∧
    t.mb.irqStatus = 0 ∧ t.mb.irqEnable = 0 ∧ t.mb.staging = none ∧ t.mb.seqHost = none ∧
    (∀ a, 0x1000 ≤ a → a < 0x7000 → memRead t a = 0) ∧ t.live = s.live ∧ t.mb.gen = s.mb.gen ∧
    t.mb.digest = s.mb.digest ∧ t.mb.pend = s.mb.pend ∧ t.mode = s.mode ∧ t.role = s.role

theorem scopeReset_cleared (k : Scope) (overRing : Bool) (s : State) : ScopeCleared k s (scopeReset k overRing s) := by
  have hrings (a : Nat) (hlo : 0x1000 ≤ a) (hhi : a < 0x7000) : memRead (scopeReset k overRing s) a = 0 :=
    tabGet_filter_dropped 0 (fun j => decide (j < 0x1000) || decide (0x7000 ≤ j)) (by simp; omega) _
  obtain ⟨p, l, hcancel⟩ := cancelProposal_frame s
  unfold scopeReset at hrings ⊢
  rw [hcancel] at hrings ⊢
  exact ⟨rfl, rfl, rfl, rfl, rfl, rfl, rfl, rfl, rfl, hrings, rfl, rfl, rfl, rfl, rfl, rfl⟩

section Scope
variable {s : State} (hmode : s.mode ≠ .hush) (overRing : Bool)
include hmode

/-- Outside HUSH scopes 1 and 2 clear (R73, R391). -/
theorem runScope_session : runScope 1 overRing s = scopeReset .session overRing s := if_neg hmode

theorem runScope_session_cleared : ScopeCleared .session s (runScope 1 overRing s) := by
  rw [runScope_session hmode]
  exact scopeReset_cleared .session overRing s

theorem runScope_control_cleared : ScopeCleared .control s (runScope 2 overRing s) := by
  have hscope : runScope 2 overRing s = scopeReset .control overRing s := if_neg hmode
  rw [hscope]
  exact scopeReset_cleared .control overRing s

end Scope

/-! ### FULL -/

theorem pending_of_plant {s t : State} (h : t.plant = s.plant) : t.pending = s.pending := by
  have hpending := congrArg State.pending h
  exact hpending

theorem inOrder_pending (rank : Nat) (s : State) : (inOrder rank s).pending = s.pending := by
  unfold inOrder
  split <;> rfl

theorem identAbandon_pending (s : State) : (identAbandon s).pending = s.pending := by
  unfold identAbandon
  split
  · rfl
  · dsimp only
    split
    · rw [pending_of_plant (plant_respondTo _ _ _ _)]
    · rfl

theorem fenceEval_pending (s : State) : (fenceEval s).pending = s.pending := by
  unfold fenceEval
  dsimp only
  split
  · rfl
  · split
    · rfl
    · exact identAbandon_pending _

theorem setRole_pending (r : Role) (s : State) : (setRole r s).pending = s.pending := by
  unfold setRole
  split
  · exact fenceEval_pending s
  · dsimp only
    rw [fenceEval_pending]
    have hevent := pending_of_plant ((plant_raiseIrq 5 _).trans
      (plant_lgEvent 0xFF04 (roleCode s.role + 256 * roleCode r + 65536 * s.tw.lastCause) { s with role := r }))
    generalize raiseIrq 5 _ = t at hevent ⊢
    repeat' split
    all_goals exact hevent

theorem releaseChuck_pending (cause : Nat) (s : State) : (releaseChuck cause s).pending = s.pending := setRole_pending .fenced _

theorem waive_pending (s : State) : (waive s).pending = s.pending := by
  unfold waive
  split <;> rfl

theorem cancelProposal_pending (s : State) : (cancelProposal s).pending = s.pending := by
  obtain ⟨p, l, hcancel⟩ := cancelProposal_frame s
  rw [hcancel]

theorem lgStore_pending (s : State) : (lgStore s).pending = s.pending := by
  unfold lgStore
  split
  · rfl
  · rfl
  · refine pending_of_plant ((plant_lgFlushStep _).trans ((plant_lgFullEvent _ _).trans
      ((plant_lgAlarm _).trans (plant_lgWrap _)))) |>.trans ?_
    split <;> rfl

theorem lgStoreAll_pending : ∀ (n : Nat) (s : State), (lgStoreAll n s).pending = s.pending
  | 0, _ => rfl
  | n + 1, s => by
    unfold lgStoreAll
    split
    · rfl
    · rw [lgStoreAll_pending n, lgStore_pending]

theorem lgDrain_pending (s : State) : (lgDrain s).pending = s.pending := lgStoreAll_pending _ s

/-- A FULL reset drops no command and no event that waits: they are the model's own input. -/
theorem fullReset_pending (s : State) : (fullReset s).pending = s.pending := by
  unfold fullReset
  extract_lets s0 s1 s2 s3
  have hchuck : s1.pending = s0.pending := by
    simp only [s1]
    split
    · exact releaseChuck_pending 1 s0
    · exact waive_pending s0
  calc s3.pending
      _ = s2.pending := (lgDrain_pending _).trans (pending_of_plant (plant_lgCloseAll s2))
      _ = s1.pending := (pending_of_plant (plant_lgEvent _ _ _)).trans (cancelProposal_pending s1)
      _ = s.pending := hchuck.trans (inOrder_pending rankReset s)

/-! ### The reset-complete response -/

@[simp] theorem ringSend_mb (answers typ : Nat) (payload : Bytes) (s : State) : (ringSend answers typ payload s).mb = s.mb := by
  unfold ringSend
  split <;> rfl

@[simp] theorem raiseIrq_resetBusy (b : Nat) (s : State) : (raiseIrq b s).mb.resetBusy = s.mb.resetBusy := by
  unfold raiseIrq
  split <;> rfl

@[simp] theorem rspWrite_resetBusy (slot : Bytes) (s : State) : (rspWrite slot s).mb.resetBusy = s.mb.resetBusy := by
  simp [rspWrite]

/-- The two slots of the reset-complete response leave the reset over, and the head two slots further (R414). -/
theorem resetDone_answered {s : State} {k : Scope} (hbusy : s.mb.resetBusy = some k) :
    (resetDone s).mb.resetBusy = none ∧ (resetDone s).mb.rspHead = ((s.mb.rspHead + 1) % 65536 + 1) % 65536 ∧
      nbit (resetDone s).mb.irqStatus 8 = true := by
  unfold resetDone
  rw [hbusy]
  dsimp only
  refine ⟨?_, ?_, raiseIrq_sets 8 _⟩
  · split <;> simp
  · split <;> simp

/-- Settles O8: the keys by `resetWrite_secondKey`, SESSION and CONTROL by `ScopeCleared`, FULL by what `assertReset` sets. -/
theorem resetScopes : Obligations.ResetScopes := by
  unfold Obligations.ResetScopes
  refine ⟨?session, ?control, ?full, ?done⟩
  case session =>
    intro s t0 hready hkey hdue hmode
    have hexec : exec (.sessionReset 0x5A5A0001#32) s = .next (resetWrite (0x5A5A0000 + 1) s) := rfl
    rw [resetWrite_secondKey hready (by decide) hkey hdue] at hexec
    have hcleared := runScope_session_cleared (s := { s with mb := { s.mb with resetKey := none } }) hmode false
    exact ⟨_, hexec, hcleared⟩
  case control =>
    intro s t0 hready hkey hdue hmode
    have hexec : exec (.controlReset 0x5A5A0002#32) s = .next (resetWrite (0x5A5A0000 + 2) s) := rfl
    rw [resetWrite_secondKey hready (by decide) hkey hdue] at hexec
    have hcleared := runScope_control_cleared (s := { s with mb := { s.mb with resetKey := none } }) hmode false
    exact ⟨_, hexec, hcleared⟩
  case full =>
    intro s t0 hready hkey hdue
    have hexec : exec (.fullReset 0x5A5A0003#32) s = .next (resetWrite (0x5A5A0000 + 3) s) := rfl
    rw [resetWrite_secondKey hready (by decide) hkey hdue] at hexec
    exact ⟨_, hexec, rfl, rfl, rfl, rfl, rfl, rfl, fun a => rfl, fullReset_pending _⟩
  case done =>
    intro s k hbusy
    obtain ⟨hover, hhead, hirq⟩ := resetDone_answered hbusy
    exact ⟨_, rfl, hover, hhead, hirq, plant_resetDone s⟩

end Sys2Proof.Proofs
end

section
/-! Host access over the ring (R73, R426, R432 to R435): a frame that is addressed to this unit, the frame that answers it,
and what consuming commands leaves of the ring interface. -/
namespace Sys2Proof.Proofs
open Sys2Proof.Machine Sys2Proof.Laws

/-! ### Frames of the unit's own -/

/-- A frame of the unit's own towards the head. -/
def headFrame (typ : Nat) (payload : Bytes) (s : State) : RingFrame :=
  { rsv := (0, 0, 0), dst := 0, src := s.ig.addr, typ, hops := 0, len := payload.length, fseq := s.ig.fseq, payload, crcOk := true }

/-- While fewer than 16 wait, the frame joins them and takes the next number (R427). -/
theorem ringSend_fits {s : State} (hroom : s.ig.own.length < 16) (answers typ : Nat) (payload : Bytes) :
    ringSend answers typ payload s =
      { s with ig := { s.ig with own := s.ig.own ++ [(answers, headFrame typ payload s)], fseq := (s.ig.fseq + 1) % 65536 } } :=
  if_pos hroom

theorem ringSend_empty {s : State} (hown : s.ig.own = []) (answers typ : Nat) (payload : Bytes) :
    ringSend answers typ payload s =
      { s with ig := { s.ig with own := [(answers, headFrame typ payload s)], fseq := (s.ig.fseq + 1) % 65536 } } := by
  rw [ringSend_fits (by simp [hown]), hown, List.nil_append]

/-- The state with other own frames that wait, and another record of what was sent. -/
def drained (own : List (Nat × RingFrame)) (out : List OutMsg) (s : State) : State :=
  { s with ig := { s.ig with own }, out }

/-- A received frame lets the oldest own frame out, and does nothing else. -/
theorem ringDrain_drained (s : State) : ∃ own out, ringDrain s = drained own out s := by
  unfold ringDrain
  split
  · exact ⟨s.ig.own, s.out, rfl⟩
  · exact ⟨_, _, rfl⟩

theorem ringDrain_empty {s : State} (hown : s.ig.own = []) : ringDrain s = s := by
  rw [ringDrain, hown]

/-! ### A frame addressed to this unit -/

/-- A frame of the row's type from the head, addressed to this unit, that rule 1 of R426 does not discard. -/
structure Addressed (typ : Nat) (f : RingFrame) (s : State) : Prop where
  runs : ringRuns s = true
  type : f.typ = typ
  crc : f.crcOk = true
  good : ringBad f s = false
  dst : f.dst = s.ig.addr
  notCast : f.dst ≠ 63
  head : f.src = 0

section Addressed
variable {typ : Nat} {f : RingFrame} {s : State}

theorem ringBad_awake (hcrc : f.crcOk = true) (hhops : f.hops ≠ 63) : ringBad f s = false := by
  simp [ringBad, hcrc, hhops]

theorem ringBad_hush (hmode : s.mode = .hush) : ringBad f s = false := by
  simp [ringBad, hmode]

/-- The row does what its type does to this unit, after the oldest own frame has gone out. -/
theorem ringRow_addressed (h : Addressed typ f s) (own : State → State) (cast : State → State × Option Bytes) :
    ringRow typ f own cast s = own (ringDrain s) := by
  obtain ⟨hruns, htype, hcrc, hgood, hdst, hnotCast, hhead⟩ := h
  have haddr : s.ig.addr ≠ 63 := hdst ▸ hnotCast
  simp [ringRow, hruns, htype, hgood, hcrc, hdst, haddr, hhead]

end Addressed

theorem exec_ringCommand {f : RingFrame} {s : State} (h : Addressed 3 f s) :
    exec (.ringCommand f) s = .next (ringCmd f (ringDrain s)) := congrArg _ (ringRow_addressed h _ _)

/-! ### What consuming commands leaves of the ring interface -/

/-- The ring interface without the frames that wait, their number, the drops, the bits for EVENT and the command queue. -/
abbrev ringBase (s : State) : IgState := { s.ig with own := [], fseq := 0, drops := 0, evtBits := 0, queue := [] }

theorem base_of_ledger {s t : State} (h : LedgerOnly s t) : ringBase t = ringBase s := by
  obtain ⟨l, rfl⟩ := h
  rfl

theorem base_raiseIrq (b : Nat) (s : State) : ringBase (raiseIrq b s) = ringBase s := by
  unfold raiseIrq
  split <;> rfl

theorem base_ringSend (answers typ : Nat) (payload : Bytes) (s : State) :
    ringBase (ringSend answers typ payload s) = ringBase s := by
  unfold ringSend
  split <;> rfl

theorem base_rspSend (c : Cmd) (slot : Bytes) (s : State) : ringBase (rspSend c slot s) = ringBase s := by
  unfold rspSend
  split
  · rfl
  · split
    · exact base_ringSend _ _ _ s
    · unfold rspHost
      split
      · exact base_raiseIrq 0 _
      · rfl

theorem base_respondFinal (c : Cmd) (status : Nat) (res : Bytes) (s : State) :
    ringBase (respondFinal c status res s) = ringBase s :=
  (base_of_ledger (ledgerOnly_lgCommand c _ _)).trans (base_rspSend c _ s)

theorem base_settleDrains : ∀ (n : Nat) (s : State), ringBase (settleDrains n s) = ringBase s
  | 0, _ => rfl
  | n + 1, s => by
    unfold settleDrains
    split
    · rfl
    · rw [base_settleDrains n, base_respondFinal]

theorem base_respond (c : Cmd) (status : Nat) (res : Bytes) (s : State) : ringBase (respond c status res s) = ringBase s :=
  (base_settleDrains _ _).trans (base_respondFinal c status res s)

theorem setSeq_ig (origin n : Nat) (s : State) : (setSeq origin n s).ig = s.ig := by
  unfold setSeq
  split <;> rfl

/-- Check 3 of R397 leaves the ring interface alone. -/
theorem accessCheck_ig (sl : Bytes) (c : Cmd) (s : State) : (accessCheck sl c s).2.ig = s.ig := by
  unfold accessCheck
  dsimp only
  split
  · split
    · exact setSeq_ig _ _ s
    · rfl
  · split
    · split
      · rfl
      · split
        · rfl
        · split
          · exact setSeq_ig _ _ s
          · rfl
    · split
      · exact setSeq_ig _ _ s
      · rfl

theorem base_takeSlot (sl : Bytes) (origin ringNo : Nat) (s : State) : ringBase (takeSlot sl origin ringNo s) = ringBase s := by
  unfold takeSlot
  extract_lets c m1 s1 a
  have hchecked : ringBase a.2 = ringBase s1 := by rw [ringBase, accessCheck_ig]
  split
  · exact (base_of_ledger (ledgerOnly_lgCommand c _ _)).trans (base_rspSend c _ s1)
  · split
    · exact base_respond _ _ _ _
    · split
      · exact (base_respond _ _ _ _).trans hchecked
      · split
        · exact (base_respond _ _ _ _).trans hchecked
        · exact hchecked

theorem base_takeHost (s : State) : ringBase (takeHost s) = ringBase s := by
  unfold takeHost
  extract_lets sl s1 mb2 s2
  have htaken : ringBase s2 = ringBase s := base_takeSlot sl _ 0 s
  split
  · exact (base_raiseIrq 1 _).trans htaken
  · exact htaken

theorem base_takeRing (s : State) : ringBase (takeRing s) = ringBase s := by
  unfold takeRing
  split
  · rfl
  · exact base_takeSlot _ 1 _ _

theorem base_consumeGo : ∀ (n : Nat) (s : State), ringBase (consumeGo n s) = ringBase s
  | 0, _ => rfl
  | n + 1, s => by
    unfold consumeGo
    split
    · rfl
    · split
      · rw [base_consumeGo n, base_takeRing]
      · split
        · rw [base_consumeGo n, base_takeHost]
        · rfl

/-- Consuming commands receives no ring command. -/
theorem consume_rcvd (s : State) : (consume s).ig.rcvd = s.ig.rcvd := by
  have hbase := congrArg IgState.rcvd (base_consumeGo (cmdOccupancy s + s.ig.queue.length) s)
  exact hbase

/-- While a response is held nothing is consumed (R395). -/
theorem consume_of_held {s : State} (hheld : s.mb.held ≠ []) : consume s = s := by
  unfold consume
  cases cmdOccupancy s + s.ig.queue.length with
  | zero => rfl
  | succ n => exact if_pos (.inr hheld)

/-! ### What each frame does -/

/-- A ring command is received and joins the queue. -/
def cmdQueued (f : RingFrame) (s : State) : State :=
  { s with ig := { s.ig with rcvd := s.ig.rcvd + 1, queue := s.ig.queue ++ [(s.ig.rcvd + 1, f.payload)] } }

/-- A COMMAND with room in the queue joins it, and whatever waits is consumed (R432). -/
theorem ringCmd_queued {f : RingFrame} {s : State} (hmode : s.mode ≠ .hush) (hlen : f.len = 64)
    (hready : ringReady s = true) (hroom : s.ig.queue.length < 32) :
    ringCmd f s = consume (cmdQueued f s) := by
  have hfits : ¬ 32 ≤ s.ig.queue.length := by omega
  simp [ringCmd, modIg, cmdQueued, hmode, hlen, hready, hfits]

/-- One more than the queue holds is counted and answered with NAK 1. -/
theorem ringCmd_full {f : RingFrame} {s : State} (hmode : s.mode ≠ .hush) (hlen : f.len = 64)
    (hready : ringReady s = true) (hfull : 32 ≤ s.ig.queue.length) :
    ringCmd f s = ringNak 1 (u8 f.payload 2) 0x03 (modIg (fun g => { g with drops := satInc 16 g.drops }) s) := by
  simp [ringCmd, hmode, hlen, hready, hfull]

theorem ringRead_inRange {f : RingFrame} {s : State} (hmode : s.mode ≠ .hush) (hlen : f.len = 12)
    (hlo : 1 ≤ u16 f.payload 4) (hhi : u16 f.payload 4 ≤ 1024) (hend : u32 f.payload 0 + u16 f.payload 4 ≤ 0x18000) :
    ringRead f s = ringSend 0 0x07 (le 4 (u32 f.payload 0) ++ winRead s (u32 f.payload 0) (u16 f.payload 4)) s := by
  have hrange : ¬ (f.len ≠ 12 ∨ u16 f.payload 4 = 0 ∨ 1024 < u16 f.payload 4 ∨ 0x18000 < u32 f.payload 0 + u16 f.payload 4) := by
    omega
  rw [ringRead, if_neg hmode, if_neg hrange]

theorem ringWrite_inRange {f : RingFrame} {s : State} (hmode : s.mode ≠ .hush) (hlo : 1 ≤ (f.payload.drop 4).length)
    (hhi : (f.payload.drop 4).length ≤ 1024) (hlen : f.len = 4 + (f.payload.drop 4).length)
    (hstart : 0x8000 ≤ u32 f.payload 0) (hend : u32 f.payload 0 + (f.payload.drop 4).length ≤ 0x18000) :
    ringWrite f s = ringSend 0 0x07 (le 4 (u32 f.payload 0)) (memWriteList (u32 f.payload 0) (f.payload.drop 4) s) := by
  have hrange : ¬ ((f.payload.drop 4).length = 0 ∨ 1024 < (f.payload.drop 4).length ∨ f.len ≠ 4 + (f.payload.drop 4).length ∨
      u32 f.payload 0 < 0x8000 ∨ 0x18000 < u32 f.payload 0 + (f.payload.drop 4).length) := by
    omega
  rw [ringWrite, if_neg hmode, if_neg hrange]

/-- A run of bytes written to the window: the run reads back, and every other byte is as before. -/
theorem memRead_memWriteList_run {s : State} (hwf : memWf s) (a : Nat) (bs : Bytes) (j : Nat) :
    memRead (memWriteList a bs s) j = if a ≤ j ∧ j < a + bs.length then nth 0 bs (j - a) else memRead s j := by
  split
  · next h =>
    obtain ⟨i, rfl⟩ : ∃ i, j = a + i := ⟨j - a, by omega⟩
    rw [memRead_memWriteList a i bs s hwf (by omega), Nat.add_sub_cancel_left]
  · next h => exact memRead_memWriteList_other a j bs s hwf (by omega)

/-- A doorbell that posts nothing only wakes (R73, R433). -/
theorem doorbell_zero {s : State} (hready : windowReady s = true) : doorbell 0 s = wakeTrigger s := by
  simp [doorbell, hready]

theorem wakeTrigger_hushed {s : State} (h : s.pw.hush = .hushed) :
    wakeTrigger s = { s with pw := { s.pw with wakeHeld := true } } := by
  rw [wakeTrigger, h]

theorem wakeTrigger_awake {s : State} (h : s.pw.hush = .awake) : wakeTrigger s = s := by
  rw [wakeTrigger, h]

/-- A DOORBELL of the right length, addressed to this unit, only wakes. -/
theorem exec_ringDoorbell {f : RingFrame} {s : State} (h : Addressed 9 f s) (hlen : f.len = 12) :
    ∃ own out, exec (.ringDoorbell f) s = .next (wakeTrigger (drained own out s)) := by
  obtain ⟨own, out, hdrain⟩ := ringDrain_drained s
  have hready : windowReady (ringDrain s) = true := by
    rw [hdrain]
    exact h.runs
  have hbell := doorbell_zero hready
  rw [hdrain] at hbell
  refine ⟨own, out, ?_⟩
  simp [exec, execRingDoorbell, ringRow_addressed h, hlen, hdrain, hbell]

/-- The keys of a RESET start its scope (R434). -/
theorem ringResetOwn_keys {f : RingFrame} {s : State} {k : Nat} (hlen : f.len = 12) (hkeys : ringKeys f = some k) :
    ringResetOwn f s = runScope k true s := by
  simp [ringResetOwn, hlen, hkeys]

/-- EVENT carries the bits that wait, and clears them (R435). -/
theorem ringEventSend_first {s : State} (hruns : ringRuns s = true) (hbits : s.ig.evtBits ≠ 0) (hfirst : s.ig.evtLast = none) :
    ringEventSend s = modIg (fun g => { g with evtBits := 0, evtLast := some s.clock })
      (ringSend 0 0x0E (le 2 s.ig.evtBits ++ zeros 10) s) := by
  simp [ringEventSend, hruns, hbits, hfirst]

/-- Settles O32: a frame addressed to this unit does what its type does (`ringRow_addressed`), and each clause is the law of
that. -/
theorem ringHostAccess : Obligations.RingHostAccess := by
  unfold Obligations.RingHostAccess
  refine ⟨?joins, ?received, ?full, ?hush, ?read, ?write, ?wakes, ?idle, ?reset, ?event⟩
  case joins =>
    intro s f hruns htyp hcrc hhops hmode hdst hcast hsrc hlen hready hqueue hheld
    have hexec := exec_ringCommand ⟨hruns, htyp, hcrc, ringBad_awake hcrc hhops, hdst, hcast, hsrc⟩
    obtain ⟨own, out, hdrain⟩ := ringDrain_drained s
    rw [hdrain, ringCmd_queued (s := drained own out s) hmode hlen hready (by simp [drained, hqueue]),
      consume_of_held (s := cmdQueued f (drained own out s)) hheld] at hexec
    refine ⟨_, hexec, ?_, rfl, rfl⟩
    simp [cmdQueued, drained, hqueue]
  case received =>
    intro s f hruns htyp hcrc hhops hmode hdst hcast hsrc hlen hready hroom
    have hexec := exec_ringCommand ⟨hruns, htyp, hcrc, ringBad_awake hcrc hhops, hdst, hcast, hsrc⟩
    obtain ⟨own, out, hdrain⟩ := ringDrain_drained s
    rw [hdrain, ringCmd_queued (s := drained own out s) hmode hlen hready hroom] at hexec
    exact ⟨_, hexec, consume_rcvd _⟩
  case full =>
    intro s f hruns htyp hcrc hhops hmode hdst hcast hsrc hlen hready hfull hown
    have hexec := exec_ringCommand ⟨hruns, htyp, hcrc, ringBad_awake hcrc hhops, hdst, hcast, hsrc⟩
    rw [ringDrain_empty hown, ringCmd_full hmode hlen hready hfull, ringNak,
      ringSend_empty (s := modIg (fun g => { g with drops := satInc 16 g.drops }) s) hown] at hexec
    exact ⟨_, hexec, rfl, rfl, rfl, rfl⟩
  case hush =>
    intro s f hruns htyp hcrc hdst hcast hsrc hmode hown
    have hexec := exec_ringCommand ⟨hruns, htyp, hcrc, ringBad_hush hmode, hdst, hcast, hsrc⟩
    rw [ringDrain_empty hown, ringCmd, if_pos hmode, ringNak, ringSend_empty hown] at hexec
    exact ⟨_, hexec, rfl, rfl, rfl⟩
  case read =>
    intro s f hruns htyp hcrc hhops hmode hdst hcast hsrc hlen hlo hhi hend hown
    have hexec : exec (.ringWread f) s = .next (ringRead f (ringDrain s)) :=
      congrArg _ (ringRow_addressed ⟨hruns, htyp, hcrc, ringBad_awake hcrc hhops, hdst, hcast, hsrc⟩ _ _)
    rw [ringDrain_empty hown, ringRead_inRange hmode hlen hlo hhi hend, ringSend_empty hown] at hexec
    exact ⟨_, hexec, rfl, rfl⟩
  case write =>
    intro s f hruns htyp hcrc hhops hmode hdst hcast hsrc hlo hhi hlen hstart hend hwf hown
    have hexec : exec (.ringWwrite f) s = .next (ringWrite f (ringDrain s)) :=
      congrArg _ (ringRow_addressed ⟨hruns, htyp, hcrc, ringBad_awake hcrc hhops, hdst, hcast, hsrc⟩ _ _)
    rw [ringDrain_empty hown, ringWrite_inRange hmode hlo hhi hlen hstart hend,
      ringSend_empty (s := memWriteList _ _ s) hown] at hexec
    exact ⟨_, hexec, memRead_memWriteList_run hwf _ _, rfl, rfl⟩
  case wakes =>
    intro s f hruns htyp hcrc hdst hcast hsrc hlen hmode hhush
    obtain ⟨own, out, hexec⟩ := exec_ringDoorbell ⟨hruns, htyp, hcrc, ringBad_hush hmode, hdst, hcast, hsrc⟩ hlen
    rw [wakeTrigger_hushed (s := drained own out s) hhush] at hexec
    exact ⟨_, hexec, rfl, hmode, rfl, rfl⟩
  case idle =>
    intro s f hruns htyp hcrc hhops hmode hdst hcast hsrc hlen hawake
    obtain ⟨own, out, hexec⟩ := exec_ringDoorbell ⟨hruns, htyp, hcrc, ringBad_awake hcrc hhops, hdst, hcast, hsrc⟩ hlen
    rw [wakeTrigger_awake (s := drained own out s) hawake] at hexec
    exact ⟨_, hexec, rfl⟩
  case reset =>
    intro s f hruns htyp hcrc hhops hmode hdst hcast hsrc hlen hkeys
    have hexec : exec (.ringResetFrame f) s = .next (ringResetOwn f (ringDrain s)) :=
      congrArg _ (ringRow_addressed ⟨hruns, htyp, hcrc, ringBad_awake hcrc hhops, hdst, hcast, hsrc⟩ _ _)
    obtain ⟨own, out, hdrain⟩ := ringDrain_drained s
    rw [ringResetOwn_keys hlen hkeys, hdrain, runScope_session (s := drained own out s) hmode] at hexec
    obtain ⟨hbusy, hcmdHead, -, hrspHead, -, -, -, -, -, -, hlive, -, -, -, hmodeKept, hrole⟩ :=
      scopeReset_cleared .session true (drained own out s)
    exact ⟨_, hexec, hbusy, hcmdHead, hrspHead, rfl, rfl, hlive, hmodeKept, hrole⟩
  case event =>
    intro s hruns hbits hfirst hroom
    have hexec : exec .ringEvent s = .next (ringEventSend s) := rfl
    rw [ringEventSend_first hruns hbits hfirst, ringSend_fits hroom] at hexec
    refine ⟨_, hexec, rfl, rfl, ?_, rfl⟩
    simp [modIg, headFrame]

end Sys2Proof.Proofs
end

section
/-! PW_DOMAIN on a network domain starts the port and its PTP anew (R77, R151): a unit that is LOCKED to PTP through that port
loses its reference, and the mode changes (R121). -/
namespace Sys2Proof.Proofs
open Sys2Proof.Machine

/-- A unit LOCKED to PTP: candidate 0 is that of port 0, which is in SLAVE. Its domain 0x09 is off and its machine idle. -/
def lockedThroughPort0 : State :=
  { pw := { inReset := false, boot := .done }, mode := .locked, role := .solo, firstLive := true,
    live := { cand := [(0, { typ := 1 })] },
    tk := { selected := some 0, cand := { st := .qualified } :: List.replicate 11 {} }, nw := { ptp0 := { st := 9 } } }

/-- PW_DOMAIN that switches domain 0x09 on. -/
def portDomainOn : Cmd :=
  { n := 0, origin := 0, order := .zero, tag := 9, opcode := 0x0D21, expert := false, auth := false, cred := 0, seq := 1,
    sched := none, payload := [9, 1, 0, 0], phase := .frame 0, ringNo := 0, mute := false, doomed := false }

/-- The port's PTP leaves SLAVE, its candidate is lost, and without an estimate for HOLDOVER the mode is FREERUN. -/
theorem portDomainOn_leavesLocked : (applyDirect portDomainOn lockedThroughPort0).mode = .freerun := by decide

/-- Refutes O46: its clause of PW_DOMAIN that starts an idle machine keeps the mode in every state. Domains 0x09 and 0x0A
start the PTP of their port anew, which ends LOCKED and ACQUIRE on that port's candidate. A port whose domain is off should
have no link and so no SLAVE, but the clause does not say so: it has no premise about the mode or the port. -/
theorem not_directRest : ¬ Obligations.DirectRest := by
  unfold Obligations.DirectRest
  rintro ⟨-, -, -, -, -, -, -, -, -, -, -, domainStarts, -, -⟩
  obtain ⟨-, -, hmode, -⟩ := domainStarts lockedThroughPort0 portDomainOn rfl (by decide) (by decide) (by decide) (by decide)
  rw [portDomainOn_leavesLocked] at hmode
  exact absurd hmode (by decide)

end Sys2Proof.Proofs
end

section
/-! Status commands (R413, R395): a row answers from the state at once, and a command of class 0x0E leaves no ledger entry
(R461). -/
namespace Sys2Proof.Proofs
open Sys2Proof.Machine Sys2Proof.Laws

/-- A response ring with room takes the final response, and no drain is due after it. -/
theorem respond_of_ready {s : State} {c : Cmd} (hready : HostReady s c) (status : Nat) (res : Bytes) :
    respond c status res s =
      dropCmd c.n (lgCommand c status (rspWrite (rspSlot s c.tag status c.opcode true false false res) s)) := by
  obtain ⟨horigin, hmute, hdoomed, hheld, hroom, -, hdrain⟩ := hready
  have hfinal : respondFinal c status res s =
      dropCmd c.n (lgCommand c status (rspWrite (rspSlot s c.tag status c.opcode true false false res) s)) := by
    simp [respondFinal, hdoomed, rspSend, rspHost, horigin, hmute, hheld, hroom]
  have hnone : drainReady (respondFinal c status res s) = none := by
    refine drainReady_none fun d hd => hdrain d ?_
    rw [hfinal] at hd
    have hkept := (List.mem_filter.1 hd).1
    rwa [(ledgerOnly_lgCommand c status _).mb, rspWrite_cmds] at hkept
  exact (settleDrains_of_none hnone _).trans hfinal

theorem raiseIrq_lg (b : Nat) (s : State) : (raiseIrq b s).lg = s.lg := by
  unfold raiseIrq
  split <;> rfl

theorem rspWrite_lg (slot : Bytes) (s : State) : (rspWrite slot s).lg = s.lg := raiseIrq_lg 0 _

/-- The answer of a command that the ledger does not log changes nothing of the ledger. -/
theorem respond_lg {s : State} {c : Cmd} (hready : HostReady s c) {status : Nat} (hlog : lgLogged c.opcode status = false)
    (res : Bytes) : (respond c status res s).lg = s.lg := by
  rw [respond_of_ready hready]
  simp [lgCommand, hlog, rspWrite_lg]

/-- A row that answers a command of class 0x0E at once. -/
theorem next_unlogged {i : Instr} {k : OrdClass} {op : Nat} {s : State} {c : Cmd} {status : Nat} {res : Bytes}
    (hexec : exec i s = .next (respond c status res s)) (hc : starting k op s = some c) (hready : HostReady s c)
    (hlog : lgLogged op status = false) :
    Next i s fun t => Answered s t c status res ∧ t.plant = s.plant ∧ t.lg = s.lg :=
  ⟨_, hexec, answered_respond hready status res, plant_respond c status res s,
    respond_lg hready (by rw [opcode_of_starting hc, hlog]) res⟩

section Start
variable {k : OrdClass} {op : Nat} {s : State} {c : Cmd} (hc : starting k op s = some c) (hgate : startGate s op = none)
include hc hgate

/-- A command that starts runs. -/
theorem startNow_starting (run : Cmd → State → State) : startNow k op run s = run c s := by
  simp only [startNow, hc, hgate]

section Row
variable {i : Instr} {ok : Bytes → Bool} {result : Bytes → State → Bytes}
  (hrow : exec i s = .next (startStatus k op ok result s)) (hready : HostReady s c)
include hrow hready

/-- Fields in range: DONE with the result. -/
theorem next_status_done {res : Bytes} (hres : result c.payload s = res) (hok : ok c.payload = true)
    (hlog : lgLogged op stDone = false) :
    Next i s fun t => Answered s t c stDone res ∧ t.plant = s.plant ∧ t.lg = s.lg := by
  refine next_unlogged (hrow.trans ?_) hc hready hlog
  rw [startStatus, startNow_starting hc hgate, if_pos hok, hres]

/-- A field out of range: BAD_ARGUMENT. -/
theorem next_status_bad (hok : ok c.payload = false) (hlog : lgLogged op stBad = false) :
    Next i s fun t => Answered s t c stBad [] ∧ t.plant = s.plant ∧ t.lg = s.lg := by
  refine next_unlogged (hrow.trans ?_) hc hready hlog
  rw [startStatus, startNow_starting hc hgate, if_neg (Bool.eq_false_iff.1 hok)]

end Row
end Start

/-- AD_STATUS of an ADC that no video line has taken (Table AD-21). -/
theorem runAdStatus_own {c : Cmd} {s : State} (hadc : u8 c.payload 0 ≤ 7) (hown : adcSystem s.live (u8 c.payload 0) = false) :
    runAdStatus c s = respond c stDone (adStatus (u8 c.payload 0) (selNow s (u8 c.payload 0)) s) s := by
  simp [runAdStatus, Nat.not_lt.2 hadc, hown]

/-- AD_RESULT of such an ADC (Table AD-23). -/
theorem runAdResult_own {c : Cmd} {s : State} (hbank : u8 c.payload 0 ≤ 19) (hadc : u8 c.payload 1 ≤ 7)
    (hpart : u8 c.payload 2 ≤ 4) (hown : adcSystem s.live (u8 c.payload 1) = false) :
    runAdResult c s =
      respond c stDone (bankPart (tabGet {} s.ad.banks (8 * u8 c.payload 0 + u8 c.payload 1)) (u8 c.payload 2)) s := by
  simp [runAdResult, Nat.not_lt.2 hbank, Nat.not_lt.2 hadc, Nat.not_lt.2 hpart, hown]

theorem runAdResult_noBank {c : Cmd} {s : State} (hbank : 19 < u8 c.payload 0) : runAdResult c s = respond c stBad [] s := by
  simp [runAdResult, hbank]

/-- Settles O47: a status row is one of the two answers of `startStatus`; AD_STATUS and AD_RESULT run their own. -/
theorem statusRows : Obligations.StatusRows := by
  unfold Obligations.StatusRows
  refine ⟨?config, ?hs, ?tk, ?offsets, ?cand, ?port, ?ptp, ?flow, ?ad, ?result, ?da, ?ps, ?te, ?meter, ?fp, ?sn, ?clk, ?rx,
    ?tw, ?ig, ?snap, ?pt, ?lg, ?hsBad, ?resultBad⟩
  case config | hs | cand | port | ptp | da | ps | te | clk | rx | snap | pt =>
    intro k s c hc hgate hready hrange
    exact next_status_done hc hgate rfl hready rfl (by simpa using hrange) rfl
  case tk | offsets | flow | fp | sn | tw | ig | lg =>
    intro k s c hc hgate hready
    exact next_status_done hc hgate rfl hready rfl rfl rfl
  case meter =>
    intro k s c hc hgate hready hrange
    exact next_status_done hc hgate rfl hready rfl (by simpa [and_assoc] using hrange) rfl
  case ad =>
    rintro k s c hc hgate hready ⟨hadc, hown⟩
    have hexec : exec (.adStatus k) s = .next (startNow k 0x0E30 runAdStatus s) := rfl
    rw [startNow_starting hc hgate, runAdStatus_own hadc hown] at hexec
    exact next_unlogged hexec hc hready rfl
  case result =>
    rintro k s c hc hgate hready ⟨hbank, hadc, hpart, hown⟩
    have hexec : exec (.adResult k) s = .next (startNow k 0x0E31 runAdResult s) := rfl
    rw [startNow_starting hc hgate, runAdResult_own hbank hadc hpart hown] at hexec
    exact next_unlogged hexec hc hready rfl
  case hsBad =>
    intro k s c hc hgate hready hrange
    exact next_status_bad hc hgate rfl hready (by simpa using hrange) rfl
  case resultBad =>
    intro k s c hc hgate hready hbank
    have hexec : exec (.adResult k) s = .next (startNow k 0x0E31 runAdResult s) := rfl
    rw [startNow_starting hc hgate, runAdResult_noBank hbank] at hexec
    exact next_unlogged hexec hc hready rfl

end Sys2Proof.Proofs
end

section
/-! Direct commands (R105, R399): a row checks and accepts, and the frame boundary makes the accepted ones act (R235, R293). -/
namespace Sys2Proof.Proofs
open Sys2Proof.Machine Sys2Proof.Laws

/-! ### The row that starts one -/

/-- A direct row runs `startDirect` with the check of its opcode. -/
theorem exec_of_direct_check {i : Instr} {k : OrdClass} {op : Nat} (s : State) (h : rowKind i = (k, .direct op)) :
    exec i s = .next (startDirect k op (startCheck op) s) := by
  cases i <;> cases h <;> rfl

section Row
variable {i : Instr} {k : OrdClass} {op : Nat} {s : State} {c : Cmd}
  (hi : rowKind i = (k, .direct op)) (hc : starting k op s = some c) (hgate : startGate s op = none)
include hi hc hgate

theorem exec_direct_accepted (hcheck : startCheck op c.payload s = none) :
    exec i s = .next (setPhase c.n (.frame s.mb.accepts) { s with mb := { s.mb with accepts := s.mb.accepts + 1 } }) := by
  rw [exec_of_direct_check s hi, startDirect, startNow_starting hc hgate]
  simp only [hcheck]

theorem exec_direct_refused {status : Nat} (hcheck : startCheck op c.payload s = some status) :
    exec i s = .next (respond c status [] s) := by
  rw [exec_of_direct_check s hi, startDirect, startNow_starting hc hgate]
  simp only [hcheck]

end Row

/-- Settles O41: `startDirect` accepts what its check lets through, and answers the rest. -/
theorem directRows : Obligations.DirectRows := by
  unfold Obligations.DirectRows
  refine ⟨?accepted, ?refused⟩
  case accepted =>
    intro i k op s c hi hc hgate hcheck
    exact ⟨_, exec_direct_accepted hi hc hgate hcheck, rfl, rfl, rfl⟩
  case refused =>
    intro i k op s c n hi hc hgate hcheck hready
    have hkept := mailKept_respond (.refl s.mb) c n []
    exact ⟨_, exec_direct_refused hi hc hgate hcheck, answered_respond hready n [], plant_respond c n [] s, hkept.staging,
      hkept.pend⟩

/-! ### One command at the boundary -/

section AtFrame
variable {check : Bytes → State → Option Nat} {run : Cmd → State → State} {c : Cmd} {s : State}

theorem atFrame_passed (h : check c.payload s = none) : atFrame check run c s = run c s := by
  simp only [atFrame, h]

theorem atFrame_refused {status : Nat} (h : check c.payload s = some status) :
    atFrame check run c s = respond c status [] s := by
  simp only [atFrame, h]

end AtFrame

/-- A command whose conditions no longer hold at the boundary is answered with the status they give. -/
theorem applyDirect_refused {c : Cmd} {s : State} {status : Nat} (h : directCheck c.opcode c.payload s = some status) :
    applyDirect c s = respond c status [] s := by
  unfold directCheck at h
  split at h
  case h_39 => exact absurd h (by simp)
  all_goals
    next hop =>
      simp only [applyDirect, hop]
      exact atFrame_refused h

/-! ### Which commands act -/

theorem mem_putOrder {c : Cmd} {i : Nat} {e : Nat × Cmd} {l : List (Nat × Cmd)} (h : e ∈ putOrder c i l) :
    e = (i, c) ∨ e ∈ l := by
  induction l with
  | nil => exact .inl (List.mem_singleton.1 h)
  | cons a l ih =>
    rw [putOrder] at h
    split at h
    · exact List.mem_cons.1 h
    · rcases List.mem_cons.1 h with rfl | h
      · exact .inr List.mem_cons_self
      · exact (ih h).imp_right (List.mem_cons_of_mem _)

/-- A command that acts at the boundary is outstanding. -/
theorem mem_cmds_of_frameCmds {s : State} {c : Cmd} (h : c ∈ frameCmds s) : c ∈ s.mb.cmds := by
  obtain ⟨e, he, rfl⟩ := List.mem_map.1 h
  refine List.foldlRecOn (motive := fun l : List (Nat × Cmd) => ∀ e ∈ l, e.2 ∈ s.mb.cmds) _ _ (by simp) ?_ e he
  intro l hl d hd e he
  split at he
  · rcases mem_putOrder he with rfl | he
    · exact hd
    · exact hl e he
  · exact hl e he

theorem stillWaits_of_mem {s : State} {c : Cmd} (h : c ∈ s.mb.cmds) : stillWaits s c = true :=
  List.any_eq_true.2 ⟨c, h, by simp⟩

theorem holdStage_mb (p : Bytes) (s : State) : (holdStage p s).mb = s.mb := by
  refine List.foldlRecOn (motive := fun t : State => t.mb = s.mb) _ _ rfl fun t ht n _ => ?_
  split
  · exact ht
  · exact ht

theorem stageHolds_mb (s : State) : (stageHolds s).mb = s.mb := by
  refine List.foldlRecOn (motive := fun t : State => t.mb = s.mb) _ _ rfl fun t ht c _ => ?_
  split
  · exact (holdStage_mb c.payload t).trans ht
  · exact ht

/-- A command that acts at the boundary still waits after the codes of DA_HOLD are staged. -/
theorem stillWaits_stageHolds {s : State} {c : Cmd} (h : c ∈ frameCmds s) : stillWaits (stageHolds s) c = true :=
  stillWaits_of_mem ((stageHolds_mb s).symm ▸ mem_cmds_of_frameCmds h)

theorem exec_frameBoundary (inp : FrameInput) (s : State) :
    exec (.frameBoundary inp) s = .next (endBoundary (applyDirects (atDirects inp s))) := rfl

section Acting
variable {s : State} (hserving : serving s = true)
include hserving

theorem applyDirects_one {c : Cmd} (hcmds : stepsFirst (frameCmds s) = [c]) (hc : c ∈ frameCmds s) :
    applyDirects s = applyDirect c (stageHolds s) := by
  simp [applyDirects, hserving, hcmds, stillWaits_stageHolds hc]

theorem applyDirects_two {c d : Cmd} (hcmds : stepsFirst (frameCmds s) = [c, d]) (hc : c ∈ frameCmds s)
    (hd : stillWaits (applyDirect c (stageHolds s)) d = true) :
    applyDirects s = applyDirect d (applyDirect c (stageHolds s)) := by
  simp [applyDirects, hserving, hcmds, stillWaits_stageHolds hc, hd]

end Acting

theorem applyDirects_none {s : State} (h : frameCmds s = [] ∨ serving s = false) : applyDirects s = s := by
  rcases h with h | h
  · simp [applyDirects, stageHolds, stepsFirst, h]
  · simp [applyDirects, h]

/-- One command keeps its place. -/
theorem stepsFirst_one (c : Cmd) : stepsFirst [c] = [c] := by
  by_cases h : c.opcode = 0x0324 <;> simp [stepsFirst, h]

/-- Two keep their places, but for a TK_SET_TIME behind another command. -/
theorem stepsFirst_two {c d : Cmd} (h : c.opcode = 0x0324 ∨ d.opcode ≠ 0x0324) : stepsFirst [c, d] = [c, d] := by
  rcases h with hc | hd
  · by_cases hd : d.opcode = 0x0324 <;> simp [stepsFirst, hc, hd]
  · by_cases hc : c.opcode = 0x0324 <;> simp [stepsFirst, hc, hd]

theorem stepsFirst_swapped {c d : Cmd} (hc : c.opcode ≠ 0x0324) (hd : d.opcode = 0x0324) : stepsFirst [c, d] = [d, c] := by
  simp [stepsFirst, hc, hd]

/-- Settles O42: the boundary is `applyDirects` between `atDirects` and `endBoundary`; one command, or two in either order,
act on the state with the codes staged, and a refused one is answered by `atFrame`. -/
theorem frameAppliesDirects : Obligations.FrameAppliesDirects := by
  unfold Obligations.FrameAppliesDirects
  refine ⟨?one, ?inOrder, ?stepFirst, ?none, ?refused⟩
  case one =>
    rintro inp s x c rfl hserving hcmds
    have hfirst : stepsFirst (frameCmds (atDirects inp s)) = [c] := by rw [hcmds, stepsFirst_one]
    rw [exec_frameBoundary, applyDirects_one hserving hfirst (by simp [hcmds])]
  case inOrder =>
    rintro inp s x c d rfl hserving hcmds hop hwaits
    have hfirst : stepsFirst (frameCmds (atDirects inp s)) = [c, d] := by rw [hcmds, stepsFirst_two hop]
    rw [exec_frameBoundary, applyDirects_two hserving hfirst (by simp [hcmds]) hwaits]
  case stepFirst =>
    rintro inp s x c d rfl hserving hcmds hc hd hwaits
    have hfirst : stepsFirst (frameCmds (atDirects inp s)) = [d, c] := by rw [hcmds, stepsFirst_swapped hc hd]
    rw [exec_frameBoundary, applyDirects_two hserving hfirst (by simp [hcmds]) hwaits]
  case none =>
    rintro inp s x rfl h
    rw [exec_frameBoundary, applyDirects_none h]
  case refused =>
    intro s c n hcheck hready
    rw [applyDirect_refused hcheck]
    exact ⟨answered_respond hready n [], plant_respond c n [] s⟩

end Sys2Proof.Proofs
end

section
/-! The synthesisers and the data plane over a FAULT, a stop and an answer (R14, R35, R92): SAFE entry leaves the Headstock as
it is, and a data plane that has stopped stays stopped. -/
namespace Sys2Proof.Proofs
open Sys2Proof.Machine Sys2Proof.Laws

theorem getSyn_of_hs {s t : State} (h : t.hs = s.hs) (x : Syn) : getSyn t x = getSyn s x := by
  cases x <;> simp only [getSyn, h]

theorem getRoot_of_hs {s t : State} (h : t.hs = s.hs) (r : RootId) : getRoot t r = getRoot s r := by
  cases r <;> simp only [getRoot, h]

/-! ### FAULT -/

/-- The Headstock and the data plane. -/
def clocks (s : State) : HsState × DataPlane := (s.hs, s.dataPlane)

theorem hs_of_clocks {s t : State} (h : clocks t = clocks s) : t.hs = s.hs := congrArg Prod.fst h
theorem dataPlane_of_clocks {s t : State} (h : clocks t = clocks s) : t.dataPlane = s.dataPlane := congrArg Prod.snd h

theorem clocks_of_plant {s t : State} (h : t.plant = s.plant) : clocks t = clocks s := by
  have hclocks := congrArg clocks h
  exact hclocks

theorem clocks_raiseAlarm (blk : Nat) (s : State) : clocks (raiseAlarm blk s) = clocks s :=
  clocks_of_plant (plant_raiseAlarm blk s)

theorem clocks_respondTo (n status : Nat) (res : Bytes) (s : State) : clocks (respondTo n status res s) = clocks s :=
  clocks_of_plant (plant_respondTo n status res s)

theorem clocks_identAbandon (s : State) : clocks (identAbandon s) = clocks s := by
  unfold identAbandon
  split
  · rfl
  · dsimp only
    split
    · exact clocks_respondTo _ _ _ _
    · rfl

theorem clocks_fenceEval (s : State) : clocks (fenceEval s) = clocks s := by
  unfold fenceEval
  dsimp only
  split
  · rfl
  · split
    · rfl
    · exact clocks_identAbandon _

theorem clocks_setMode (m : Mode) (s : State) : clocks (setMode m s) = clocks s := by
  unfold setMode
  split
  · rfl
  · rw [clocks_fenceEval, clocks_of_plant (plant_raiseIrq _ _), clocks_of_plant (plant_lgEvent _ _ _)]
    rfl

/-- Only a unit that becomes STANDBY has its moves ended (R509). -/
theorem clocks_setRole {r : Role} (hr : r ≠ .standby) (s : State) : clocks (setRole r s) = clocks s := by
  unfold setRole
  split
  · exact clocks_fenceEval s
  · have hevent : clocks (raiseIrq 5 (lgEvent 0xFF04 (roleCode s.role + 256 * roleCode r + 65536 * s.tw.lastCause)
        { s with role := r })) = clocks s := by
      rw [clocks_of_plant (plant_raiseIrq _ _), clocks_of_plant (plant_lgEvent _ _ _)]
      rfl
    dsimp only
    rw [clocks_fenceEval]
    generalize raiseIrq 5 _ = t at hevent ⊢
    rw [← hevent]
    repeat' split
    all_goals rfl

theorem clocks_releaseChuck (cause : Nat) (s : State) : clocks (releaseChuck cause s) = clocks s :=
  clocks_setRole (by decide) _

theorem clocks_swapEnd (result : Nat) (s : State) : clocks (swapEnd result s) = clocks s := by
  unfold swapEnd
  split
  · rfl
  · exact clocks_respondTo _ _ _ _

theorem clocks_twinFault (s : State) : clocks (twinFault s) = clocks s := by
  unfold twinFault
  split
  · rfl
  · split
    · exact (clocks_swapEnd 2 _).trans (clocks_releaseChuck 1 s)
    · dsimp only
      split
      · exact clocks_setRole (by decide) _
      · rfl

theorem clocks_safeOutputs (s : State) : clocks (safeOutputs s) = clocks s := by
  unfold safeOutputs
  dsimp only
  split <;> rfl

theorem clocks_enterSafe (causes : Nat) (s : State) : clocks (enterSafe causes s) = clocks s := by
  have hstanding : clocks (safeStanding causes (safeStart causes s)) = clocks s := by
    rw [safeStanding, clocks_of_plant (plant_lgCloseAll _), clocks_of_plant (plant_lgEvent _ _ _),
      clocks_of_plant (plant_raiseIrq _ _), clocks_setMode]
    rfl
  have hanswers : clocks (safeAnswers (safeStanding causes (safeStart causes s))) = clocks s :=
    (clocks_of_plant (plant_safeAnswers _)).trans hstanding
  rw [enterSafe_eq, safeEnd, clocks_safeOutputs, clocks_twinFault]
  generalize safeAnswers _ = t at hanswers ⊢
  exact hanswers

theorem clocks_inOrder (rank : Nat) (s : State) : clocks (inOrder rank s) = clocks s := by
  unfold inOrder
  split <;> rfl

theorem clocks_raiseFault {s : State} (h : Running s.mode) (causes : Nat) : clocks (raiseFault causes s) = clocks s := by
  rw [raiseFault_of_running h, clocks_enterSafe, clocks_inOrder]

/-! ### The data plane stops -/

theorem modSeq_hs (inj : Bool) (f : SeqRun → SeqRun) (s : State) : (modSeq inj f s).hs = s.hs := by
  cases inj <;> rfl

theorem endPass_hs (inj : Bool) (s : State) : (endPass inj s).hs = s.hs := by
  unfold endPass
  extract_lets q s1 s2 next
  have hs1 : s1.hs = s.hs := by
    simp only [s1]
    split
    · rfl
    · split
      · rfl
      · exact modSeq_hs inj _ s
  have hs2 : s2.hs = s.hs := (modSeq_hs inj _ s1).trans hs1
  split <;> exact hs2

theorem stopMclk_hs (s : State) : (stopMclk s).hs = s.hs := (endPass_hs false _).trans (endPass_hs true s)

theorem stopPlane_hs (k : DataPlane) (s : State) : (stopPlane k s).hs = s.hs := by
  unfold stopPlane
  split
  · rfl
  · exact stopMclk_hs _

/-- A dark data plane stays dark; any other waits for the restart that comes later. -/
theorem stopPlane_dataPlane (k : DataPlane) (s : State) :
    (stopPlane k s).dataPlane = if s.dataPlane = .dark then .dark else laterStop s.dataPlane k := by
  unfold stopPlane
  split
  · next h => exact h
  · exact dataPlane_of_view (view_stopMclk _)

theorem stopPlane_relock_stopped (s : State) : (stopPlane .relock s).dataPlane ≠ .running := by
  rw [stopPlane_dataPlane, laterStop]
  split
  · decide
  · split <;> decide

/-! ### Lock -/

theorem bootLocked_hs (s : State) : (bootLocked s).hs = s.hs := by
  unfold bootLocked
  split <;> rfl

theorem getSyn_lockDone (x : Syn) (s : State) : getSyn (lockDone x s) x =
    { getSyn s x with lock := 4, lockWord := (getSyn s x).word, suspended := false, relockCmd := none, moveAt := s.clock,
                      lockAt := s.clock, tapOff := if (getSyn s x).epoch then 0 else (getSyn s x).tapOff,
                      drift := (getSyn s x).drift && !(getSyn s x).epoch, epoch := false } := by
  cases x <;> rfl

/-- The HS_RELOCK that waited for the lock is answered (R114). -/
def lockAnswered (cmd : Option Nat) (s : State) : State :=
  match cmd with
  | some n => respondTo n stDone [] s
  | none => s

theorem lockAnswered_kept (cmd : Option Nat) (s : State) :
    (lockAnswered cmd s).hs = s.hs ∧ fkey (lockAnswered cmd s) = fkey s := by
  cases cmd with
  | some n => exact ⟨hs_of_clocks (clocks_respondTo n _ _ s), key_respondTo n _ _ s⟩
  | none => exact ⟨rfl, rfl⟩

theorem exec_synthLockDeclared_eq {s : State} {x : Syn} (hon : (getSyn s x).lock ≠ 0) (hopen : (getSyn s x).lock ≠ 4) :
    exec (.synthLockDeclared x) s = .next (bootLocked (if x = .vsyn
      then psWait true (lockAnswered (getSyn s x).relockCmd (lockDone x s))
      else lockAnswered (getSyn s x).relockCmd (lockDone x s))) :=
  if_neg (not_or.2 ⟨hon, hopen⟩)

/-- A declared lock leaves the synthesiser as `lockDone` does; the answer of HS_RELOCK, the sequencers and the boot leave it
alone. -/
theorem exec_synthLockDeclared {s : State} {x : Syn} (hon : (getSyn s x).lock ≠ 0) (hopen : (getSyn s x).lock ≠ 4) :
    Next (.synthLockDeclared x) s fun t => t.hs = (lockDone x s).hs ∧ t.mode = s.mode := by
  obtain ⟨hhs, hkey⟩ := lockAnswered_kept (getSyn s x).relockCmd (lockDone x s)
  have hmode := mode_of_key (hkey.trans (key_lockDone x s))
  refine ⟨_, exec_synthLockDeclared_eq hon hopen, ?_, ?_⟩
  · rw [bootLocked_hs]
    split <;> exact hhs
  · rw [mode_of_key (key_bootLocked _)]
    split <;> exact hmode

/-- The state in which a loss of lock raises its FAULT: the gates of the synthesiser are closed, and MCLK has stopped. -/
def lockLost (x : Syn) (s : State) : State :=
  if x = .msyn then stopPlane .relock (modSyn x (fun y => { y with lock := 2 }) (closeGates x s))
  else modSyn x (fun y => { y with lock := 2 }) (closeGates x s)

theorem exec_synthLossOfLock {s : State} {x : Syn} (h : (getSyn s x).lock = 4) :
    exec (.synthLossOfLock x) s = .next (raiseFault fUnlock (lockLost x s)) :=
  if_neg (not_not_intro h)

theorem lockLost_mode (x : Syn) (s : State) : (lockLost x s).mode = s.mode := by
  unfold lockLost
  split <;> exact mode_of_key (by simp only [key_stopPlane, key_modSyn, key_closeGates])

theorem lockLost_lock (x : Syn) (s : State) : (getSyn (lockLost x s) x).lock = 2 := by
  have hlost : (getSyn (modSyn x (fun y => { y with lock := 2 }) (closeGates x s)) x).lock = 2 := by
    rw [getSyn_modSyn, if_pos rfl]
  unfold lockLost
  split
  · rw [getSyn_of_hs (stopPlane_hs _ _), hlost]
  · exact hlost

theorem lockLost_stopped (s : State) : (lockLost .msyn s).dataPlane ≠ .running := stopPlane_relock_stopped _

/-! ### Phase moves -/

/-- The states differ in the Headstock and in Tracking at most. -/
def ClocksOnly (s t : State) : Prop := ∃ h k, t = { s with hs := h, tk := k }

theorem ClocksOnly.frame {s t : State} (h : ClocksOnly s t) : { t with hs := s.hs, tk := s.tk } = s := by
  obtain ⟨h, k, rfl⟩ := h
  rfl

theorem ClocksOnly.trans {s t u : State} : ClocksOnly s t → ClocksOnly t u → ClocksOnly s u := by
  rintro ⟨h, k, rfl⟩ ⟨h', k', rfl⟩
  exact ⟨h', k', rfl⟩

theorem clocksOnly_modSyn (x : Syn) (f : SynState → SynState) (s : State) : ClocksOnly s (modSyn x f s) := by
  cases x <;> exact ⟨_, _, rfl⟩

theorem clocksOnly_advanceTaps (x : Syn) (a res : Int) (s : State) : ClocksOnly s (advanceTaps x a res s) := by
  cases x <;> exact ⟨_, _, rfl⟩

theorem clocksOnly_progressMove (x : Syn) (s : State) : ClocksOnly s (progressMove x s) := by
  unfold progressMove
  dsimp only
  split
  · exact (clocksOnly_advanceTaps x _ _ s).trans (clocksOnly_modSyn x _ _)
  · exact clocksOnly_modSyn x _ s

/-- The taps move on with an amount that is added; nothing else of a synthesiser does. -/
theorem getSyn_advanceTaps (x y : Syn) (a res : Int) (s : State) :
    ∃ o, getSyn (advanceTaps x a res s) y = { getSyn s y with tapOff := o } := by
  cases x <;> cases y <;> exact ⟨_, rfl⟩

theorem getSyn_progressMove_resting {x : Syn} {s : State} (h : moveRuns (getSyn s x) = false) :
    getSyn (progressMove x s) x = { getSyn s x with moveAt := s.clock } := by
  simp only [progressMove, h, Bool.false_eq_true, if_false, getSyn_modSyn, if_true]

/-- A running move: the steps of the cycles that have passed are taken off the amount owed (R97). -/
theorem getSyn_progressMove_running {x : Syn} {s : State} (h : moveRuns (getSyn s x) = true) :
    (getSyn (progressMove x s) x).owed = (getSyn s x).owed -
      moveTaken (getSyn s x) (((getSyn s x).cyc + s.hs.rootHz * (s.clock - (getSyn s x).moveAt)) / uPerS) ∧
    (getSyn (progressMove x s) x).word = (getSyn s x).word ∧ (getSyn (progressMove x s) x).moving = (getSyn s x).moving ∧
    (getSyn (progressMove x s) x).suspended = (getSyn s x).suspended := by
  simp only [progressMove, h, if_true, getSyn_modSyn]
  refine ⟨?_, ?_, ?_, ?_⟩
  all_goals
    generalize stepPhase _ _ (takePart _ _) = res
    obtain ⟨o, ho⟩ := getSyn_advanceTaps x x (stepPhase s.hs.rootHz (getSyn s x).word
      (moveTaken (getSyn s x) (((getSyn s x).cyc + s.hs.rootHz * (s.clock - (getSyn s x).moveAt)) / uPerS))) res s
    rw [ho]

theorem moveRuns_iff (y : SynState) : moveRuns y = true ↔ y.moving = true ∧ y.suspended = false ∧ y.lock = 4 ∧ y.owed ≠ 0 := by
  simp [moveRuns, and_assoc]

theorem getSyn_addK (g : Group) (d : Int) (s : State) (y : Syn) : ∃ o, getSyn (addK g d s) y = { getSyn s y with tapOff := o } := by
  cases g <;> cases y <;> exact ⟨_, rfl⟩

theorem clocksOnly_addK (g : Group) (d : Int) (s : State) : ClocksOnly s (addK g d s) := by
  cases g <;> exact ⟨_, _, rfl⟩

/-- The end of a realign changes kept offsets and tap phases only (R135). -/
theorem realignDone_taps (x y : Syn) (s : State) :
    ClocksOnly s (realignDone x s) ∧ ∃ o, getSyn (realignDone x s) y = { getSyn s y with tapOff := o } := by
  unfold realignDone
  split
  · next g _ =>
    split
    · obtain ⟨o, ho⟩ := getSyn_addK g (-(kOf s g)) s y
      refine ⟨(clocksOnly_addK g _ s).trans ⟨_, _, rfl⟩, o, ?_⟩
      rw [← ho]
      exact getSyn_of_hs rfl y
    · exact ⟨⟨_, _, rfl⟩, (getSyn s y).tapOff, rfl⟩
  · exact ⟨⟨_, _, rfl⟩, (getSyn s y).tapOff, rfl⟩

/-- A move that owes nothing after the cycles up to now is over. -/
theorem next_moveDone {x : Syn} {s : State} (hmoving : (getSyn (progressMove x s) x).moving = true)
    (hruns : (getSyn (progressMove x s) x).suspended = false) (howed : (getSyn (progressMove x s) x).owed = 0) :
    Next (.phaseMoveComplete x) s fun t => (getSyn t x).moving = false ∧ (getSyn t x).owed = 0 ∧
      (getSyn t x).word = (getSyn (progressMove x s) x).word ∧ { t with hs := s.hs, tk := s.tk } = s := by
  have hdone := realignDone_taps x x
    (modSyn x (fun y => { y with loopOwed := 0, resOwed := 0, moving := false, paused := false }) (progressMove x s))
  obtain ⟨honly, o, ho⟩ := hdone
  rw [getSyn_modSyn, if_pos rfl] at ho
  refine ⟨_, by simp only [exec, execPhaseMoveComplete, hmoving, hruns, howed]; rfl, ?_, ?_, ?_, ?_⟩
  · rw [ho]
  · rw [ho]; exact howed
  · rw [ho]
  · exact (((clocksOnly_progressMove x s).trans (clocksOnly_modSyn x _ _)).trans honly).frame

/-- A move that still owes something goes on. -/
theorem exec_moveGoesOn {x : Syn} {s : State} (howed : (getSyn (progressMove x s) x).owed ≠ 0) :
    exec (.phaseMoveComplete x) s = .next (progressMove x s) := by
  simp [exec, execPhaseMoveComplete, howed]

/-- Settles O12: a lock by `lockDone`, its loss and its timeout by the law of a FAULT, a phase move by `progressMove`. -/
theorem synthesisers : Obligations.Synthesisers := by
  unfold Obligations.Synthesisers
  refine ⟨?declared, ?timeout, ?bootTimeout, ?loss, ?owesNothing, ?taken, ?goesOn⟩
  case declared =>
    intro s x hon hopen
    obtain ⟨t, hexec, hhs, hmode⟩ := exec_synthLockDeclared hon hopen
    have hsyn := (getSyn_of_hs hhs x).trans (getSyn_lockDone x s)
    refine ⟨t, hexec, ?_, ?_, ?_, ?_, hmode⟩ <;> rw [hsyn]
  case timeout =>
    intro s x hon hopen hdue hmode
    have hboot : s.mode ≠ .boot := by rcases hmode with h | h | h | h | h <;> rw [h] <;> decide
    have hexec : exec (.synthLockTimeout x) s = .next (raiseFault fUnlock s) := by
      simp [exec, execSynthLockTimeout, hon, hopen, hdue, hboot]
    have he := raiseFault_entered hmode fUnlock
    exact ⟨_, hexec, he.mode, he.cause⟩
  case bootTimeout =>
    intro s x hon hopen hdue hmode
    simp [exec, execSynthLockTimeout, hon, hopen, hdue, hmode]
  case loss =>
    intro s x hlock hmode
    have hrun : Running (lockLost x s).mode := (lockLost_mode x s).symm ▸ hmode
    have he := raiseFault_entered hrun fUnlock
    have hkept := clocks_raiseFault hrun fUnlock
    refine ⟨_, exec_synthLossOfLock hlock, he.mode, he.cause, ?_, ?_⟩
    · rw [getSyn_of_hs (hs_of_clocks hkept), lockLost_lock]
    · rintro rfl
      rw [dataPlane_of_clocks hkept]
      exact lockLost_stopped s
  case owesNothing =>
    intro s x hmoving hruns howed
    have hsyn := getSyn_progressMove_resting (x := x) (s := s) (by simp [moveRuns, howed])
    have hnext := next_moveDone (x := x) (s := s) (by rw [hsyn]; exact hmoving) (by rw [hsyn]; exact hruns)
      (by rw [hsyn]; exact howed)
    rwa [hsyn] at hnext
  case taken =>
    intro s x hruns htaken
    obtain ⟨hmoving, hsuspended, -, -⟩ := (moveRuns_iff _).1 hruns
    obtain ⟨howed, hword, hmoving', hsuspended'⟩ := getSyn_progressMove_running hruns
    have hnext := next_moveDone (hmoving'.trans hmoving) (hsuspended'.trans hsuspended) (by omega)
    rwa [hword] at hnext
  case goesOn =>
    intro s x hruns htaken
    obtain ⟨hmoving, -, -, -⟩ := (moveRuns_iff _).1 hruns
    obtain ⟨howed, hword, hmoving', -⟩ := getSyn_progressMove_running hruns
    have hleft : (getSyn (progressMove x s) x).owed ≠ 0 := by omega
    exact ⟨_, exec_moveGoesOn hleft, hmoving'.trans hmoving, hleft, hword⟩

end Sys2Proof.Proofs
end

section
/-! Roots and Tool rest (R81 to R86, R103, R104, R339). -/
namespace Sys2Proof.Proofs
open Sys2Proof.Machine Sys2Proof.Laws

/-! ### The switch of the root -/

/-- What a switch of the root leaves alone. -/
def rootKey (s : State) : RootInput × RootInput × Option RootId × Mode × Tables × MbState :=
  (s.hs.rootA, s.hs.rootB, s.hs.force, s.mode, s.live, s.mb)

theorem rootKey_iff {s t : State} : rootKey t = rootKey s ↔ t.hs.rootA = s.hs.rootA ∧ t.hs.rootB = s.hs.rootB ∧
    t.hs.force = s.hs.force ∧ t.mode = s.mode ∧ t.live = s.live ∧ t.mb = s.mb := by
  simp only [rootKey, Prod.mk.injEq]

theorem rootKey_modSyn (x : Syn) (f : SynState → SynState) (s : State) : rootKey (modSyn x f s) = rootKey s := by
  cases x <;> rfl

theorem rootKey_startLock (x : Syn) (s : State) : rootKey (startLock x s) = rootKey s :=
  (rootKey_modSyn x _ _).trans (rootKey_modSyn x _ _)

theorem rootKey_switchSyn (r : RootId) (x : Syn) (s : State) : rootKey (switchSyn r x s) = rootKey s := by
  unfold switchSyn
  dsimp only
  split
  · exact (rootKey_startLock x _).trans (rootKey_modSyn x _ s)
  · exact rootKey_modSyn x _ s

/-- ROOT_SWITCH rescales words and estimates; the states of the roots, a force, the mode, the tables and the mailbox stay. -/
theorem rootKey_rootSwitch (r : RootId) (s : State) : rootKey (rootSwitch r s) = rootKey s := by
  unfold rootSwitch
  split
  · rfl
  · extract_lets s1
    have hs1 : rootKey s1 = rootKey s :=
      List.foldlRecOn (motive := fun t => rootKey t = rootKey s) _ _ rfl
        fun t ht x _ => (rootKey_switchSyn r x t).trans ht
    clear_value s1
    exact hs1

theorem rootNow_rootSwitch (r : RootId) (s : State) : rootNow (rootSwitch r s) = r := by
  unfold rootSwitch
  split
  · assumption
  · cases r <;> rfl

theorem rootSwitch_now {r : RootId} {s : State} (h : rootNow s = r) : rootSwitch r s = s := if_pos h

theorem getRoot_of_rootKey {s t : State} (h : rootKey t = rootKey s) (r : RootId) : getRoot t r = getRoot s r := by
  obtain ⟨ha, hb, -⟩ := rootKey_iff.1 h
  cases r
  · exact ha
  · exact hb

/-! ### The states of the roots -/

theorem otherRoot_ne (r : RootId) : otherRoot r ≠ r := by cases r <;> decide

theorem otherRoot_of_ne {r q : RootId} (h : r ≠ q) : otherRoot r = q := by
  cases r <;> cases q
  case a.a | b.b => exact absurd rfl h
  case a.b | b.a => rfl

theorem getRoot_setRoot (r q : RootId) (st : RootSt) (s : State) :
    getRoot (setRoot r st s) q = if q = r then { st, since := s.clock } else getRoot s q := by
  cases r <;> cases q <;> rfl

theorem setRoot_frame (r : RootId) (st : RootSt) (s : State) :
    { setRoot r st s with hs := { (setRoot r st s).hs with rootA := s.hs.rootA, rootB := s.hs.rootB } } = s := by
  cases r <;> rfl

theorem rootNow_setRoot (r : RootId) (st : RootSt) (s : State) : rootNow (setRoot r st s) = rootNow s := by
  cases r <;> rfl

theorem rootQualified_iff (s : State) (r : RootId) : rootQualified s r = true ↔ (getRoot s r).st = .qualified := by
  simp [rootQualified]

theorem rootQualified_setRoot_other (r : RootId) (st : RootSt) (s : State) :
    rootQualified (setRoot r st s) (otherRoot r) = rootQualified s (otherRoot r) := by
  rw [rootQualified, getRoot_setRoot, if_neg (otherRoot_ne r), rootQualified]

theorem exec_rootDisqualified {s : State} {r : RootId}
    (h : (getRoot s r).st = .qualified ∨ (getRoot s r).st = .requalifying) :
    exec (.rootDisqualified r) s = .next (rootFail r s) := by
  rcases h with h | h <;> simp only [exec, execRootDisqualified, h]

/-- The other root takes over, with an ALARM, and the force ends (R83). -/
theorem rootFail_takenOver {s : State} {r : RootId} (hother : (getRoot s (otherRoot r)).st = .qualified) (hnow : rootNow s = r) :
    ∃ t, rootFail r s = rootSwitch (otherRoot r) t ∧ getRoot t r = { st := .disqualified, since := s.clock } ∧
      t.hs.force = none ∧ nbit t.mb.alarmBlocks blkHS = true ∧ t.mode = s.mode := by
  have hqual : rootQualified (setRoot r .disqualified s) (otherRoot r) = true := by
    rw [rootQualified_setRoot_other, rootQualified_iff, hother]
  have hnow' : rootNow (setRoot r .disqualified s) = r := (rootNow_setRoot r _ s).trans hnow
  have hkept := hs_of_clocks (clocks_raiseAlarm blkHS (setRoot r .disqualified s))
  simp only [rootFail, hqual, hnow', if_true]
  refine ⟨_, rfl, ?_, rfl, raiseAlarm_sets blkHS _, ?_⟩
  · have hroot := (getRoot_of_hs hkept r).trans (getRoot_setRoot r r .disqualified s)
    rw [if_pos rfl] at hroot
    cases r <;> exact hroot
  · exact (raiseAlarm_mode blkHS _).trans (mode_of_key (key_setRoot r _ s))

/-- Without another QUALIFIED root the root in use fails as both roots do (R86). -/
theorem rootFail_both {s : State} {r : RootId} (hother : (getRoot s (otherRoot r)).st ≠ .qualified) (hnow : rootNow s = r) :
    rootFail r s = raiseFault fRoots (setRoot r .disqualified s) := by
  have hqual : rootQualified (setRoot r .disqualified s) (otherRoot r) = false := by
    rw [rootQualified_setRoot_other, ← Bool.not_eq_true, rootQualified_iff]
    exact hother
  have hnow' : rootNow (setRoot r .disqualified s) = r := (rootNow_setRoot r _ s).trans hnow
  simp [rootFail, hqual, hnow']

theorem exec_rootQualified {s : State} {r : RootId} (hst : (getRoot s r).st = .requalifying)
    (hdue : (getRoot s r).since + uPerS ≤ s.clock) (hheld : s.hs.heldUnfit = false) :
    exec (.rootQualified r) s = .next (autoSelect (setRoot r .qualified s)) := by
  have hstays : leaveUnfit (setRoot r .qualified s) = setRoot r .qualified s := by
    have hheld' : (setRoot r .qualified s).hs.heldUnfit = false := by cases r <;> exact hheld
    simp [leaveUnfit, hheld']
  simp [exec, execRootQualified, hst, hdue, hstays]

theorem autoSelect_qualified {s : State} (h : rootQualified s (rootNow s) = true) : autoSelect s = s := by
  simp [autoSelect, h]

theorem autoSelect_switches {s : State} (hforce : s.hs.force = none) (hnow : rootQualified s (rootNow s) = false)
    (hother : rootQualified s (otherRoot (rootNow s)) = true) : autoSelect s = rootSwitch (otherRoot (rootNow s)) s := by
  simp [autoSelect, hforce, hnow, hother]

/-- Settles O13: each row by `rootFail`, `setRoot`, `autoSelect` or `rootSwitch`, and by what a switch leaves alone. -/
theorem roots : Obligations.Roots := by
  unfold Obligations.Roots
  refine ⟨?takenOver, ?both, ?clear, ?stays, ?selected, ?revert, ?within, ?exceeds⟩
  case takenOver =>
    intro s r hst hother hnow
    obtain ⟨t, hfail, hroot, hforce, halarm, hmode⟩ := rootFail_takenOver hother hnow
    have hkey := rootKey_rootSwitch (otherRoot r) t
    obtain ⟨-, -, hforce', hmode', -, hmb⟩ := rootKey_iff.1 hkey
    refine ⟨_, (exec_rootDisqualified hst).trans (congrArg _ hfail), ?_, rootNow_rootSwitch _ t, hforce'.trans hforce, ?_,
      hmode'.trans hmode⟩
    · rw [getRoot_of_rootKey hkey, hroot]
    · rw [hmb]; exact halarm
  case both =>
    intro s r hst hother hnow hmode
    have hrun : Running (setRoot r .disqualified s).mode := (mode_of_key (key_setRoot r _ s)).symm ▸ hmode
    have he := raiseFault_entered hrun fRoots
    refine ⟨_, (exec_rootDisqualified hst).trans (congrArg _ (rootFail_both hother hnow)), ?_, he.mode, he.cause⟩
    rw [getRoot_of_hs (hs_of_clocks (clocks_raiseFault hrun fRoots)), getRoot_setRoot, if_pos rfl]
  case clear =>
    intro s r hst
    refine ⟨setRoot r .requalifying s, by simp [exec, execRootConditionClear, hst], ?_, ?_, setRoot_frame r _ s⟩
    · rw [getRoot_setRoot, if_pos rfl]
    · rw [getRoot_setRoot, if_neg (otherRoot_ne r)]
  case stays =>
    intro s r hst hdue hheld hnow
    have hqual : rootQualified (setRoot r .qualified s) (rootNow (setRoot r .qualified s)) = true := by
      rw [rootNow_setRoot, rootQualified_iff, getRoot_setRoot]
      split
      · rfl
      · next hne => exact hnow.resolve_left hne
    refine ⟨setRoot r .qualified s, ?_, ?_, rootNow_setRoot r _ s, setRoot_frame r _ s⟩
    · rw [exec_rootQualified hst hdue hheld, autoSelect_qualified hqual]
    · rw [getRoot_setRoot, if_pos rfl]
  case selected =>
    intro s r hst hdue hheld hforce hne hbad
    have hnow := rootNow_setRoot r .qualified s
    have hother : otherRoot (rootNow (setRoot r .qualified s)) = r := by rw [hnow, otherRoot_of_ne hne]
    have hswitch : autoSelect (setRoot r .qualified s) = rootSwitch r (setRoot r .qualified s) := by
      have h := autoSelect_switches (s := setRoot r .qualified s) (by cases r <;> exact hforce)
        (by rw [← Bool.not_eq_true, rootQualified_iff, hnow, getRoot_setRoot, if_neg hne]; exact hbad)
        (by rw [hother, rootQualified_iff, getRoot_setRoot, if_pos rfl])
      rwa [hother] at h
    have hkey := rootKey_rootSwitch r (setRoot r .qualified s)
    obtain ⟨-, -, -, hmode, hlive, -⟩ := rootKey_iff.1 hkey
    refine ⟨_, (exec_rootQualified hst hdue hheld).trans (congrArg _ hswitch), ?_, rootNow_rootSwitch r _, ?_, ?_⟩
    · rw [getRoot_of_rootKey hkey, getRoot_setRoot, if_pos rfl]
    · exact hmode.trans (mode_of_key (key_setRoot r _ s))
    · exact hlive.trans (by cases r <;> rfl)
  case revert =>
    intro s hrevert hforce hne hst hdue
    have hqual : rootQualified s (rootPref s.live) = true := (rootQualified_iff s _).2 hst
    obtain ⟨-, -, -, hmode, hlive, -⟩ := rootKey_iff.1 (rootKey_rootSwitch (rootPref s.live) s)
    exact ⟨rootSwitch (rootPref s.live) s, by simp [exec, execRootRevert, hrevert, hforce, hne, hqual, hdue],
      rootNow_rootSwitch _ s, hmode, hlive⟩
  case within =>
    intro s d a b hd
    simp [exec, execRootRatioUpdate, Nat.not_lt.2 hd]
  case exceeds =>
    intro s d a b hd hfirst hmode
    have hexec : exec (.rootRatioUpdate d a b) s =
        .next (raiseAlarm blkHS { s with hs := { s.hs with ratioDev := d, disagree := true } }) := by
      simp [exec, execRootRatioUpdate, hd, hfirst, hmode]
    exact ⟨_, hexec, hs_of_clocks (clocks_raiseAlarm _ _), raiseAlarm_sets blkHS _, raiseAlarm_mode blkHS _⟩

/-! ### Tool rest -/

theorem nth_modNth_other {α : Type} (d : α) (f : α → α) : ∀ {l : List α} {i j : Nat}, j ≠ i →
    nth d (modNth f l i) j = nth d l j
  | [], _, _, _ => rfl
  | _ :: _, 0, 0, h => absurd rfl h
  | _ :: _, 0, _ + 1, _ => rfl
  | _ :: _, _ + 1, 0, _ => rfl
  | _ :: l, i + 1, j + 1, h => nth_modNth_other d f (l := l) (by omega)

theorem Sized.gate {s : State} (h : Sized s) : s.hs.gate.length = 12 := by
  obtain ⟨_, hgate, _⟩ := h
  exact hgate

/-- A gate whose monitor has counted `n` edges, too many, in a window. -/
def gateTripped (n : Nat) (g : GateState) : GateState :=
  { g with gate := 2, clean := 0, cleanAt := none, trips := satInc 16 g.trips, lastCount := n }

/-- A gate after a window of `n` edges that ended within the limit at the instant `now`. -/
def gateClean (now n : Nat) (g : GateState) : GateState :=
  { g with clean := g.clean + 1, lastCount := n, cleanAt := if g.clean = 9 then some now else g.cleanAt }

section Gate
variable {s : State} {o : Nat}

/-- The gate of an output after a change, and the gates of the others. -/
theorem gate_modGate (hsized : Sized s) (ho : o < 12) (f : GateState → GateState) :
    nth {} (modGate o f s).hs.gate o = f (nth {} s.hs.gate o) ∧
      ∀ p, p ≠ o → nth {} (modGate o f s).hs.gate p = nth {} s.hs.gate p := by
  have hlen : o < s.hs.gate.length := by rw [Sized.gate hsized]; exact ho
  exact ⟨nth_modNth_self {} f hlen, fun p hp => nth_modNth_other {} f hp⟩

variable (ho : o < 12) (hfirst : s.firstLive = true) (hmode : (clkOf s.live o).mode ≠ 0)
include ho hfirst hmode

theorem exec_window_over {n : Nat} (hn : windowLimit s.live o < n) :
    exec (.toolrestWindow o n) s = .next (raiseAlarm blkHS (modGate o (gateTripped n) s)) := by
  simp only [exec, execToolrestWindow, ho, hfirst, hmode, gt_iff_lt, hn, ne_eq, not_false_eq_true, and_self, if_true]
  rfl

theorem exec_window_within {n : Nat} (hn : n ≤ windowLimit s.live o) :
    exec (.toolrestWindow o n) s = .next (modGate o (gateClean s.clock n) s) := by
  simp only [exec, execToolrestWindow, ho, hfirst, hmode, gt_iff_lt, Nat.not_lt.2 hn, ne_eq, not_false_eq_true, and_self,
    if_true, if_false]
  rfl

theorem exec_gateOpen (hheld : clkHeld s = false) (hready : gateReady s o = true) :
    exec (.toolrestGateOpen o) s = .next (modGate o (fun g => { g with gate := 0 }) s) := by
  simp [exec, execToolrestGateOpen, ho, hfirst, hmode, hheld, hready]

end Gate

/-- A gate is ready with its synthesiser locked and its divider loaded 16 cycles before, and, after a trip, 16 cycles after
its tenth clean window (R104). -/
theorem gateReady_of_cycles {s : State} {o a : Nat} (hlock : (getSyn s (tapSyn (clkOf s.live o).tap)).lock = 4)
    (hlocked : cyclesPassed s.live o (getSyn s (tapSyn (clkOf s.live o).tap)).lockAt s.clock = true)
    (haligned : (nth {} s.hs.gate o).aligned = some a) (hloaded : cyclesPassed s.live o a s.clock = true)
    (hclean : (nth {} s.hs.gate o).gate = 2 →
      ∃ b, (nth {} s.hs.gate o).cleanAt = some b ∧ cyclesPassed s.live o b s.clock = true) :
    gateReady s o = true := by
  by_cases htrip : (nth {} s.hs.gate o).gate = 2
  · obtain ⟨b, hb, hpassed⟩ := hclean htrip
    simp [gateReady, hlock, hlocked, haligned, hloaded, hb, hpassed]
  · simp [gateReady, hlock, hlocked, haligned, hloaded, htrip]

/-- Settles O14: each row changes one gate (`gate_modGate`), a trip with an ALARM. -/
theorem toolRest : Obligations.ToolRest := by
  unfold Obligations.ToolRest
  refine ⟨?trip, ?within, ?opens⟩
  case trip =>
    intro s o n ho hsized hfirst hmode hn
    have hkept := hs_of_clocks (clocks_raiseAlarm blkHS (modGate o (gateTripped n) s))
    obtain ⟨hself, hothers⟩ := gate_modGate hsized ho (gateTripped n)
    rw [← hkept] at hself hothers
    refine ⟨_, exec_window_over ho hfirst hmode hn, ?_, ?_, ?_, ?_, raiseAlarm_sets blkHS _, hothers⟩ <;>
      rw [hself, gateTripped]
  case within =>
    intro s o n ho hsized hfirst hmode hn
    obtain ⟨hself, -⟩ := gate_modGate hsized ho (gateClean s.clock n)
    refine ⟨_, exec_window_within ho hfirst hmode hn, ?_, ?_, ?_, rfl⟩ <;> rw [hself, gateClean]
  case opens =>
    intro s o a ho hsized hfirst hmode hlock hlocked haligned hloaded hheld hclean
    obtain ⟨hself, hothers⟩ := gate_modGate hsized ho (fun g => { g with gate := 0 })
    refine ⟨_, exec_gateOpen ho hfirst hmode hheld (gateReady_of_cycles hlock hlocked haligned hloaded hclean), ?_, hothers,
      rfl⟩
    rw [hself]

end Sys2Proof.Proofs
end

section
/-! The direct commands of the Headstock and of Tracking at their frame boundary (R80, R93 to R100, R107 to R114, R127, R135,
R138, R139, R146 to R148). -/
namespace Sys2Proof.Proofs
open Sys2Proof.Machine Sys2Proof.Laws

/-! ### What an answer leaves, and what a command of these chapters touches -/

theorem live_of_plant {s t : State} (h : t.plant = s.plant) : t.live = s.live := live_of_view (view_of_plant h)

theorem mode_of_plant {s t : State} (h : t.plant = s.plant) : t.mode = s.mode := by
  have hmode := congrArg State.mode h
  exact hmode

theorem hs_of_plant {s t : State} (h : t.plant = s.plant) : t.hs = s.hs := hs_of_clocks (clocks_of_plant h)

/-- The answer of a command that a SNAPSHOT image remembers. -/
theorem plant_respond_noted (c : Cmd) (status : Nat) (res : Bytes) (s : State) :
    (respond c status res (noteDirect c s)).plant = s.plant := (plant_respond c status res _).trans (plant_noteDirect c s)

theorem HsOnly.plant {s t u : State} (h : HsOnly s t) (hu : u.plant = t.plant) : { u.plant with hs := s.hs } = s.plant := by
  obtain ⟨x, rfl⟩ := h
  rw [hu]
  rfl

theorem ClocksOnly.plant {s t u : State} (h : ClocksOnly s t) (hu : u.plant = t.plant) :
    { u.plant with hs := s.hs, tk := s.tk } = s.plant := by
  obtain ⟨x, k, rfl⟩ := h
  rw [hu]
  rfl

theorem ClocksOnly.kept {s t : State} : ClocksOnly s t → t.mode = s.mode ∧ t.live = s.live ∧ t.spindle = s.spindle := by
  rintro ⟨h, k, rfl⟩
  exact ⟨rfl, rfl, rfl⟩

theorem HsOnly.tk {s t : State} : HsOnly s t → t.tk = s.tk := by
  rintro ⟨h, rfl⟩
  rfl

/-- A command of a row whose conditions hold runs. -/
theorem applyDirect_passed {op : Nat} {check : Bytes → State → Option Nat} {run : Cmd → State → State} {c : Cmd} {s : State}
    (hop : c.opcode = op)
    (hrow : ∀ (d : Cmd) (t : State), applyDirect { d with opcode := op } t = atFrame check run { d with opcode := op } t)
    (hdirect : directCheck op = check) (hcheck : directCheck c.opcode c.payload s = none) :
    applyDirect c s = run c s := by
  subst hop
  exact (hrow c s).trans (atFrame_passed (hdirect ▸ hcheck))

/-! ### HS_ROOT_SELECT -/

theorem rootKey_autoSelect (s : State) : rootKey (autoSelect s) = rootKey s := by
  unfold autoSelect
  split
  · exact rootKey_rootSwitch _ s
  · rfl

theorem rootKey_preferRoot (s : State) : rootKey (preferRoot s) = rootKey s := by
  unfold preferRoot
  split
  · exact rootKey_rootSwitch _ s
  · exact rootKey_autoSelect s

/-- A preferred root that is in use and QUALIFIED stays in use. -/
theorem preferRoot_now {s : State} (hpref : rootNow s = rootPref s.live) (hqual : rootQualified s (rootNow s) = true) :
    preferRoot s = s := by
  unfold preferRoot
  split
  · exact rootSwitch_now hpref
  · exact autoSelect_qualified hqual

/-- The state with a force of the root `r`, or without one. -/
def forceSet (r : Option RootId) (s : State) : State := { s with hs := { s.hs with force := r } }

theorem plant_applyRootSelect_auto {c : Cmd} {s : State} (h : u8 c.payload 0 = 0) :
    (applyRootSelect c s).plant = (preferRoot (forceSet none s)).plant := by
  have hanswer : applyRootSelect c s = respond c stDone [] (preferRoot (forceSet none s)) := by
    simp only [applyRootSelect, h, forceSet]
  rw [hanswer, plant_respond]

/-- The code of HS_ROOT_SELECT that forces a root (R107). -/
def forceCode : RootId → Nat
  | .a => 1 | .b => 2

theorem plant_applyRootSelect_force {c : Cmd} {s : State} (r : RootId) (h : u8 c.payload 0 = forceCode r) :
    (applyRootSelect c s).plant = (rootSwitch r (forceSet (some r) s)).plant := by
  have hanswer : applyRootSelect c s = respond c stDone [] (rootSwitch r (forceSet (some r) s)) := by
    cases r <;> simp only [applyRootSelect, h, forceCode, forceSet]
  rw [hanswer, plant_respond]

/-- A force of a root is in effect: that root runs (R83). -/
theorem forced_of_plant {s t : State} {r : RootId}
    (h : t.plant = (rootSwitch r (forceSet (some r) s)).plant) :
    t.hs.force = some r ∧ rootNow t = r ∧ t.live = s.live ∧ t.mode = s.mode := by
  obtain ⟨-, -, hforce, hmode, hlive, -⟩ := rootKey_iff.1 (rootKey_rootSwitch r (forceSet (some r) s))
  have hnow := rootNow_rootSwitch r (forceSet (some r) s)
  have hhs := hs_of_plant h
  refine ⟨(congrArg HsState.force hhs).trans hforce, ?_, (live_of_plant h).trans hlive, (mode_of_plant h).trans hmode⟩
  rw [rootNow, hhs]
  exact hnow

/-! ### Words, moves, slews and relocks -/

theorem stopVclk_hs (s : State) : (stopVclk s).hs = s.hs := rfl

/-- A relock starts at the word given. -/
theorem getSyn_startRelock (x : Syn) (w : Nat) (k : DataPlane) (s : State) :
    (getSyn (startRelock x w k s) x).word = w ∧ (getSyn (startRelock x w k s) x).lock = 1 := by
  unfold startRelock
  extract_lets s1 s2
  have hs2 : (getSyn s2 x).word = w ∧ (getSyn s2 x).lock = 1 := by
    simp [s2, s1, startLock, getSyn_modSyn]
  split
  · rw [getSyn_of_hs (stopPlane_hs k s2)]; exact hs2
  · split
    · rw [getSyn_of_hs (stopVclk_hs s2)]; exact hs2
    · exact hs2

theorem getSyn_applyWord (x : Syn) (w : Nat) (s : State) : (getSyn (applyWord x w s) x).word = w := by
  unfold applyWord
  extract_lets y s1
  split
  · rw [getSyn_modSyn, if_pos rfl]
  · split
    · exact (getSyn_startRelock x w .relock s1).1
    · split <;> rw [getSyn_modSyn, if_pos rfl]

/-- A word written twice at a boundary is loaded once, from the later write (Table HS-5). -/
theorem plant_applyDirect_laterWrite {c : Cmd} {s : State} (hop : c.opcode = 0x0312 ∨ c.opcode = 0x0314)
    (hlater : laterWrite c s = true) : (applyDirect c s).plant = s.plant := by
  have hdone (check : Bytes → State → Option Nat) (run : Cmd → State → State) (hrun : run c s = respond c stDone [] s) :
      (atFrame check run c s).plant = s.plant := by
    unfold atFrame
    split
    · exact plant_respond _ _ _ _
    · rw [hrun]; exact plant_respond _ _ _ _
  rcases hop with hop | hop
  · simp only [applyDirect, hop]
    exact hdone _ _ (if_pos hlater)
  · simp only [applyDirect, hop]
    exact hdone _ _ (if_pos hlater)

theorem getSyn_startMove (x : Syn) (p : Int) (fixed : Option Nat) (kind : MoveKind) (s : State) :
    (getSyn (startMove x p fixed kind s) x).owed = (getSyn s x).owed + p * 2 ^ 32 ∧
      (getSyn (startMove x p fixed kind s) x).moving = true ∧ (getSyn (startMove x p fixed kind s) x).fixedSlew = fixed := by
  rw [startMove, getSyn_modSyn, if_pos rfl]
  exact ⟨rfl, rfl, rfl⟩

theorem hsOnly_startMove (x : Syn) (p : Int) (fixed : Option Nat) (kind : MoveKind) {s t : State} (h : HsOnly s t) :
    HsOnly s (startMove x p fixed kind t) := by
  rw [startMove]
  exact hsOnly_modSyn x _ h

/-- A host move on a locked synthesiser adds to what it owes, at HS_SLEW (R97, R98). -/
theorem applyMove_locked {c : Cmd} {s t : State} (ht : t = applyMove c s)
    (hlock : (getSyn s (synOf (u8 c.payload 0))).lock = 4) :
    (getSyn t (synOf (u8 c.payload 0))).owed = (getSyn s (synOf (u8 c.payload 0))).owed + hostMoveUnits s c * 2 ^ 32 ∧
      (getSyn t (synOf (u8 c.payload 0))).moving = true ∧ (getSyn t (synOf (u8 c.payload 0))).fixedSlew = none ∧
      { t.plant with hs := s.hs } = s.plant := by
  have hmove := getSyn_startMove (synOf (u8 c.payload 0)) (hostMoveUnits s c) none .kept s
  have hplant : t.plant = (startMove (synOf (u8 c.payload 0)) (hostMoveUnits s c) none .kept s).plant := by
    rw [ht, applyMove, if_pos hlock, plant_respond]
  rw [← getSyn_of_hs (hs_of_plant hplant)] at hmove
  obtain ⟨howed, hmoving, hfixed⟩ := hmove
  exact ⟨howed, hmoving, hfixed, (hsOnly_startMove _ _ _ _ ⟨s.hs, rfl⟩).plant hplant⟩

/-- HS_RELOCK starts at the word in use and waits for the lock (R114). -/
theorem getSyn_applyRelock (c : Cmd) (s : State) :
    (getSyn (applyRelock c s) (synOf (u8 c.payload 0))).word = (getSyn s (synOf (u8 c.payload 0))).word ∧
      (getSyn (applyRelock c s) (synOf (u8 c.payload 0))).lock = 1 ∧
      (getSyn (applyRelock c s) (synOf (u8 c.payload 0))).relockCmd = some c.n := by
  unfold applyRelock
  extract_lets x s1
  obtain ⟨hword, hlock⟩ := getSyn_startRelock x (getSyn s x).word .relock s
  rw [getSyn_of_hs (setPhase_hs _ _ _), getSyn_modSyn, if_pos rfl]
  exact ⟨hword, hlock, rfl⟩

theorem applyRelock_mode (c : Cmd) (s : State) : (applyRelock c s).mode = s.mode := by
  unfold applyRelock
  dsimp only
  rw [setPhase_mode]
  exact mode_of_key ((key_modSyn _ _ _).trans (key_startRelock _ _ _ _))

/-! ### TK_SET_TIME -/

/-- What a Spindle step changes of Spindle time and of the data plane, and the mode. -/
def stepView (s : State) : Nat × Bool × DataPlane × List Nat × Mode :=
  (s.spindle, s.timeValid, s.dataPlane, s.tk.stepCmds, s.mode)

theorem stepView_of_plant {s t : State} (h : t.plant = s.plant) : stepView t = stepView s := by
  have hview := congrArg stepView h
  exact hview

theorem stepView_leapNow (s : State) : stepView (leapNow s) = stepView s := by
  unfold leapNow
  split
  · extract_lets v host tk1 s1
    exact (stepView_of_plant (plant_lgEvent _ _ s1)).trans rfl
  · rfl

theorem stepView_loadCounter (t : Nat) (setValid : Bool) (s : State) :
    stepView (loadCounter t setValid s) = (t, s.timeValid || setValid, s.dataPlane, s.tk.stepCmds, s.mode) :=
  stepView_leapNow _

theorem stepView_modSyn (x : Syn) (f : SynState → SynState) (s : State) : stepView (modSyn x f s) = stepView s := by
  cases x <;> rfl

theorem stepView_modSeq (inj : Bool) (f : SeqRun → SeqRun) (s : State) : stepView (modSeq inj f s) = stepView s := by
  cases inj <;> rfl

theorem stepView_endPass (inj : Bool) (s : State) : stepView (endPass inj s) = stepView s := by
  unfold endPass
  extract_lets q s1 s2 next
  have hs1 : stepView s1 = stepView s := by
    simp only [s1]
    split
    · rfl
    · split
      · rfl
      · exact stepView_modSeq inj _ s
  have hs2 : stepView s2 = stepView s := (stepView_modSeq inj _ s1).trans hs1
  clear_value s2
  split <;> exact hs2

theorem stepView_stopPlane (k : DataPlane) (s : State) : stepView (stopPlane k s) =
    (s.spindle, s.timeValid, if s.dataPlane = .dark then .dark else laterStop s.dataPlane k, s.tk.stepCmds, s.mode) := by
  unfold stopPlane
  split
  · next h => rw [stepView, h]
  · exact (stepView_endPass false _).trans (stepView_endPass true _)

theorem stepView_residualMove (s : State) (g : Group) : stepView (residualMove s g) = stepView s := by
  unfold residualMove
  dsimp only
  split
  · exact stepView_modSyn _ _ s
  · rfl

/-- The counter with the value of a step, and the alarm that goes with it (R127). -/
def stepLoaded (q : StepReq) (s : State) : State :=
  loadCounter (stepTarget q s) q.setValid (if s.fenceOpen then
    raiseAlarm blkTK (lgEvent 0xFF05 (roundDiv ((stepTarget q s : Int) - s.spindle) uPerNs % 2 ^ 64).toNat s) else s)

theorem stepView_stepLoaded (q : StepReq) (s : State) :
    stepView (stepLoaded q s) = (stepTarget q s, s.timeValid || q.setValid, s.dataPlane, s.tk.stepCmds, s.mode) := by
  have halarm (e : Nat) : stepView (if s.fenceOpen then raiseAlarm blkTK (lgEvent 0xFF05 e s) else s) = stepView s := by
    split
    · exact stepView_of_plant ((plant_raiseAlarm _ _).trans (plant_lgEvent _ _ _))
    · rfl
  unfold stepLoaded
  generalize hu : (if s.fenceOpen then _ else s) = u
  have hview : stepView u = stepView s := hu ▸ halarm _
  simp only [stepView, Prod.mk.injEq] at hview
  obtain ⟨-, hvalid, hplane, hcmds, hmode⟩ := hview
  rw [stepView_loadCounter, hvalid, hplane, hcmds, hmode]

/-- The data plane stopped by a step: the gates are closed for their re-phase, and the residual moves have started. -/
def stepStopped (s : State) : State := allGroups.foldl residualMove (gateStep (stopPlane .second s))

theorem stepView_stepStopped {s : State} (h : s.dataPlane ≠ .dark) :
    stepView (stepStopped s) = (s.spindle, s.timeValid, .second, s.tk.stepCmds, s.mode) := by
  have hmoves (t : State) : stepView (allGroups.foldl residualMove t) = stepView t :=
    List.foldlRecOn (motive := fun u => stepView u = stepView t) _ _ rfl
      fun u hu g _ => (stepView_residualMove u g).trans hu
  have hstop := stepView_stopPlane .second s
  rw [if_neg h, laterStop, ite_self] at hstop
  exact (hmoves _).trans hstop

/-- The TK_SET_TIME of count `n` waits for the restart of the data plane. -/
def stepAwaits (n : Nat) (s : State) : State :=
  setPhase n .running { s with tk := { s.tk with stepCmds := s.tk.stepCmds ++ [n] } }

theorem stepView_stepAwaits (n : Nat) (s : State) :
    stepView (stepAwaits n s) = (s.spindle, s.timeValid, s.dataPlane, s.tk.stepCmds ++ [n], s.mode) := rfl

/-- The step of a TK_SET_TIME: with the data plane dark a counter load alone, and answered (R127, R138). -/
theorem spindleStep_cmd {q : StepReq} {n : Nat} (hcmd : q.cmd = some n) (s : State) :
    spindleStep q s = if s.dataPlane = .dark then respondTo n stDone [] (stepLoaded q s)
      else stepAwaits n (stepStopped (stepLoaded q s)) := by
  have hview := stepView_stepLoaded q s
  simp only [stepView, Prod.mk.injEq] at hview
  obtain ⟨-, -, hplane, -, -⟩ := hview
  have hstep : spindleStep q s = if (stepLoaded q s).dataPlane = .dark then respondTo n stDone [] (stepLoaded q s)
      else stepAwaits n (stepStopped (stepLoaded q s)) := by
    obtain ⟨absTime, addPs, setValid, cmd⟩ := q
    obtain rfl : cmd = some n := hcmd
    simp only [spindleStep, stepAwaits, stepStopped, stepLoaded]
    rfl
  rw [hstep, hplane]

theorem stepView_spindleStep_dark {q : StepReq} {s : State} {n : Nat} (hcmd : q.cmd = some n) (hdark : s.dataPlane = .dark) :
    stepView (spindleStep q s) = (stepTarget q s, s.timeValid || q.setValid, .dark, s.tk.stepCmds, s.mode) := by
  rw [spindleStep_cmd hcmd, if_pos hdark, stepView_of_plant (plant_respondTo _ _ _ _), stepView_stepLoaded, hdark]

theorem stepView_spindleStep {q : StepReq} {s : State} {n : Nat} (hcmd : q.cmd = some n) (hdark : s.dataPlane ≠ .dark) :
    stepView (spindleStep q s) =
      (stepTarget q s, s.timeValid || q.setValid, .second, s.tk.stepCmds ++ [n], s.mode) := by
  have hloaded := stepView_stepLoaded q s
  have hstopped := stepView_stepStopped (s := stepLoaded q s)
  simp only [stepView, Prod.mk.injEq] at hloaded hstopped
  obtain ⟨hspindle, hvalid, hplane, hcmds, hmode⟩ := hloaded
  rw [hspindle, hvalid, hplane, hcmds, hmode] at hstopped
  obtain ⟨hspindle', hvalid', hplane', hcmds', hmode'⟩ := hstopped hdark
  rw [spindleStep_cmd hcmd, if_neg hdark, stepView_stepAwaits, hspindle', hvalid', hplane', hcmds', hmode']

/-- The step to the time `n` that a TK_SET_TIME asks for. -/
def setTimeStep (c : Cmd) (n : Nat) : StepReq :=
  { absTime := some n, addPs := 0, setValid := bit c.payload 12 0, cmd := some c.n }

/-- TK_SET_TIME with a time loads that time (R138, R146). -/
theorem applySetTime_time {c : Cmd} {s : State} {n : Nat} (h : readFull c.payload 0 = some n) :
    applySetTime c s = spindleStep (setTimeStep c n) s := by
  simp only [applySetTime, h]
  rfl

/-! ### TK_LEAP -/

/-- The values of a TK_LEAP, stored and in use (R139). -/
def leapHost (p : Bytes) (s : State) : State :=
  { s with tk := { s.tk with utcSet := true, hostUtc := i16 p 0, hostPend := fld p 2 1 0, hostLeapAt := u48 p 4,
                             utcNow := i16 p 0, leapPend := fld p 2 1 0, leapAt := u48 p 4 } }

/-! ### TK_REF_SELECT and TK_REALIGN -/

theorem hsOnly_groupMove (ps : Int) (fixed : Option Nat) (kind : MoveKind) (g : Group) {s t : State} (h : HsOnly s t) :
    HsOnly s (groupMove ps fixed kind g t) := by
  unfold groupMove
  dsimp only
  split
  · exact hsOnly_startMove _ _ _ _ h
  · exact h

theorem hsOnly_moveGroups (ps : Int) (fixed : Option Nat) (s : State) : HsOnly s (moveGroups ps fixed s) := by
  unfold moveGroups
  split
  · exact ⟨s.hs, rfl⟩
  · exact List.foldlRecOn (motive := HsOnly s) _ _ ⟨s.hs, rfl⟩ fun t ht g _ => hsOnly_groupMove ps fixed .loop g ht

theorem hsOnly_cancelLoopMoves (s : State) : HsOnly s (cancelLoopMoves s) := by
  refine List.foldlRecOn (motive := HsOnly s) _ _ ⟨s.hs, rfl⟩ fun t ht g _ => ?_
  split
  · rw [cancelLoop]
    exact hsOnly_modSyn _ _ ht
  · exact ht

/-- A hitless switch selects its candidate; a force, the mode and the tables stay (R122). -/
theorem hitlessSwitch_kept (i : Nat) (s : State) :
    (hitlessSwitch i s).tk.forced = s.tk.forced ∧ (hitlessSwitch i s).tk.selected = some i ∧
      (hitlessSwitch i s).mode = s.mode ∧ (hitlessSwitch i s).live = s.live := by
  have hmoves := (hsOnly_moveGroups (freshDelta (selectCand i (cancelLoopMoves s)) i) none
    (selectCand i (cancelLoopMoves s))).tk
  refine ⟨?_, ?_, mode_of_key (key_hitlessSwitch i s), live_of_view (view_hitlessSwitch i s)⟩
  · rw [hitlessSwitch, hmoves, selectCand, (hsOnly_cancelLoopMoves s).tk]
  · rw [hitlessSwitch, hmoves, selectCand]

/-- What TK_REF_SELECT leaves: the force as asked for, the mode and the tables. -/
def RefSelected (forced : Bool) (s t : State) : Prop := t.tk.forced = forced ∧ t.mode = s.mode ∧ t.live = s.live

theorem RefSelected.of_plant {forced : Bool} {s t u : State} (h : RefSelected forced s t) (hu : u.plant = t.plant) :
    RefSelected forced s u := by
  obtain ⟨hforced, hmode, hlive⟩ := h
  exact ⟨(congrArg TkState.forced (tk_of_plant hu)).trans hforced, (mode_of_plant hu).trans hmode,
    (live_of_plant hu).trans hlive⟩

/-- Tracking back in automatic selection (R121). -/
def refReleased (s : State) : State :=
  let s1 : State := { s with tk := { s.tk with forced := false } }
  match lowestQualified 0 s1.tk.cand, s1.tk.selected with
  | some l, some j => if s1.live.tk.revertive && decide (l < j) then hitlessSwitch l s1 else s1
  | _, _ => s1

theorem refReleased_kept (s : State) : RefSelected false s (refReleased s) := by
  unfold refReleased
  dsimp only
  split
  · split
    · next l j _ _ _ =>
      obtain ⟨hforced, -, hmode, hlive⟩ := hitlessSwitch_kept l { s with tk := { s.tk with forced := false } }
      exact ⟨hforced, hmode, hlive⟩
    · exact ⟨rfl, rfl, rfl⟩
  · exact ⟨rfl, rfl, rfl⟩

/-- Tracking on the candidate that is forced: in ACQUIRE and LOCKED alone it is taken into use at once. -/
def refTaken (i : Nat) (s : State) : State :=
  if s.tk.selected = some i ∨ (s.mode ≠ .acquire ∧ s.mode ≠ .locked) then s else hitlessSwitch i s

theorem refTaken_kept {s : State} (i : Nat) (h : s.mode = .acquire ∨ s.mode = .locked) :
    (refTaken i s).tk.selected = some i ∧ (refTaken i s).mode = s.mode ∧ (refTaken i s).live = s.live := by
  unfold refTaken
  split
  · next hstays => exact ⟨hstays.resolve_right fun hout => h.elim hout.1 hout.2, rfl, rfl⟩
  · exact (hitlessSwitch_kept i s).2

theorem refTaken_idle {s : State} (i : Nat) (hacq : s.mode ≠ .acquire) (hlocked : s.mode ≠ .locked) : refTaken i s = s :=
  if_pos (.inr ⟨hacq, hlocked⟩)

theorem plant_applyRefSelect_auto {c : Cmd} {s : State} (h : u8 c.payload 0 = 255) :
    (applyRefSelect c s).plant = (refReleased s).plant := by
  have hanswer : applyRefSelect c s = respond c stDone [] (refReleased s) := if_pos h
  rw [hanswer, plant_respond]

theorem plant_applyRefSelect_forced {c : Cmd} {s : State} (h : u8 c.payload 0 ≠ 255) :
    (applyRefSelect c s).plant =
      { refTaken (u8 c.payload 0) s with tk := { (refTaken (u8 c.payload 0) s).tk with forced := true } }.plant := by
  have hanswer : applyRefSelect c s = respond c stDone [] { refTaken (u8 c.payload 0) s with
    tk := { (refTaken (u8 c.payload 0) s).tk with forced := true } } := if_neg h
  rw [hanswer, plant_respond]

theorem clocksOnly_of_hsOnly {s t : State} : HsOnly s t → ClocksOnly s t := by
  rintro ⟨h, rfl⟩
  exact ⟨h, s.tk, rfl⟩

/-- TK_REALIGN touches the synthesiser of its group and Tracking only (R135). -/
theorem applyRealign_clocks (c : Cmd) (s : State) : ∃ t, ClocksOnly s t ∧ (applyRealign c s).plant = t.plant := by
  have hmoved (g : Group) : ClocksOnly s (groupMove (kOf s g) none .kept g s) :=
    clocksOnly_of_hsOnly (hsOnly_groupMove _ _ _ _ ⟨s.hs, rfl⟩)
  unfold applyRealign
  dsimp only
  split
  · split
    · exact ⟨_, (hmoved _).trans ⟨_, _, rfl⟩, plant_respond _ _ _ _⟩
    · exact ⟨s, ⟨_, _, rfl⟩, rfl⟩
  · exact ⟨s, ⟨_, _, rfl⟩, plant_respond _ _ _ _⟩

/-- Settles O43: each command runs its own effect once its conditions hold (`applyDirect_passed`), and its answer leaves the
plant alone. -/
theorem directClocks : Obligations.DirectClocks := by
  unfold Obligations.DirectClocks
  refine ⟨?auto, ?autoStays, ?forceA, ?forceB, ?frac, ?offset, ?later, ?move, ?raw, ?moveWaits, ?slew, ?spread, ?relock,
    ?setTime, ?setTimeDark, ?leapPtp, ?leap, ?refAuto, ?refForced, ?refIdle, ?realign⟩
  case auto =>
    intro s c hop hcheck hsel
    have hrun : applyDirect c s = applyRootSelect c s := applyDirect_passed hop (fun _ _ => rfl) rfl hcheck
    have hplant := plant_applyRootSelect_auto (s := s) hsel
    obtain ⟨-, -, hforce, hmode, hlive, -⟩ := rootKey_iff.1 (rootKey_preferRoot (forceSet none s))
    rw [hrun]
    exact ⟨(congrArg HsState.force (hs_of_plant hplant)).trans hforce, (live_of_plant hplant).trans hlive,
      (mode_of_plant hplant).trans hmode⟩
  case autoStays =>
    intro s c hop hcheck hsel hpref hqual
    have hrun : applyDirect c s = applyRootSelect c s := applyDirect_passed hop (fun _ _ => rfl) rfl hcheck
    have hstays : preferRoot (forceSet none s) = forceSet none s := preferRoot_now hpref hqual
    rw [hrun, plant_applyRootSelect_auto hsel, hstays]
    rfl
  case forceA =>
    intro s c hop hcheck hsel
    have hrun : applyDirect c s = applyRootSelect c s := applyDirect_passed hop (fun _ _ => rfl) rfl hcheck
    rw [hrun]
    exact forced_of_plant (plant_applyRootSelect_force .a hsel)
  case forceB =>
    intro s c hop hcheck hsel
    have hrun : applyDirect c s = applyRootSelect c s := applyDirect_passed hop (fun _ _ => rfl) rfl hcheck
    rw [hrun]
    exact forced_of_plant (plant_applyRootSelect_force .b hsel)
  case frac =>
    intro s c hop hcheck hlast
    have hrun : applyDirect c s = applySetFrac c s := applyDirect_passed hop (fun _ _ => rfl) rfl hcheck
    rw [hrun, applySetFrac, if_neg (Bool.eq_false_iff.1 hlast), getSyn_of_hs (hs_of_plant (plant_respond_noted _ _ _ _)),
      getSyn_applyWord]
  case offset =>
    intro s c hop hcheck hlast
    have hrun : applyDirect c s = applyFreqOffset c s := applyDirect_passed hop (fun _ _ => rfl) rfl hcheck
    rw [hrun, applyFreqOffset, if_neg (Bool.eq_false_iff.1 hlast), getSyn_of_hs (hs_of_plant (plant_respond_noted _ _ _ _)),
      getSyn_applyWord]
  case later => exact fun s c hop hlater => plant_applyDirect_laterWrite hop hlater
  case move =>
    intro s c hop hcheck hlock
    exact applyMove_locked (applyDirect_passed hop (fun _ _ => rfl) rfl hcheck) hlock
  case raw =>
    intro s c hop hcheck hlock
    exact applyMove_locked (applyDirect_passed hop (fun _ _ => rfl) rfl hcheck) hlock
  case moveWaits =>
    intro s c hop hcheck hlock
    have hrun : applyDirect c s = applyMove c s := applyDirect_passed hop (fun _ _ => rfl) rfl hcheck
    rw [hrun, applyMove, if_neg hlock]
  case slew =>
    intro s c hop hcheck
    have hrun : applyDirect c s = applySlew c s := applyDirect_passed hop (fun _ _ => rfl) rfl hcheck
    have hplant : (applyDirect c s).plant = (setSlew c.payload s).plant := by
      rw [hrun, applySlew, plant_respond_noted]
    refine ⟨?_, ?_, (hsOnly_modSyn _ _ ⟨s.hs, rfl⟩).plant hplant⟩ <;>
      rw [getSyn_of_hs (hs_of_plant hplant), setSlew, getSyn_modSyn, if_pos rfl]
  case spread =>
    intro s c hop hcheck
    have hrun : applyDirect c s = applySpread c s := applyDirect_passed hop (fun _ _ => rfl) rfl hcheck
    have hplant : (applyDirect c s).plant = (setSpread c.payload s).plant := by
      rw [hrun, applySpread, plant_respond_noted]
    have hhs := hs_of_plant hplant
    exact ⟨congrArg HsState.spreadNext hhs, congrArg HsState.spreadMode hhs, congrArg HsState.spreadFrom hhs,
      HsOnly.plant ⟨_, rfl⟩ hplant⟩
  case relock =>
    intro s c hop hcheck
    have hrun : applyDirect c s = applyRelock c s := applyDirect_passed hop (fun _ _ => rfl) rfl hcheck
    have hsyn := getSyn_applyRelock c s
    obtain ⟨hword, hlock, hcmd⟩ := hsyn
    rw [hrun]
    exact ⟨hlock, hcmd, hword, applyRelock_mode c s⟩
  case setTime =>
    intro s c n hop hcheck htime hdark
    have hrun : applyDirect c s = applySetTime c s := applyDirect_passed hop (fun _ _ => rfl) rfl hcheck
    have hview := stepView_spindleStep (s := s) (q := setTimeStep c n) rfl hdark
    rw [hrun, applySetTime_time htime]
    simp only [stepView, Prod.mk.injEq] at hview
    exact hview
  case setTimeDark =>
    intro s c n hop hcheck htime hdark
    have hrun : applyDirect c s = applySetTime c s := applyDirect_passed hop (fun _ _ => rfl) rfl hcheck
    have hview := stepView_spindleStep_dark (s := s) (q := setTimeStep c n) rfl hdark
    rw [hrun, applySetTime_time htime]
    simp only [stepView, Prod.mk.injEq] at hview
    obtain ⟨hspindle, hvalid, hplane, -, hmode⟩ := hview
    exact ⟨hspindle, hvalid, hplane, hmode⟩
  case leapPtp =>
    intro s c hop hcheck hport
    have hrun : applyDirect c s = applyLeap c s := applyDirect_passed hop (fun _ _ => rfl) rfl hcheck
    rw [hrun, applyLeap, plant_respond, if_pos hport]
  case leap =>
    intro s c hop hcheck hport
    have hrun : applyDirect c s = applyLeap c s := applyDirect_passed hop (fun _ _ => rfl) rfl hcheck
    have hplant : (applyDirect c s).plant = (leapHost c.payload s).plant := by
      rw [hrun, applyLeap, plant_respond, if_neg (by simp [hport])]
      rfl
    have htk := tk_of_plant hplant
    refine ⟨congrArg TkState.utcNow htk, congrArg TkState.leapPend htk, congrArg TkState.leapAt htk, ?_⟩
    rw [hplant]
    rfl
  case refAuto =>
    intro s c hop hcheck hsel
    have hrun : applyDirect c s = applyRefSelect c s := applyDirect_passed hop (fun _ _ => rfl) rfl hcheck
    rw [hrun]
    exact (refReleased_kept s).of_plant (plant_applyRefSelect_auto hsel)
  case refForced =>
    intro s c hop hcheck hsel hmode
    have hrun : applyDirect c s = applyRefSelect c s := applyDirect_passed hop (fun _ _ => rfl) rfl hcheck
    have hplant := plant_applyRefSelect_forced (s := s) hsel
    obtain ⟨hselected, hmode', hlive'⟩ := refTaken_kept (u8 c.payload 0) hmode
    rw [hrun]
    exact ⟨congrArg TkState.forced (tk_of_plant hplant), (congrArg TkState.selected (tk_of_plant hplant)).trans hselected,
      (mode_of_plant hplant).trans hmode', (live_of_plant hplant).trans hlive'⟩
  case refIdle =>
    intro s c hop hcheck hsel hacq hlocked
    have hrun : applyDirect c s = applyRefSelect c s := applyDirect_passed hop (fun _ _ => rfl) rfl hcheck
    rw [hrun, plant_applyRefSelect_forced hsel, refTaken_idle _ hacq hlocked]
  case realign =>
    intro s c hop hcheck
    have hrun : applyDirect c s = applyRealign c s := applyDirect_passed hop (fun _ _ => rfl) rfl hcheck
    obtain ⟨t, honly, hplant⟩ := applyRealign_clocks c s
    obtain ⟨hmode, hlive, hspindle⟩ := honly.kept
    rw [hrun]
    exact ⟨(mode_of_plant hplant).trans hmode, (live_of_plant hplant).trans hlive,
      (congrArg (·.1) (stepView_of_plant hplant)).trans hspindle, honly.plant hplant⟩

end Sys2Proof.Proofs
end

section
/-! Candidates (R117 to R121) and the two ends of ACQUIRE (R26, R126, R128): what a change of the mode leaves of Tracking and
of the twin, and what each style of acquisition leaves of the selection. -/
namespace Sys2Proof.Proofs
open Sys2Proof.Machine Sys2Proof.Laws

/-! ### A change of the mode (R26) -/

/-- The role, Tracking, the twin, Spindle time, and whether an acquisition keeps the fence closed (R16). -/
def steering (s : State) : Role × TkState × TwState × Nat × Bool := (s.role, s.tk, s.tw, s.spindle, s.acquireFenced)

theorem steering_of_plant {s t : State} (h : t.plant = s.plant) : steering t = steering s := by
  have hview := congrArg steering h
  exact hview

theorem steering_respondTo (n status : Nat) (res : Bytes) (s : State) : steering (respondTo n status res s) = steering s :=
  steering_of_plant (plant_respondTo n status res s)

theorem steering_identAbandon (s : State) : steering (identAbandon s) = steering s := by
  unfold identAbandon
  split
  · rfl
  · dsimp only
    split
    · exact steering_respondTo _ _ _ _
    · rfl

theorem steering_fenceEval (s : State) : steering (fenceEval s) = steering s := by
  unfold fenceEval
  dsimp only
  split
  · rfl
  · split
    · rfl
    · exact steering_identAbandon _

theorem steering_setMode (m : Mode) (s : State) : steering (setMode m s) = steering s := by
  unfold setMode
  split
  · rfl
  · rw [steering_fenceEval, steering_of_plant (plant_raiseIrq _ _), steering_of_plant (plant_lgEvent _ _ _)]
    rfl

theorem steering_hushRecheck (s : State) : steering (hushRecheck s) = steering s := by
  unfold hushRecheck
  split
  · split
    · exact steering_respondTo _ _ _ _
    · rfl
  · rfl

/-- A change of the mode raises HW_IRQ_MODE. -/
theorem setMode_irq {m : Mode} {s : State} (h : s.mode ≠ m) : nbit (setMode m s).mb.irqStatus 4 = true := by
  unfold setMode
  rw [if_neg h]
  exact (mailKept_fenceEval (.refl _)).irq 4 (raiseIrq_sets 4 _)

/-! ### The entry into ACQUIRE (R26, R126, R133) -/

/-- The candidate in use, and whether its acquisition keeps the fence closed. -/
def acquisition (s : State) : Option Nat × Bool := (s.tk.selected, s.acquireFenced)

theorem acquisition_of_steering {s t : State} (h : steering t = steering s) : acquisition t = acquisition s :=
  congrArg (fun ((_, tk, _, _, fenced) : Role × TkState × TwState × Nat × Bool) => (tk.selected, fenced)) h

theorem acquisition_of_hsOnly {s t : State} : HsOnly s t → acquisition t = acquisition s := by
  rintro ⟨h, rfl⟩
  rfl

theorem acquisition_addK (g : Group) (d : Int) (s : State) : acquisition (addK g d s) = acquisition s := by
  cases g <;> rfl

theorem acquisition_returnGroup (delta : Int) (pol : Nat) (g : Group) (s : State) :
    acquisition (returnGroup delta pol g s) = acquisition s := by
  have hmove (fixed : Option Nat) : acquisition (groupMove delta fixed .loop g s) = acquisition s :=
    acquisition_of_hsOnly (hsOnly_groupMove _ _ _ _ ⟨s.hs, rfl⟩)
  unfold returnGroup
  split
  · rfl
  · split
    · exact acquisition_addK g delta s
    · exact hmove none
    · exact hmove (some 50000)

theorem acquisition_holdoverReturn (delta : Int) (s : State) : acquisition (holdoverReturn delta s) = acquisition s := by
  unfold holdoverReturn
  dsimp only
  split
  · rfl
  · simp only [acquisition_returnGroup]
    rfl

theorem acquisition_askStep (i : Nat) (delta : Int) (s : State) : acquisition (askStep i delta s) = acquisition s := by
  unfold askStep
  split <;> rfl

/-- What acquisition does with the phase difference leaves the selection and the fence, in each of its styles. -/
theorem acquisition_acquirePhase (i : Nat) (delta : Int) (s : State) :
    acquisition (acquirePhase i delta s) = acquisition s := by
  unfold acquirePhase
  dsimp only
  split
  case h_1 => exact acquisition_holdoverReturn delta s
  case h_2 =>
    split
    · exact acquisition_askStep i delta s
    · rfl
  case h_3 =>
    split
    · exact acquisition_askStep i delta s
    · exact acquisition_of_hsOnly (hsOnly_moveGroups _ _ s)

/-- From FREERUN the device acquires the candidate in the fast style, with the fence closed, or in the gentle one. -/
theorem enterAcquire_freerun {s : State} (hmode : s.mode = .freerun) (i : Nat) :
    (enterAcquire i s).mode = .acquire ∧ (enterAcquire i s).tk.selected = some i ∧
      (enterAcquire i s).acquireFenced = s.live.tk.fast := by
  obtain ⟨delta, u, henter, hu⟩ : ∃ delta u, enterAcquire i s = acquirePhase i delta (hushRecheck (setMode .acquire u)) ∧
      acquisition u = (some i, s.live.tk.fast) := by
    refine ⟨_, _, rfl, ?_⟩
    rw [hmode]
    cases s.live.tk.fast <;> rfl
  have hkept : acquisition (enterAcquire i s) = (some i, s.live.tk.fast) := by
    rw [henter, acquisition_acquirePhase, acquisition_of_steering (steering_hushRecheck _),
      acquisition_of_steering (steering_setMode _ _), hu]
  obtain ⟨hsel, hfenced⟩ := Prod.mk.inj hkept
  refine ⟨?_, hsel, hfenced⟩
  rw [henter, mode_of_key (key_acquirePhase i delta _), mode_of_key (key_hushRecheck _), setMode_mode]

/-! ### The rows of a candidate (R117, R120, R121) -/

theorem modNth_modNth {α : Type} (f g : α → α) : ∀ (l : List α) (i : Nat),
    modNth f (modNth g l i) i = modNth (fun a => f (g a)) l i
  | [], _ => rfl
  | _ :: _, 0 => rfl
  | a :: l, i + 1 => congrArg (a :: ·) (modNth_modNth f g l i)

theorem modCand_modCand (i : Nat) (f g : CandState → CandState) (s : State) :
    modCand i f (modCand i g s) = modCand i (fun c => f (g c)) s := by
  simp only [modCand, modNth_modNth]

/-- The candidate's state with a measurement of the value `v`, against the state `s` (R125). -/
def measured (s : State) (i : Nat) (v : Int) (c : CandState) : CandState :=
  { c with meas := v, measAdv := s.tk.spAdv, phase := deltaOf s i v, rawPhase := rawDelta s i v }

theorem setMeas_eq (i : Nat) (v : Int) (s : State) : setMeas i v s = modCand i (measured s i v) s := rfl

/-- An interval within every criterion counts the qualification down, and changes nothing but its candidate (R120). -/
theorem exec_candidateIntervalEval_good {s : State} {i : Nat} {f d : Int} (hst : (candSt s i).st = .qualifying)
    (hgood : failedCriterion s i f (deltaOf s i (measNow s i d)) = 0) :
    exec (.candidateIntervalEval i f d) s = .next (modCand i (fun c =>
      { measured s i (measNow s i d) c with freq := f, hasFreq := true, qualLeft := c.qualLeft - 1 }) s) := by
  have hrow : exec (.candidateIntervalEval i f d) s = .next (modCand i (fun c => { c with qualLeft := c.qualLeft - 1 })
      (modCand i (fun c => { c with freq := f, hasFreq := true }) (setMeas i (measNow s i d) s))) := by
    simp [exec, execCandidateIntervalEval, hst, hgood]
  rw [hrow, setMeas_eq, modCand_modCand, modCand_modCand]
  rfl

theorem rejectCand_unselected {s : State} {i : Nat} (hsel : s.tk.selected ≠ some i) (code : Nat) :
    rejectCand i code s = modCand i (fun c => { c with st := .rejected, fail := code }) s := if_neg hsel

/-- An interval that fails a criterion rejects a candidate that is not in use (R120). -/
theorem exec_candidateIntervalEval_failed {s : State} {i : Nat} {f d : Int} (hst : (candSt s i).st = .qualifying)
    (hsel : s.tk.selected ≠ some i) (hfail : failedCriterion s i f (deltaOf s i (measNow s i d)) ≠ 0) :
    exec (.candidateIntervalEval i f d) s = .next (modCand i (fun c =>
      { measured s i (measNow s i d) c with freq := f, hasFreq := true, st := .rejected,
                                            fail := failedCriterion s i f (deltaOf s i (measNow s i d)) }) s) := by
  have hrow : exec (.candidateIntervalEval i f d) s =
      .next (rejectCand i (failedCriterion s i f (deltaOf s i (measNow s i d)))
        (modCand i (fun c => { c with freq := f, hasFreq := true }) (setMeas i (measNow s i d) s))) := by
    simp [exec, execCandidateIntervalEval, hst, hfail]
  rw [hrow, rejectCand_unselected (by exact hsel), setMeas_eq, modCand_modCand, modCand_modCand]

/-- The state with candidate `i` measured, and QUALIFIED. -/
def qualifiedNow (i : Nat) (v : Int) (s : State) : State := modCand i (fun c => { measured s i v c with st := .qualified }) s

/-- The qualification of a candidate ends when its time has run out (R120). -/
theorem exec_candidateQualified {s : State} {i : Nat} (hst : (candSt s i).st = .qualifying) (hleft : (candSt s i).qualLeft = 0)
    (d : Int) : exec (.candidateQualified i d) s = .next (afterQualified i (qualifiedNow i (measNow s i d) s)) := by
  have hrow : exec (.candidateQualified i d) s =
      .next (afterQualified i (modCand i (fun c => { c with st := .qualified }) (setMeas i (measNow s i d) s))) :=
    if_pos ⟨hst, hleft⟩
  rw [hrow, setMeas_eq, modCand_modCand]
  rfl

theorem inOrder_kept (rank : Nat) (s : State) : { inOrder rank s with evtAt := s.evtAt, evtRank := s.evtRank } = s := by
  unfold inOrder
  split <;> rfl

theorem inOrder_tk (rank : Nat) (s : State) : (inOrder rank s).tk = s.tk := by
  unfold inOrder
  split <;> rfl

/-- A candidate of index 0 that is QUALIFIED is the first one. -/
theorem lowestQualified_first {s : State} (hst : (candSt s 0).st = .qualified) : lowestQualified 0 s.tk.cand = some 0 := by
  unfold candSt at hst
  generalize s.tk.cand = cands at hst ⊢
  cases cands with
  | nil => cases hst
  | cons c cs => exact if_pos hst

/-- In FREERUN the device acquires the first QUALIFIED candidate (R121). -/
theorem afterQualified_freerun {s : State} {j : Nat} (hmode : s.mode = .freerun) (hfirst : lowestQualified 0 s.tk.cand = some j)
    (i : Nat) : afterQualified i s = enterAcquire j (inOrder rankQual s) := by
  have hmode' : (inOrder rankQual s).mode = .freerun := (mode_of_key (key_inOrder rankQual s)).trans hmode
  have hfirst' : lowestQualified 0 (inOrder rankQual s).tk.cand = some j := by rw [inOrder_tk, hfirst]
  simp only [afterQualified, hmode', hfirst']

/-- In CONFIGURE a QUALIFIED candidate is only noted. -/
theorem afterQualified_configure {s : State} (hmode : s.mode = .configure) (i : Nat) :
    afterQualified i s = inOrder rankQual s := by
  have hmode' : (inOrder rankQual s).mode = .configure := (mode_of_key (key_inOrder rankQual s)).trans hmode
  simp only [afterQualified, hmode']

theorem toNoSignal_losses (i : Nat) (s : State) : (toNoSignal i s).tk.losses = s.tk.losses := by
  unfold toNoSignal
  dsimp only
  split <;> rfl

/-- A loss of a candidate that is not in use is counted by its type (R117). -/
theorem loseCand_losses {s : State} {i : Nat} (hoff : (candSt s i).st ≠ .off) (hno : (candSt s i).st ≠ .noSignal)
    (hsel : s.tk.selected ≠ some i) : (loseCand i s).tk.losses = modNth (satInc 16) s.tk.losses (candCfg s.live i).typ := by
  unfold loseCand
  split
  · next h => exact absurd h hoff
  · next h => exact absurd h hno
  · rw [if_neg hsel, raiseAlarm_tk, toNoSignal_losses]

/-- Two seconds of the criteria of R128 end ACQUIRE at a frame boundary. -/
theorem exec_acquisitionComplete {s : State} {u : Nat} (hmode : s.mode = .acquire) (hsince : s.tk.lockSince = some u)
    (hheld : u + 2 * uPerS ≤ s.clock) (hframe : s.spindle % frameLen (f441 s) = 0) :
    exec .acquisitionComplete s = .next (setMode .locked { s with acquireFenced := false }) := by
  simp only [exec, execAcquisitionComplete, hmode, hsince]
  exact if_pos ⟨hheld, hframe⟩

/-- Settles O15: a clause per row, by what the row runs. -/
theorem candidates : Obligations.Candidates := by
  unfold Obligations.Candidates
  refine ⟨?appear, ?good, ?failed, ?acquire, ?configure, ?loss, ?notDue, ?locked⟩
  case appear =>
    intro s i hsized hi hst husable
    obtain ⟨u, hrow, hu, hmode⟩ : ∃ u, exec (.candidateSignalAppear i) s = .next (raiseAlarm blkTK (modCand i (fun c =>
        { c with st := .qualifying, qualLeft := s.live.tk.qualS, hasFreq := false }) u)) ∧ Sized u ∧ u.mode = s.mode := by
      refine ⟨_, if_pos ⟨hst, husable⟩, ?_, ?_⟩
      · split <;> exact hsized
      · split <;> rfl
    refine ⟨_, hrow, ?_, ?_, raiseAlarm_sets _ _, raiseAlarm_mode _ _ |>.trans hmode⟩ <;>
      rw [candSt, raiseAlarm_tk, ← candSt, candSt_modCand hu hi]
  case good =>
    intro s i f d hsized hi hst hgood
    refine ⟨_, exec_candidateIntervalEval_good hst hgood, ?_, ?_, ?_, rfl⟩ <;> rw [candSt_modCand hsized hi]
    exact hst
  case failed =>
    intro s i f d hsized hi hst hsel hfail
    refine ⟨_, exec_candidateIntervalEval_failed hst hsel hfail, ?_, ?_, rfl⟩ <;> rw [candSt_modCand hsized hi]
  case acquire =>
    intro s d hsized hst hleft hmode
    have hqual : (candSt (qualifiedNow 0 (measNow s 0 d) s) 0).st = .qualified := by
      rw [qualifiedNow, candSt_modCand hsized (by decide)]
    have hrun := afterQualified_freerun (s := qualifiedNow 0 (measNow s 0 d) s) hmode (lowestQualified_first hqual) 0
    have hmode' : (inOrder rankQual (qualifiedNow 0 (measNow s 0 d) s)).mode = .freerun :=
      (mode_of_key (key_inOrder _ _)).trans hmode
    have hlive : (inOrder rankQual (qualifiedNow 0 (measNow s 0 d) s)).live = s.live := live_of_view (view_inOrder _ _)
    obtain ⟨hacquire, hselected, hfenced⟩ := enterAcquire_freerun hmode' 0
    exact ⟨_, (exec_candidateQualified hst hleft d).trans (congrArg _ hrun), hacquire, hselected, hfenced.trans (by rw [hlive])⟩
  case configure =>
    intro s i d hsized hi hst hleft hmode
    have hrun := afterQualified_configure (s := qualifiedNow i (measNow s i d) s) hmode i
    refine ⟨_, (exec_candidateQualified hst hleft d).trans (congrArg _ hrun), ?_, ?_, ?_⟩
    · rw [candSt, inOrder_tk, ← candSt, qualifiedNow, candSt_modCand hsized hi]
    · rw [candSt, inOrder_tk, ← candSt, qualifiedNow, candSt_modCand hsized hi]
      rfl
    · rw [inOrder_tk]
      exact congrArg (fun u : State => { u with tk := s.tk }) (inOrder_kept rankQual (qualifiedNow i (measNow s i d) s))
  case loss =>
    intro s i b hsized hi hoff hno hsel hdue
    obtain ⟨hst, halarm, hmode⟩ := loseCand_unselected hsized hi hoff hno hsel
    exact ⟨loseCand i s, congrArg _ (if_pos hdue), hst, loseCand_losses hoff hno hsel, halarm, hmode⟩
  case notDue =>
    intro s i b hdue
    simp [exec, execReferenceLoss, hdue]
  case locked =>
    intro s u hmode hsince hheld hframe
    refine ⟨_, exec_acquisitionComplete hmode hsince hheld hframe, setMode_mode _ _, ?_, setMode_irq (by simp [hmode])⟩
    exact congrArg Prod.snd (acquisition_of_steering (steering_setMode .locked { s with acquireFenced := false }))

end Sys2Proof.Proofs
end

section
/-! What a unit sends on the lanes (R359): a message of a type has gone out on a lane, and stays sent. -/
namespace Sys2Proof.Proofs
open Sys2Proof.Machine Sys2Proof.Laws

/-- A message of the type has gone out on the lane. -/
def LaneSent (lane typ : Nat) (s : State) : Prop := ∃ m : LaneMsg, .lane lane m ∈ s.out ∧ m.typ = typ

/-- The states differ in messages sent on the lanes, and in the number of the next one, at most. -/
def LaneWrites (s t : State) : Prop := ∃ ms n, t = { s with out := ms ++ s.out, tw := { s.tw with msgSeq := n } }

/-- What has been sent stays sent, on the lanes that stay in service, by the unit that holds the Chuck or does not. -/
structure Sending (s t : State) : Prop where
  out : s.out ⊆ t.out
  lanes : lanesUp t = lanesUp s
  holds : t.tw.holds = s.tw.holds

theorem LaneWrites.refl (s : State) : LaneWrites s s := ⟨[], s.tw.msgSeq, rfl⟩

theorem LaneWrites.trans {s t u : State} : LaneWrites s t → LaneWrites t u → LaneWrites s u := by
  rintro ⟨ms, n, rfl⟩ ⟨ms', n', rfl⟩
  exact ⟨ms' ++ ms, n', by simp⟩

theorem LaneWrites.kept {s t : State} : LaneWrites s t → { t with tw := s.tw, out := s.out } = s := by
  rintro ⟨ms, n, rfl⟩
  rfl

theorem LaneWrites.sending {s t : State} : LaneWrites s t → Sending s t := by
  rintro ⟨ms, n, rfl⟩
  exact ⟨List.subset_append_right ms s.out, rfl, rfl⟩

theorem Sending.trans {s t u : State} (h : Sending s t) (h' : Sending t u) : Sending s u :=
  ⟨List.Subset.trans h.out h'.out, h'.lanes.trans h.lanes, h'.holds.trans h.holds⟩

theorem LaneSent.of_sending {lane typ : Nat} {s t : State} (h : Sending s t) : LaneSent lane typ s → LaneSent lane typ t := by
  rintro ⟨m, hm, htyp⟩
  exact ⟨m, h.out hm, htyp⟩

theorem laneWrites_foldl {α : Type} (f : State → α → State) (hf : ∀ t a, LaneWrites t (f t a)) (l : List α) (s : State) :
    LaneWrites s (l.foldl f s) :=
  List.foldlRecOn (motive := LaneWrites s) _ _ (.refl s) fun _ ht a _ => ht.trans (hf _ a)

/-! ### One message -/

/-- The message that a lane carries next. -/
def laneNext (typ : Nat) (content : Bytes) (s : State) : LaneMsg :=
  { typ, level := s.tw.level.getD (unitLevel s), seq := s.tw.msgSeq, content }

theorem laneSend_eq (typ : Nat) (content : Bytes) (s : State) : laneSend typ content s =
    { s with out := ((lanesUp s).map (fun l => .lane l (laneNext typ content s))).reverse ++ s.out,
             tw := { s.tw with msgSeq := (s.tw.msgSeq + 1) % 2 ^ 32 } } := by
  rw [← List.foldl_flip_cons_eq_append]
  rfl

theorem laneWrites_laneSend (typ : Nat) (content : Bytes) (s : State) : LaneWrites s (laneSend typ content s) :=
  ⟨_, _, laneSend_eq typ content s⟩

theorem laneWrites_laneSendOn (lane typ : Nat) (content : Bytes) (s : State) : LaneWrites s (laneSendOn lane typ content s) :=
  ⟨[_], _, rfl⟩

theorem laneSent_laneSend {l : Nat} (typ : Nat) (content : Bytes) {s : State} (hl : l ∈ lanesUp s) :
    LaneSent l typ (laneSend typ content s) := by
  rw [laneSend_eq]
  refine ⟨laneNext typ content s, List.mem_append_left _ (List.mem_reverse.2 (List.mem_map_of_mem hl)), rfl⟩

theorem laneSent_laneSendOn (l typ : Nat) (content : Bytes) (s : State) : LaneSent l typ (laneSendOn l typ content s) :=
  ⟨_, List.mem_cons_self, rfl⟩

/-- A message on each of several lanes. -/
theorem laneSent_foldl (typ : Nat) (content : Nat → State → Bytes) {l : Nat} : ∀ {ls : List Nat}, l ∈ ls → ∀ (s : State),
    LaneSent l typ (ls.foldl (fun (t : State) k => laneSendOn k typ (content k t) t) s)
  | k :: ls, hl, s => by
    rw [List.foldl_cons]
    rcases List.mem_cons.1 hl with rfl | hl
    · exact (laneSent_laneSendOn l typ _ s).of_sending
        (laneWrites_foldl _ (fun t k => laneWrites_laneSendOn k typ _ t) ls _).sending
    · exact laneSent_foldl typ content hl _

/-! ### TW_HOT (R361) -/

/-- TW_HOT follows its condition, and the TW_RESYNC that waits for it is answered. -/
theorem hotEval_plant (s : State) : ∃ hot cmds,
    (hotEval s).plant = { s with tw := { s.tw with hot := hot, resyncCmds := cmds } }.plant := by
  unfold hotEval
  split
  · exact ⟨false, s.tw.resyncCmds, rfl⟩
  · split
    · exact ⟨s.tw.hot, s.tw.resyncCmds, rfl⟩
    · exact ⟨true, [], plant_respondAll _ _ _ _⟩

/-- Only a STANDBY is HOT. -/
theorem hotEval_notStandby {s : State} (hrole : s.role ≠ .standby) : hotEval s = modTw (fun w => { w with hot := false }) s := by
  have hnot : hotNow s = false := by simp [hotNow, hrole]
  exact if_pos hnot

theorem sending_of_plant {s t : State} (h : t.plant = s.plant) : Sending s t := by
  have hview := congrArg (fun u : State => (u.out, lanesUp u, u.tw.holds)) h
  simp only [Prod.mk.injEq] at hview
  obtain ⟨hout, hlanes, hholds⟩ := hview
  exact ⟨fun o ho => hout ▸ ho, hlanes, hholds⟩

theorem sending_hotEval (s : State) : Sending s (hotEval s) := by
  obtain ⟨hot, cmds, hplant⟩ := hotEval_plant s
  exact Sending.trans (t := { s with tw := { s.tw with hot := hot, resyncCmds := cmds } }) ⟨fun _ ho => ho, rfl, rfl⟩
    (sending_of_plant hplant)

/-! ### The messages of a millisecond (R359) -/

theorem mirrorSend_drawn (s : State) : ∃ n content, mirrorSend s = laneSend 4 content { s with freeCount := n } :=
  ⟨_, _, rfl⟩

theorem sending_mirrorSend (s : State) : Sending s (mirrorSend s) := by
  obtain ⟨n, content, hsend⟩ := mirrorSend_drawn s
  rw [hsend]
  exact Sending.trans (t := { s with freeCount := n }) ⟨fun _ ho => ho, rfl, rfl⟩ (laneWrites_laneSend 4 content _).sending

theorem laneSent_mirrorSend {l : Nat} {s : State} (hl : l ∈ lanesUp s) : LaneSent l 4 (mirrorSend s) := by
  obtain ⟨n, content, hsend⟩ := mirrorSend_drawn s
  rw [hsend]
  exact laneSent_laneSend 4 content hl

theorem laneWrites_relaySend (s : State) : LaneWrites s (relaySend s) := by
  unfold relaySend
  split
  · split
    · exact laneWrites_laneSend _ _ s
    · exact .refl s
  · exact .refl s

theorem laneWrites_relayAcc (s : State) : LaneWrites s (relayAcc s) := by
  unfold relayAcc
  split
  · exact laneWrites_laneSend _ _ s
  · exact .refl s

/-- The start of a TWIN_MS_TICK: the generations of the millisecond are held, and TW_HOT follows. -/
def msHeldNow (s : State) : State :=
  hotEval (modTw (fun w => { w with msAt := some (s.spindle / uPerMs), msHeld := gensNow s }) s)

/-- TIME on every lane in service. -/
def msTimes (s : State) : State := (lanesUp s).foldl (fun (t : State) l => laneSendOn l 2 (timeContent l t) t) s

/-- STATE on every lane in service. -/
def msState (s : State) : State := laneSend 3 (stateContent s) s

/-- MIRROR of a holder, RELAY of a STANDBY, and FP_ACC once a second. -/
def msRest (s : State) : State :=
  let u := if s.tw.holds then mirrorSend s else if s.role = .standby then relaySend s else s
  if u.spindle / uPerMs % 1000 = 0 then relayAcc u else u

theorem msTick_due {s : State} (hpos : twinPos s = true) (hboot : s.mode ≠ .boot)
    (hnew : s.tw.msAt ≠ some (s.spindle / uPerMs)) : msTick s = msRest (msState (msTimes (msHeldNow s))) :=
  if_neg (by simp [hpos, hboot, hnew])

theorem sending_msHeldNow (s : State) : Sending s (msHeldNow s) :=
  Sending.trans (t := modTw (fun w => { w with msAt := some (s.spindle / uPerMs), msHeld := gensNow s }) s)
    ⟨fun _ ho => ho, rfl, rfl⟩ (sending_hotEval _)

theorem sending_msTimes (s : State) : Sending s (msTimes s) :=
  (laneWrites_foldl _ (fun t l => laneWrites_laneSendOn l 2 _ t) _ s).sending

theorem sending_msState (s : State) : Sending s (msState s) := (laneWrites_laneSend _ _ s).sending

theorem sending_accAt (u : State) : Sending u (if u.spindle / uPerMs % 1000 = 0 then relayAcc u else u) := by
  split
  · exact (laneWrites_relayAcc u).sending
  · exact (LaneWrites.refl u).sending

theorem sending_msRest (s : State) : Sending s (msRest s) := by
  refine Sending.trans ?_ (sending_accAt _)
  split
  · exact sending_mirrorSend s
  · split
    · exact (laneWrites_relaySend s).sending
    · exact (LaneWrites.refl s).sending

theorem laneSent_msRest {l : Nat} {s : State} (hholds : s.tw.holds = true) (hl : l ∈ lanesUp s) : LaneSent l 4 (msRest s) := by
  refine LaneSent.of_sending (sending_accAt _) ?_
  rw [if_pos hholds]
  exact laneSent_mirrorSend hl

/-- What a due TWIN_MS_TICK sends on a lane in service: TIME, STATE, and MIRROR from the holder. -/
theorem laneSent_msTick {l : Nat} {s : State} (hpos : twinPos s = true) (hboot : s.mode ≠ .boot)
    (hnew : s.tw.msAt ≠ some (s.spindle / uPerMs)) (hl : l ∈ lanesUp s) :
    LaneSent l 2 (msTick s) ∧ LaneSent l 3 (msTick s) ∧ (s.tw.holds = true → LaneSent l 4 (msTick s)) := by
  have hheld := sending_msHeldNow s
  have htimes := hheld.trans (sending_msTimes _)
  have hstate := htimes.trans (sending_msState _)
  rw [msTick_due hpos hboot hnew]
  refine ⟨?_, ?_, fun hholds => ?_⟩
  · exact (laneSent_foldl 2 timeContent (hheld.lanes ▸ hl) _).of_sending ((sending_msState _).trans (sending_msRest _))
  · exact (laneSent_laneSend 3 _ (htimes.lanes ▸ hl)).of_sending (sending_msRest _)
  · exact laneSent_msRest (hstate.holds.trans hholds) (hstate.lanes ▸ hl)

/-! ### RESYNC_DATA (R376) -/

theorem laneWrites_sendImage (kind : Nat) (img : Bytes) (s : State) : LaneWrites s (sendImage kind img s) :=
  laneWrites_foldl _ (fun t _ => laneWrites_laneSend _ _ t) _ s

theorem laneWrites_sendEntries : ∀ (n : Nat) (es : List LgEntry) (s : State), LaneWrites s (sendEntries n es s)
  | 0, _, s => .refl s
  | n + 1, es, s => by
    unfold sendEntries
    dsimp only
    split
    · exact laneWrites_laneSend _ _ s
    · exact (laneWrites_laneSend _ _ s).trans (laneWrites_sendEntries n _ _)

/-- A message goes out even when there is no entry to send. -/
theorem laneSent_sendEntries {l : Nat} (n : Nat) (es : List LgEntry) {s : State} (hl : l ∈ lanesUp s) :
    LaneSent l 10 (sendEntries (n + 1) es s) := by
  unfold sendEntries
  dsimp only
  split
  · exact laneSent_laneSend 10 _ hl
  · exact (laneSent_laneSend 10 _ hl).of_sending (laneWrites_sendEntries n _ _).sending

/-- The images that the holder sends before its ledger: the configuration, where it differs, and the pending commit. -/
def sendImages (gen digest : Nat) (s : State) : State :=
  let t := if s.firstLive = true ∧ (s.mb.gen, s.mb.digest) ≠ (gen, digest) then sendImage 0 (snapshotImage s) s else s
  match t.mb.pend with
  | some p => sendImage 1 (pendingImage p t) t
  | none => t

theorem laneWrites_sendImages (gen digest : Nat) (s : State) : LaneWrites s (sendImages gen digest s) := by
  have hfirst : LaneWrites s (if s.firstLive = true ∧ (s.mb.gen, s.mb.digest) ≠ (gen, digest) then
      sendImage 0 (snapshotImage s) s else s) := by
    split
    · exact laneWrites_sendImage _ _ s
    · exact .refl s
  unfold sendImages
  dsimp only
  split
  · exact hfirst.trans (laneWrites_sendImage _ _ _)
  · exact hfirst

end Sys2Proof.Proofs
end

section
/-! The role, the twin and Spindle time over the loss of a candidate, over a new word of a synthesiser, and over a commit
that becomes live (R10, R31, R90, R121). -/
namespace Sys2Proof.Proofs
open Sys2Proof.Machine Sys2Proof.Laws

/-- The role, the twin and Spindle time. -/
def pairing (s : State) : Role × TwState × Nat := (s.role, s.tw, s.spindle)

theorem pairing_iff {s t : State} : pairing t = pairing s ↔ t.role = s.role ∧ t.tw = s.tw ∧ t.spindle = s.spindle := by
  simp only [pairing, Prod.mk.injEq]

theorem pairing_of_steering {s t : State} (h : steering t = steering s) : pairing t = pairing s :=
  congrArg (fun ((role, _, tw, spindle, _) : Role × TkState × TwState × Nat × Bool) => (role, tw, spindle)) h

theorem pairing_of_plant {s t : State} (h : t.plant = s.plant) : pairing t = pairing s :=
  pairing_of_steering (steering_of_plant h)

theorem pairing_of_hsOnly {s t : State} : HsOnly s t → pairing t = pairing s := by
  rintro ⟨h, rfl⟩
  rfl

/-! ### A candidate is lost (R117, R121) -/

theorem pairing_inOrder (rank : Nat) (s : State) : pairing (inOrder rank s) = pairing s := by
  unfold inOrder
  split <;> rfl

theorem pairing_selectCand (i : Nat) (s : State) : pairing (selectCand i s) = pairing s := rfl

theorem pairing_cancelLoopMoves (s : State) : pairing (cancelLoopMoves s) = pairing s :=
  pairing_of_hsOnly (hsOnly_cancelLoopMoves s)

theorem pairing_hitlessSwitch (i : Nat) (s : State) : pairing (hitlessSwitch i s) = pairing s := by
  rw [hitlessSwitch, pairing_of_hsOnly (hsOnly_moveGroups _ _ _), pairing_selectCand, pairing_cancelLoopMoves]

theorem pairing_setMode (m : Mode) (s : State) : pairing (setMode m s) = pairing s :=
  pairing_of_steering (steering_setMode m s)

theorem pairing_holdoverEntry (from6 : Bool) (s : State) : pairing (holdoverEntry from6 s) = pairing s := by
  have hclear (k : TkState) : pairing (cancelLoopMoves { s with tk := k }) = pairing s := pairing_cancelLoopMoves { s with tk := k }
  have hcoast (u : State) (k : TkState) : pairing (setMode .holdover { u with tk := k }) = pairing u :=
    pairing_setMode .holdover { u with tk := k }
  unfold holdoverEntry
  dsimp only
  split
  · exact (hcoast _ _).trans (hclear _)
  · exact (pairing_setMode _ _).trans (hclear _)

theorem pairing_selectedLost (declared from6 : Bool) (s : State) : pairing (selectedLost declared from6 s) = pairing s := by
  unfold selectedLost
  dsimp only
  split
  · exact pairing_inOrder rankLoss s
  · split
    · exact (pairing_hitlessSwitch _ _).trans (pairing_inOrder rankLoss s)
    · exact (pairing_holdoverEntry _ _).trans (pairing_inOrder rankLoss s)

theorem pairing_toNoSignal (i : Nat) (s : State) : pairing (toNoSignal i s) = pairing s := by
  unfold toNoSignal
  dsimp only
  split <;> rfl

theorem pairing_loseCand (i : Nat) (s : State) : pairing (loseCand i s) = pairing s := by
  unfold loseCand
  split
  · rfl
  · rfl
  · extract_lets tk s1 s2
    have hs2 : pairing s2 = pairing s :=
      (pairing_of_plant (plant_raiseAlarm blkTK s1)).trans (pairing_toNoSignal i _)
    split
    · exact (pairing_selectedLost _ _ s2).trans hs2
    · exact hs2

/-! ### A new word (R90, R92, R95) -/

theorem pairing_modSyn (x : Syn) (f : SynState → SynState) (s : State) : pairing (modSyn x f s) = pairing s :=
  pairing_of_hsOnly (hsOnly_modSyn x f ⟨s.hs, rfl⟩)

theorem pairing_modSeq (inj : Bool) (f : SeqRun → SeqRun) (s : State) : pairing (modSeq inj f s) = pairing s := by
  cases inj <;> rfl

theorem pairing_endPass (inj : Bool) (s : State) : pairing (endPass inj s) = pairing s := by
  unfold endPass
  extract_lets q s1 s2 next
  have hs1 : pairing s1 = pairing s := by
    simp only [s1]
    split
    · rfl
    · split
      · rfl
      · exact pairing_modSeq inj _ s
  have hs2 : pairing s2 = pairing s := (pairing_modSeq inj _ s1).trans hs1
  clear_value s2
  split <;> exact hs2

/-- What runs on the clocks is no part of it. -/
theorem pairing_upd (s : State) (plane : DataPlane) (dg : DgState) (ad : AdState) (da : DaState) (ps : List PsState)
    (xb : XbState) (nw : NwState) : pairing { s with dataPlane := plane, dg, ad, da, ps, xb, nw } = pairing s := rfl

theorem pairing_stopVclk (s : State) : pairing (stopVclk s) = pairing s := pairing_upd s _ _ _ _ _ _ _

theorem pairing_stopMclk (s : State) : pairing (stopMclk s) = pairing s :=
  (pairing_upd (endPass false (endPass true s)) _ _ _ _ _ _ _).trans ((pairing_endPass false _).trans (pairing_endPass true s))

theorem pairing_stopPlane (k : DataPlane) (s : State) : pairing (stopPlane k s) = pairing s := by
  unfold stopPlane
  split
  · rfl
  · exact (pairing_stopMclk _).trans (pairing_upd s _ _ _ _ _ _ _)

theorem pairing_startLock (x : Syn) (s : State) : pairing (startLock x s) = pairing s := by
  have hband : pairing (bandSearch x s) = pairing s := pairing_modSyn x _ (drawFree s).2
  exact (pairing_modSyn x _ (drawFree (bandSearch x s)).2).trans hband

theorem pairing_closeGates (x : Syn) (s : State) : pairing (closeGates x s) = pairing s := by
  unfold closeGates
  split <;> rfl

theorem pairing_startRelock (x : Syn) (w : Nat) (k : DataPlane) (s : State) : pairing (startRelock x w k s) = pairing s := by
  unfold startRelock
  extract_lets s1 s2
  have hs2 : pairing s2 = pairing s :=
    (pairing_modSyn x _ s1).trans ((pairing_startLock x _).trans (pairing_closeGates x s))
  split
  · exact (pairing_stopPlane k s2).trans hs2
  · split
    · exact (pairing_stopVclk s2).trans hs2
    · exact hs2

theorem pairing_applyWord (x : Syn) (w : Nat) (s : State) : pairing (applyWord x w s) = pairing s := by
  unfold applyWord
  extract_lets y s1
  have hs1 : pairing s1 = pairing s := pairing_modSyn x _ s
  split
  · exact (pairing_modSyn x _ s1).trans hs1
  · split
    · exact (pairing_startRelock x w .relock s1).trans hs1
    · split <;> exact (pairing_modSyn x _ s1).trans hs1

theorem pairing_twinWord (x : Syn) (w : Nat) (s : State) : pairing (twinWord x w s) = pairing s := by
  unfold twinWord
  dsimp only
  split
  · exact pairing_applyWord x _ (drawFree s).2
  · rfl

/-! ### The role at a commit (R10, R27) -/

theorem role_of_pairing {s t : State} (h : pairing t = pairing s) : t.role = s.role := congrArg Prod.fst h

theorem role_of_key {s t : State} (h : fkey t = fkey s) : t.role = s.role := congrArg Prod.fst h

theorem role_foldl {α : Type} (f : State → α → State) (hf : ∀ t a, (f t a).role = t.role) (l : List α) (s : State) :
    (l.foldl f s).role = s.role :=
  List.foldlRecOn (motive := fun t : State => t.role = s.role) _ _ rfl fun t ht a _ => (hf t a).trans ht

theorem dropUnusable_role (s : State) : (dropUnusable s).role = s.role := by
  refine role_foldl _ (fun t i => ?_) _ s
  split
  · exact role_of_pairing (pairing_loseCand i t)
  · rfl

theorem candCommit_role (old new : Tables) (s : State) : (candCommit old new s).role = s.role := by
  unfold candCommit
  extract_lets from6 cands sel tk s1
  have hs1 : s1.role = s.role := (dropUnusable_role _).trans (role_of_key (key_remeasure _))
  have hlost : (selectedLost false from6 (raiseAlarm blkTK s1)).role = s.role :=
    (role_of_pairing (pairing_selectedLost _ _ _)).trans ((role_of_pairing (pairing_of_plant (plant_raiseAlarm _ _))).trans hs1)
  clear_value s1
  split
  · exact hs1
  · exact hlost
  · split
    · exact hs1
    · split
      · exact hlost
      · split
        · exact hs1
        · split
          · split
            · exact (role_of_key (key_hitlessSwitch _ s1)).trans hs1
            · exact hs1
          · exact hs1

theorem losePtp_role (n : Nat) (s : State) : (losePtp n s).role = s.role := by
  unfold losePtp
  split
  · exact role_of_pairing (pairing_loseCand _ s)
  · rfl

theorem ptpStart_role (n : Nat) (s : State) : (ptpStart n s).role = s.role := by
  have henter (st : Nat) : (ptpEnter n st s).role = s.role := by
    have hclear (f : PtpState → PtpState) : (modPtp n f s).role = s.role := role_of_key (key_modPtp n f s)
    unfold ptpEnter
    dsimp only
    split
    · rfl
    · split
      · exact (losePtp_role n _).trans (hclear _)
      · exact hclear _
  exact (role_of_key (key_modPtp n _ _)).trans (henter _)

theorem ptpCommit_role (first : Bool) (old new : Tables) (s : State) : (ptpCommit first old new s).role = s.role := by
  refine role_foldl _ (fun t n => ?_) _ s
  split
  · exact ptpStart_role n t
  · rfl

/-- A commit that becomes live keeps the role. -/
theorem goLive_role (new : Tables) (recs : List Rec) (s : State) : (goLive new recs s).role = s.role := by
  unfold goLive
  extract_lets first old new' s1 dg2 s2 s3 s4 s5 s6
  have h2 : s2.role = s.role := by
    simp only [s2]
    split
    · exact role_of_pairing (pairing_setMode .freerun _)
    · rfl
  have h3 : s3.role = s2.role :=
    role_of_key ((key_gateCommit _ _ _ _).trans ((key_synthCommit _ _ _).trans (key_rootCommit _ _ s2)))
  have h4 : s4.role = s3.role :=
    (role_of_key ((key_psCommit _ _ _).trans ((key_daCommit _ _ _ _ _ _).trans (key_adCommit _ _ _)))).trans (candCommit_role _ _ s3)
  have h5 : s5.role = s4.role :=
    role_of_key ((key_rxCommit _ _).trans ((key_txCommit _ _ _ _).trans (key_teCommit _ _ s4)))
  have h6 : s6.role = s5.role := (ptpCommit_role _ _ _ _).trans (role_of_key (key_nwCommit _ _ _ s5))
  have hend : (fpCommit old new' (igCommit old new' s6)).role = s6.role :=
    role_of_key ((key_fpCommit _ _ _).trans (key_igCommit _ _ s6))
  rw [hend, h6, h5, h4, h3, h2]

end Sys2Proof.Proofs
end

section
/-! Messages of the partner on the lanes (R118, R135, R318, R360, R362, R376, R381, R412, R466), from a unit whose lanes have
trained and whose partner's level is known. -/
namespace Sys2Proof.Proofs
open Sys2Proof.Machine Sys2Proof.Laws

/-- The first message has decided the level in use: no later one changes it (R444). -/
theorem laneIn_known {s : State} {v : Nat} (hlevel : s.tw.level = some v) (lv : Nat) : laneIn lv s = s := by
  simp only [laneIn, hlevel]

/-! ### TIME (R137, R360) -/

/-- The state with the stamps of a TIME kept for the lane: a holder keeps those of its partner. -/
def timeStamped (lane : Nat) (t1 t2 t3 t4 : Int) (s : State) : State :=
  modTw (fun w => { w with timeStamps := modNth (fun _ => if s.tw.holds then (t3, t4) else (t1, t2)) w.timeStamps lane }) s

/-- The offset of R360 from the stamps of a TIME. -/
def timeTheta (lane : Nat) (t1 t2 t3 t4 : Int) (s : State) : Int :=
  roundDiv ((t2 - t1) - (t4 - t3) - (if s.pw.slotSel = 1 then (if lane = 0 then s.live.tw.asym0 else s.live.tw.asym1)
    else -(if lane = 0 then s.live.tw.asym0 else s.live.tw.asym1))) 2

theorem timeIn_known {s : State} {v : Nat} (htakes : laneTakes s = true) (hlevel : s.tw.level = some v) (lane lv : Nat)
    (t1 t2 t3 t4 : Int) : timeIn lane lv t1 t2 t3 t4 s = if s.role = .standby then
      standbyTime (timeTheta lane t1 t2 t3 t4 s) (timeStamped lane t1 t2 t3 t4 s) else timeStamped lane t1 t2 t3 t4 s := by
  simp only [timeIn, htakes, laneIn_known hlevel]
  rfl

/-- TW_HOT is no part of the offset. -/
theorem hotEval_theta (s : State) : (hotEval s).tw.theta = s.tw.theta ∧ (hotEval s).spindle = s.spindle := by
  obtain ⟨hot, cmds, hplant⟩ := hotEval_plant s
  obtain ⟨-, htw, hspindle⟩ := pairing_iff.1 (pairing_of_plant hplant)
  exact ⟨by rw [htw], hspindle⟩

theorem pairing_tkUpdate (s : State) (k : TkState) : pairing { s with tk := k } = pairing s := rfl

theorem pairing_followY (s : State) : pairing (followY s) = pairing s := by
  unfold followY
  exact pairing_tkUpdate s _

/-- Once Spindle time is loaded, a TIME gives theta, and does not step Spindle time. -/
theorem standbyTime_theta {s : State} (hloaded : s.tw.timeLoaded = true) (th : Int) :
    (standbyTime th s).tw.theta = th ∧ (standbyTime th s).spindle = s.spindle := by
  unfold standbyTime
  extract_lets load g near s1 s2
  have hload : ¬load = true := by simp [load, hloaded]
  have hs2 : pairing s2 = pairing s1 := by
    simp only [s2]
    split
    · rw [pairing_followY, pairing_twinWord, pairing_twinWord, pairing_twinWord]
    · rfl
  obtain ⟨-, htw, hspindle⟩ := pairing_iff.1 hs2
  obtain ⟨htheta, hspindle'⟩ := hotEval_theta s2
  rw [if_neg hload]
  exact ⟨htheta.trans (congrArg TwState.theta htw), hspindle'.trans hspindle⟩

/-! ### STATE (R362) -/

/-- What a STATE tells of the partner, and the role. -/
def partner (s : State) : Role × Option Role × Option Mode × Bool × Option Nat × Bool :=
  (s.role, s.tw.peerRole, s.tw.peerMode, s.tw.peerHot, s.tw.peerLease, s.tw.genMatch)

theorem partner_of_pairing {s t : State} (h : pairing t = pairing s) : partner t = partner s := by
  obtain ⟨hrole, htw, -⟩ := pairing_iff.1 h
  rw [partner, hrole, htw]
  rfl

theorem partner_of_plant {s t : State} (h : t.plant = s.plant) : partner t = partner s :=
  partner_of_pairing (pairing_of_plant h)

theorem partner_hotEval (s : State) : partner (hotEval s) = partner s := by
  obtain ⟨hot, cmds, hplant⟩ := hotEval_plant s
  exact (partner_of_plant hplant).trans rfl

theorem partner_resyncRestart (s : State) : partner (resyncRestart s) = partner s := rfl

theorem partner_laneSend (typ : Nat) (content : Bytes) (s : State) : partner (laneSend typ content s) = partner s := rfl

theorem partner_resyncCompare (m : PeerState) (s : State) : partner (resyncCompare m s) = partner s := by
  unfold resyncCompare
  extract_lets due pd pendDiff s1 s2
  have hs1 : partner s1 = partner s := by
    simp only [s1]
    split
    · exact partner_of_plant (plant_cancelPend s)
    · rfl
  have hs2 : partner s2 = partner s1 := partner_resyncRestart s1
  split
  · exact (partner_laneSend _ _ s2).trans (hs2.trans hs1)
  · rfl

theorem partner_swapEnd (result : Nat) (s : State) : partner (swapEnd result s) = partner s := by
  unfold swapEnd
  split
  · rfl
  · exact (partner_of_plant (plant_respondTo _ _ _ _)).trans rfl

theorem partner_swapCheck (m : PeerState) (s : State) : partner (swapCheck m s) = partner s := by
  unfold swapCheck
  split
  · split
    · rfl
    · exact partner_swapEnd 3 s
  · rfl

theorem partner_twinCandCheck (m : PeerState) (s : State) : partner (twinCandCheck m s) = partner s := by
  unfold twinCandCheck
  split
  · rfl
  · split
    · exact partner_of_pairing (pairing_loseCand _ s)
    · rfl

/-- The state with what a STATE says of the partner. -/
def peerNoted (m : PeerState) (s : State) : State :=
  modTw (fun w => { w with peerRole := some m.role, peerMode := some m.mode, peerHot := m.hot, peerLease := some m.leaseUs,
                           peerGen := (m.gen, m.digest), peerPend := (m.pendGen, m.pendDigest, m.pendTime) }) s

/-- The generations held here are those of the partner: the committed one, and the pending one. -/
def gensAgree (m : PeerState) (s : State) : Bool :=
  (gensHeld s).1 == (m.gen, m.digest) && ((gensHeld s).2.1, (gensHeld s).2.2.1) == (m.pendGen, m.pendDigest)

theorem partner_matchEval (m : PeerState) (s : State) : partner (matchEval m s) =
    (s.role, s.tw.peerRole, s.tw.peerMode, s.tw.peerHot, s.tw.peerLease, gensAgree m s) := by
  unfold matchEval
  extract_lets own g p s1
  have hs1 : pairing s1 = pairing s := by
    simp only [s1]
    split
    · exact pairing_of_plant (plant_raiseAlarm blkTW s)
    · rfl
  obtain ⟨hrole, htw, -⟩ := pairing_iff.1 hs1
  have hagree : (!g && !p) = gensAgree m s := by simp [g, p, own, gensAgree, bne]
  simp only [partner, modTw_eq, hrole, htw, hagree]

/-- A STATE is stored, with whether the generations agree. -/
theorem partner_stateIn {s : State} {v : Nat} (htakes : laneTakes s = true) (hlevel : s.tw.level = some v) (lv : Nat)
    (m : PeerState) : partner (stateIn lv m s) =
      (s.role, some m.role, some m.mode, m.hot, some m.leaseUs, gensAgree m s) := by
  have hrun : stateIn lv m s = hotEval (resyncCompare m (swapCheck m (twinCandCheck m (matchEval m (peerNoted m s))))) := by
    simp only [stateIn, htakes, laneIn_known hlevel]
    rfl
  rw [hrun, partner_hotEval, partner_resyncCompare, partner_swapCheck, partner_twinCandCheck, partner_matchEval]
  rfl

/-! ### LEDGER (R466) -/

/-- With room, and without LG_RETAIN, a mirrored entry joins the queue for flash. -/
theorem lgPutMirror_room {s : State} (hroom : s.lg.queue.length < 4096) (hretain : s.pt.retain = false) (e : LgEntry) :
    lgPutMirror e s = { s with lg := { s.lg with queue := s.lg.queue ++ [{ e with mirror := true }] } } := by
  simp [lgPutMirror, lgReserveOut, lgLastPlace, hroom, hretain]

/-! ### RESYNC_DATA and RESYNC_COMMIT (R376, R412) -/

theorem resyncEnd_done {s : State} (h : (s.tw.resync && s.tw.asked && !s.tw.needImage && !s.tw.needPend && s.tw.ledgerInStep) = true) :
    resyncEnd s = hotEval (modTw (fun w => { w with resync := false }) s) := if_pos h

/-- The committed generation and digest. -/
def committed (s : State) : Nat × Nat := (s.mb.gen, s.mb.digest)

theorem committed_of_ledger {s t : State} (h : LedgerOnly s t) : committed t = committed s := by
  rw [committed, h.mb]
  rfl

theorem committed_raiseIrq (b : Nat) (s : State) : committed (raiseIrq b s) = committed s := by
  unfold raiseIrq
  split <;> rfl

theorem committed_rspSend (c : Cmd) (slot : Bytes) (s : State) : committed (rspSend c slot s) = committed s := by
  unfold rspSend
  split
  · rfl
  · split
    · unfold ringSend
      split <;> rfl
    · unfold rspHost
      split
      · exact committed_raiseIrq 0 _
      · rfl

theorem committed_respondFinal (c : Cmd) (status : Nat) (res : Bytes) (s : State) :
    committed (respondFinal c status res s) = committed s :=
  (committed_of_ledger (ledgerOnly_lgCommand c _ _)).trans (committed_rspSend c _ s)

theorem committed_settleDrains : ∀ (n : Nat) (s : State), committed (settleDrains n s) = committed s
  | 0, _ => rfl
  | n + 1, s => by
    unfold settleDrains
    split
    · rfl
    · rw [committed_settleDrains n, committed_respondFinal]

theorem committed_respondTo (n status : Nat) (res : Bytes) (s : State) : committed (respondTo n status res s) = committed s := by
  unfold respondTo
  split
  · exact (committed_settleDrains _ _).trans (committed_respondFinal _ status res s)
  · rfl

theorem committed_foldl {α : Type} (f : State → α → State) (hf : ∀ t a, committed (f t a) = committed t) (l : List α)
    (s : State) : committed (l.foldl f s) = committed s :=
  List.foldlRecOn (motive := fun t => committed t = committed s) _ _ rfl fun t ht a _ => (hf t a).trans ht

theorem committed_hotEval (s : State) : committed (hotEval s) = committed s := by
  unfold hotEval
  split
  · rfl
  · split
    · rfl
    · exact (committed_foldl _ (fun t n => committed_respondTo n stDone [] t) _ _).trans rfl

theorem committed_writeParam (has : Rec → Bool) (live pend : Tables → Tables) (s : State) :
    committed (writeParam has live pend s) = committed s := rfl

theorem committed_writeTables (f : Tables → Tables) (s : State) : committed (writeTables f s) = committed s := rfl

theorem committed_modCur (f : SlotRun → SlotRun) (s : State) : committed (modCur f s) = committed s := rfl

theorem committed_noteEnv (t : Nat) (s : State) : committed (noteEnv t s) = committed s := committed_modCur _ s

theorem committed_markUnsettled (t : Nat) (bad : SlotRun → Nat → Bool) (s : State) :
    committed (markUnsettled t bad s) = committed s := committed_modCur _ s

theorem committed_modSyn (x : Syn) (f : SynState → SynState) (s : State) : committed (modSyn x f s) = committed s := by
  cases x <;> rfl

theorem committed_hsUpdate (s : State) (h : HsState) : committed { s with hs := h } = committed s := rfl

theorem committed_setSpread (p : Bytes) (s : State) : committed (setSpread p s) = committed s := by
  unfold setSpread
  exact committed_hsUpdate s _

theorem committed_setDiag (d t : Nat) (s : State) : committed (setDiag d t s) = committed s := by
  unfold setDiag
  split
  · rfl
  · rw [committed_noteEnv, committed_markUnsettled]
    rfl

theorem committed_micGain (p : Bytes) (s : State) : committed (micGain p s) = committed s := by
  rw [micGain, committed_noteEnv, committed_markUnsettled, committed_writeTables]

theorem committed_holdStage (p : Bytes) (s : State) : committed (holdStage p s) = committed s := by
  refine committed_foldl _ (fun t n => ?_) _ s
  split <;> rfl

theorem committed_writeRun (e w : Nat) (vs : List Nat) (s : State) : committed (writeRun e w vs s) = committed s :=
  committed_foldl _ (fun t j => committed_writeParam (givesCoef e (w + j)) id (putWords e (w + j) [nth 0 vs j]) t) _
    { s with live := putWords e w vs s.live }

theorem committed_igmpChange (old new : Tables) (s : State) : committed (igmpChange old new s) = committed s := rfl

theorem committed_flowEnable (p : Bytes) (s : State) : committed (flowEnable p s) = committed s := by
  unfold flowEnable
  dsimp only
  split
  · exact committed_writeTables _ s
  · split
    · exact committed_writeTables _ s
    · exact (committed_igmpChange _ _ _).trans (committed_writeTables _ s)

/-- A direct write of a SNAPSHOT image leaves the committed generation. -/
theorem committed_directSilent (r : Rec) (s : State) : committed (directSilent r s) = committed s := by
  unfold directSilent
  dsimp only
  split
  case h_1 => exact committed_modSyn _ _ s
  case h_2 => exact committed_setSpread _ s
  case h_3 => exact committed_setDiag _ _ s
  case h_4 => exact committed_micGain _ s
  case h_5 => exact committed_holdStage _ s
  case h_6 => exact committed_writeParam _ _ _ s
  case h_8 => exact committed_writeParam _ _ _ s
  case h_9 => exact committed_writeRun _ _ _ s
  case h_14 => exact committed_flowEnable _ s
  case h_16 => rfl
  all_goals exact committed_writeTables _ s

/-- The configuration that was pulled, live with its direct writes, and the generation and digest of the holder. -/
def pulledLive (s : State) : State :=
  let img := s.tw.pullImage
  let rs := (imageForm true img).getD []
  let recs := rs.filter (fun r => !r.direct)
  let direct := rs.filter (fun r => r.direct)
  let t := buildTables {} recs
  let s1 := goLive t recs s
  direct.foldl (fun (u : State) r => directSilent r u)
    { s1 with mb := { s1.mb with gen := u32 img 12, digest := u64 img 16, committed := t, direct } }

/-- Nothing of the configuration is left to pull. -/
def pullOver (s : State) : State :=
  modTw (fun w => { w with needImage := false, pulled := false, pullImage := [], resyncAt := none }) s

theorem resyncLive_due {s : State} {b : Nat} (hpulled : s.tw.pulled = true) (hat : s.tw.resyncAt = some b)
    (hrole : s.role = .standby) (hdue : b ≤ s.spindle) (hframe : s.spindle % frameLen (f441 s) = 0)
    (hplane : s.dataPlane = .running) : resyncLive s = resyncEnd (if (pullOver (pulledLive s)).tw.pulledPend then
      installPend (pullOver (pulledLive s)) else pullOver (pulledLive s)) := by
  simp only [resyncLive, hpulled, hat]
  exact if_pos ⟨hrole, hdue, hframe, .inl hplane⟩

theorem committed_pulledLive (s : State) : committed (pulledLive s) = (u32 s.tw.pullImage 12, u64 s.tw.pullImage 16) :=
  committed_foldl _ (fun t r => committed_directSilent r t) _ _

theorem pulledLive_role (s : State) : (pulledLive s).role = s.role := by
  unfold pulledLive
  dsimp only
  rw [role_foldl _ (fun t r => role_of_key (key_directSilent r t))]
  exact goLive_role _ _ s

/-- What a resynchronised unit shows: its role, the generation and digest, and that it pulls nothing. -/
def resynced (s : State) : Role × (Nat × Nat) × Bool × Option Nat × Bool :=
  (s.role, committed s, s.tw.pulled, s.tw.resyncAt, s.tw.needImage)

theorem resynced_hotEval (s : State) : resynced (hotEval s) = resynced s := by
  obtain ⟨hot, cmds, hplant⟩ := hotEval_plant s
  obtain ⟨hrole, htw, -⟩ := pairing_iff.1 (pairing_of_plant hplant)
  rw [resynced, committed_hotEval, hrole, htw]
  rfl

theorem resynced_resyncEnd (s : State) : resynced (resyncEnd s) = resynced s := by
  unfold resyncEnd
  split
  · exact (resynced_hotEval _).trans rfl
  · rfl

theorem resynced_installPend (s : State) : resynced (installPend s) = resynced s := by
  unfold installPend
  split <;> rfl

theorem resynced_resyncLive {s : State} {b : Nat} (hpulled : s.tw.pulled = true) (hat : s.tw.resyncAt = some b)
    (hrole : s.role = .standby) (hdue : b ≤ s.spindle) (hframe : s.spindle % frameLen (f441 s) = 0)
    (hplane : s.dataPlane = .running) :
    resynced (resyncLive s) = (s.role, (u32 s.tw.pullImage 12, u64 s.tw.pullImage 16), false, none, false) := by
  have hover : resynced (pullOver (pulledLive s)) =
      (s.role, (u32 s.tw.pullImage 12, u64 s.tw.pullImage 16), false, none, false) := by
    rw [← pulledLive_role s, ← committed_pulledLive s]
    rfl
  rw [resyncLive_due hpulled hat hrole hdue hframe hplane, resynced_resyncEnd]
  split
  · exact (resynced_installPend _).trans hover
  · exact hover

end Sys2Proof.Proofs
end

section
/-! The lane messages (Table TW-5): a clause per row. -/
namespace Sys2Proof.Proofs
open Sys2Proof.Machine Sys2Proof.Laws

/-- A message that has gone out is found by any test that it passes. -/
theorem LaneSent.any {l typ : Nat} {s : State} {p : OutMsg → Bool} (h : LaneSent l typ s)
    (hp : ∀ m : LaneMsg, m.typ = typ → p (.lane l m) = true) : s.out.any p = true := by
  obtain ⟨m, hm, htyp⟩ := h
  exact List.any_eq_true.2 ⟨_, hm, hp m htyp⟩

section Known
variable {s : State} {v : Nat} (htakes : laneTakes s = true) (hlevel : s.tw.level = some v) (lv : Nat)
include htakes hlevel

/-- SWAP_REQ is accepted by an eligible HOT STANDBY, and answered (R381). -/
theorem swapReqIn_known (at_ : Nat) : ∃ content, swapReqIn lv at_ s =
    laneSend 8 content (modTw (fun w => { w with swapTake := if mayTake s && s.tw.hot then some at_ else none }) s) := by
  refine ⟨fullForm at_ ++ le 1 (b2n (mayTake s && s.tw.hot)), ?_⟩
  simp only [swapReqIn, htakes, laneIn_known hlevel]
  rfl

theorem swapAckIn_known {w : SwapState} (hswap : s.tw.swap = some w) (hlive : w.released = false) (ok : Bool) :
    swapAckIn lv w.at_ ok s = if ok then modTw (fun v => { v with swap := some { w with acked := true } }) s else swapEnd 3 s := by
  simp [swapAckIn, htakes, laneIn_known hlevel, hswap, hlive]

/-- A holder answers RESYNC_REQ with the images that differ, and its ledger (R376). -/
theorem resyncReqIn_holder (hholds : s.tw.holds = true) (gen digest last : Nat) : ∃ n es,
    resyncReqIn lv gen digest last s = sendEntries (n + 1) es (sendImages gen digest s) := by
  let es := ledgerTail last (sendImages gen digest s)
  refine ⟨es.length / 250, es, ?_⟩
  simp only [resyncReqIn, htakes, laneIn_known hlevel, hholds]
  rfl

/-- The end of the ledger ends a resynchronisation that needs nothing more (R376). -/
theorem resyncDataIn_ledgerEnd (hrole : s.role = .standby) (hresync : s.tw.resync = true) (hasked : s.tw.asked = true)
    (himage : s.tw.needImage = false) (hpend : s.tw.needPend = false) :
    resyncDataIn lv (.ledger [] true) s = hotEval { s with tw := { s.tw with ledgerInStep := true, resync := false } } := by
  have hdata : resyncDataIn lv (.ledger [] true) s =
      resyncEnd { s with tw := { s.tw with ledgerInStep := s.tw.ledgerInStep || true } } := by
    simp [resyncDataIn, htakes, laneIn_known hlevel, hrole, hresync, hasked]
  rw [hdata, resyncEnd_done (by simp [hresync, hasked, himage, hpend])]
  simp only [modTw_eq, Bool.or_true]

/-- A part of an image that is not the last is collected (R376). -/
theorem resyncDataIn_part {d : Bytes} {n : Nat} (hrole : s.role = .standby) (hresync : s.tw.resync = true)
    (hasked : s.tw.asked = true) (himage : s.tw.needImage = true) (hpulled : s.tw.pulled = false) (hmore : d.length < n) :
    resyncDataIn lv (.committed 0 n d) s = { s with tw := { s.tw with pullImage := d } } := by
  simp [resyncDataIn, htakes, laneIn_known hlevel, hrole, hresync, hasked, pullImage, himage, hpulled, hmore]

/-- RELAY of an accessory reaches a unit with a closed fence (R318). -/
theorem relayIn_acc {m : RelayMsg} {a : Nat} (href : m.ref = none) (hacc : m.facc = some a) :
    relayIn lv m s = adoptAcc a s := by
  simp [relayIn, htakes, laneIn_known hlevel, href, hacc]

/-- RELAY of a reference measures the twin entry of the active unit (R118). -/
theorem relayIn_ref {i : Nat} (hrole : s.role = .active) (hpresent : presentCand s 0x0A = some i) (d f : Int)
    (n : Option (Nat × Nat)) : relayIn lv { ref := some (d, f), period := n, facc := none } s =
      setMeas i (d + s.tk.kMedia) { s with tk := { s.tk with twinPeriod := n } } := by
  simp [relayIn, htakes, laneIn_known hlevel, hrole, hpresent]

/-- MIRROR gives a STANDBY the kept offsets (R135). -/
theorem mirrorIn_standby (hrole : s.role = .standby) (m : MirrorMsg) : mirrorIn lv m s =
    { s with tw := { s.tw with mirror := some m },
             tk := { s.tk with kMedia := m.kMedia, kVideo := m.kVideo, kNetwork := m.kNetwork } } := by
  simp [mirrorIn, htakes, laneIn_known hlevel, hrole]

/-- A LEDGER entry is mirrored by a unit that is no STANDBY, in step or not (R466). -/
theorem ledgerIn_mirrored (hroom : s.lg.queue.length < 4096) (hretain : s.pt.retain = false) (hrole : s.role ≠ .standby)
    (e : Bytes) : ∃ step, ledgerIn lv e s =
      { s with lg := { s.lg with queue := s.lg.queue ++ [{ lgRead e with mirror := true }] },
               tw := { s.tw with peerWserial := (lgRead e).wserial, ledgerInStep := step, hot := false } } := by
  refine ⟨s.tw.ledgerInStep && !decide ((lgRead e).wserial ≠ (s.tw.peerWserial + 1) % 2 ^ 32), ?_⟩
  simp only [ledgerIn, htakes, laneIn_known hlevel, lgPutMirror_room hroom hretain]
  exact hotEval_notStandby hrole

end Known

/-- Settles O30: a clause per row, by what the row runs once the partner's level is known. -/
theorem laneMessages : Obligations.LaneMessages := by
  unfold Obligations.LaneMessages
  refine ⟨?tick, ?timeHolder, ?timeStandby, ?state, ?mirror, ?relayAcc, ?relayRef, ?ledger, ?swapReq, ?swapAck, ?swapRefused,
    ?resyncReq, ?resyncIdle, ?ledgerEnd, ?part, ?commit⟩
  case tick =>
    intro s hpos hboot hnew
    refine ⟨msTick s, rfl, fun l hl => ?_, fun l hl => ?_, fun hholds l hl => ?_, mode_of_key (key_msTick s),
      role_of_key (key_msTick s)⟩
    all_goals obtain ⟨htime, hstate, hmirror⟩ := laneSent_msTick hpos hboot hnew hl
    · exact htime.any fun m hm => by simp [hm]
    · exact hstate.any fun m hm => by simp [hm]
    · exact (hmirror hholds).any fun m hm => by simp [hm]
  case timeHolder =>
    intro s lane lv v a b c d htakes hlevel hsized hlane hholds hrole
    have hrun : timeIn lane lv a b c d s = timeStamped lane a b c d s := by
      rw [timeIn_known htakes hlevel, if_neg hrole]
    obtain ⟨_, _, _, _, _, _, _, _, _, _, _, _, _, _, hstamps, _⟩ := hsized
    have hget := nth_modNth_self (0, 0) (fun _ => if s.tw.holds then (c, d) else (a, b)) (l := s.tw.timeStamps)
      (i := lane) (by omega)
    exact ⟨_, congrArg Host.Outcome.next hrun, hget.trans (if_pos hholds), rfl, rfl⟩
  case timeStandby =>
    intro s lane lv v a b c d htakes hlevel hrole hloaded hlane
    have hrun : timeIn lane lv a b c d s = standbyTime (timeTheta lane a b c d s) (timeStamped lane a b c d s) := by
      rw [timeIn_known htakes hlevel, if_pos hrole]
    obtain ⟨htheta, hspindle⟩ := standbyTime_theta (s := timeStamped lane a b c d s) hloaded (timeTheta lane a b c d s)
    have hkey := key_standbyTime (timeTheta lane a b c d s) (timeStamped lane a b c d s)
    exact ⟨_, congrArg Host.Outcome.next hrun, htheta, hspindle, role_of_key hkey, mode_of_key hkey⟩
  case state =>
    intro s lane lv v m htakes hlevel
    have hpartner := partner_stateIn htakes hlevel lv m
    simp only [partner, Prod.mk.injEq] at hpartner
    obtain ⟨hrole, hpeerRole, hpeerMode, hpeerHot, hpeerLease, hmatch⟩ := hpartner
    exact ⟨_, rfl, hpeerRole, hpeerMode, hpeerHot, hpeerLease, hmatch, hrole⟩
  case mirror =>
    intro s lane lv v m htakes hlevel hrole
    exact ⟨_, congrArg Host.Outcome.next (mirrorIn_standby htakes hlevel lv hrole m), rfl, rfl, rfl, rfl, rfl⟩
  case relayAcc =>
    intro s lane lv v a m htakes hlevel href hacc hfence hident
    have hadopt : adoptAcc a s = modFp _ { s with tw := { s.tw with peerAcc := some a } } := if_pos ⟨hfence, hident⟩
    exact ⟨_, congrArg Host.Outcome.next ((relayIn_acc htakes hlevel lv href hacc).trans hadopt), rfl, rfl, rfl⟩
  case relayRef =>
    intro s lane lv v i d f n htakes hlevel hsized hi hrole hpresent
    refine ⟨_, congrArg Host.Outcome.next (relayIn_ref htakes hlevel lv hrole hpresent d f n), ?_, ?_, rfl⟩
    · exact setMeas_phase (s := { s with tk := { s.tk with twinPeriod := n } }) hsized hi _
    · exact setMeas_st (s := { s with tk := { s.tk with twinPeriod := n } }) hsized hi _
  case ledger =>
    intro s lane lv v e htakes hlevel hroom hretain hrole
    obtain ⟨step, hrun⟩ := ledgerIn_mirrored htakes hlevel lv hroom hretain hrole e
    exact ⟨_, congrArg Host.Outcome.next hrun, rfl, rfl, rfl, rfl⟩
  case swapReq =>
    intro s lane lv v at_ htakes hlevel
    obtain ⟨content, hrun⟩ := swapReqIn_known htakes hlevel lv at_
    have hkept := congrArg (fun u : State => { u with tw := s.tw }) (laneWrites_laneSend 8 content
      (modTw (fun w => { w with swapTake := if mayTake s && s.tw.hot then some at_ else none }) s)).kept
    refine ⟨_, congrArg Host.Outcome.next hrun, rfl, fun l hl => ?_, hkept⟩
    exact LaneSent.any (laneSent_laneSend 8 content hl) fun m hm => by simp [hm]
  case swapAck =>
    rintro s lane lv v _ w htakes hlevel hswap rfl hlive
    exact congrArg Host.Outcome.next (swapAckIn_known htakes hlevel lv hswap hlive true)
  case swapRefused =>
    rintro s lane lv v _ w htakes hlevel hswap rfl hlive
    have hend : swapEnd 3 s = respondTo w.cmd stDone (le 1 3) { s with tw := { s.tw with swap := none } } := by
      simp only [swapEnd, hswap]
    obtain ⟨hrole, htw, -⟩ := pairing_iff.1 (pairing_of_plant (plant_respondTo w.cmd stDone (le 1 3)
      { s with tw := { s.tw with swap := none } }))
    refine ⟨_, congrArg Host.Outcome.next ((swapAckIn_known htakes hlevel lv hswap hlive false).trans hend), ?_, ?_, hrole⟩ <;> rw [htw]
  case resyncReq =>
    intro s lane lv v g d n htakes hlevel hholds
    obtain ⟨k, es, hrun⟩ := resyncReqIn_holder htakes hlevel lv hholds g d n
    have himages := laneWrites_sendImages g d s
    have hkept := (himages.trans (laneWrites_sendEntries (k + 1) es _)).kept
    refine ⟨_, congrArg Host.Outcome.next hrun, fun l hl => ?_, hkept⟩
    exact LaneSent.any (laneSent_sendEntries k es (himages.sending.lanes ▸ hl)) fun m hm => by simp [hm]
  case resyncIdle =>
    intro s lane lv v g d n htakes hlevel hholds
    simp [exec, execResyncReq, resyncReqIn, htakes, laneIn_known hlevel, hholds]
  case ledgerEnd =>
    intro s lane lv v htakes hlevel hrole hresync hasked himage hpend
    obtain ⟨hot, cmds, hplant⟩ := hotEval_plant { s with tw := { s.tw with ledgerInStep := true, resync := false } }
    obtain ⟨hrole', htw, -⟩ := pairing_iff.1 (pairing_of_plant hplant)
    refine ⟨_, congrArg Host.Outcome.next (resyncDataIn_ledgerEnd htakes hlevel lv hrole hresync hasked himage hpend), ?_, ?_,
      hrole'.trans hrole, (live_of_plant hplant).trans rfl⟩ <;> rw [htw]
  case part =>
    intro s lane lv v n d htakes hlevel hrole hresync hasked himage hpulled hmore
    exact congrArg Host.Outcome.next (resyncDataIn_part htakes hlevel lv hrole hresync hasked himage hpulled hmore)
  case commit =>
    intro s b hpulled hat hrole hdue hframe hplane _
    have hdone := resynced_resyncLive hpulled hat hrole hdue hframe hplane
    simp only [resynced, committed, Prod.mk.injEq] at hdone
    obtain ⟨hrole', ⟨hgen, hdigest⟩, hpulled', hat', himage⟩ := hdone
    exact ⟨_, rfl, hgen, hdigest, hpulled', hat', himage, hrole'⟩

end Sys2Proof.Proofs
end

section
/-! The ports and their PTP: what a change of one port leaves alone, and what the network keeps when a candidate is lost. -/
namespace Sys2Proof.Proofs
open Sys2Proof.Machine Sys2Proof.Laws

/-! ### One port, and the PTP of one port -/

@[simp] theorem getPort_modPort (n : Nat) (f : PortState → PortState) (s : State) :
    getPort (modPort n f s) n = f (getPort s n) := by
  unfold getPort modPort
  split <;> rfl

theorem getPort_modPort_other {n : Nat} (hn : n < 2) (f : PortState → PortState) (s : State) :
    getPort (modPort n f s) (1 - n) = getPort s (1 - n) := by
  obtain rfl | rfl : n = 0 ∨ n = 1 := by omega
  · rfl
  · rfl

@[simp] theorem getPtp_modPtp (n : Nat) (f : PtpState → PtpState) (s : State) : getPtp (modPtp n f s) n = f (getPtp s n) := by
  unfold getPtp modPtp
  split <;> rfl

theorem modPtp_modPtp (n : Nat) (f g : PtpState → PtpState) (s : State) :
    modPtp n f (modPtp n g s) = modPtp n (fun p => f (g p)) s := by
  unfold modPtp
  split <;> rfl

theorem getPtp_modPtp_other {n : Nat} (hn : n < 2) (f : PtpState → PtpState) (s : State) :
    getPtp (modPtp n f s) (1 - n) = getPtp s (1 - n) := by
  obtain rfl | rfl : n = 0 ∨ n = 1 := by omega
  · rfl
  · rfl

@[simp] theorem getPort_modPtp (n : Nat) (f : PtpState → PtpState) (s : State) (m : Nat) :
    getPort (modPtp n f s) m = getPort s m := by
  unfold modPtp
  split <;> rfl

/-- Nothing but the network differs. -/
def NwOnly (s t : State) : Prop := ∃ w, t = { s with nw := w }

theorem NwOnly.kept {s t : State} : NwOnly s t → { t with nw := s.nw } = s := by
  rintro ⟨w, rfl⟩
  rfl

theorem NwOnly.trans {s t u : State} : NwOnly s t → NwOnly t u → NwOnly s u := by
  rintro ⟨w, rfl⟩ ⟨w', rfl⟩
  exact ⟨w', rfl⟩

theorem nwOnly_modPort (n : Nat) (f : PortState → PortState) (s : State) : NwOnly s (modPort n f s) := by
  unfold modPort
  split <;> exact ⟨_, rfl⟩

theorem nwOnly_modPtp (n : Nat) (f : PtpState → PtpState) (s : State) : NwOnly s (modPtp n f s) := by
  unfold modPtp
  split <;> exact ⟨_, rfl⟩

/-- A view of the state that does not read the network. -/
theorem NwOnly.view {α : Type} {s t : State} (h : NwOnly s t) (g : State → α) (hg : ∀ w, g { s with nw := w } = g s) :
    g t = g s := by
  obtain ⟨w, rfl⟩ := h
  exact hg w

section Kept
variable (n : Nat) (f : PtpState → PtpState) (s : State)

@[simp] theorem modPtp_mode : (modPtp n f s).mode = s.mode := (nwOnly_modPtp n f s).view State.mode fun _ => rfl
@[simp] theorem modPtp_role : (modPtp n f s).role = s.role := (nwOnly_modPtp n f s).view State.role fun _ => rfl
@[simp] theorem modPtp_live : (modPtp n f s).live = s.live := (nwOnly_modPtp n f s).view State.live fun _ => rfl
@[simp] theorem modPtp_clock : (modPtp n f s).clock = s.clock := (nwOnly_modPtp n f s).view State.clock fun _ => rfl
@[simp] theorem modPtp_tw : (modPtp n f s).tw = s.tw := (nwOnly_modPtp n f s).view State.tw fun _ => rfl
@[simp] theorem modPtp_out : (modPtp n f s).out = s.out := (nwOnly_modPtp n f s).view State.out fun _ => rfl

end Kept

theorem portServes_lt {s : State} {n : Nat} (h : portServes s n = true) : n < 2 := by
  simp only [portServes, Bool.and_eq_true, decide_eq_true_eq] at h
  exact h.1.1.1

/-- Nothing but the network and what was sent differs. -/
def NetOnly (s t : State) : Prop := ∃ w o, t = { s with nw := w, out := o }

theorem NetOnly.kept {s t : State} : NetOnly s t → { t with nw := s.nw, out := s.out } = s := by
  rintro ⟨w, o, rfl⟩
  rfl

theorem NwOnly.netSend {s t : State} (n : Nat) (h : NetHdr) (m : NetMsg) : NwOnly s t → NetOnly s (netSend n h m t) := by
  rintro ⟨w, rfl⟩
  exact ⟨w, _, rfl⟩

@[simp] theorem getPort_netSend (n : Nat) (h : NetHdr) (m : NetMsg) (s : State) (k : Nat) :
    getPort (netSend n h m s) k = getPort s k := rfl

@[simp] theorem netSend_out (n : Nat) (h : NetHdr) (m : NetMsg) (s : State) :
    (netSend n h m s).out = .net n h m :: s.out := rfl

/-! ### A candidate is lost (R117, R121): of the network, at most an unsent Follow_Up goes with the fence -/

theorem nw_of_plant {s t : State} (h : t.plant = s.plant) : t.nw = s.nw := by
  have hnw := congrArg State.nw h
  exact hnw

theorem nw_of_hsOnly {s t : State} : HsOnly s t → t.nw = s.nw := by
  rintro ⟨h, rfl⟩
  rfl

@[simp] theorem raiseAlarm_nw (blk : Nat) (s : State) : (raiseAlarm blk s).nw = s.nw := nw_of_plant (plant_raiseAlarm blk s)

@[simp] theorem identAbandon_nw (s : State) : (identAbandon s).nw = s.nw := by
  unfold identAbandon
  dsimp only
  split
  · rfl
  · split
    · exact (nw_of_plant (plant_respondTo _ _ _ _)).trans rfl
    · rfl

@[simp] theorem inOrder_nw (rank : Nat) (s : State) : (inOrder rank s).nw = s.nw := by
  unfold inOrder
  split <;> rfl

@[simp] theorem toNoSignal_nw (i : Nat) (s : State) : (toNoSignal i s).nw = s.nw := by
  unfold toNoSignal
  dsimp only
  split <;> rfl

@[simp] theorem cancelLoopMoves_nw (s : State) : (cancelLoopMoves s).nw = s.nw := nw_of_hsOnly (hsOnly_cancelLoopMoves s)

@[simp] theorem hitlessSwitch_nw (i : Nat) (s : State) : (hitlessSwitch i s).nw = s.nw := by
  have hselect (u : State) : (selectCand i u).nw = u.nw := rfl
  rw [hitlessSwitch, nw_of_hsOnly (hsOnly_moveGroups _ _ _), hselect, cancelLoopMoves_nw]

@[simp] theorem noFollowUp_fenceEval (s : State) : noFollowUp (fenceEval s).nw = noFollowUp s.nw := by
  unfold fenceEval
  dsimp only
  split
  · rfl
  · split
    · rfl
    · rw [identAbandon_nw]
      rfl

@[simp] theorem noFollowUp_setMode (m : Mode) (s : State) : noFollowUp (setMode m s).nw = noFollowUp s.nw := by
  unfold setMode
  split
  · rfl
  · rw [noFollowUp_fenceEval, nw_of_plant (plant_raiseIrq _ _), nw_of_plant (plant_lgEvent _ _ _)]

@[simp] theorem noFollowUp_holdoverEntry (from6 : Bool) (s : State) :
    noFollowUp (holdoverEntry from6 s).nw = noFollowUp s.nw := by
  unfold holdoverEntry
  dsimp only
  split <;> simp only [noFollowUp_setMode, cancelLoopMoves_nw]

@[simp] theorem noFollowUp_selectedLost (declared from6 : Bool) (s : State) :
    noFollowUp (selectedLost declared from6 s).nw = noFollowUp s.nw := by
  unfold selectedLost
  dsimp only
  split
  · exact congrArg noFollowUp (inOrder_nw rankLoss s)
  · split
    · simp only [hitlessSwitch_nw, inOrder_nw]
    · simp only [noFollowUp_holdoverEntry, inOrder_nw]

@[simp] theorem noFollowUp_losePtp (n : Nat) (s : State) : noFollowUp (losePtp n s).nw = noFollowUp s.nw := by
  have hlose (i : Nat) : noFollowUp (loseCand i s).nw = noFollowUp s.nw := by
    unfold loseCand
    split
    · rfl
    · rfl
    · dsimp only
      split <;> simp only [noFollowUp_selectedLost, raiseAlarm_nw, toNoSignal_nw]
  unfold losePtp
  split
  · exact hlose _
  · rfl

theorem getPort_of_noFollowUp {s t : State} (h : noFollowUp t.nw = noFollowUp s.nw) (m : Nat) : getPort t m = getPort s m := by
  simp only [noFollowUp, NwState.mk.injEq] at h
  obtain ⟨hport0, hport1, -⟩ := h
  simp only [getPort, hport0, hport1]

/-! ### PTP of a port starts anew -/

@[simp] theorem getPort_ptpEnter (n st : Nat) (s : State) (m : Nat) : getPort (ptpEnter n st s) m = getPort s m := by
  unfold ptpEnter
  dsimp only
  split
  · rfl
  · split
    · rw [getPort_of_noFollowUp (noFollowUp_losePtp n _), getPort_modPtp]
    · exact getPort_modPtp n _ s m

@[simp] theorem getPort_ptpStart (n : Nat) (s : State) (m : Nat) : getPort (ptpStart n s) m = getPort s m := by
  simp only [ptpStart, getPort_modPtp, getPort_ptpEnter]

/-- The port is in LISTENING with a link, in INITIALIZING without one, and DISABLED where it takes no part. -/
theorem ptpStart_st (n : Nat) (s : State) : (getPtp (ptpStart n s) n).st =
    if (ptpPortCfg s.live n).role = 0 then 3 else if linkUp s n then 4 else 1 := by
  simp only [ptpStart, getPtp_modPtp]

end Sys2Proof.Proofs
end

section
/-! Modules and links of the network ports (R151, R152, R160). -/
namespace Sys2Proof.Proofs
open Sys2Proof.Machine Sys2Proof.Laws

theorem portStart_seeking {s : State} {n : Nat} (h : portSeeks s n = true) :
    portStart n s = modPort n (fun p => { p with link := 1, txdis := false, try10 := false, tryAt := s.clock }) s := if_pos h

/-- A port whose domain is on and whose mode is not off seeks lock when its module comes in. -/
theorem portSeeks_inserted {s : State} {n : Nat} (hpower : portPowered s n = true) (hboot : s.mode ≠ .boot)
    (hhush : s.mode ≠ .hush) (hmode : portMode s.live n ≠ 0) (id : Bytes) :
    portSeeks (modPort n (fun p => { p with modabs := false, module := id }) s) n = true := by
  have hpower' (f : PortState → PortState) : portPowered (modPort n f s) n = true := by
    simpa only [portPowered, modPort_pw] using hpower
  simp [portSeeks, hpower', hboot, hhush, hmode]

theorem exec_sfpModuleInserted {s : State} {n : Nat} (hn : n < 2) (habsent : (getPort s n).modabs = true) (id : Bytes) :
    exec (.sfpModuleInserted n id) s =
      .next (portStart n (modPort n (fun p => { p with modabs := false, module := id }) s)) := if_pos ⟨hn, habsent⟩

/-- The port after its module is taken out (R152). -/
def portOut (down : Bool) (p : PortState) : PortState :=
  { p with modabs := true, txdis := true, link := 0, module := [],
           linkDowns := if down then satInc 16 p.linkDowns else p.linkDowns }

theorem moduleOut_present {s : State} {n : Nat} (hn : n < 2) (hpresent : (getPort s n).modabs = false) :
    moduleOut n s = ptpStart n (modPort n (portOut (linkUp s n)) s) := if_pos ⟨hn, hpresent⟩

theorem modeLink_up (m : Nat) : 2 ≤ modeLink m := by
  unfold modeLink
  split
  · decide
  · split <;> decide

/-- A port that gains lock has a link. -/
theorem linkCode_up (s : State) (n : Nat) : 2 ≤ linkCode s n := by
  unfold linkCode
  split
  · exact modeLink_up _
  · split <;> decide

theorem linkGain_locked {s : State} {n ms : Nat} (hn : n < 2) (hseeks : (getPort s n).link = 1) (hms : 100 ≤ ms) :
    linkGain n ms s = ptpStart n (modPort n (fun p => { p with link := linkCode s n, los := false }) s) :=
  if_pos ⟨hn, hseeks, hms⟩

/-- A link that was up is declared down and seeks lock again; the level of SFPn_LOS is log entry 34. -/
theorem linkLose_up {s : State} {n us : Nat} {los : Bool} (hn : n < 2) (hup : linkUp s n = true)
    (hlost : los = true ∨ 1000 < us) :
    linkLose n los us s =
      ptpStart n (modPort n (fun p => { p with link := 1, linkDowns := satInc 16 p.linkDowns, tryAt := s.clock })
        (modPort n (fun p => { p with los := p.los || los }) s)) :=
  (if_pos ⟨hn, hlost⟩).trans (if_pos hup)

/-- Settles O17: each row is one change of its port, and where the link changes, the start of its PTP. The level of SFPn_LOS
that LINK_UP and LINK_DOWN leave is log entry 34. -/
theorem networkLinks : Obligations.NetworkLinks := by
  unfold Obligations.NetworkLinks
  refine ⟨?inserted, ?removed, ?alternate, ?up, ?upEarly, ?downShort, ?down⟩
  case inserted =>
    intro s n id hn habsent hpower hboot hhush hmode
    refine ⟨_, (exec_sfpModuleInserted hn habsent id).trans (congrArg _
      (portStart_seeking (portSeeks_inserted hpower hboot hhush hmode id))), ?_⟩
    have hkept (f g : PortState → PortState) : { modPort n g (modPort n f s) with nw := s.nw } = s :=
      ((nwOnly_modPort n f s).trans (nwOnly_modPort n g _)).kept
    refine ⟨?_, ?_, ?_, ?_, ?_, ?_, hkept _ _⟩ <;> simp only [getPort_modPort, getPort_modPort_other hn, modPort_clock]
  case removed =>
    intro s n hn hpresent
    refine ⟨_, congrArg Host.Outcome.next (moduleOut_present hn hpresent), ?_⟩
    simp only [getPort_ptpStart, getPort_modPort, getPort_modPort_other hn, portOut, and_true]
  case alternate =>
    intro s n hn hfirst hseeks hdue
    refine ⟨_, if_pos ⟨hn, hfirst, hseeks, hdue⟩, ?_⟩
    simp only [getPort_modPort, true_and]
    exact ⟨hseeks, (nwOnly_modPort n _ s).kept⟩
  case up =>
    intro s n ms hn hseeks hms
    refine ⟨_, congrArg Host.Outcome.next (linkGain_locked hn hseeks hms), ?_⟩
    simp [ptpStart_st, linkUp, linkCode_up]
  case upEarly =>
    intro s n ms hms
    exact congrArg Host.Outcome.next (if_neg fun ⟨_, _, hlong⟩ => Nat.not_le.2 hms hlong)
  case downShort =>
    intro s n us hus
    exact congrArg Host.Outcome.next (if_neg fun ⟨_, hlost⟩ => hlost.elim Bool.false_ne_true (Nat.not_lt.2 hus))
  case down =>
    intro s n us b hn hup hlost
    refine ⟨_, congrArg Host.Outcome.next (linkLose_up hn hup hlost), ?_⟩
    simp [ptpStart_st, linkUp]

end Sys2Proof.Proofs
end

section
/-! Frames that a network port discards, ARP, ICMP and IGMP (R153, R154, R155, R172). -/
namespace Sys2Proof.Proofs
open Sys2Proof.Machine Sys2Proof.Laws

/-! ### Discarded frames (R153) -/

theorem getPort_dropFrame (n : Nat) (s : State) :
    getPort (dropFrame n s) n = { getPort s n with rxDrops := satInc 32 (getPort s n).rxDrops } := getPort_modPort n _ s

theorem dropFrame_kept (n : Nat) (s : State) : { dropFrame n s with nw := s.nw } = s := (nwOnly_modPort n _ s).kept

theorem dropFrame_out (n : Nat) (s : State) : (dropFrame n s).out = s.out := modPort_out n _ s

/-! ### ARP (R153, R154, R172) -/

theorem arpRequest_service {s : State} {n : Nat} (hserves : portServes s n = true) (hopen : s.fenceOpen = true) (a b : Nat) :
    arpRequest n (portCfg s.live n).serviceIp a b s = netSend n (serviceHdr (portCfg s.live n) 0 0 0)
      (.arpReply (portCfg s.live n).serviceIp (portCfg s.live n).mac a b) s := by
  simp [arpRequest, hserves, hopen]

theorem arpRequest_fenced {s : State} {n : Nat} (hclosed : s.fenceOpen = false)
    (hne : (portCfg s.live n).serviceIp ≠ (portCfg s.live n).unitIp) (a b : Nat) :
    arpRequest n (portCfg s.live n).serviceIp a b s = s := by
  simp [arpRequest, hclosed, hne]

theorem arpRequest_unit {s : State} {n : Nat} (hserves : portServes s n = true)
    (hne : (portCfg s.live n).serviceIp ≠ (portCfg s.live n).unitIp) (a b : Nat) :
    arpRequest n (portCfg s.live n).unitIp a b s = netSend n (unitHdr (portCfg s.live n) 0 0)
      (.arpReply (portCfg s.live n).unitIp Config.unitMac a b) s := by
  simp [arpRequest, hserves, hne.symm]

/-- The cache with a reply as its newest entry (R153). -/
def arpCached (ip mac now : Nat) (arp : List (Nat × Nat × Nat)) : List (Nat × Nat × Nat) :=
  ((ip, mac, now) :: arp.filter (fun e => e.1 != ip)).take 64

theorem arpCached_tail {ip mac now : Nat} {arp : List (Nat × Nat × Nat)} {e : Nat × Nat × Nat}
    (he : e ∈ (arpCached ip mac now arp).tail) : e ∈ arp ∧ e.1 ≠ ip := by
  have hrest : e ∈ arp.filter (fun e => e.1 != ip) := List.mem_of_mem_take he
  simpa using hrest

theorem arpReply_serving {s : State} {n : Nat} (hserves : portServes s n = true) (ip mac : Nat) :
    arpReply n ip mac s = modPort n (fun p => { p with arp := arpCached ip mac s.clock p.arp }) s := if_pos hserves

/-- Where the entries of an address are all over, exactly they leave the cache. -/
theorem arpAge_over {s : State} {n ip : Nat}
    (hover : (getPort s n).arp.all (fun e => e.1 != ip || decide (e.2.2 + 300 * uPerS ≤ s.clock)) = true) :
    (getPort (arpAge n ip s) n).arp = (getPort s n).arp.filter (fun e => e.1 != ip) := by
  rw [arpAge, getPort_modPort]
  refine List.filter_congr fun e he => ?_
  have hone := List.all_eq_true.1 hover e he
  simp only [Bool.or_eq_true, bne_iff_ne, decide_eq_true_eq] at hone
  rcases hone with hother | hold
  · simp [hother]
  · simp [Nat.not_lt.2 hold]

/-- The port with a request for `ip` noted (R172). -/
def arpAsked (ip now : Nat) (p : PortState) : PortState :=
  { p with arpReq := (ip, now) :: p.arpReq.filter (fun e => e.1 != ip) }

theorem arpRetry_first {s : State} {n ip : Nat} (hserves : portServes s n = true) (hwanted : (hopsWanted s n).contains ip = true)
    (hknown : arpKnown s n ip = false) (hnone : (getPort s n).arpReq = []) :
    arpRetry n ip s = netSend n (unitHdr (portCfg s.live n) 0 0) (.arpRequest (portCfg s.live n).unitIp Config.unitMac ip)
      (modPort n (arpAsked ip s.clock) s) :=
  if_pos ⟨hserves, hwanted, hknown, by rw [hnone]; rfl⟩

theorem arpRetry_recent {s : State} {n ip t0 : Nat} (hasked : (getPort s n).arpReq = [(ip, t0)])
    (hrecent : s.clock < t0 + uPerS) : arpRetry n ip s = s := by
  refine if_neg fun ⟨_, _, _, hfalse⟩ => ?_
  simp [hasked, hrecent] at hfalse

theorem garpSend_due {s : State} (hdue : s.nw.garp = true) (hopen : s.fenceOpen = true) (h0 : portServes s 0 = true)
    (h1 : portServes s 1 = true) : garpSend s =
      netSend 1 (serviceHdr (portCfg s.live 1) 0 0 0) (.gratuitousArp (portCfg s.live 1).serviceIp (portCfg s.live 1).mac)
        (netSend 0 (serviceHdr (portCfg s.live 0) 0 0 0) (.gratuitousArp (portCfg s.live 0).serviceIp (portCfg s.live 0).mac)
          { s with nw := { s.nw with garp := false } }) := by
  simp [garpSend, hdue, hopen, h0, h1]

/-! ### ICMP (R153, R154) -/

/-- The port after an echo that it answers in its second `sec`. -/
def echoCounted (sec count : Nat) (p : PortState) : PortState := { p with icmpSec := sec, icmpCount := count + 1 }

section Echo
variable {s : State} {n src dst : Nat} {d : Bytes}

/-- An echo within the limits is answered from the address that it was sent to. -/
theorem icmpEcho_answered (hserves : portServes s n = true) (hlen : d.length ≤ 1472)
    (hsec : (getPort s n).icmpSec = s.clock / uPerS) (hcount : (getPort s n).icmpCount < 100) {service : Bool}
    (hservice : (dst == (portCfg s.live n).serviceIp && s.fenceOpen) = service)
    (hours : service = true ∨ dst = (portCfg s.live n).unitIp) :
    icmpEcho n src dst d s =
      netSend n (if service then serviceHdr (portCfg s.live n) src 0 0 else unitHdr (portCfg s.live n) src 0) (.icmpReply d)
        (modPort n (echoCounted (s.clock / uPerS) (getPort s n).icmpCount) s) := by
  subst hservice
  have haddr : ¬(portServes s n = false ∨
      ((dst == (portCfg s.live n).serviceIp && s.fenceOpen) = false ∧ dst ≠ (portCfg s.live n).unitIp)) := by
    rintro (hno | ⟨hno, hother⟩)
    · exact Bool.false_ne_true (hno.symm.trans hserves)
    · exact hours.elim (fun hyes => Bool.false_ne_true (hno.symm.trans hyes)) hother
  have hlimit : ¬(1472 < d.length ∨ 100 ≤ (getPort s n).icmpCount) := by omega
  simp only [icmpEcho, if_neg haddr, if_pos hsec, if_neg hlimit]
  rfl

theorem icmpEcho_limited (hserves : portServes s n = true) (hunit : dst = (portCfg s.live n).unitIp)
    (hover : 1472 < d.length ∨ (getPort s n).icmpSec = s.clock / uPerS ∧ 100 ≤ (getPort s n).icmpCount) :
    icmpEcho n src dst d s = dropFrame n s := by
  have hlimit : 1472 < d.length ∨ 100 ≤ (if (getPort s n).icmpSec = s.clock / uPerS then (getPort s n).icmpCount else 0) := by
    rcases hover with hlong | ⟨hsec, hcount⟩
    · exact .inl hlong
    · exact .inr ((if_pos hsec).symm ▸ hcount)
  simp [icmpEcho, hserves, hunit, hlimit]

theorem icmpEcho_elsewhere (hunit : dst ≠ (portCfg s.live n).unitIp)
    (hservice : dst ≠ (portCfg s.live n).serviceIp ∨ s.fenceOpen = false) : icmpEcho n src dst d s = s := by
  have hno : (dst == (portCfg s.live n).serviceIp && s.fenceOpen) = false := by
    rcases hservice with hother | hclosed
    · simp [hother]
    · simp [hclosed]
  exact if_pos (.inr ⟨hno, hunit⟩)

end Echo

/-! ### IGMP (R155) -/

/-- A report of version 3, with the DSCP of log entry 103. -/
def igmpReport3 (s : State) (n group src : Nat) (join : Bool) : OutMsg :=
  .net n (unitHdr (portCfg s.live n) 0xE0000016 48) (.igmp 3 group src join)

theorem igmpSend_v3 {s : State} {n : Nat} (hver : igmpVersion s n = 3) (group src : Nat) (join : Bool) :
    igmpSend n group src join s = { s with out := igmpReport3 s n group src join :: s.out } := by
  simp [igmpSend, hver, netSend, igmpReport3]

/-- A run of reports of version 3 sends one for each element. -/
theorem foldl_igmpSend {α : Type} {n : Nat} (group src : α → Nat) (join : α → Bool) : ∀ (l : List α) {s : State},
    igmpVersion s n = 3 → ∃ o, l.foldl (fun (t : State) a => igmpSend n (group a) (src a) (join a) t) s = { s with out := o } ∧
      (∀ x ∈ s.out, x ∈ o) ∧ ∀ a ∈ l, igmpReport3 s n (group a) (src a) (join a) ∈ o
  | [], s, _ => ⟨s.out, rfl, fun _ hx => hx, fun _ ha => absurd ha List.not_mem_nil⟩
  | a :: l, s, hver => by
    rw [List.foldl_cons, igmpSend_v3 hver]
    obtain ⟨o, hrun, hold, hnew⟩ := foldl_igmpSend (n := n) group src join l
      (s := { s with out := igmpReport3 s n (group a) (src a) (join a) :: s.out }) hver
    refine ⟨o, hrun, fun x hx => hold x (List.mem_cons_of_mem _ hx), fun b hb => ?_⟩
    rcases List.mem_cons.1 hb with rfl | hb
    · exact hold _ List.mem_cons_self
    · exact hnew b hb

theorem igmpQuery_v3 {s : State} {n : Nat} (hserves : portServes s n = true) (group : Nat) : igmpQuery n 3 group s =
    ((members s.live).eraseDups.filter (fun m => m.1 == n && (group == 0 || m.2.1 == group))).foldl
      (fun (t : State) m => igmpSend n m.2.1 m.2.2 true t) s := by
  simp [igmpQuery, hserves]

/-- Settles O18: each row by its case of the port's answer. An echo beyond the rate counts as a discarded frame (log entry
35). -/
theorem networkFrames : Obligations.NetworkFrames := by
  unfold Obligations.NetworkFrames
  refine ⟨?handled, ?discarded, ?arpService, ?arpFenced, ?arpUnit, ?arpReply, ?arpAge, ?arpRetry, ?arpRecent, ?garp,
    ?echoService, ?echoUnit, ?echoOver, ?echoElsewhere, ?igmpQuery, ?igmpReport⟩
  case handled =>
    intro s n f hserves hhandled
    exact congrArg Host.Outcome.next (if_neg (by simp [hhandled]))
  case discarded =>
    intro s n f hserves hhandled
    refine ⟨dropFrame n s, congrArg Host.Outcome.next (if_pos (by simp [hserves, hhandled])), ?_,
      getPort_modPort_other (portServes_lt hserves) _ s, ?_, dropFrame_kept n s⟩ <;> rw [getPort_dropFrame]
  case arpService =>
    intro s n a b hserves hopen
    exact congrArg Host.Outcome.next (arpRequest_service hserves hopen a b)
  case arpFenced =>
    intro s n a b hclosed hne
    exact congrArg Host.Outcome.next (arpRequest_fenced hclosed hne a b)
  case arpUnit =>
    intro s n a b hserves hne
    exact congrArg Host.Outcome.next (arpRequest_unit hserves hne a b)
  case arpReply =>
    intro s n ip mac hserves
    refine ⟨_, congrArg Host.Outcome.next (arpReply_serving hserves ip mac), ?_, ?_, ?_, (nwOnly_modPort n _ s).kept⟩ <;>
      rw [getPort_modPort]
    · rfl
    · exact List.length_take_le 64 _
    · exact fun e he => arpCached_tail he
  case arpAge =>
    intro s n ip hn hover
    exact ⟨_, congrArg Host.Outcome.next (if_pos hn), arpAge_over hover, getPort_modPort_other hn _ s,
      (nwOnly_modPort n _ s).kept⟩
  case arpRetry =>
    intro s n ip hserves hwanted hknown hnone
    refine ⟨_, congrArg Host.Outcome.next (arpRetry_first hserves hwanted hknown hnone), ?_, ?_,
      ((nwOnly_modPort n _ s).netSend _ _ _).kept⟩
    · rw [netSend_out, modPort_out]
    · simp [arpAsked, hnone]
  case arpRecent =>
    intro s n ip t0 hasked hrecent
    exact congrArg Host.Outcome.next (arpRetry_recent hasked hrecent)
  case garp =>
    intro s hdue hopen h0 h1
    exact congrArg Host.Outcome.next (garpSend_due hdue hopen h0 h1)
  case echoService =>
    intro s n src dst d hserves hlen hsec hcount hdst hopen
    refine ⟨_, congrArg Host.Outcome.next (icmpEcho_answered (service := true) hserves hlen hsec hcount (by simp [hdst, hopen])
      (.inl rfl)), ?_, ?_, ((nwOnly_modPort n _ s).netSend _ _ _).kept⟩
    · rw [netSend_out, modPort_out, if_pos rfl]
    · simp [echoCounted]
  case echoUnit =>
    intro s n src dst d hserves hlen hsec hcount hdst hne
    refine ⟨_, congrArg Host.Outcome.next (icmpEcho_answered (service := false) hserves hlen hsec hcount (by simp [hne])
      (.inr hdst)), ?_, ?_, ((nwOnly_modPort n _ s).netSend _ _ _).kept⟩
    · rw [netSend_out, modPort_out, if_neg Bool.false_ne_true]
    · simp [echoCounted]
  case echoOver =>
    intro s n src dst d hserves hunit hover
    refine ⟨_, congrArg Host.Outcome.next (icmpEcho_limited hserves hunit hover), dropFrame_out n s, ?_, dropFrame_kept n s⟩
    rw [getPort_dropFrame]
  case echoElsewhere =>
    intro s n src dst d hunit hservice
    exact congrArg Host.Outcome.next (icmpEcho_elsewhere hunit hservice)
  case igmpQuery =>
    intro s n g hserves hver
    obtain ⟨o, hrun, -, hsent⟩ := foldl_igmpSend (fun m : Nat × Nat × Nat => m.2.1) (fun m => m.2.2) (fun _ => true)
      ((members s.live).eraseDups.filter (fun m => m.1 == n && (g == 0 || m.2.1 == g))) hver
    refine ⟨_, congrArg Host.Outcome.next ((igmpQuery_v3 hserves g).trans hrun), fun m hm hport hgroup => hsent m ?_, rfl⟩
    simpa [hport] using ⟨hm, hgroup⟩
  case igmpReport =>
    intro s n hserves hver
    obtain ⟨w, hrow⟩ : ∃ w, igmpReport n s = (s.nw.igmp.filter (fun d => d.port == n && decide (d.due ≤ s.clock))).foldl
        (fun (t : State) d => igmpSend n d.group d.src d.join t) { s with nw := { s.nw with igmp := w } } :=
      ⟨_, if_neg (by simp [hserves])⟩
    obtain ⟨o, hrun, -, hsent⟩ := foldl_igmpSend IgmpDue.group IgmpDue.src IgmpDue.join
      (s.nw.igmp.filter (fun d => d.port == n && decide (d.due ≤ s.clock))) (s := { s with nw := { s.nw with igmp := w } }) hver
    refine ⟨_, congrArg Host.Outcome.next (hrow.trans hrun), fun d hd hport hdue => hsent d ?_, rfl⟩
    simp [hd, hport, hdue]

end Sys2Proof.Proofs
end

section
/-! Media packets in and out, and the loss of flows (R153, R172, R174, R175, R176). -/
namespace Sys2Proof.Proofs
open Sys2Proof.Machine Sys2Proof.Laws

/-! ### The state of one flow -/

/-- What is written reads back, unless it is the state of a flow that has never run. -/
theorem tabGet_tabMod {α : Type} [DecidableEq α] {d : α} {m : Tab α} {i : Nat} {f : α → α} (hne : f (tabGet d m i) ≠ d) :
    tabGet d (tabMod d m i f) i = f (tabGet d m i) := by
  rw [tabMod, tabSet, if_neg hne, tabGet_insert, if_pos rfl]

theorem rxState_modRxFlow {s : State} {i : Nat} {f : FlowState → FlowState} {g : FlowState} (hf : f (rxState s i) = g)
    (hne : g ≠ {}) : rxState (modRxFlow i f s) i = g := by
  subst hf
  exact tabGet_tabMod hne

theorem txFlowState_modTxFlow {s : State} {i : Nat} {f : FlowState → FlowState} {g : FlowState} (hf : f (txFlowState s i) = g)
    (hne : g ≠ {}) : txFlowState (modTxFlow i f s) i = g := by
  subst hf
  exact tabGet_tabMod hne

theorem satInc_ne_zero {w : Nat} (hw : 1 ≤ w) (n : Nat) : satInc w n ≠ 0 := by
  have hpow : 2 ^ 1 ≤ 2 ^ w := Nat.pow_le_pow_right (by decide) hw
  unfold satInc
  split <;> omega

/-! ### A packet comes in (R173 to R175) -/

theorem flowHits_none {s : State} {n : Nat} {p : RtpPacket}
    (h : s.live.rx.all (fun e => match e.2 with | some c => !flowTakes c n p | none => true) = true) : flowHits s n p = [] := by
  refine List.filterMap_eq_nil_iff.2 fun ⟨i, cfg⟩ he => ?_
  have hone := List.all_eq_true.1 h (i, cfg) he
  cases cfg with
  | none => rfl
  | some c => exact if_neg (by simpa using hone)

theorem packetIn_discarded {s : State} {n : Nat} {p : RtpPacket} (hserves : portServes s n = true)
    (hnone : flowHits s n p = []) : packetIn n p s = dropFrame n s := by
  simp [packetIn, hserves, hnone]

theorem packetIn_one {s : State} {n i : Nat} {c : FlowCfg} {p : RtpPacket} (hserves : portServes s n = true)
    (hplane : s.dataPlane = .running) (hrx : s.live.rx = [(i, some c)]) (htakes : flowTakes c n p = true) :
    packetIn n p s = flowPacket n p s i c := by
  have hhits : flowHits s n p = [(i, c)] := by simp [flowHits, hrx, htakes]
  simp [packetIn, hserves, hplane, hhits]

/-- The flow after it has accepted a packet on a port (R175, R176). -/
def flowHeard (n : Nat) (p : RtpPacket) (s : State) (f : FlowState) : FlowState :=
  { flowAlive n s f with pkts := (f.pkts + 1) % 2 ^ 32, lastTs := p.ts }

theorem flowAlive_lost (n : Nat) (s : State) (f : FlowState) : (flowAlive n s f).lost = false := by
  unfold flowAlive
  dsimp only
  split <;> rfl

theorem flowAlive_buf (n : Nat) (s : State) (f : FlowState) : (flowAlive n s f).buf = f.buf := by
  unfold flowAlive
  dsimp only
  split <;> rfl

section Packet
variable {s : State} {n i : Nat} {c : FlowCfg} {p : RtpPacket}
  (hbuf : (rxState s i).buf.any (fun e => e.1 == fullCount (mediaCount s c) p.ts) = false)
  (hplayed : (rxState s i).played.contains (fullCount (mediaCount s c) p.ts) = false)
include hbuf hplayed

/-- A packet in time that is no copy is stored. -/
theorem rxState_flowPacket_stored (hearly : mediaCount s c ≤ fullCount (mediaCount s c) p.ts + flowL c)
    (hlate : fullCount (mediaCount s c) p.ts + flowN c ≤ mediaCount s c + flowDs c) :
    rxState (flowPacket n p s i c) i =
      { flowHeard n p s (rxState s i) with buf := (fullCount (mediaCount s c) p.ts, p.payload) :: (rxState s i).buf } := by
  refine rxState_modRxFlow ?_ fun hempty => List.cons_ne_nil _ _ (congrArg FlowState.buf hempty)
  dsimp only
  rw [hbuf, hplayed, if_neg (by simp), if_neg (Nat.not_lt.2 hearly), if_neg (Nat.not_lt.2 hlate)]
  rfl

/-- One that comes too late is counted, and not stored (log entry 35). -/
theorem rxState_flowPacket_late (hlate : fullCount (mediaCount s c) p.ts + flowL c < mediaCount s c) :
    rxState (flowPacket n p s i c) i = { flowHeard n p s (rxState s i) with late := satInc 16 (rxState s i).late } := by
  refine rxState_modRxFlow ?_ fun hempty => satInc_ne_zero (by decide) _ (congrArg FlowState.late hempty)
  dsimp only
  rw [hbuf, hplayed, if_neg (by simp), if_pos hlate]
  rfl

end Packet

/-! ### Packets go out (R171, R172) -/

/-- The state of a flow whose packet has gone out on port 0 alone. -/
def flowSentA (p : RtpOut) (f : FlowState) : FlowState :=
  { f with aOk := true, bOk := false, lost := false, pkts := (f.pkts + 1) % 2 ^ 32, lastTs := p.ts }

/-- A packet of a flow on port 0 alone goes out there. -/
theorem sendPacket_portA {s : State} {p : RtpOut} (hA : nbit p.ports 0 = true) (hB : nbit p.ports 1 = false)
    (hserves : portServes s 0 = true) (hresolved : resolved s 0 p.dstA = true) :
    sendPacket s p = modTxFlow p.flow (flowSentA p) (netSend 0 (serviceHdr (portCfg s.live 0) p.dstA p.dscp p.udpA)
      (.rtp p (rtpDatagram p (portCfg s.live 0).serviceIp p.dstA p.udpA)) s) := by
  have hpathA : outPath s p 0 = true := by simp [outPath, hA, hserves]
  have hpathB (t : State) : outPath t p 1 = false := by simp [outPath, hB]
  have hopen : outBlocked s p = false := by simp [outBlocked, hpathA, hpathB, outDst, hresolved]
  have hsent : [0, 1].foldl (sendPath p) s = netSend 0 (serviceHdr (portCfg s.live 0) p.dstA p.dscp p.udpA)
      (.rtp p (rtpDatagram p (portCfg s.live 0).serviceIp p.dstA p.udpA)) s := by
    simp [sendPath, hpathA, hpathB, outDst, outUdp]
  simp only [sendPacket, hopen, hsent, hpathA, hpathB]
  rfl

/-- With the fence open the packet that is due goes out (R172). -/
theorem exec_mediaPacketDue_open {s : State} {p : RtpOut} (hdue : s.nw.dueAt ≤ s.clock) (hone : s.nw.due = [p])
    (hsends : mediaSends s = true) : exec .mediaPacketDue s = .next (sendPacket { s with nw := { s.nw with due := [] } } p) := by
  have hrun : mediaDue s = s.nw.due.foldl sendPacket { s with nw := { s.nw with due := [] } } := if_pos hsends
  rw [hone] at hrun
  exact congrArg Host.Outcome.next ((if_pos hdue).trans hrun)

theorem exec_mediaPacketDue_fenced {s : State} (hdue : s.nw.dueAt ≤ s.clock) (hclosed : s.fenceOpen = false) :
    exec .mediaPacketDue s = .next { s with nw := { s.nw with due := [] } } :=
  congrArg Host.Outcome.next ((if_pos hdue).trans (if_neg (by simp [mediaSends, hclosed])))

/-! ### A flow or a path is lost (R175, R176) -/

/-- A lost flow (log entry 35). -/
def flowSilent (f : FlowState) : FlowState := { f with lost := true, aOk := false, bOk := false, buf := [] }

theorem flowLost_due {s : State} {i : Nat} {c : FlowCfg} (hcfg : rxFlow s.live i = some c) (hen : c.en = true)
    (hlost : (rxState s i).lost = false) (hfirst : s.firstLive = true) (hhush : s.mode ≠ .hush)
    (ha : (rxState s i).aLast + lossTime c ≤ s.clock) (hb : (rxState s i).bLast + lossTime c ≤ s.clock) :
    flowLost i s = raiseAlarm blkNW (modRxFlow i flowSilent s) := by
  have hlast : (if (rxState s i).aLast < (rxState s i).bLast then (rxState s i).bLast else (rxState s i).aLast) + lossTime c
      ≤ s.clock := by
    split
    · exact hb
    · exact ha
  simp only [flowLost, hcfg]
  exact if_pos ⟨hen, hlost, hfirst, hhush, hlast⟩

theorem flowPathLost_due {s : State} {i : Nat} {c : FlowCfg} (hcfg : rxFlow s.live i = some c) (hen : c.en = true)
    (hports : c.ports = 3) (hok : (rxState s i).bOk = true) (hb : (rxState s i).bLast + lossTime c ≤ s.clock) :
    flowPathLost i true s = raiseAlarm blkNW (modRxFlow i (fun f => { f with bOk := false }) s) := by
  simp only [flowPathLost, hcfg]
  exact if_pos ⟨hen, hports, hok, hb⟩

theorem rxState_raiseAlarm (blk : Nat) (s : State) (i : Nat) : rxState (raiseAlarm blk s) i = rxState s i := by
  rw [rxState, raiseAlarm_nw, rxState]

/-- Settles O19: each row by its case; that a late packet is accepted and that a lost flow has an empty buffer is log entry
35. -/
theorem mediaPackets : Obligations.MediaPackets := by
  unfold Obligations.MediaPackets
  refine ⟨?discarded, ?stored, ?late, ?sent, ?fenced, ?flowLost, ?pathLost⟩
  case discarded =>
    intro s n p hserves hnone
    refine ⟨_, congrArg Host.Outcome.next (packetIn_discarded hserves (flowHits_none hnone)), ?_, dropFrame_kept n s⟩
    rw [getPort_dropFrame]
  case stored =>
    intro s n i c p hserves hplane hrx htakes hearly hlate hbuf hplayed
    refine ⟨_, congrArg Host.Outcome.next (packetIn_one hserves hplane hrx htakes), ?_, ?_, ?_, ?_, rfl⟩ <;>
      rw [rxState_flowPacket_stored hbuf hplayed hearly hlate]
    · rfl
    · exact flowAlive_lost n s _
    · rfl
  case late =>
    intro s n i c p hserves hplane hrx htakes hlate hbuf hplayed
    refine ⟨_, congrArg Host.Outcome.next (packetIn_one hserves hplane hrx htakes), ?_, ?_, ?_, ?_, rfl⟩ <;>
      rw [rxState_flowPacket_late hbuf hplayed hlate]
    · exact flowAlive_buf n s _
    · rfl
    · exact flowAlive_lost n s _
  case sent =>
    intro s p hdue hone hsends hA hB hserves hresolved
    have hsent := sendPacket_portA (s := { s with nw := { s.nw with due := [] } }) hA hB hserves hresolved
    refine ⟨_, (exec_mediaPacketDue_open hdue hone hsends).trans (congrArg Host.Outcome.next hsent), rfl, rfl, ?_, rfl⟩
    rw [txFlowState_modTxFlow rfl fun hempty => Bool.false_ne_true (congrArg FlowState.aOk hempty).symm]
    rfl
  case fenced =>
    intro s hdue hclosed
    exact exec_mediaPacketDue_fenced hdue hclosed
  case flowLost =>
    intro s i c hcfg hen hlost hfirst hhush ha hb
    refine ⟨_, congrArg Host.Outcome.next (flowLost_due hcfg hen hlost hfirst hhush ha hb), ?_, raiseAlarm_sets _ _,
      raiseAlarm_mode _ _⟩
    rw [rxState_raiseAlarm]
    exact rxState_modRxFlow rfl fun hempty => Bool.false_ne_true (congrArg FlowState.lost hempty).symm
  case pathLost =>
    intro s i c hcfg hen hports hok hb
    refine ⟨_, congrArg Host.Outcome.next (flowPathLost_due hcfg hen hports hok hb), ?_, raiseAlarm_sets _ _,
      raiseAlarm_mode _ _⟩
    rw [raiseAlarm_nw]
    rfl

end Sys2Proof.Proofs
end

section
/-! PTP messages received (R156, R158 to R160, R163, R164, R166). -/
namespace Sys2Proof.Proofs
open Sys2Proof.Machine Sys2Proof.Laws

/-! ### What a port hears -/

section Hears
variable {s : State} {n : Nat} {h : PtpHeader} (hon : ptpOn s n = true)
include hon

/-- A message of the device itself is counted, and not heard (R163). -/
theorem ptpHears_own (hown : h.source.clock = clockId s.live) (act : State → State) :
    ptpHears n h s act = modPtp n (fun p => { p with ownDiscards := satInc 16 p.ownDiscards }) s := by
  simp [ptpHears, hon, hown]

theorem ptpHears_heard (hother : h.source.clock ≠ clockId s.live) (hdomain : h.domain = s.live.ptp.domain)
    (act : State → State) : ptpHears n h s act = act s := by
  simp [ptpHears, hon, hother, hdomain]

end Hears

/-! ### Offset and delay (R158, R164) -/

@[simp] theorem getPtp_setMeas (i : Nat) (v : Int) (s : State) (m : Nat) : getPtp (setMeas i v s) m = getPtp s m := rfl

@[simp] theorem lentMpd_modPtp (n : Nat) (f : PtpState → PtpState) (s : State) (m : Nat) :
    lentMpd (modPtp n f s) m = lentMpd s m := by
  simp only [lentMpd, modPtp_role, modPtp_tw]

/-- A unit that neither stands by nor is fenced measures the delay itself (R164). -/
theorem lentMpd_none {s : State} (hstandby : s.role ≠ .standby) (hfenced : s.role ≠ .fenced) (n : Nat) : lentMpd s n = none :=
  if_neg (not_or.2 ⟨hstandby, hfenced⟩)

/-- The port with an offset from `d` and the mean path delay `mpd`. -/
def ptpCalibrated (d mpd : Int) (lent : Bool) (p : PtpState) : PtpState :=
  { p with st := 9, offset := d - mpd, mpd, borrowed := lent || p.borrowed }

/-- A new offset either finds no delay and changes nothing, or calibrates the port. -/
theorem getPtp_ptpOffset {s : State} {n : Nat} {d : Int} (hd : (getPtp s n).t21 = some d) : getPtp (ptpOffset n s) n =
    if (getPtp s n).hasMpd = false ∧ lentMpd s n = none ∧ (getPtp s n).borrowed = false then getPtp s n
    else ptpCalibrated d ((lentMpd s n).getD (getPtp s n).mpd) (lentMpd s n).isSome (getPtp s n) := by
  unfold ptpOffset
  simp only [hd]
  split
  · rfl
  · have hcal := getPtp_modPtp n (ptpCalibrated d ((lentMpd s n).getD (getPtp s n).mpd) (lentMpd s n).isSome) s
    split
    · exact hcal
    · split
      · exact hcal
      · exact hcal
      · exact (getPtp_setMeas _ _ _ _).trans hcal

/-- A new offset keeps the times of the messages. -/
theorem ptpOffset_times {s : State} {n : Nat} {d : Int} (hd : (getPtp s n).t21 = some d) :
    (getPtp (ptpOffset n s) n).t21 = some d ∧ (getPtp (ptpOffset n s) n).sync = (getPtp s n).sync ∧
      (getPtp (ptpOffset n s) n).lastSync = (getPtp s n).lastSync := by
  rw [getPtp_ptpOffset hd]
  split <;> exact ⟨hd, rfl, rfl⟩

/-! ### Sync, Follow_Up and Delay_Resp -/

/-- The port with the difference `d` of a Sync that needs no Follow_Up any more. -/
def ptpSynced (d : Int) (p : PtpState) : PtpState := { p with sync := none, t21 := some d }

/-- The port with a mean path delay of its own. -/
def ptpDelayed (mpd : Int) (p : PtpState) : PtpState := { p with dreq := none, mpd, hasMpd := true, borrowed := false }

/-- The arrival of a Sync, corrected (R158). -/
def syncArrival (s : State) (n : Nat) (h : PtpHeader) (arrival : Int) : Int :=
  stamp arrival - (ptpPortCfg s.live n).asymRx - h.correction

section Parent
variable {s : State} {n : Nat} {h : PtpHeader} (hon : ptpOn s n = true) (hother : h.source.clock ≠ clockId s.live)
  (hdomain : h.domain = s.live.ptp.domain) (hparent : fromParent s n h = true)
include hon hother hdomain hparent

theorem ptpSync_oneStep (origin arrival : Int) : ptpSync n h false origin arrival s =
    ptpOffset n (modPtp n (ptpSynced (syncArrival s n h arrival - origin))
      (modPtp n (fun p => { p with lastSync := some s.clock }) s)) := by
  rw [ptpSync, ptpHears_heard hon hother hdomain, if_neg (by simp [hparent])]
  rfl

theorem ptpSync_twoStep (origin arrival : Int) : ptpSync n h true origin arrival s =
    modPtp n (fun p => { p with sync := some (h.seq, syncArrival s n h arrival) })
      (modPtp n (fun p => { p with lastSync := some s.clock }) s) := by
  rw [ptpSync, ptpHears_heard hon hother hdomain, if_neg (by simp [hparent])]
  rfl

theorem ptpFollowUp_waiting {q : Nat} {t2 : Int} (hsync : (getPtp s n).sync = some (q, t2)) (origin : Int) :
    ptpFollowUp n h origin s =
      if q = h.seq then ptpOffset n (modPtp n (ptpSynced (t2 - origin - h.correction)) s) else s := by
  rw [ptpFollowUp, ptpHears_heard hon hother hdomain, if_neg (by simp [hparent])]
  simp only [hsync]
  rfl

theorem ptpDelayResp_own {t3 d : Int} (hdreq : (getPtp s n).dreq = some (h.seq, t3)) (ht21 : (getPtp s n).t21 = some d)
    (receipt : Int) : ptpDelayResp n h (portIdentity s n) receipt s =
      ptpOffset n (modPtp n (ptpDelayed ((d + (receipt - h.correction - t3)) / 2)) s) := by
  rw [ptpDelayResp, ptpHears_heard hon hother hdomain]
  simp only [hparent, hdreq, ht21, ne_eq, not_true_eq_false, or_false, if_true, Bool.true_eq_false, if_false]
  rfl

end Parent

/-! ### Announce (R159): no decision touches the lists of foreign masters -/

/-- The foreign masters of the two ports. -/
def heard (s : State) : List Foreign × List Foreign := (s.nw.ptp0.foreign, s.nw.ptp1.foreign)

theorem foreign_of_heard {s t : State} (h : heard t = heard s) (m : Nat) : (getPtp t m).foreign = (getPtp s m).foreign := by
  obtain ⟨h0, h1⟩ := Prod.mk.inj h
  unfold getPtp
  split
  · exact h0
  · exact h1

theorem heard_of_nw {s t : State} (h : t.nw = s.nw) : heard t = heard s := by rw [heard, h, heard]

theorem heard_modPtp {f : PtpState → PtpState} (hf : ∀ p, (f p).foreign = p.foreign) (n : Nat) (s : State) :
    heard (modPtp n f s) = heard s := by
  unfold modPtp
  split
  · exact Prod.ext (hf _) rfl
  · exact Prod.ext rfl (hf _)

theorem heard_raiseAlarm (blk : Nat) (s : State) : heard (raiseAlarm blk s) = heard s := heard_of_nw (raiseAlarm_nw blk s)

theorem heard_losePtp (n : Nat) (s : State) : heard (losePtp n s) = heard s := by
  have hkept := noFollowUp_losePtp n s
  simp only [noFollowUp, NwState.mk.injEq, PtpState.mk.injEq] at hkept
  simp only [heard, hkept]

theorem heard_ptpEnter (n st : Nat) (s : State) : heard (ptpEnter n st s) = heard s := by
  have hclear (p : PtpState) : (if st = 8 ∨ st = 9 then { p with st } else
      { p with st, parent := none, offset := 0, sync := none, t21 := none, dreq := none, hasMpd := false, borrowed := false,
               listenFrom := s.clock } : PtpState).foreign = p.foreign := by
    split <;> rfl
  unfold ptpEnter
  dsimp only
  split
  · rfl
  · split
    · exact (heard_losePtp n _).trans (heard_modPtp hclear n s)
    · exact heard_modPtp hclear n s

theorem heard_ptpQualify (n : Nat) (s : State) : heard (ptpQualify n s) = heard s := by
  unfold ptpQualify
  split
  · exact heard_modPtp (fun _ => by rfl) n s
  · rfl

theorem heard_ptpMaster (n want : Nat) (s : State) : heard (ptpMaster n want s) = heard s := by
  have hseen : heard (modPtp n (fun p => { p with better := false }) s) = heard s := heard_modPtp (fun _ => by rfl) n s
  unfold ptpMaster
  dsimp only
  split
  · exact (heard_ptpEnter n 6 _).trans hseen
  · split
    · exact hseen
    · exact (heard_modPtp (fun _ => by rfl) n _).trans ((heard_ptpEnter n 5 _).trans hseen)

theorem heard_ptpFollow (n : Nat) (s : State) : heard (ptpFollow n s) = heard s := by
  unfold ptpFollow
  dsimp only
  split
  · rfl
  · split
    · rfl
    · refine (heard_modPtp (fun _ => by rfl) n _).trans ?_
      split
      · exact heard_losePtp n s
      · rfl

theorem heard_ptpYield (n : Nat) (s : State) : heard (ptpYield n s) = heard s := by
  refine (heard_ptpEnter n 7 _).trans ((heard_modPtp (fun _ => by rfl) n _).trans ?_)
  split
  · rfl
  · exact heard_raiseAlarm _ s

theorem heard_ptpDecide (n : Nat) (s : State) : heard (ptpDecide n s) = heard s := by
  have hqual := heard_ptpQualify n s
  unfold ptpDecide
  split
  · rfl
  · dsimp only
    split
    · exact hqual
    · split
      · exact (heard_ptpFollow n _).trans hqual
      · split
        · exact (heard_ptpYield n _).trans hqual
        · split
          · exact (heard_ptpMaster n _ _).trans hqual
          · exact (heard_ptpEnter n _ _).trans hqual

theorem ptpLeap_nw (n : Nat) (a : Announce) (s : State) : (ptpLeap n a s).nw = s.nw := by
  unfold ptpLeap
  split <;> rfl

theorem leapSource_nw (s : State) : (leapSource s).nw = s.nw := by
  unfold leapSource
  extract_lets tk s1
  have hs1 : s1.nw = s.nw := by
    simp only [s1]
    split
    · split <;> rfl
    · rfl
  clear_value s1
  split
  · split
    · split
      · exact (ptpLeap_nw _ _ s1).trans hs1
      · exact hs1
    · exact hs1
  · exact hs1

/-- The list of foreign masters with an Announce as its newest entry (R159). -/
def foreignNoted (s : State) (n : Nat) (h : PtpHeader) (a : Announce) : List Foreign :=
  let live := (getPtp s n).foreign.filter (fun f => decide (s.clock ≤ f.at_ + 4 * logTime (ptpPortCfg s.live n).logAnn))
  let old := (live.find? (fun f => f.id == h.source)).map (fun f => f.count)
  ({ id := h.source, ann := a, count := old.getD 0 + 1, at_ := s.clock } :: live.filter (fun f => f.id != h.source)).take 5

/-- An Announce that a port hears leaves it that list, whatever the decision then says. -/
theorem foreign_ptpAnnounce {s : State} {n : Nat} {h : PtpHeader} (hon : ptpOn s n = true)
    (hother : h.source.clock ≠ clockId s.live) (hdomain : h.domain = s.live.ptp.domain) (a : Announce) :
    (getPtp (ptpAnnounce n h a s) n).foreign = foreignNoted s n h a := by
  rw [ptpAnnounce, ptpHears_heard hon hother hdomain]
  extract_lets p live old rec_ list mine s1 s2
  have hdecided : heard s2 = heard s1 := (heard_ptpDecide 1 _).trans (heard_ptpDecide 0 s1)
  have hleap : (if mine then ptpLeap n a s2 else s2).nw = s2.nw := by
    split
    · exact ptpLeap_nw n a s2
    · rfl
  have hnoted : (getPtp s1 n).foreign = list := congrArg PtpState.foreign (getPtp_modPtp n _ s)
  have hend : heard (leapSource (if mine then ptpLeap n a s2 else s2)) = heard s1 :=
    (heard_of_nw ((leapSource_nw _).trans hleap)).trans hdecided
  exact (foreign_of_heard hend n).trans hnoted

/-! ### Delay_Req of another port (R160, R166) -/

/-- The port after a Delay_Req that it answers in its second `sec`. -/
def dreqCounted (sec count : Nat) (p : PtpState) : PtpState := { p with dreqSec := sec, dreqCount := count + 1 }

section DelayReq
variable {s : State} {n : Nat} {h : PtpHeader} (hon : ptpOn s n = true) (hother : h.source.clock ≠ clockId s.live)
  (hdomain : h.domain = s.live.ptp.domain) (hsends : masterSends s n = true) (hsec : (getPtp s n).dreqSec = s.clock / uPerS)
include hon hother hdomain hsends hsec

theorem ptpDelayReqIn_answered (hcount : (getPtp s n).dreqCount < 32768) (arrival : Int) : ptpDelayReqIn n h arrival s =
    ptpSend n 320 (.delayResp (sentHdr s n h.seq h.correction (ptpPortCfg s.live n).logDreq) h.source
      (stamp arrival - (ptpPortCfg s.live n).asymRx)) (modPtp n (dreqCounted (s.clock / uPerS) (getPtp s n).dreqCount) s) := by
  rw [ptpDelayReqIn, ptpHears_heard hon hother hdomain]
  simp only [hsends, Bool.true_eq_false, if_false, if_pos hsec, if_neg (Nat.not_le.2 hcount)]
  rfl

theorem ptpDelayReqIn_over (hcount : 32768 ≤ (getPtp s n).dreqCount) (arrival : Int) : ptpDelayReqIn n h arrival s =
    modPtp n (fun p => { p with dreqDrops := satInc 16 p.dreqDrops }) s := by
  rw [ptpDelayReqIn, ptpHears_heard hon hother hdomain]
  simp only [hsends, Bool.true_eq_false, if_false, if_pos hsec, if_pos hcount]

end DelayReq

/-- A PTP message goes out on its port. -/
theorem ptpSend_out (n udp : Nat) (m : NetMsg) (s : State) : (ptpSend n udp m s).out =
    .net n (serviceHdr (portCfg s.live n) 0xE0000181 (portCfg s.live n).dscp udp) m :: s.out := rfl

@[simp] theorem getPtp_ptpSend (n udp : Nat) (m : NetMsg) (s : State) (k : Nat) : getPtp (ptpSend n udp m s) k = getPtp s k := rfl

/-- Settles O20: each row by what its port hears. SLAVE at the Delay_Resp and the list of foreign masters are log entry 31. -/
theorem ptpReceived : Obligations.PtpReceived := by
  unfold Obligations.PtpReceived
  refine ⟨?own, ?oneStep, ?twoStep, ?followUp, ?otherSeq, ?delayResp, ?announce, ?delayReq, ?delayReqOver⟩
  case own =>
    intro s n h b x y hon hown
    exact ⟨_, congrArg Host.Outcome.next (ptpHears_own hon hown _), getPtp_modPtp n _ s, (nwOnly_modPtp n _ s).kept⟩
  case oneStep =>
    intro s n h x y hon hother hdomain hparent
    obtain ⟨ht21, hsync, hlast⟩ := ptpOffset_times (n := n) (s := modPtp n (ptpSynced (syncArrival s n h y - x))
      (modPtp n (fun p => { p with lastSync := some s.clock }) s)) (congrArg PtpState.t21 (getPtp_modPtp n _ _))
    refine ⟨_, congrArg Host.Outcome.next (ptpSync_oneStep hon hother hdomain hparent x y), ht21, hsync.trans ?_, hlast.trans ?_⟩
    · rw [getPtp_modPtp]
      rfl
    · rw [getPtp_modPtp, getPtp_modPtp]
      rfl
  case twoStep =>
    intro s n h x y hon hother hdomain hparent
    have hkept (f g : PtpState → PtpState) : { modPtp n g (modPtp n f s) with nw := s.nw } = s :=
      ((nwOnly_modPtp n f s).trans (nwOnly_modPtp n g _)).kept
    refine ⟨_, congrArg Host.Outcome.next (ptpSync_twoStep hon hother hdomain hparent x y), ?_, ?_, hkept _ _⟩ <;>
      rw [getPtp_modPtp, getPtp_modPtp]
    rfl
  case followUp =>
    intro s n h x y hon hother hdomain hparent hsync
    obtain ⟨ht21, hdone, -⟩ := ptpOffset_times (n := n) (s := modPtp n (ptpSynced (y - x - h.correction)) s)
      (congrArg PtpState.t21 (getPtp_modPtp n _ _))
    refine ⟨_, congrArg Host.Outcome.next ((ptpFollowUp_waiting hon hother hdomain hparent hsync x).trans (if_pos rfl)),
      ht21, hdone.trans ?_⟩
    rw [getPtp_modPtp]
    rfl
  case otherSeq =>
    intro s n h q x y hon hother hdomain hparent hsync hseq
    exact congrArg Host.Outcome.next ((ptpFollowUp_waiting hon hother hdomain hparent hsync x).trans (if_neg hseq))
  case delayResp =>
    intro s n h x d t3 hon hother hdomain hparent hdreq ht21 hstandby hfenced
    have hcal := getPtp_ptpOffset (n := n) (d := d) (s := modPtp n (ptpDelayed ((d + (x - h.correction - t3)) / 2)) s)
      (by rw [getPtp_modPtp]; exact ht21)
    rw [lentMpd_modPtp, lentMpd_none hstandby hfenced, getPtp_modPtp, if_neg (by simp [ptpDelayed])] at hcal
    refine ⟨_, congrArg Host.Outcome.next (ptpDelayResp_own hon hother hdomain hparent hdreq ht21 x), ?_, ?_, ?_, ?_, ?_⟩ <;>
      rw [hcal] <;> rfl
  case announce =>
    intro s n h a hon hother hdomain
    refine ⟨ptpAnnounce n h a s, rfl, ?_, ?_⟩ <;> rw [foreign_ptpAnnounce hon hother hdomain]
    · rfl
    · exact List.length_take_le 5 _
  case delayReq =>
    intro s n h x hon hother hdomain hsends hsec hcount
    refine ⟨_, congrArg Host.Outcome.next (ptpDelayReqIn_answered hon hother hdomain hsends hsec hcount x), ?_, ?_,
      ((nwOnly_modPtp n _ s).netSend _ _ _).kept⟩
    · rw [ptpSend_out, modPtp_live, modPtp_out]
    · rw [getPtp_ptpSend, getPtp_modPtp]
      rfl
  case delayReqOver =>
    intro s n h x hon hother hdomain hsends hsec hcount
    exact ⟨_, congrArg Host.Outcome.next (ptpDelayReqIn_over hon hother hdomain hsends hsec hcount x), getPtp_modPtp n _ s,
      (nwOnly_modPtp n _ s).kept⟩

end Sys2Proof.Proofs
end

section
/-! PTP messages sent, and the announce timeout (R159 to R161, R164, R165). -/
namespace Sys2Proof.Proofs
open Sys2Proof.Machine Sys2Proof.Laws

/-! ### Sync, Follow_Up and Announce -/

theorem masterSends_st {s : State} {n : Nat} (h : masterSends s n = true) : (getPtp s n).st = 6 := by
  simp only [masterSends, Bool.and_eq_true, beq_iff_eq] at h
  exact h.1.1.1.2

/-- Without an open fence, a valid time and an eligible mode a port does not transmit (R160, R161). -/
theorem masterSends_silent {s : State} (h : s.fenceOpen = false ∨ s.timeValid = false ∨ eligible s = false) (n : Nat) :
    masterSends s n = false := by
  rcases h with h | h | h <;> simp [masterSends, h]

theorem ptpQualify_settled {s : State} {n : Nat} (hst : (getPtp s n).st ≠ 5) : ptpQualify n s = s :=
  if_neg fun ⟨hpre, _⟩ => hst hpre

theorem followUpSend_none {s : State} {n : Nat} (hnone : (getPtp s n).followUp = none) : followUpSend n s = s := by
  simp only [followUpSend, hnone]

theorem followUpSend_unsent {s : State} {n q t0 : Nat} (hsends : masterSends s n = true)
    (hunsent : (getPtp s n).followUp = some (q, t0)) : followUpSend n s =
      ptpSend n 320 (.followUp (sentHdr s n q 0 (ptpPortCfg s.live n).logSync) t0)
        (modPtp n (fun p => { p with followUp := none }) s) := by
  simp only [followUpSend, hunsent, hsends, if_true]

/-- The port with Sync `j` sent, and its Follow_Up still unsent (R165). -/
def syncSent (j t0 : Nat) (p : PtpState) : PtpState := { p with syncNo := some j, followUp := some (j % 65536, t0) }

section Quiet
variable {s : State} {n : Nat} (hst : (getPtp s n).st ≠ 5) (hnone : (getPtp s n).followUp = none)
include hst hnone

/-- Where no Follow_Up is unsent, only the Sync of the place goes out. -/
theorem ptpSyncDue_quiet : ptpSyncDue n s =
    if masterSends s n = true ∧ placeNow s (syncPlace s n).2 = true ∧ (getPtp s n).syncNo ≠ some (syncPlace s n).1 then
      ptpSend n 319 (.sync (sentHdr s n ((syncPlace s n).1 % 65536) 0 (ptpPortCfg s.live n).logSync) (syncPlace s n).2)
        (modPtp n (syncSent (syncPlace s n).1 (syncPlace s n).2) s)
    else s := by
  simp only [ptpSyncDue, ptpQualify_settled hst, followUpSend_none hnone]
  rfl

theorem ptpAnnounceDue_quiet : ptpAnnounceDue n s =
    if masterSends s n = true ∧ placeNow s (annPlace s n).2 = true ∧ (getPtp s n).annNo ≠ some (annPlace s n).1 then
      ptpSend n 320 (.announce (sentHdr s n ((annPlace s n).1 % 65536) 0 (ptpPortCfg s.live n).logAnn) (announceNow s)
        s.live.ptp.tlv) (modPtp n (fun q => { q with annNo := some (annPlace s n).1 }) s)
    else s := by
  simp only [ptpAnnounceDue, ptpQualify_settled hst, followUpSend_none hnone]

end Quiet

theorem syncPlace_of_netOnly {s t : State} (h : NetOnly s t) (n : Nat) : syncPlace t n = syncPlace s n := by
  obtain ⟨w, o, rfl⟩ := h
  rfl

/-- A Follow_Up goes out alone where the Sync of the place has been sent (log entry 106). -/
theorem ptpSyncDue_followUp {s : State} {n q t0 : Nat} (hsends : masterSends s n = true)
    (hunsent : (getPtp s n).followUp = some (q, t0)) (hno : (getPtp s n).syncNo = some (syncPlace s n).1) :
    ptpSyncDue n s = followUpSend n s := by
  have hplace : syncPlace (followUpSend n s) n = syncPlace s n := by
    rw [followUpSend_unsent hsends hunsent]
    exact syncPlace_of_netOnly ((nwOnly_modPtp n _ s).netSend _ _ _) n
  have hsent : (getPtp (followUpSend n s) n).syncNo = some (syncPlace s n).1 := by
    rw [followUpSend_unsent hsends hunsent, getPtp_ptpSend, getPtp_modPtp]
    exact hno
  have hqual : ptpQualify n s = s := ptpQualify_settled (by rw [masterSends_st hsends]; decide)
  simp only [ptpSyncDue, hqual, hplace, hsent, ne_eq, not_true_eq_false, and_false, if_false]

/-! ### Delay_Req (R164) -/

/-- The port with a Delay_Req that waits for its response. -/
def dreqSent (t3 : Int) (now : Nat) (p : PtpState) : PtpState :=
  { p with dreq := some (p.dreqSeq, t3), dreqSeq := (p.dreqSeq + 1) % 65536, dreqAt := some now }

theorem ptpDelayReq_first {s : State} {n : Nat} (hon : ptpOn s n = true) (hst : (getPtp s n).st = 8 ∨ (getPtp s n).st = 9)
    (hopen : s.fenceOpen = true) (hsafe : s.mode ≠ .safe) (hnone : (getPtp s n).dreqAt = none) (departure : Int) :
    ptpDelayReq n departure s = ptpSend n 319 (.delayReq (sentHdr s n (getPtp s n).dreqSeq 0 127))
      (modPtp n (dreqSent (stamp departure + (ptpPortCfg s.live n).asymTx) s.clock) s) :=
  if_pos ⟨hon, hst, hopen, hsafe, by simp only [hnone]⟩

/-! ### The announce timeout (R159) -/

/-- What leaves the list of foreign masters at the timeout. -/
def foreignGone (s : State) (n : Nat) (p : PtpState) : PtpState :=
  { p with foreign := p.foreign.filter fun f => some f.id != p.parent &&
      decide (s.clock ≤ f.at_ + (ptpPortCfg s.live n).tmo * logTime (ptpPortCfg s.live n).logAnn) }

theorem bestForeign_none {s : State} {n : Nat} (hnone : (getPtp s n).foreign = []) : bestForeign s n = none := by
  simp [bestForeign, hnone]

theorem bestOfAll_none (s : State) {n : Nat} (hn : n < 2) (hmine : bestForeign s n = none)
    (hother : bestForeign s (1 - n) = none) : bestOfAll s = none := by
  obtain rfl | rfl : n = 0 ∨ n = 1 := by omega
  · simp [bestOfAll, hmine, hother]
  · simp [bestOfAll, hmine, hother]

/-- A port that hears no master may be master itself: alone, or where the other port hears none either. -/
theorem bmcaState_alone {s : State} {n : Nat} (hn : n < 2) (hmine : bestForeign s n = none)
    (hrole : (ptpPortCfg s.live n).role = 1 ∨ (ptpPortCfg s.live n).role = 3 ∧ bestForeign s (1 - n) = none) :
    bmcaState s n = 6 := by
  rcases hrole with hgm | ⟨hboth, hother⟩
  · simp [bmcaState, hgm, hmine]
  · simp [bmcaState, hboth, hmine, bestOfAll_none s hn hmine hother]

/-- A port that becomes MASTER follows nobody (log entry 31). -/
def ptpMastered (now : Nat) (p : PtpState) : PtpState :=
  { p with st := 6, better := false, parent := none, offset := 0, sync := none, t21 := none, dreq := none, hasMpd := false,
           borrowed := false, listenFrom := now }

/-- From LISTENING a port becomes MASTER at once. -/
theorem ptpMaster_listening {s : State} {n : Nat} (hst : (getPtp s n).st = 4) :
    ptpMaster n 6 s = modPtp n (ptpMastered s.clock) s := by
  simp only [ptpMaster, ↓reduceIte, ptpEnter, getPtp_modPtp, hst, Nat.reduceEqDiff, or_self, modPtp_clock, modPtp_modPtp]
  rfl

theorem ptpAnnTimeout_listening {s : State} {n : Nat} (hon : ptpOn s n = true) (hst : (getPtp s n).st = 4)
    (hdue : (getPtp s n).listenFrom + (ptpPortCfg s.live n).tmo * logTime (ptpPortCfg s.live n).logAnn ≤ s.clock)
    (hbest : bmcaState (modPtp n (foreignGone s n) s) n = 6) :
    ptpAnnTimeout n s = ptpMaster n 6 (modPtp n (foreignGone s n) s) :=
  (if_pos ⟨hon, .inl hst, (if_pos hst).symm ▸ hdue⟩).trans (if_pos hbest)

/-- Settles O21: each row by its place or its timeout. The Follow_Up with the next PTP row is log entry 106, MASTER at the
timeout log entry 31. -/
theorem ptpSent : Obligations.PtpSent := by
  unfold Obligations.PtpSent
  refine ⟨?sync, ?followUp, ?silent, ?announce, ?offPlace, ?delayReq, ?timeout⟩
  case sync =>
    intro s n hsends hnone hplace hnew
    have hst : (getPtp s n).st ≠ 5 := by rw [masterSends_st hsends]; decide
    refine ⟨_, congrArg Host.Outcome.next ((ptpSyncDue_quiet hst hnone).trans (if_pos ⟨hsends, hplace, hnew⟩)), ?_, ?_,
      ((nwOnly_modPtp n _ s).netSend _ _ _).kept⟩
    · rw [ptpSend_out, modPtp_live, modPtp_out]
    · exact getPtp_modPtp n _ s
  case followUp =>
    intro s n q t0 hsends hunsent hno
    refine ⟨_, congrArg Host.Outcome.next ((ptpSyncDue_followUp hsends hunsent hno).trans (followUpSend_unsent hsends hunsent)),
      ?_, getPtp_modPtp n _ s, ((nwOnly_modPtp n _ s).netSend _ _ _).kept⟩
    rw [ptpSend_out, modPtp_live, modPtp_out]
  case silent =>
    intro s n hst hnone hsilent
    have hno := masterSends_silent hsilent n
    exact ⟨congrArg Host.Outcome.next ((ptpSyncDue_quiet hst hnone).trans (if_neg (by simp [hno]))),
      congrArg Host.Outcome.next ((ptpAnnounceDue_quiet hst hnone).trans (if_neg (by simp [hno])))⟩
  case announce =>
    intro s n hsends hnone hplace hnew
    have hst : (getPtp s n).st ≠ 5 := by rw [masterSends_st hsends]; decide
    refine ⟨_, congrArg Host.Outcome.next ((ptpAnnounceDue_quiet hst hnone).trans (if_pos ⟨hsends, hplace, hnew⟩)), ?_,
      getPtp_modPtp n _ s, ((nwOnly_modPtp n _ s).netSend _ _ _).kept⟩
    rw [ptpSend_out, modPtp_live, modPtp_out]
  case offPlace =>
    intro s n hplace hst hnone
    exact congrArg Host.Outcome.next ((ptpSyncDue_quiet hst hnone).trans (if_neg (by simp [hplace])))
  case delayReq =>
    intro s n x hon hst hopen hsafe hnone
    refine ⟨_, congrArg Host.Outcome.next (ptpDelayReq_first hon hst hopen hsafe hnone x), ?_, ?_, ?_,
      ((nwOnly_modPtp n _ s).netSend _ _ _).kept⟩
    · rw [ptpSend_out, modPtp_live, modPtp_out]
    · rw [getPtp_ptpSend, getPtp_modPtp]
      rfl
    · rw [getPtp_ptpSend, getPtp_modPtp]
      rfl
  case timeout =>
    intro s n hon hst hnone hrole hdue
    have hn : n < 2 := portServes_lt ((Bool.and_eq_true _ _ ▸ hon).1)
    have hmine : bestForeign (modPtp n (foreignGone s n) s) n = none :=
      bestForeign_none (by rw [getPtp_modPtp, foreignGone, hnone]; rfl)
    have hbest : bmcaState (modPtp n (foreignGone s n) s) n = 6 := by
      refine bmcaState_alone hn hmine ?_
      rw [modPtp_live]
      exact hrole.imp_right fun ⟨hboth, hother⟩ =>
        ⟨hboth, bestForeign_none (by rw [getPtp_modPtp_other hn, hother])⟩
    have hlisten : (getPtp (modPtp n (foreignGone s n) s) n).st = 4 := by
      rw [getPtp_modPtp]
      exact hst
    refine ⟨_, congrArg Host.Outcome.next ((ptpAnnTimeout_listening hon hst hdue hbest).trans (ptpMaster_listening hlisten)),
      ?_, ?_, ?_⟩
    · rw [getPtp_modPtp]
      rfl
    · rw [getPtp_modPtp_other hn, getPtp_modPtp_other hn]
    · rw [modPtp_mode, modPtp_mode]

end Sys2Proof.Proofs
end

section
/-! What touches the Calipers alone, and the triggers of their sequences (R195, R204 to R210). -/
namespace Sys2Proof.Proofs
open Sys2Proof.Machine Sys2Proof.Laws

/-! ### What touches the Calipers alone -/

/-- Nothing but the Calipers differs. -/
def AdOnly (s t : State) : Prop := ∃ a, t = { s with ad := a }

theorem AdOnly.refl (s : State) : AdOnly s s := ⟨s.ad, rfl⟩

theorem AdOnly.trans {s t u : State} : AdOnly s t → AdOnly t u → AdOnly s u := by
  rintro ⟨a, rfl⟩ ⟨b, rfl⟩
  exact ⟨b, rfl⟩

theorem AdOnly.kept {s t : State} : AdOnly s t → { t with ad := s.ad } = s := by
  rintro ⟨a, rfl⟩
  rfl

/-- A view of the state that does not read the Calipers. -/
theorem AdOnly.view {α : Type} {s t : State} (h : AdOnly s t) (g : State → α) (hg : ∀ a, g { s with ad := a } = g s) :
    g t = g s := by
  obtain ⟨a, rfl⟩ := h
  exact hg a

theorem AdOnly.live {s t : State} (h : AdOnly s t) : t.live = s.live := h.view State.live fun _ => rfl

theorem AdOnly.foldl {α : Type} {f : State → α → State} {s : State} (hf : ∀ t a, AdOnly t (f t a)) (l : List α) :
    AdOnly s (l.foldl f s) :=
  List.foldlRecOn (motive := AdOnly s) l f (.refl s) fun t ht a _ => ht.trans (hf t a)

theorem AdOnly.ite {s t u : State} (c : Prop) [Decidable c] (ht : AdOnly s t) (hu : AdOnly s u) :
    AdOnly s (if c then t else u) := by
  split
  · exact ht
  · exact hu

theorem adOnly_modSeq (inj : Bool) (f : SeqRun → SeqRun) (s : State) : AdOnly s (modSeq inj f s) := .ite _ ⟨_, rfl⟩ ⟨_, rfl⟩

theorem adOnly_clearRef (due : Option Nat) (p : Nat) (s : State) : AdOnly s (clearRef due p s) := ⟨_, rfl⟩

theorem adOnly_setRef (p : Nat) (s : State) : AdOnly s (setRef p s) := ⟨_, rfl⟩

@[simp] theorem getSeq_modSeq (inj : Bool) (f : SeqRun → SeqRun) (s : State) :
    getSeq inj (modSeq inj f s) = f (getSeq inj s) := by
  cases inj <;> rfl

theorem modSeq_modSeq (inj : Bool) (f g : SeqRun → SeqRun) (s : State) :
    modSeq inj f (modSeq inj g s) = modSeq inj (fun v => f (g v)) s := by
  cases inj <;> rfl

theorem ad_of_plant {s t : State} (h : t.plant = s.plant) : t.ad = s.ad := by
  have had := congrArg State.ad h
  exact had

@[simp] theorem raiseAlarm_ad (blk : Nat) (s : State) : (raiseAlarm blk s).ad = s.ad := ad_of_plant (plant_raiseAlarm blk s)

/-! ### Triggers (R204 to R210) -/

/-- No trigger whose recognition edge has come waits. -/
theorem adSettle_none {s : State} (hlate : ∀ x ∈ s.ad.late, s.clock < x.2) : adSettle s = s := by
  have hnow : s.ad.late.filter (fun e => decide (e.2 ≤ s.clock)) = [] :=
    List.filter_eq_nil_iff.2 fun x hx => by simpa using hlate x hx
  have hkept : s.ad.late.filter (fun e => decide (s.clock < e.2)) = s.ad.late :=
    List.filter_eq_self.2 fun x hx => by simpa using hlate x hx
  simp only [adSettle, hnow, hkept, List.foldl_nil]

/-- A sequence that a trigger at the edge `t0` starts; its first slot is due at the edge `due`. -/
def seqTriggered (t0 due : Nat) (q : SeqRun) : SeqRun := { q with lastTrig := some t0, phase := 1, slot := 0, due }

/-- A trigger at the edge `t0` that is lost: it is counted, as a drop of the injected sequence or an overrun of the regular
one. -/
def triggerLost (inj : Bool) (t0 : Nat) (s : State) : State :=
  let noted := modSeq inj (fun v => { v with lastTrig := some t0 }) s
  let sec := some (secOf s.spindle)
  if inj then { noted with ad := { noted.ad with injDrops := satInc 16 noted.ad.injDrops, dropSec := sec } }
  else { noted with ad := { noted.ad with overruns := satInc 16 noted.ad.overruns, overSec := sec } }

/-- What a trigger can do: nothing, start an idle sequence, or be lost, with an ALARM or without. -/
theorem adTriggerAt_cases (inj : Bool) (t0 : Nat) (s : State) :
    (adTriggerAt inj t0 s = s ∧
      ((seqCfg s.live inj).len = 0 ∨ s.dataPlane ≠ .running ∨ (getSeq inj s).lastTrig = some t0)) ∨
    (adTriggerAt inj t0 s = modSeq inj (seqTriggered t0 (t0 + (seqCfg s.live inj).delay * mclkLen (f441 s))) s ∧
      (getSeq inj s).phase = 0) ∨
    adTriggerAt inj t0 s = triggerLost inj t0 s ∨ adTriggerAt inj t0 s = raiseAlarm blkAD (triggerLost inj t0 s) := by
  unfold adTriggerAt
  extract_lets
  split
  · next hno => exact .inl ⟨rfl, hno⟩
  · split
    · next hidle => exact .inr (.inl ⟨modSeq_modSeq inj _ _ s, hidle.1⟩)
    · refine .inr (.inr ?_)
      cases inj
      · rw [if_neg Bool.false_ne_true]
        split
        · exact .inl rfl
        · exact .inr rfl
      · rw [if_pos rfl]
        split
        · exact .inl rfl
        · exact .inr rfl

section Triggers
variable {inj : Bool} {s : State} (hlen : (seqCfg s.live inj).len ≠ 0) (hruns : s.dataPlane = .running)
  (hnew : (getSeq inj s).lastTrig ≠ some s.clock)
include hlen hruns hnew

/-- A trigger starts an idle sequence (R205). -/
theorem adTrigger_idle (hidle : (getSeq inj s).phase = 0) (hended : ∀ u, (getSeq inj s).endAt = some u → u < s.clock) :
    adTrigger inj s =
      modSeq inj (seqTriggered s.clock (s.clock + (seqCfg s.live inj).delay * mclkLen (f441 s))) s := by
  have hover : (match (getSeq inj s).endAt with | some t => decide (s.clock ≤ t) | none => false) = false := by
    split
    · next u hu => simpa using hended u hu
    · rfl
  have hstart : ¬((seqCfg s.live inj).len = 0 ∨ s.dataPlane ≠ .running ∨ (getSeq inj s).lastTrig = some s.clock) := by
    simp [hlen, hruns, hnew]
  exact (if_neg hstart).trans ((if_pos ⟨hidle, hover⟩).trans (modSeq_modSeq inj _ _ s))

/-- A trigger that finds its sequence running is lost (R209, R210). -/
theorem adTrigger_busy (hbusy : (getSeq inj s).phase ≠ 0) :
    (adTrigger inj s).ad = (triggerLost inj s.clock s).ad ∧ (adTrigger inj s).mode = s.mode := by
  have hmode : (triggerLost inj s.clock s).mode = s.mode := by cases inj <;> rfl
  rcases adTriggerAt_cases inj s.clock s with ⟨-, hno⟩ | ⟨-, hidle⟩ | hlost | halarm
  · simp [hlen, hruns, hnew] at hno
  · exact absurd hidle hbusy
  · rw [adTrigger, hlost]
    exact ⟨rfl, hmode⟩
  · rw [adTrigger, halarm]
    exact ⟨raiseAlarm_ad _ _, (raiseAlarm_mode _ _).trans hmode⟩

end Triggers

/-- An event triggers the injected sequence before the regular one. -/
theorem adSource_regular {hit : SeqCfg → Bool} {s : State} (hlate : ∀ x ∈ s.ad.late, s.clock < x.2)
    (hreg : hit s.live.seqReg = true) :
    adSource hit s = adTrigger false (if hit s.live.seqInj then adTrigger true s else s) := by
  simp [adSource, adSettle_none hlate, seqCfg, hreg]

theorem adSource_injected {hit : SeqCfg → Bool} {s : State} (hlate : ∀ x ∈ s.ad.late, s.clock < x.2)
    (hinj : hit s.live.seqInj = true) (hreg : hit s.live.seqReg = false) : adSource hit s = adTrigger true s := by
  simp [adSource, adSettle_none hlate, seqCfg, hreg, hinj]

/-- Nothing but the Calipers, without their alarms, and the interrupts differs. -/
def TriggersOnly (s t : State) : Prop :=
  ∃ a m i, t = { s with ad := a, mb := m, ig := i } ∧ a.alarms = s.ad.alarms

theorem TriggersOnly.refl (s : State) : TriggersOnly s s := ⟨_, _, _, rfl, rfl⟩

theorem TriggersOnly.trans {s t u : State} : TriggersOnly s t → TriggersOnly t u → TriggersOnly s u := by
  rintro ⟨a, m, i, rfl, ha⟩ ⟨b, n, j, rfl, hb⟩
  exact ⟨b, n, j, rfl, hb.trans ha⟩

theorem TriggersOnly.alarms {s t : State} : TriggersOnly s t → t.ad.alarms = s.ad.alarms := by
  rintro ⟨a, m, i, rfl, ha⟩
  exact ha

theorem triggersOnly_modSeq (inj : Bool) (f : SeqRun → SeqRun) (s : State) : TriggersOnly s (modSeq inj f s) := by
  cases inj <;> exact ⟨_, _, _, rfl, rfl⟩

theorem triggersOnly_raiseAlarm (blk : Nat) (s : State) : TriggersOnly s (raiseAlarm blk s) := by
  unfold raiseAlarm raiseIrq
  split <;> exact ⟨_, _, _, rfl, rfl⟩

theorem triggersOnly_triggerLost (inj : Bool) (t0 : Nat) (s : State) : TriggersOnly s (triggerLost inj t0 s) := by
  cases inj <;> exact ⟨_, _, _, rfl, rfl⟩

theorem triggersOnly_adTriggerAt (inj : Bool) (t0 : Nat) (s : State) : TriggersOnly s (adTriggerAt inj t0 s) := by
  rcases adTriggerAt_cases inj t0 s with ⟨hno, -⟩ | ⟨hstart, -⟩ | hlost | halarm
  · rw [hno]
    exact .refl s
  · rw [hstart]
    exact triggersOnly_modSeq inj _ s
  · rw [hlost]
    exact triggersOnly_triggerLost inj t0 s
  · rw [halarm]
    exact (triggersOnly_triggerLost inj t0 s).trans (triggersOnly_raiseAlarm blkAD _)

theorem triggersOnly_adSource (hit : SeqCfg → Bool) (s : State) : TriggersOnly s (adSource hit s) := by
  have hsettle : TriggersOnly s (adSettle s) :=
    List.foldlRecOn (motive := TriggersOnly s) _ _ ⟨_, _, _, rfl, rfl⟩ fun t ht e _ =>
      ht.trans (triggersOnly_adTriggerAt e.1 e.2 t)
  have hone (t : State) (inj : Bool) : TriggersOnly t (if hit (seqCfg s.live inj) then adTrigger inj t else t) := by
    split
    · exact triggersOnly_adTriggerAt inj _ t
    · exact .refl t
  exact hsettle.trans ((hone _ true).trans (hone _ false))

/-- A trigger of the injected sequence leaves the regular one alone. -/
theorem adTrigger_true_reg (s : State) : (adTrigger true s).ad.reg = s.ad.reg := by
  rcases adTriggerAt_cases true s.clock s with ⟨hno, -⟩ | ⟨hstart, -⟩ | hlost | halarm
  · rw [adTrigger, hno]
  · rw [adTrigger, hstart]
    rfl
  · rw [adTrigger, hlost]
    rfl
  · rw [adTrigger, halarm, raiseAlarm_ad]
    rfl

/-- An event that selects the regular sequence starts it where it is idle, whatever it does to the injected one (R205). -/
theorem adSource_starts {hit : SeqCfg → Bool} {s : State} (hlate : ∀ x ∈ s.ad.late, s.clock < x.2)
    (hreg : hit s.live.seqReg = true) (hlen : s.live.seqReg.len ≠ 0) (hruns : s.dataPlane = .running)
    (hidle : s.ad.reg.phase = 0) (hended : ∀ u, s.ad.reg.endAt = some u → u < s.clock)
    (hnew : s.ad.reg.lastTrig ≠ some s.clock) : (adSource hit s).ad.reg.phase = 1 := by
  have hstart (t : State) (ht : TriggersOnly s t) (hsame : t.ad.reg = s.ad.reg) : (adTrigger false t).ad.reg.phase = 1 := by
    obtain ⟨a, m, i, rfl, -⟩ := ht
    dsimp only at hsame
    have hstarts := adTrigger_idle (inj := false) (s := { s with ad := a, mb := m, ig := i }) hlen hruns
      (by simpa [getSeq, hsame] using hnew) (by simpa [getSeq, hsame] using hidle) (by simpa [getSeq, hsame] using hended)
    rw [hstarts]
    rfl
  rw [adSource_regular hlate hreg]
  split
  · exact hstart _ (triggersOnly_adTriggerAt true _ s) (adTrigger_true_reg s)
  · exact hstart s (.refl s) rfl

/-- The state whose alarm `n` has fired, once (R208). -/
def alarmSpent (n : Nat) (s : State) : State := { s with ad := { s.ad with alarms := modNth (fun _ => none) s.ad.alarms n } }

/-! ### The strobes that an alarm fires beside the triggers (R233) -/

/-- Nothing but the DACs differs. -/
def DaOnly (s t : State) : Prop := ∃ d, t = { s with da := d }

theorem DaOnly.trans {s t u : State} : DaOnly s t → DaOnly t u → DaOnly s u := by
  rintro ⟨a, rfl⟩ ⟨b, rfl⟩
  exact ⟨b, rfl⟩

theorem daOnly_countStrobe (g : Nat) (s : State) : DaOnly s (countStrobe g s) := by
  unfold countStrobe
  split
  · exact ⟨_, rfl⟩
  · split <;> exact ⟨_, rfl⟩

theorem daOnly_holdStrobe (g : Nat) (s : State) : DaOnly s (holdStrobe g s) := by
  unfold holdStrobe
  split
  · exact ⟨_, rfl⟩
  · exact (daOnly_countStrobe g s).trans ⟨_, rfl⟩

theorem daOnly_strobeSource (hit : Nat → Bool) (s : State) : DaOnly s (strobeSource hit s) := by
  unfold strobeSource
  extract_lets one
  split
  · refine List.foldlRecOn (motive := DaOnly s) _ one ⟨s.da, rfl⟩ fun t ht g _ => ht.trans ?_
    unfold one
    split
    · exact daOnly_holdStrobe g t
    · exact ⟨t.da, rfl⟩
  · exact ⟨s.da, rfl⟩

/-! ### The references (R194, R195) -/

/-- What one element of a run establishes, and no element ends, holds after the run. -/
theorem foldl_reaches {α β : Type} {f : β → α → β} {I P : β → Prop} {a : α} (hkeep : ∀ t b, I t → I (f t b))
    (hstays : ∀ t b, I t → P t → P (f t b)) (hset : ∀ t, I t → P (f t a)) :
    ∀ {l : List α} {s : β}, a ∈ l → I s → P (l.foldl f s)
  | x :: l, s, hmem, hs => by
    rw [List.foldl_cons]
    rcases List.mem_cons.1 hmem with rfl | htail
    · refine (List.foldlRecOn (motive := fun t => I t ∧ P t) l f ⟨hkeep s _ hs, hset s hs⟩ fun t ht b _ => ?_).2
      exact ⟨hkeep t b ht.1, hstays t b ht.1 ht.2⟩
    · exact foldl_reaches hkeep hstays hset htail (hkeep s x hs)

@[simp] theorem length_modNth {α : Type} (f : α → α) : ∀ (l : List α) (i : Nat), (modNth f l i).length = l.length
  | [], _ => rfl
  | _ :: _, 0 => rfl
  | _ :: l, i + 1 => congrArg (· + 1) (length_modNth f l i)

/-- The pair `p` has a reference in use. -/
def pairSettled (s : State) (p : Nat) : Bool := (nth {} s.ad.pairs p).settled

theorem pairSettled_clearRef_self (due : Option Nat) {p : Nat} {s : State} (hp : p < s.ad.pairs.length) :
    pairSettled (clearRef due p s) p = false := congrArg PairState.settled (nth_modNth_self ({} : PairState) _ hp)

theorem pairSettled_clearRef_other (due : Option Nat) {p q : Nat} (h : q ≠ p) (s : State) :
    pairSettled (clearRef due p s) q = pairSettled s q := congrArg PairState.settled (nth_modNth_other ({} : PairState) _ h)

/-- The intervals in which REF_SETTLED was clear, once the last of them has ended. -/
def clearsEnded (now : Nat) : List (Nat × Option Nat) → List (Nat × Option Nat)
  | (a, none) :: r => (a, some now) :: r
  | l => l

theorem clearsEnded_closed (now : Nat) : ∀ (l : List (Nat × Option Nat)), ∀ c ∈ (clearsEnded now l).take 1, c.2 ≠ none
  | [] => by simp [clearsEnded]
  | (_, none) :: _ => by simp [clearsEnded]
  | (_, some _) :: _ => by simp [clearsEnded]

theorem setRef_pair {p : Nat} {s : State} (hp : p < s.ad.pairs.length) : nth {} (setRef p s).ad.pairs p =
    { settled := true, clears := clearsEnded s.clock (nth {} s.ad.pairs p).clears, due := none } :=
  nth_modNth_self ({} : PairState) _ hp

theorem setRef_other {p q : Nat} (h : q ≠ p) (s : State) : nth {} (setRef p s).ad.pairs q = nth {} s.ad.pairs q :=
  nth_modNth_other ({} : PairState) _ h

theorem Sized.pairs {s : State} (h : Sized s) : s.ad.pairs.length = 4 := by
  obtain ⟨-, -, -, -, -, -, hpairs, -⟩ := h
  exact hpairs

theorem Sized.alarms {s : State} (h : Sized s) : s.ad.alarms.length = 4 := by
  obtain ⟨-, -, -, -, -, halarms, -⟩ := h
  exact halarms

/-- The pairs on EXT (R194). -/
def extPairs (s : State) : List Nat := (List.range 4).filter (fun p => refOf s.live p == 1)

theorem mem_extPairs {s : State} {p : Nat} (hp : p < 4) (hext : refOf s.live p = 1) : p ∈ extPairs s := by
  simp [extPairs, hp, hext]

/-- The state with VREF_IN outside its range, or inside it. -/
def vrefSet (out : Bool) (s : State) : State := { s with ad := { s.ad with vrefOut := out } }

def pairLoses (t : State) (p : Nat) : State := clearRef (nth {} t.ad.pairs p).due p t

def pairRegains (t : State) (p : Nat) : State :=
  if (nth {} t.pw.domains p).on && (nth {} t.ad.pairs p).due.isNone && !(nth {} t.ad.pairs p).settled then setRef p t else t

theorem exec_vrefInRangeChange_lost {s : State} (hext : extPairs s ≠ []) : exec (.vrefInRangeChange false) s =
    .next (raiseAlarm blkAD ((extPairs s).foldl pairLoses (vrefSet true s))) := by
  have hne : (extPairs s).isEmpty = false := by simpa using hext
  exact congrArg Host.Outcome.next (if_neg (Bool.eq_false_iff.1 hne))

theorem exec_vrefInRangeChange_back (s : State) : exec (.vrefInRangeChange true) s =
    .next ((extPairs s).foldl pairRegains (vrefSet false s)) := rfl

theorem pairLoses_clears {p : Nat} {t : State} (hp : p < t.ad.pairs.length) : pairSettled (pairLoses t p) p = false :=
  pairSettled_clearRef_self _ hp

/-- A pair that has lost its reference stays without it when another loses its own. -/
theorem pairLoses_stays {p : Nat} {t : State} (hp : p < t.ad.pairs.length) (hlost : pairSettled t p = false) (q : Nat) :
    pairSettled (pairLoses t q) p = false := by
  by_cases hq : p = q
  · exact hq ▸ pairLoses_clears hp
  · exact (pairSettled_clearRef_other _ hq t).trans hlost

theorem pairLoses_only (t : State) (p : Nat) : AdOnly t (pairLoses t p) := adOnly_clearRef _ p t

theorem pairRegains_only (t : State) (p : Nat) : AdOnly t (pairRegains t p) := .ite _ (adOnly_setRef p t) (.refl t)

theorem pairRegains_vrefOut (t : State) (p : Nat) : (pairRegains t p).ad.vrefOut = t.ad.vrefOut := by
  unfold pairRegains
  split <;> rfl

/-- The pair has no settling time to run, and its domain is on. -/
def PairReady (p : Nat) (t : State) : Prop :=
  p < t.ad.pairs.length ∧ (nth {} t.ad.pairs p).due = none ∧ (nth {} t.pw.domains p).on = true

theorem pairReady_setRef {p : Nat} {t : State} (h : PairReady p t) (q : Nat) : PairReady p (setRef q t) := by
  obtain ⟨hp, hdue, hon⟩ := h
  refine ⟨(length_modNth _ _ _).symm ▸ hp, ?_, hon⟩
  by_cases hq : p = q
  · subst hq
    rw [setRef_pair hp]
  · rw [setRef_other hq, hdue]

theorem pairSettled_setRef {p : Nat} {t : State} (hp : p < t.ad.pairs.length) (q : Nat) (h : p = q ∨ pairSettled t p = true) :
    pairSettled (setRef q t) p = true := by
  unfold pairSettled
  by_cases hq : p = q
  · subst hq
    rw [setRef_pair hp]
  · rw [setRef_other hq]
    exact h.resolve_left hq

/-- VREF_IN back in range settles every pair that is ready (R195). -/
theorem pairRegains_settles {p : Nat} {t : State} (h : PairReady p t) : pairSettled (pairRegains t p) p = true := by
  obtain ⟨hp, hdue, hon⟩ := h
  unfold pairRegains
  split
  · exact pairSettled_setRef hp p (.inl rfl)
  · next hset => simpa [hdue, hon, pairSettled] using hset

theorem pairReady_regains {p : Nat} {t : State} (h : PairReady p t) (q : Nat) : PairReady p (pairRegains t q) := by
  unfold pairRegains
  split
  · exact pairReady_setRef h q
  · exact h

theorem pairRegains_stays {p : Nat} {t : State} (h : PairReady p t) (hset : pairSettled t p = true) (q : Nat) :
    pairSettled (pairRegains t q) p = true := by
  obtain ⟨hp, -, -⟩ := h
  unfold pairRegains
  split
  · exact pairSettled_setRef hp q (.inr hset)
  · exact hset

/-! ### The statement -/

theorem exec_triggerPinEdge_trigIn {s : State} {n : Nat} (hn : n < 2) (e : Edge) : exec (.triggerPinEdge (.trigIn n) e) s =
    .next (adSource (fun c => 0x0D + n != 0 && c.src == 0x0D + n && edgeFits c e) s) := by
  simp only [exec, execTriggerPinEdge, if_pos hn]

theorem exec_triggerPinEdge_pwm {s : State} {n : Nat} (hn : n < 4) (e : Edge) : exec (.triggerPinEdge (.pwm n) e) s =
    .next (adSource (fun c => 5 + n != 0 && c.src == 5 + n && edgeFits c e) s) := by
  simp only [exec, execTriggerPinEdge, if_pos hn]

/-- Settles O22: a trigger starts an idle sequence or is lost, an alarm fires the triggers and strobes that select it, and the
pairs on EXT follow VREF_IN. -/
theorem calipersTriggers : Obligations.CalipersTriggers := by
  unfold Obligations.CalipersTriggers
  refine ⟨?pinStarts, ?overrun, ?drop, ?timerStarts, ?timerOff, ?alarm, ?alarmEarly, ?settled, ?vrefLost, ?vrefBack⟩
  case pinStarts =>
    intro s n e hn hreg hinj hedge hlen hruns hlate hidle hended hnew
    rw [exec_triggerPinEdge_trigIn hn, adSource_regular hlate (by simp [hreg, hedge]), if_neg (by simp [hinj]),
      adTrigger_idle (inj := false) hlen hruns hnew hidle hended]
    rfl
  case overrun =>
    intro s n e hn hreg hinj hedge hlen hruns hlate hbusy hnew
    have hsource : adSource (fun c => 5 + n != 0 && c.src == 5 + n && edgeFits c e) s = adTrigger false s := by
      rw [adSource_regular hlate (by simp [hreg, hedge]), if_neg (by simp [hinj])]
    obtain ⟨had, hmode⟩ := adTrigger_busy (inj := false) hlen hruns hnew hbusy
    exact ⟨_, (exec_triggerPinEdge_pwm hn e).trans (congrArg _ hsource), congrArg AdState.overruns had,
      congrArg (fun a => { a.reg with lastTrig := s.ad.reg.lastTrig }) had, (congrArg AdState.inj had :), hmode⟩
  case drop =>
    intro s n e hn hinj hreg hedge hlen hruns hlate hbusy hnew
    have hsource : adSource (fun c => 5 + n != 0 && c.src == 5 + n && edgeFits c e) s = adTrigger true s :=
      adSource_injected hlate (by simp [hinj, hedge]) (by simp [hreg])
    obtain ⟨had, hmode⟩ := adTrigger_busy (inj := true) hlen hruns hnew hbusy
    exact ⟨_, (exec_triggerPinEdge_pwm hn e).trans (congrArg _ hsource), congrArg AdState.injDrops had,
      congrArg (fun a => { a.inj with lastTrig := s.ad.inj.lastTrig }) had, (congrArg AdState.reg had :), hmode⟩
  case timerStarts =>
    intro s n hn hen hruns hedge hreg hinj hlen hlate hidle hended hnew
    have hexec : exec (.measurementTimerFire n) s = .next (adSource (fun q => q.src == 1 + n) s) :=
      if_pos ⟨hn, hen, hruns, by omega, by rw [hedge, Nat.add_sub_cancel_left, Nat.mul_mod_left]⟩
    have hsource : adSource (fun q => q.src == 1 + n) s = adTrigger false s := by
      rw [adSource_regular hlate (by simp [hreg]), if_neg (by simp [hinj])]
    refine ⟨_, hexec, ?_⟩
    rw [hsource, adTrigger_idle (inj := false) hlen hruns hnew hidle hended]
    exact ⟨rfl, rfl, (adOnly_modSeq false _ s).kept⟩
  case timerOff =>
    intro s n hoff
    exact if_neg (by simp [hoff])
  case alarm =>
    intro s n t0 hsized hn harmed hdue hruns
    have hexec : exec (.spindleAlarmFire n) s =
        .next (strobeSource (· == 4 + n) (adSource (fun q => q.src == 0x0F + n) (alarmSpent n s))) := by
      simp only [exec, execSpindleAlarmFire, harmed, if_pos (And.intro hdue hruns), alarmSpent]
    obtain ⟨d, hstrobe⟩ := daOnly_strobeSource (· == 4 + n) (adSource (fun q => q.src == 0x0F + n) (alarmSpent n s))
    have htrig := triggersOnly_adSource (fun q => q.src == 0x0F + n) (alarmSpent n s)
    refine ⟨_, hexec.trans (congrArg _ hstrobe), ?_, ?_, ?_, ?_⟩
    · exact (congrArg (nth none · n) htrig.alarms).trans (nth_modNth_self none _ (by rw [Sized.alarms hsized]; exact hn))
    · exact fun m _ hm => (congrArg (nth none · m) htrig.alarms).trans (nth_modNth_other none _ hm)
    · intro hsrc hlen hlate hidle hended hnew
      exact adSource_starts (s := alarmSpent n s) hlate (by simp [alarmSpent, hsrc]) hlen hruns hidle hended hnew
    · obtain ⟨a, m, i, hsource, -⟩ := htrig
      rw [hsource]
      rfl
  case alarmEarly =>
    intro s n t0 harmed hearly
    simp only [exec, execSpindleAlarmFire, harmed]
    exact if_neg fun h => by omega
  case settled =>
    intro s p t0 hsized hp hdue hover hon hgood
    have hexec : exec (.refSettled p) s = .next (setRef p s) := by
      simp only [exec, execRefSettled, hdue, if_pos (And.intro hp (And.intro hover (And.intro hon hgood)))]
    have hpair := setRef_pair (p := p) (s := s) (by rw [Sized.pairs hsized]; exact hp)
    refine ⟨_, hexec, congrArg PairState.settled hpair, congrArg PairState.due hpair, ?_, fun q hq => setRef_other hq s,
      (adOnly_setRef p s).kept⟩
    rw [hpair]
    exact clearsEnded_closed _ _
  case vrefLost =>
    intro s p hsized hp hext
    have hmem := mem_extPairs hp hext
    have honly : AdOnly s ((extPairs s).foldl pairLoses (vrefSet true s)) := .trans ⟨_, rfl⟩ (.foldl pairLoses_only _)
    refine ⟨_, exec_vrefInRangeChange_lost (List.ne_nil_of_mem hmem), ?_, ?_, raiseAlarm_sets _ _, ?_⟩
    · rw [raiseAlarm_ad]
      exact List.foldlRecOn (motive := fun t : State => t.ad.vrefOut = true) _ _ rfl fun t ht q _ => ht
    · rw [raiseAlarm_ad]
      exact foldl_reaches (I := fun t => p < t.ad.pairs.length) (P := fun t => pairSettled t p = false)
        (fun t q ht => (length_modNth _ _ _).symm ▸ ht) (fun t q ht hlost => pairLoses_stays ht hlost q)
        (fun t ht => pairLoses_clears ht) hmem (by rw [vrefSet, Sized.pairs hsized]; exact hp)
    · exact (raiseAlarm_mode _ _).trans (honly.view State.mode fun _ => rfl)
  case vrefBack =>
    intro s p hsized hp hext hon hdue
    have hready : PairReady p (vrefSet false s) := ⟨by rw [vrefSet, Sized.pairs hsized]; exact hp, hdue, hon⟩
    refine ⟨_, exec_vrefInRangeChange_back s, ?_, ?_, ?_⟩
    · exact List.foldlRecOn (motive := fun t : State => t.ad.vrefOut = false) _ _ rfl fun t ht q _ =>
        (pairRegains_vrefOut t q).trans ht
    · exact foldl_reaches (I := PairReady p) (P := fun t => pairSettled t p = true) (fun t q ht => pairReady_regains ht q)
        (fun t q ht hset => pairRegains_stays ht hset q) (fun t ht => pairRegains_settles ht) (mem_extPairs hp hext) hready
    · exact AdOnly.kept (.trans ⟨_, rfl⟩ (.foldl pairRegains_only _))

end Sys2Proof.Proofs
end

section
/-! Slots that start and windows that are published (R200 to R209). -/
namespace Sys2Proof.Proofs
open Sys2Proof.Machine Sys2Proof.Laws

/-! ### What a slot touches -/

theorem adOnly_modCur (f : SlotRun → SlotRun) (s : State) : AdOnly s (modCur f s) := by
  unfold modCur
  exact (adOnly_modSeq false _ s).trans (adOnly_modSeq true _ _)

theorem adOnly_setDiag (d t : Nat) (s : State) : AdOnly s (setDiag d t s) := by
  unfold setDiag
  split
  · exact .refl s
  · exact AdOnly.trans ⟨_, rfl⟩ ((adOnly_modCur _ _).trans (adOnly_modCur _ _))

theorem adOnly_closeCur (inj : Bool) (s : State) : AdOnly s (closeCur inj s) := by
  unfold closeCur
  dsimp only
  split
  · exact adOnly_modSeq inj _ s
  · exact .refl s

theorem adOnly_preempt (at_ : Nat) (s : State) : AdOnly s (preempt at_ s) := by
  unfold preempt
  dsimp only
  split
  · split
    · exact AdOnly.trans ⟨_, rfl⟩ (adOnly_modSeq false _ _)
    · split
      · exact (adOnly_closeCur false s).trans (adOnly_modSeq false _ _)
      · exact .refl s
  · exact .refl s

/-- The slot `i` runs from the edge `at_` on. -/
def SlotStarted (inj : Bool) (i at_ : Nat) (s t : State) : Prop :=
  (getSeq inj t).phase = 2 ∧ (getSeq inj t).slot = i ∧
    (getSeq inj t).cur.map (fun r => (r.idx, r.cfg, r.start, r.inj)) = some (i, slotCfg s.live inj i, at_, inj)

theorem startSlot_started (inj : Bool) (i at_ : Nat) (s : State) :
    AdOnly s (startSlot inj i at_ s) ∧ SlotStarted inj i at_ s (startSlot inj i at_ s) := by
  unfold startSlot
  extract_lets c adcs s0 r sel a s1
  have hs0 : AdOnly s s0 := .ite _ (adOnly_setDiag _ _ s) (.refl s)
  have hs1 : AdOnly s s1 := hs0.trans (AdOnly.trans ⟨_, rfl⟩ (adOnly_modSeq inj _ _))
  have hstarted : SlotStarted inj i at_ s s1 := by
    unfold SlotStarted s1
    rw [getSeq_modSeq]
    exact ⟨rfl, rfl, rfl⟩
  cases inj
  · exact ⟨hs1, hstarted⟩
  · exact ⟨hs1.trans ⟨_, rfl⟩, hstarted⟩

/-- A slot starts with what was done before its start to the Calipers alone. -/
theorem startSlot_after {inj : Bool} {i at_ : Nat} {s t : State} (h : AdOnly s t) :
    AdOnly s (startSlot inj i at_ t) ∧ SlotStarted inj i at_ s (startSlot inj i at_ t) := by
  obtain ⟨honly, hstarted⟩ := startSlot_started inj i at_ t
  exact ⟨h.trans honly, by rw [SlotStarted, ← h.live]; exact hstarted⟩

/-! ### Which slot starts (R205, R209) -/

theorem adSettle_empty {s : State} (hlate : s.ad.late = []) : adSettle s = s := adSettle_none (by simp [hlate])

section Starts
variable {s : State} (hruns : s.dataPlane = .running) (hlate : s.ad.late = [])
include hruns hlate

/-- A regular slot that waits starts at its edge, or after the last injected sample. -/
theorem slotStart_regular (hphase : s.ad.reg.phase = 1) (hdue : s.ad.reg.due ≤ s.clock) (hfree : s.ad.injEnd ≤ s.clock)
    (hidle : s.ad.inj.phase = 0) : slotStart false s =
      startSlot false s.ad.reg.slot (if s.ad.reg.due < s.ad.injEnd then s.ad.injEnd else s.ad.reg.due) (closeCur false s) := by
  have hnext : nextSlot false s = some (s.ad.reg.slot, s.ad.reg.due) := by simp [nextSlot, getSeq, hphase]
  have hat : ¬(s.clock < (if s.ad.reg.due < s.ad.injEnd then s.ad.injEnd else s.ad.reg.due) ∨
      injHolds (if s.ad.reg.due < s.ad.injEnd then s.ad.injEnd else s.ad.reg.due) s = true) := by
    simp only [injHolds, hidle, Bool.false_eq_true, or_false]
    split <;> omega
  simp only [slotStart, adSettle_empty hlate, hruns, hnext, ne_eq, not_true_eq_false, ↓reduceIte, Bool.false_eq_true, if_neg hat]

/-- An injected slot that waits starts at its edge, whatever the regular sequence does. -/
theorem slotStart_injected (hphase : s.ad.inj.phase = 1) (hdue : s.ad.inj.due ≤ s.clock) : slotStart true s =
    startSlot true s.ad.inj.slot s.ad.inj.due (preempt s.ad.inj.due (closeCur true s)) := by
  have hnext : nextSlot true s = some (s.ad.inj.slot, s.ad.inj.due) := by simp [nextSlot, getSeq, hphase]
  simp only [slotStart, adSettle_empty hlate, hruns, hnext, ne_eq, not_true_eq_false, ↓reduceIte, if_neg (Nat.not_lt.2 hdue)]

end Starts

theorem slotStart_stopped {s : State} (hstopped : s.dataPlane ≠ .running) (hlate : s.ad.late = []) (inj : Bool) :
    slotStart inj s = s := by
  simp only [slotStart, adSettle_empty hlate, if_pos hstopped]

/-! ### The window and its publication (R200, R202) -/

/-- A window counts the samples after the settling ones, and sums their calibrated codes. -/
theorem runWindow_totals (c : SlotCfg) (t : Tables) : ∀ (skip n rec : Nat) (h : BankHalf) (vs : List SlotSample),
    (runWindow c t skip n rec h vs).count = h.count + (vs.length - skip) ∧
      (runWindow c t skip n rec h vs).sum = h.sum + ((vs.drop skip).map (fun v => adcCode v.2.2)).sum
  | skip, n, rec, h, [] => by simp [runWindow]
  | skip + 1, n, rec, h, (e, k, v) :: vs => by
    obtain ⟨hcount, hsum⟩ := runWindow_totals c t skip n
      (if v.natAbs > 16384 then 51 else if saturated v then (if rec > 13 then rec else 13) else rec - 1) h vs
    exact ⟨hcount.trans (by simp), hsum⟩
  | 0, n, rec, h, (e, k, v) :: vs => by
    have htail := runWindow_totals c t 0 (n + 1)
      (if v.natAbs > 16384 then 51 else if saturated v then (if rec > 13 then rec else 13) else rec - 1)
      { accAdd c t e.dds k h n (adcCode v) with
        clipped := (accAdd c t e.dds k h n (adcCode v)).clipped || saturated v || decide (0 < rec) } vs
    obtain ⟨hcount, hsum⟩ := htail
    refine ⟨hcount.trans ?_, hsum.trans ?_⟩
    · simp [accAdd]; omega
    · simp [accAdd]; omega

theorem length_slotSamples (s : State) (r : SlotRun) (x : AdcSamples) : (slotSamples s r x).length = x.values.length := by
  simp [slotSamples]

/-- What the window of one ADC of a slot publishes (R200, R202). -/
def publishedHalf (r : SlotRun) (s : State) (x : AdcSamples) : BankHalf :=
  let last := winStart s r + r.cfg.win * mclkLen (f441 s)
  { runWindow r.cfg s.live r.cfg.settle 0 x.recov {} (slotSamples s r x) with
    code := codeOf r.cfg x.adc, inj := r.inj, slot := r.idx, close := s.spindle - (s.clock - last), win := r.cfg.win + 1
    unsettled := r.unsettled.contains x.adc || refWasClear s (x.adc / 2) (winStart s r) last
    epoch := nextEpoch (tabGet {} s.ad.banks (8 * r.cfg.bank + x.adc)).epoch }

section Publishes
variable {r : SlotRun} {s : State} {x : AdcSamples}

/-- An ADC that takes part to the end publishes its half; none reads as the default, for no window is empty. -/
theorem publishAdc_bank (hdead : r.dead = []) :
    tabGet {} (publishAdc r s x).ad.banks (8 * r.cfg.bank + x.adc) = publishedHalf r s x := by
  have hne : publishedHalf r s x ≠ {} := fun h => absurd (congrArg BankHalf.win h) (Nat.succ_ne_zero _)
  have hbanks : (publishAdc r s x).ad.banks = tabSet {} s.ad.banks (8 * r.cfg.bank + x.adc) (publishedHalf r s x) := by
    simp only [publishAdc, hdead, List.contains_nil, Bool.false_eq_true, ↓reduceIte]
    rfl
  rw [hbanks, tabSet, if_neg hne, tabGet_insert, if_pos rfl]

theorem publishedHalf_totals (hlen : x.values.length = r.cfg.settle + r.cfg.win + 1) :
    (publishedHalf r s x).sum = (((slotSamples s r x).drop r.cfg.settle).map (fun v => adcCode v.2.2)).sum ∧
      (publishedHalf r s x).count = r.cfg.win + 1 := by
  obtain ⟨hcount, hsum⟩ := runWindow_totals r.cfg s.live r.cfg.settle 0 x.recov {} (slotSamples s r x)
  refine ⟨hsum.trans (Int.zero_add _), hcount.trans ?_⟩
  rw [length_slotSamples, hlen]
  dsimp only
  omega

theorem adOnly_publishAdc : AdOnly s (publishAdc r s x) := .ite _ (.refl s) ⟨_, rfl⟩

theorem pubDone_kept (inj : Bool) : AdOnly s (pubDone inj r s) ∧ (pubDone inj r s).ad.banks = s.ad.banks := by
  have hmod (f : SeqRun → SeqRun) : AdOnly s (modSeq inj f s) ∧ (modSeq inj f s).ad.banks = s.ad.banks :=
    ⟨adOnly_modSeq inj f s, by cases inj <;> rfl⟩
  unfold pubDone
  dsimp only
  split
  · exact hmod _
  · split
    · exact hmod _
    · exact hmod _

theorem windowPublish_one {inj : Bool} (hlate : s.ad.late = []) (hnext : nextPub inj s = some r)
    (hdue : slotEnd s r + 17 * mclkLen (f441 s) ≤ s.clock) (hadcs : r.adcs = [x.adc])
    (hlen : x.values.length = r.cfg.settle + r.cfg.win + 1) :
    windowPublish inj [x] s = pubDone inj r (publishAdc r s x) := by
  have hfit : samplesFit r [x] = true := by simp [samplesFit, hadcs, hlen]
  simp only [windowPublish, adSettle_empty hlate, hnext, hfit, pubEdge, if_pos (And.intro hdue trivial), List.foldl_cons,
    List.foldl_nil]

end Publishes

/-! ### The statement -/

/-- Settles O23: a slot that is due starts (`SlotStarted`), and a closed window publishes its half (`publishedHalf`). -/
theorem calipersSlots : Obligations.CalipersSlots := by
  unfold Obligations.CalipersSlots
  refine ⟨?regular, ?injected, ?stopped, ?published⟩
  case regular =>
    intro s hruns hphase hdue hfree hidle hlate
    obtain ⟨honly, hphase', hslot, hcur⟩ := startSlot_after (inj := false) (i := s.ad.reg.slot)
      (at_ := if s.ad.reg.due < s.ad.injEnd then s.ad.injEnd else s.ad.reg.due) (adOnly_closeCur false s)
    exact ⟨_, congrArg Host.Outcome.next (slotStart_regular hruns hlate hphase hdue hfree hidle), hphase', hslot, hcur, honly.kept⟩
  case injected =>
    intro s hruns hphase hdue hlate
    obtain ⟨honly, hphase', hslot, hcur⟩ := startSlot_after (inj := true) (i := s.ad.inj.slot) (at_ := s.ad.inj.due)
      ((adOnly_closeCur true s).trans (adOnly_preempt s.ad.inj.due _))
    exact ⟨_, congrArg Host.Outcome.next (slotStart_injected hruns hlate hphase hdue), hphase', hslot, hcur, honly.kept⟩
  case stopped =>
    intro s q hstopped hlate
    exact congrArg Host.Outcome.next (slotStart_stopped hstopped hlate _)
  case published =>
    intro s q r x hlate hnext hdue hadcs hdead hlen
    obtain ⟨honly, hbanks⟩ := pubDone_kept (q == .injected) (r := r) (s := publishAdc r s x)
    obtain ⟨hsum, hcount⟩ := publishedHalf_totals (s := s) hlen
    have hbank : tabGet {} (pubDone (q == .injected) r (publishAdc r s x)).ad.banks (8 * r.cfg.bank + x.adc) =
        publishedHalf r s x := hbanks ▸ publishAdc_bank hdead
    refine ⟨_, congrArg Host.Outcome.next (windowPublish_one hlate hnext hdue hadcs hlen), ?_⟩
    dsimp only
    rw [hbank]
    exact ⟨hsum, hcount, rfl, rfl, rfl, (adOnly_publishAdc.trans honly).kept⟩

end Sys2Proof.Proofs
end

section
/-! What the direct commands of the Calipers, the DACs and the sequencers do at their frame boundary (R193, R208, R223, R233,
R235, R251, R266). -/
namespace Sys2Proof.Proofs
open Sys2Proof.Machine Sys2Proof.Laws

/-- A command that touches the Calipers alone, and its answer. -/
theorem AdOnly.plant {s t u : State} (h : AdOnly s t) (hu : u.plant = t.plant) : { u.plant with ad := s.ad } = s.plant := by
  obtain ⟨a, rfl⟩ := h
  rw [hu]
  rfl

/-! ### The Calipers -/

theorem getSeq_of_ad {s t : State} (h : t.ad = s.ad) (inj : Bool) : getSeq inj t = getSeq inj s := by
  rw [getSeq, getSeq, h]

theorem diag_modCur (f : SlotRun → SlotRun) (s : State) : (modCur f s).ad.diag = s.ad.diag := rfl

theorem diag_setDiag (d t : Nat) (s : State) : (setDiag d t s).ad.diag = d := by
  unfold setDiag
  split
  · next h => exact h
  · rw [noteEnv, diag_modCur, markUnsettled, diag_modCur]

/-- The microphone gain is a write of the live tables; the windows that measure its input take note of it (R223). -/
theorem micGain_adc (p : Bytes) (s : State) :
    (micGain p s).live.adc = tabMod {} s.live.adc (u8 p 0) (fun a => { a with mic := u8 p 1 }) ∧
      { (micGain p s).plant with ad := s.ad, live := s.live } = s.plant := by
  have honly : AdOnly (writeTables (fun t => { t with adc := tabMod {} t.adc (u8 p 0) (fun a => { a with mic := u8 p 1 }) }) s)
      (micGain p s) := (adOnly_modCur _ _).trans (adOnly_modCur _ _)
  refine ⟨congrArg Tables.adc honly.live, ?_⟩
  obtain ⟨a, hmic⟩ := honly
  rw [hmic]
  rfl

theorem alarmIndex_lt {p : Bytes} {s : State} (h : directCheck 0x0416 p s = none) : u8 p 0 < 4 := by
  have hchk : chkAdAlarm p s = none := h
  unfold chkAdAlarm at hchk
  split at hchk
  · exact absurd hchk (by simp)
  · omega

/-- The state whose alarm `n` is set to `t`, or cleared. -/
def alarmSet (t : Option Nat) (n : Nat) (s : State) : State :=
  { s with ad := { s.ad with alarms := modNth (fun _ => t) s.ad.alarms n } }

theorem applyAdAlarm_plant (c : Cmd) (s : State) : (applyAdAlarm c s).plant =
    (alarmSet (if bit c.payload 1 0 then readCompact s.spindle c.payload 4 else none) (u8 c.payload 0) s).plant :=
  plant_respond _ _ _ _

/-- The state with overrange bits cleared. -/
def ovrCleared (mask : Nat) (s : State) : State := { s with ad := { s.ad with ovr := clearBits mask s.ad.ovr } }

def countsCleared (s : State) : State := { s with ad := { s.ad with overruns := 0, injDrops := 0, aborts := 0 } }

theorem applyAdClear_plant (c : Cmd) (s : State) : (applyAdClear c s).plant =
    (if bit c.payload 1 0 then countsCleared (ovrCleared (u8 c.payload 0) s) else ovrCleared (u8 c.payload 0) s).plant :=
  plant_respond _ _ _ _

theorem applyAdTrigger_runs {c : Cmd} {s : State} (hlen : (seqCfg s.live (bit c.payload 0 0)).len ≠ 0)
    (hruns : s.dataPlane = .running) : applyAdTrigger c s = respond c stDone [] (adTrigger (bit c.payload 0 0) s) :=
  if_neg (by simp [hlen, hruns])

/-! ### The DACs -/

theorem Sized.dac {s : State} (h : Sized s) : s.da.dac.length = 8 := by
  obtain ⟨-, -, -, -, -, -, -, -, -, hdac, -⟩ := h
  exact hdac

/-- One code of DA_HOLD, where its mask selects it (Table DA-14). -/
def holdOne (p : Bytes) (t : State) (n : Nat) : State :=
  if bit p 1 n then modDac (4 * u8 p 0 + n) (fun x => { x with staged := i16 p (4 + 2 * n) }) t else t

theorem holdOne_length (p : Bytes) (t : State) (n : Nat) : (holdOne p t n).da.dac.length = t.da.dac.length := by
  unfold holdOne
  split
  · exact length_modNth _ _ _
  · rfl

theorem holdOne_self {p : Bytes} {t : State} {n : Nat} (hn : 4 * u8 p 0 + n < t.da.dac.length) :
    (dacState (holdOne p t n) (4 * u8 p 0 + n)).staged =
      if bit p 1 n then i16 p (4 + 2 * n) else (dacState t (4 * u8 p 0 + n)).staged := by
  unfold holdOne
  split
  · exact congrArg DacState.staged (nth_modNth_self ({} : DacState) _ hn)
  · rfl

theorem holdOne_other {p : Bytes} (t : State) {n m : Nat} (h : n ≠ m) :
    dacState (holdOne p t m) (4 * u8 p 0 + n) = dacState t (4 * u8 p 0 + n) := by
  unfold holdOne
  split
  · exact nth_modNth_other ({} : DacState) _ (by omega)
  · rfl

theorem foldl_holdOne_other {p : Bytes} {n : Nat} {l : List Nat} (h : n ∉ l) (s : State) :
    dacState (l.foldl (holdOne p) s) (4 * u8 p 0 + n) = dacState s (4 * u8 p 0 + n) :=
  List.foldlRecOn (motive := fun t => dacState t (4 * u8 p 0 + n) = dacState s (4 * u8 p 0 + n)) l _ rfl fun t ht _ hm =>
    (holdOne_other t (ne_of_mem_of_not_mem hm h).symm).trans ht

theorem foldl_holdOne_staged {p : Bytes} {n : Nat} {l : List Nat} {s : State} (hnodup : l.Nodup) (hmem : n ∈ l)
    (hlen : 4 * u8 p 0 + n < s.da.dac.length) : (dacState (l.foldl (holdOne p) s) (4 * u8 p 0 + n)).staged =
      if bit p 1 n then i16 p (4 + 2 * n) else (dacState s (4 * u8 p 0 + n)).staged := by
  induction l generalizing s with
  | nil => exact absurd hmem List.not_mem_nil
  | cons m l ih =>
    obtain ⟨hm, hl⟩ := List.nodup_cons.1 hnodup
    rw [List.foldl_cons]
    rcases List.mem_cons.1 hmem with rfl | htail
    · rw [foldl_holdOne_other hm, holdOne_self hlen]
    · rw [ih hl htail (by rw [holdOne_length]; exact hlen), holdOne_other s (ne_of_mem_of_not_mem htail hm)]

/-- DA_HOLD stages the codes that its mask selects, and no other (R235). -/
theorem holdStage_staged {p : Bytes} {s : State} {n : Nat} (hn : n < 4) (hlen : 4 * u8 p 0 + n < s.da.dac.length) :
    (dacState (holdStage p s) (4 * u8 p 0 + n)).staged =
      if bit p 1 n then i16 p (4 + 2 * n) else (dacState s (4 * u8 p 0 + n)).staged :=
  foldl_holdOne_staged (l := [0, 1, 2, 3]) (by decide) (by simp; omega) hlen

theorem stageHolds_one {s : State} {c : Cmd} (hcmds : frameCmds s = [c]) (hop : c.opcode = 0x0513) (hgroup : u8 c.payload 0 ≤ 1) :
    stageHolds s = holdStage c.payload s := by
  rw [stageHolds, hcmds, List.foldl_cons, List.foldl_nil, if_pos ⟨hop, hgroup⟩]

theorem applyDaLoad_first {c : Cmd} {s : State} (hruns : s.dataPlane = .running) (h0 : bit c.payload 0 0 = true)
    (h1 : bit c.payload 0 1 = false) : (applyDaLoad c s).plant = (holdStrobe 0 s).plant := by
  simp [applyDaLoad, hruns, h0, h1]

/-- A strobe of a bank whose clock stands still waits, and so does its DA_LOAD (log entry 46). -/
theorem applyDaLoad_second {c : Cmd} {s : State} (hruns : s.dataPlane = .running) (h0 : bit c.payload 0 0 = false)
    (h1 : bit c.payload 0 1 = true) : (applyDaLoad c s).plant = (holdStrobe 1 s).plant := by
  cases hclock : groupClocked s 1
  · have hstill : holdStrobe 1 s = s := by simp [holdStrobe, hclock]
    simp [applyDaLoad, h1, hclock, hstill]
  · simp [applyDaLoad, hruns, h0, h1, hclock]

/-! ### The statement -/

/-- Settles O44: each command runs its own effect once its conditions hold (`applyDirect_passed`), and its answer leaves the
plant alone. That DA_LOAD waits while the data plane does not run is log entry 46. -/
theorem directConverters : Obligations.DirectConverters := by
  unfold Obligations.DirectConverters
  refine ⟨?alarmOff, ?alarmOn, ?trigger, ?triggerRefused, ?diag, ?micGain, ?clearAll, ?clearBits, ?hold, ?holdAnswer, ?load0,
    ?load1, ?loadWaits, ?segWrite, ?ltcZone⟩
  case alarmOff =>
    intro s c hop hcheck hsized hoff
    have hrun : applyDirect c s = applyAdAlarm c s := applyDirect_passed hop (fun _ _ => rfl) rfl hcheck
    have hplant := applyAdAlarm_plant c s
    have hn : u8 c.payload 0 < 4 := alarmIndex_lt (hop ▸ hcheck)
    rw [if_neg (Bool.eq_false_iff.1 hoff)] at hplant
    rw [hrun, ad_of_plant hplant]
    exact ⟨hplant, nth_modNth_self (some 0) _ (by rw [Sized.alarms hsized]; exact hn)⟩
  case alarmOn =>
    intro s c hop hcheck hsized hon
    have hrun : applyDirect c s = applyAdAlarm c s := applyDirect_passed hop (fun _ _ => rfl) rfl hcheck
    have hplant := applyAdAlarm_plant c s
    have hn : u8 c.payload 0 < 4 := alarmIndex_lt (hop ▸ hcheck)
    rw [if_pos hon] at hplant
    rw [hrun, ad_of_plant hplant]
    exact ⟨nth_modNth_self none _ (by rw [Sized.alarms hsized]; exact hn), AdOnly.plant ⟨_, rfl⟩ hplant⟩
  case trigger =>
    intro s c hop hcheck hlen hruns hidle hended hnew
    have hrun : applyDirect c s = applyAdTrigger c s := applyDirect_passed hop (fun _ _ => rfl) rfl hcheck
    have hplant : (applyDirect c s).plant = (modSeq (bit c.payload 0 0) (seqTriggered s.clock
        (s.clock + (seqCfg s.live (bit c.payload 0 0)).delay * mclkLen (f441 s))) s).plant := by
      rw [hrun, applyAdTrigger_runs hlen hruns, plant_respond, adTrigger_idle hlen hruns hnew hidle hended]
    rw [getSeq_of_ad (ad_of_plant hplant), getSeq_modSeq]
    exact ⟨rfl, rfl, rfl, (adOnly_modSeq _ _ s).plant hplant⟩
  case triggerRefused =>
    intro s c hop hcheck hrefused hready
    have hrun : applyDirect c s = applyAdTrigger c s := applyDirect_passed hop (fun _ _ => rfl) rfl hcheck
    rw [hrun, applyAdTrigger, if_pos hrefused]
    exact ⟨answered_respond hready stState [], plant_respond c stState [] s⟩
  case diag =>
    intro s c hop hcheck
    have hrun : applyDirect c s = applyAdDiag c s := applyDirect_passed hop (fun _ _ => rfl) rfl hcheck
    have hplant : (applyDirect c s).plant = (setDiag (u16 c.payload 0 % 4096) s.clock s).plant := by
      rw [hrun, applyAdDiag, plant_respond_noted]
    exact ⟨(congrArg AdState.diag (ad_of_plant hplant)).trans (diag_setDiag _ _ s), (adOnly_setDiag _ _ s).plant hplant⟩
  case micGain =>
    intro s c hop hcheck
    have hrun : applyDirect c s = applyAdMicGain c s := applyDirect_passed hop (fun _ _ => rfl) rfl hcheck
    have hplant : (applyDirect c s).plant = (micGain c.payload s).plant := by
      rw [hrun, applyAdMicGain, plant_respond_noted]
    obtain ⟨hadc, hkept⟩ := micGain_adc c.payload s
    exact ⟨(congrArg Tables.adc (live_of_plant hplant)).trans hadc, by rw [hplant, hkept]⟩
  case clearAll =>
    intro s c hop hcheck hall
    have hrun : applyDirect c s = applyAdClear c s := applyDirect_passed hop (fun _ _ => rfl) rfl hcheck
    rw [hrun, applyAdClear_plant, if_pos hall]
    rfl
  case clearBits =>
    intro s c hop hcheck hbits
    have hrun : applyDirect c s = applyAdClear c s := applyDirect_passed hop (fun _ _ => rfl) rfl hcheck
    rw [hrun, applyAdClear_plant, if_neg (Bool.eq_false_iff.1 hbits)]
    rfl
  case hold =>
    intro s c n hcmds hop hgroup hn hsized
    rw [stageHolds_one hcmds hop hgroup]
    exact holdStage_staged hn (by rw [Sized.dac hsized]; omega)
  case holdAnswer =>
    intro s c hop hcheck
    have hrun : applyDirect c s = applyDaHold c s := applyDirect_passed hop (fun _ _ => rfl) rfl hcheck
    rw [hrun, plant_applyDaHold]
  case load0 =>
    intro s c hop hcheck hruns h0 h1
    have hrun : applyDirect c s = applyDaLoad c s := applyDirect_passed hop (fun _ _ => rfl) rfl hcheck
    rw [hrun, applyDaLoad_first hruns h0 h1]
  case load1 =>
    intro s c hop hcheck hruns h0 h1
    have hrun : applyDirect c s = applyDaLoad c s := applyDirect_passed hop (fun _ _ => rfl) rfl hcheck
    rw [hrun, applyDaLoad_second hruns h0 h1]
  case loadWaits =>
    intro s c hop hcheck hstopped
    have hrun : applyDirect c s = applyDaLoad c s := applyDirect_passed hop (fun _ _ => rfl) rfl hcheck
    rw [hrun, applyDaLoad, if_pos (.inl hstopped)]
  case segWrite =>
    intro s c hop hcheck
    have hrun : applyDirect c s = applyPsSegWrite c s := applyDirect_passed hop (fun _ _ => rfl) rfl hcheck
    rw [hrun, applyPsSegWrite, plant_respond_noted]
    rfl
  case ltcZone =>
    intro s c hop hcheck
    have hrun : applyDirect c s = applyPsLtcZone c s := applyDirect_passed hop (fun _ _ => rfl) rfl hcheck
    rw [hrun, applyPsLtcZone, plant_respond_noted]
    rfl

end Sys2Proof.Proofs
end

section
/-! Load strobes, range changes and fault codes of the DACs, and the profile sequencers (R233 to R238, R247 to R255). -/
namespace Sys2Proof.Proofs
open Sys2Proof.Machine Sys2Proof.Laws

/-! ### Sizes and lists -/

/-- Settles O57: each list has its size in the default of its field. -/
theorem sizedReset : Obligations.SizedReset :=
  ⟨rfl, rfl, rfl, rfl, rfl, rfl, rfl, rfl, rfl, rfl, rfl, rfl, rfl, rfl, rfl, rfl, rfl⟩

theorem Sized.ps {s : State} (h : Sized s) : s.ps.length = 4 := by
  obtain ⟨-, -, -, -, -, -, -, -, -, -, -, hps, -⟩ := h
  exact hps

theorem nth_mapIdx {α : Type} (d : α) {f : Nat → α → α} : ∀ {l : List α} {i : Nat}, i < l.length →
    nth d (l.mapIdx f) i = f i (nth d l i)
  | _ :: _, 0, _ => by simp [List.mapIdx_cons, nth]
  | _ :: l, i + 1, h => by
    rw [List.mapIdx_cons]
    exact nth_mapIdx d (f := fun j => f (j + 1)) (l := l) (by simpa using h)

theorem nth_mapIdx_kept {α : Type} (d : α) {f : Nat → α → α} : ∀ {l : List α} {i : Nat}, (∀ x, f i x = x) →
    nth d (l.mapIdx f) i = nth d l i
  | [], _, _ => rfl
  | x :: _, 0, h => by simp [List.mapIdx_cons, nth, h x]
  | _ :: l, i + 1, h => by
    rw [List.mapIdx_cons]
    exact nth_mapIdx_kept d (f := fun j => f (j + 1)) (l := l) h

/-! ### Strobes (R233, R234) -/

/-- The DACs once group 0 has strobed now, and once group 1 has. -/
def strobed0 (s : State) : DaState := { s.da with strobes0 := (s.da.strobes0 + 1) % 2 ^ 32, last0 := some s.clock }
def strobed1 (s : State) : DaState := { s.da with strobes1 := (s.da.strobes1 + 1) % 2 ^ 32, last1 := some s.clock }

theorem countStrobe_first {s : State} (hfar : strobeNear s 0 = false) : countStrobe 0 s = { s with da := strobed0 s } := by
  simp only [countStrobe, hfar, strobed0, Bool.false_eq_true, ↓reduceIte]

theorem countStrobe_second {s : State} (hfar : strobeNear s 1 = false) : countStrobe 1 s = { s with da := strobed1 s } := by
  simp only [countStrobe, hfar, strobed1, Bool.false_eq_true, ↓reduceIte, Nat.one_ne_zero]

/-- A strobe of both groups counts once in each: that of group 0 is no strobe of group 1. -/
theorem countStrobe_both {s : State} (h0 : strobeNear s 0 = false) (h1 : strobeNear s 1 = false) :
    countStrobe 1 (countStrobe 0 s) = { s with da := strobed1 { s with da := strobed0 s } } := by
  rw [countStrobe_first h0]
  exact countStrobe_second h1

/-- What a strobe of group `g` does to the DAC `d` (R233). -/
def groupStrobe (g : Nat) (s : State) (d : Nat) (x : DacState) : DacState := if d / 4 = g then strobeDac s d x else x

theorem holdStrobe_first {s : State} (hfar : strobeNear s 0 = false) :
    holdStrobe 0 s = { s with da := { strobed0 s with dac := s.da.dac.mapIdx (groupStrobe 0 s) } } := by
  have hfires : ¬(strobeNear s 0 || !groupClocked s 0) = true := by simp [hfar, groupClocked]
  simp only [holdStrobe, if_neg hfires, countStrobe_first hfar]
  rfl

/-- A HOLD DAC outside a range change and outside SAFE takes its staged code and waits no longer (R235). -/
theorem strobeDac_hold {s : State} {d : Nat} {x : DacState} (hsrc : (outCfg s.live d).src = 5) (hsafe : dacSafe s d = false)
    (hrange : x.rangeEnd = none) : strobeDac s d x =
      { x with active := x.staged, wait := false, kept := none, ifs := (outCfg s.live d).ifs } := by
  simp [strobeDac, hsrc, hsafe, hrange]

/-- A source that selects group 0 alone strobes that group. -/
theorem strobeSource_first {hit : Nat → Bool} {s : State} (hlive : s.firstLive = true) (hruns : s.dataPlane = .running)
    (h0 : hit s.live.bank.lg0 = true) (h1 : hit s.live.bank.lg1 = false) : strobeSource hit s = holdStrobe 0 s := by
  simp [strobeSource, hlive, hruns, groupSrc, h0, h1]

/-- The strobes of a stopped data plane are discarded (Table DA-2). -/
theorem strobeSource_stopped {hit : Nat → Bool} {s : State} (hstopped : s.dataPlane ≠ .running) : strobeSource hit s = s :=
  if_neg fun h => hstopped h.2

/-! ### Range changes and fault codes (R237, R238) -/

theorem exec_rangeChangeEnd {s : State} {d e : Nat} (hend : (dacState s d).rangeEnd = some e) (hover : e ≤ s.clock)
    (hsrc : (outCfg s.live d).src ≠ 5) : exec (.rangeChangeEnd d) s =
      .next (modDac d (fun x => { x with rangeEnd := none, ifs := (outCfg s.live d).ifs }) s) := by
  simp only [exec, execRangeChangeEnd, hend, if_pos hover, beq_eq_false_iff_ne.2 hsrc, Bool.false_and, Bool.false_eq_true,
    ↓reduceIte]

/-- The DAC `d` with its fault code loaded, unless it is OFF. -/
def faultLoaded (s : State) (d : Nat) (x : DacState) : DacState :=
  if (outCfg s.live d).src = 0 then x else { x with fault := some (nth 0 s.da.safeCodes d) }

theorem exec_faultCodeLoad {s : State} (hsafe : s.da.safe = 2) (hlive : s.firstLive = true)
    (hcause : Nat.land s.safeCause 257 = 0) (h0 : strobeNear s 0 = false) (h1 : strobeNear s 1 = false) :
    exec .faultCodeLoad s = .next { s with
      da := { strobed1 { s with da := strobed0 s } with safe := 3, dac := s.da.dac.mapIdx (faultLoaded s) } } := by
  refine (if_pos ⟨hsafe, hlive, hcause⟩).trans ?_
  rw [countStrobe_both h0 h1]
  rfl

/-! ### Entering a segment (R247) -/

/-- What the event bits of a segment can change: the Calipers, the interrupts, and the free values that place a late trigger. -/
def SegEvents (s t : State) : Prop := ∃ a m i n, t = { s with ad := a, mb := m, ig := i, freeCount := n }

theorem segEvents_adSource (hit : SeqCfg → Bool) (s : State) : SegEvents s (adSource hit s) := by
  obtain ⟨a, m, i, h, -⟩ := triggersOnly_adSource hit s
  exact ⟨a, m, i, s.freeCount, h⟩

theorem segEvents_adSourceLate (hit : SeqCfg → Bool) (s : State) : SegEvents s (adSourceLate hit s) := by
  unfold adSourceLate
  extract_lets hits d
  split
  · exact ⟨_, _, _, _, rfl⟩
  · exact ⟨_, s.mb, s.ig, s.freeCount + 1, rfl⟩

/-- Sequencer `q`, once `f` has changed it, has entered its segment `j` at `start`; the other sequencers are as they were,
and so is all that no event bit can change. -/
structure SegEntered (q j start : Nat) (f : PsState → PsState) (s t : State) : Prop where
  own : ∃ label, psState t q = { f (psState s q) with seg := j, cur := segOf s.live q j, segStart := start, label }
  others : ∀ r, r ≠ q → psState t r = psState s r
  kept : { t with ps := s.ps, ad := s.ad, mb := s.mb, ig := s.ig, freeCount := s.freeCount } = s

theorem psState_modPs_self {q : Nat} {s : State} (hq : q < s.ps.length) (f : PsState → PsState) :
    psState (modPs q f s) q = f (psState s q) := nth_modNth_self ({} : PsState) f hq

theorem psState_modPs_other {q r : Nat} (h : r ≠ q) (f : PsState → PsState) (s : State) :
    psState (modPs q f s) r = psState s r := nth_modNth_other ({} : PsState) f h

/-- Two changes of a sequencer, the second of which enters a segment, and what its event bits do. -/
theorem segEntered_of_events {q j start : Nat} {f : PsState → PsState} {lab : PsState → Nat} {s t : State}
    (hq : q < s.ps.length)
    (h : SegEvents (modPs q (fun p => { p with seg := j, cur := segOf s.live q j, segStart := start, label := lab p })
      (modPs q f s)) t) : SegEntered q j start f s t := by
  obtain ⟨a, m, i, n, rfl⟩ := h
  have hq' : q < (modPs q f s).ps.length := by rw [modPs, length_modNth]; exact hq
  refine ⟨⟨lab (f (psState s q)), (psState_modPs_self hq' _).trans ?_⟩,
    fun r hr => (psState_modPs_other hr _ _).trans (psState_modPs_other hr f s), rfl⟩
  rw [psState_modPs_self hq]

theorem enterSeg_entered {q : Nat} (j start : Nat) (f : PsState → PsState) {s : State} (hq : q < s.ps.length) :
    SegEntered q j start f s (enterSeg q j start (modPs q f s)) := by
  unfold enterSeg
  extract_lets c lab s1 hit
  split
  · exact segEntered_of_events (lab := lab) hq (segEvents_adSourceLate hit s1)
  · exact segEntered_of_events (lab := lab) hq (segEvents_adSource hit s1)

/-! ### Starting and stepping (R247, R249, R250) -/

/-- Sequencer `q` at its start, before its first segment. -/
def psStarted (s : State) (q : Nat) (p : PsState) : PsState :=
  { p with st := 2, starts := satInc 32 p.starts, reps := [], prev := (psCfg s.live q).idle, off := psOff s q }

section Clocked
variable {s : State} {q : Nat} (hclock : psClocked s q = true)
include hclock

theorem psStart_due {u : Nat} (hwaits : (psState s q).st = 1) (hpre : (psCfg s.live q).pre = none)
    (hstart : startInstant s q = some u) (hdue : scaleUnits s (psV s.live q) (psState s q).since < u) :
    psStart q s = enterSeg q (psCfg s.live q).first ((u : Int) + psOff s q).toNat (modPs q (psStarted s q) s) := by
  have hready : ¬((psState s q).st ≠ 1 ∨ psClocked s q = false ∨ (presetLtc (psCfg s.live q) = true ∧ s.timeValid = false)) := by
    simp [hwaits, hclock, presetLtc, hpre]
  simp only [psStart, if_neg hready, hstart, if_neg (Nat.not_le.2 hdue)]
  rfl

/-- The value at the last edge of the segment that ends is all that the step adds to what the next segment fixes. -/
theorem psAdvance_due (hruns : (psState s q).st = 2)
    (hend : (psState s q).segStart + segLen (psState s q).cur ≤ clkEdge s (psV s.live q) s.spindle * 65536) :
    ∃ v, psAdvance q s = enterSeg q (nextSeg (psCfg s.live q) (psState s q)).1
      ((psState s q).segStart + segLen (psState s q).cur)
      (modPs q (fun p => { p with prev := v, reps := (nextSeg (psCfg s.live q) (psState s q)).2 }) s) := by
  have hready : ¬((psState s q).st ≠ 2 ∨ psClocked s q = false ∨
      clkEdge s (psV s.live q) s.spindle * 65536 < (psState s q).segStart + segLen (psState s q).cur) := by
    simp [hruns, hclock, hend]
  exact ⟨_, if_neg hready⟩

end Clocked

theorem psStart_stopped {s : State} {q : Nat} (hstopped : psClocked s q = false) : psStart q s = s :=
  if_pos (.inr (.inl hstopped))

theorem psAdvance_stopped {s : State} {q : Nat} (hstopped : psClocked s q = false) : psAdvance q s = s :=
  if_pos (.inr (.inl hstopped))

/-! ### LTC frames (R251, R255) -/

/-- Frame `k` written with the label `r.1`, which was formed with the zone and the UTC offset `r.2`. -/
def ltcPlaced (k : Nat) (r : LtcLabel × Int × Int) (x : PsState) : PsState :=
  let y := { x with wrote := k, last := some r.1, zone := r.2.1, utc := r.2.2 }
  let code := labelCode r.1.hh r.1.mm r.1.ss r.1.ff
  if k % 2 == 1 then { y with half1 := code } else { y with half0 := code }

theorem ltcPlaced_marks (k : Nat) (r : LtcLabel × Int × Int) (x : PsState) :
    (ltcPlaced k r x).wrote = k ∧ (ltcPlaced k r x).st = x.st ∧ (ltcPlaced k r x).last = some r.1 := by
  unfold ltcPlaced
  dsimp only
  split <;> exact ⟨rfl, rfl, rfl⟩

/-- The half that the frame is written into carries its label. -/
theorem ltcPlaced_half (k : Nat) (r : LtcLabel × Int × Int) (x : PsState) :
    (if k % 2 = 1 then (ltcPlaced k r x).half1 else (ltcPlaced k r x).half0) = labelCode r.1.hh r.1.mm r.1.ss r.1.ff := by
  unfold ltcPlaced
  by_cases hodd : k % 2 = 1 <;> simp [hodd]

/-- A frame that is due is written: its label `r.1` follows the one before, and the first one is that of its instant. -/
theorem ltcWrite_due {s : State} {q : Nat} {p : PsPreset} (hpre : (psCfg s.live q).pre = some p) (hltc : isLtc p.id = true)
    (hen : (psCfg s.live q).en = true) (hdue : (psState s q).wrote < ltcNext s q) :
    ∃ r segs, ltcWrite q s = modPs q (ltcPlaced (ltcNext s q) r) { s with live := { s.live with segs } } ∧
      ((psState s q).last = none → r.1 = ltcLabel p p.zone (ltcUtc s p.id ((ltcNext s q : Int) + ltcShift s q).toNat)
        ((ltcNext s q : Int) + ltcShift s q).toNat) := by
  have hready : ¬(isLtc p.id = false ∨ (psCfg s.live q).en = false ∨ ltcNext s q ≤ (psState s q).wrote) := by
    simp [hltc, hen, hdue]
  unfold ltcWrite
  rw [hpre]
  dsimp only
  rw [if_neg hready]
  refine ⟨_, _, rfl, fun hfirst => ?_⟩
  rw [hfirst]

/-! ### The statement -/

/-- Settles O24: the strobes by `holdStrobe_first` and `countStrobe_both`, a segment by `SegEntered`, an LTC frame by
`ltcPlaced`. -/
theorem dacAndProfile : Obligations.DacAndProfile := by
  unfold Obligations.DacAndProfile
  refine ⟨?loadIn, ?loadInStopped, ?rangeEnd, ?faultCodes, ?flash, ?start, ?advance, ?unclocked, ?ltc⟩
  case loadIn =>
    intro s d hlive hruns h0 h1 hfar hsized hd hsrc hsafe hrange
    have hstrobe := (strobeSource_first (hit := (· == 1)) hlive hruns (by simp [h0]) (by simp [h1])).trans
      (holdStrobe_first hfar)
    have hgroup : groupStrobe 0 s d (dacState s d) = strobeDac s d (dacState s d) := if_pos (by omega)
    have hdac := (nth_mapIdx ({} : DacState) (f := groupStrobe 0 s) (by rw [Sized.dac hsized]; omega)).trans
      (hgroup.trans (strobeDac_hold hsrc hsafe hrange))
    exact ⟨_, congrArg Host.Outcome.next hstrobe, rfl, rfl, congrArg DacState.active hdac, congrArg DacState.wait hdac,
      fun e he => nth_mapIdx_kept _ fun x => if_neg (by omega), rfl⟩
  case loadInStopped =>
    intro s e hstopped
    exact congrArg Host.Outcome.next (strobeSource_stopped hstopped)
  case rangeEnd =>
    intro s d e hsized hd hend hover hsrc
    exact ⟨_, exec_rangeChangeEnd hend hover hsrc, nth_modNth_self ({} : DacState) _ (by rw [Sized.dac hsized]; exact hd),
      fun f hf => nth_modNth_other ({} : DacState) _ hf, rfl⟩
  case faultCodes =>
    intro s hsized hsafe hlive hcause h0 h1
    refine ⟨_, exec_faultCodeLoad hsafe hlive hcause h0 h1, rfl, rfl, rfl, fun d hd => ?_, rfl⟩
    have hdac := nth_mapIdx ({} : DacState) (f := faultLoaded s) (by rw [Sized.dac hsized]; exact hd)
    exact (congrArg DacState.fault hdac).trans (apply_ite DacState.fault _ _ _)
  case flash =>
    intro s codes hdue
    simp only [exec, execFaultValuesFlashWrite, hdue]
  case start =>
    intro s q u hsized hq hwaits hclock hpre hstart hdue
    have hexec : exec (.sequencerStart q) s = _ :=
      congrArg Host.Outcome.next ((if_pos hq).trans (psStart_due hclock hwaits hpre hstart hdue))
    obtain ⟨⟨label, hown⟩, hothers, hkept⟩ := enterSeg_entered (psCfg s.live q).first ((u : Int) + psOff s q).toNat (psStarted s q)
      (s := s) (by rw [Sized.ps hsized]; exact hq)
    exact ⟨_, hexec, congrArg PsState.st hown, congrArg PsState.seg hown, congrArg PsState.segStart hown,
      congrArg PsState.starts hown, congrArg PsState.cur hown, hothers, hkept⟩
  case advance =>
    intro s q hsized hq hruns hclock hend
    obtain ⟨v, hadvance⟩ := psAdvance_due hclock hruns hend
    have hexec : exec (.segmentEntry q) s = _ := congrArg Host.Outcome.next ((if_pos hq).trans hadvance)
    obtain ⟨⟨label, hown⟩, hothers, hkept⟩ := enterSeg_entered (nextSeg (psCfg s.live q) (psState s q)).1
      ((psState s q).segStart + segLen (psState s q).cur)
      (fun p => { p with prev := v, reps := (nextSeg (psCfg s.live q) (psState s q)).2 }) (s := s)
      (by rw [Sized.ps hsized]; exact hq)
    exact ⟨_, hexec, congrArg PsState.seg hown, congrArg PsState.reps hown, congrArg PsState.segStart hown,
      congrArg PsState.cur hown, (congrArg PsState.st hown).trans hruns, hothers, hkept⟩
  case unclocked =>
    intro s q hstopped
    constructor
    · simp only [exec, execSequencerStart, psStart_stopped hstopped, ite_self]
    · simp only [exec, execSegmentEntry, psAdvance_stopped hstopped, ite_self]
  case ltc =>
    intro s q p hsized hq hpre hltc hen hdue
    obtain ⟨r, segs, hwrite, hlabel⟩ := ltcWrite_due hpre hltc hen hdue
    have hown := psState_modPs_self (s := { s with live := { s.live with segs } }) (by rw [Sized.ps hsized]; exact hq)
      (ltcPlaced (ltcNext s q) r)
    obtain ⟨hwrote, hst, hlast⟩ := ltcPlaced_marks (ltcNext s q) r (psState s q)
    refine ⟨_, congrArg Host.Outcome.next ((if_pos hq).trans hwrite), (congrArg PsState.wrote hown).trans hwrote,
      (congrArg PsState.st hown).trans hst, fun hfirst => ?_, rfl⟩
    intro f l
    have hl : l = r.1 := (hlabel hfirst).symm
    rw [hown, hl]
    exact ⟨hlast, ltcPlaced_half _ _ _⟩

end Sys2Proof.Proofs
end

section
/-! Clock outputs, 1PPS_OUT, the AES3 receivers and the engines (R286, R287, R291, R340, R341, R349). -/
namespace Sys2Proof.Proofs
open Sys2Proof.Machine Sys2Proof.Laws

/-! ### What SAFE entry and the loss of a candidate leave of the AES3 receivers and of the engines -/

/-- The AES3 receivers, and the Crossbar with its engines. -/
def audio (s : State) : List RxState × XbState := (s.dg.rx, s.xb)

theorem rx_of_audio {s t : State} (h : audio t = audio s) : t.dg.rx = s.dg.rx := congrArg Prod.fst h
theorem xb_of_audio {s t : State} (h : audio t = audio s) : t.xb = s.xb := congrArg Prod.snd h

theorem audio_of_plant {s t : State} (h : t.plant = s.plant) : audio t = audio s := by
  have haudio := congrArg audio h
  exact haudio

theorem audio_respondTo (n status : Nat) (res : Bytes) (s : State) : audio (respondTo n status res s) = audio s :=
  audio_of_plant (plant_respondTo n status res s)

theorem audio_raiseIrq (b : Nat) (s : State) : audio (raiseIrq b s) = audio s := audio_of_plant (plant_raiseIrq b s)

theorem audio_lgEvent (code digest : Nat) (s : State) : audio (lgEvent code digest s) = audio s :=
  audio_of_plant (plant_lgEvent code digest s)

theorem audio_of_hsOnly {s t : State} : HsOnly s t → audio t = audio s := by
  rintro ⟨h, rfl⟩
  rfl

theorem audio_inOrder (rank : Nat) (s : State) : audio (inOrder rank s) = audio s := by
  unfold inOrder
  split <;> rfl

theorem audio_identAbandon (s : State) : audio (identAbandon s) = audio s := by
  unfold identAbandon
  split
  · rfl
  · dsimp only
    split
    · exact audio_respondTo _ _ _ _
    · rfl

theorem audio_fenceEval (s : State) : audio (fenceEval s) = audio s := by
  unfold fenceEval
  dsimp only
  split
  · rfl
  · split
    · rfl
    · exact audio_identAbandon _

theorem audio_setMode (m : Mode) (s : State) : audio (setMode m s) = audio s := by
  unfold setMode
  split
  · rfl
  · rw [audio_fenceEval, audio_raiseIrq, audio_lgEvent]
    rfl

theorem audio_setRole (r : Role) (s : State) : audio (setRole r s) = audio s := by
  unfold setRole
  split
  · exact audio_fenceEval s
  · have hevent : audio (raiseIrq 5 (lgEvent 0xFF04 (roleCode s.role + 256 * roleCode r + 65536 * s.tw.lastCause)
        { s with role := r })) = audio s := (audio_raiseIrq 5 _).trans (audio_lgEvent _ _ _)
    dsimp only
    rw [audio_fenceEval]
    generalize raiseIrq 5 _ = t at hevent ⊢
    rw [← hevent]
    repeat' split
    all_goals rfl

theorem audio_swapEnd (result : Nat) (s : State) : audio (swapEnd result s) = audio s := by
  unfold swapEnd
  split
  · rfl
  · exact audio_respondTo _ _ _ _

theorem audio_releaseChuck (cause : Nat) (s : State) : audio (releaseChuck cause s) = audio s := audio_setRole .fenced _

theorem audio_twinFault (s : State) : audio (twinFault s) = audio s := by
  unfold twinFault
  split
  · rfl
  · split
    · exact (audio_swapEnd 2 _).trans (audio_releaseChuck 1 s)
    · dsimp only
      split
      · exact audio_setRole .fenced _
      · rfl

/-- The transmitters stop at SAFE entry, the receivers go on (R35). -/
theorem audio_safeOutputs (s : State) : audio (safeOutputs s) = audio s := by
  unfold safeOutputs
  dsimp only
  split <;> rfl

theorem audio_enterSafe (causes : Nat) (s : State) : audio (enterSafe causes s) = audio s := by
  have hstanding : audio (safeStanding causes (safeStart causes s)) = audio s := by
    rw [safeStanding, audio_of_plant (plant_lgCloseAll _), audio_lgEvent, audio_raiseIrq, audio_setMode]
    rfl
  have hanswers : audio (safeAnswers (safeStanding causes (safeStart causes s))) = audio s :=
    (audio_of_plant (plant_safeAnswers _)).trans hstanding
  rw [enterSafe_eq, safeEnd, audio_safeOutputs, audio_twinFault]
  generalize safeAnswers _ = t at hanswers ⊢
  exact hanswers

theorem audio_raiseFault {s : State} (h : Running s.mode) (causes : Nat) : audio (raiseFault causes s) = audio s := by
  rw [raiseFault_of_running h, audio_enterSafe, audio_inOrder]

theorem audio_cancelLoopMoves (s : State) : audio (cancelLoopMoves s) = audio s := audio_of_hsOnly (hsOnly_cancelLoopMoves s)

theorem audio_hitlessSwitch (i : Nat) (s : State) : audio (hitlessSwitch i s) = audio s := by
  have hselect (u : State) : audio (selectCand i u) = audio u := rfl
  rw [hitlessSwitch, audio_of_hsOnly (hsOnly_moveGroups _ _ _), hselect, audio_cancelLoopMoves]

theorem audio_holdoverEntry (from6 : Bool) (s : State) : audio (holdoverEntry from6 s) = audio s := by
  have hcancel (k : TkState) : audio (cancelLoopMoves { s with tk := k }) = audio s := audio_cancelLoopMoves { s with tk := k }
  have hcoast (u : State) (k : TkState) : audio (setMode .holdover { u with tk := k }) = audio u :=
    audio_setMode .holdover { u with tk := k }
  unfold holdoverEntry
  dsimp only
  split
  · exact (hcoast _ _).trans (hcancel _)
  · exact (audio_setMode _ _).trans (hcancel _)

theorem audio_selectedLost (declared from6 : Bool) (s : State) : audio (selectedLost declared from6 s) = audio s := by
  unfold selectedLost
  dsimp only
  split
  · exact audio_inOrder rankLoss s
  · split
    · exact (audio_hitlessSwitch _ _).trans (audio_inOrder rankLoss s)
    · exact (audio_holdoverEntry _ _).trans (audio_inOrder rankLoss s)

theorem audio_toNoSignal (i : Nat) (s : State) : audio (toNoSignal i s) = audio s := by
  unfold toNoSignal
  dsimp only
  split <;> rfl

theorem audio_loseCand (i : Nat) (s : State) : audio (loseCand i s) = audio s := by
  unfold loseCand
  split
  · rfl
  · rfl
  · extract_lets tk s1 s2
    have hs2 : audio s2 = audio s := (audio_of_plant (plant_raiseAlarm blkTK s1)).trans (audio_toNoSignal i _)
    split
    · exact (audio_selectedLost _ _ s2).trans hs2
    · exact hs2

/-! ### AES3 receivers (R287, R349) -/

theorem Sized.rx {s : State} (h : Sized s) : s.dg.rx.length = 4 := by
  obtain ⟨-, -, -, -, hrx, -⟩ := h
  exact hrx

theorem Sized.asrc {s : State} (h : Sized s) : s.xb.asrc.length = 4 := by
  obtain ⟨-, -, -, -, -, -, -, -, -, -, -, -, hasrc, -⟩ := h
  exact hasrc

/-- A receiver that has lost its lock reads rate 7 (Table DG-12); the loss of its candidate changes no receiver. -/
theorem rxLose_rx {s : State} {n : Nat} (hlock : (nth {} s.dg.rx n).lock = true) :
    (rxLose n s).dg.rx = modNth (fun r => { r with lock := false, rate := 7 }) s.dg.rx n := by
  rw [rxLose, if_pos hlock]
  dsimp only
  split
  · exact rx_of_audio (audio_loseCand _ _)
  · rfl

/-! ### The engines (R286, R291) -/

/-- The FAULT comes once the frame is abandoned, with the number of the operations that were completed (R291). -/
theorem exec_engineFrameOverrun {s : State} {e k : Nat} (hen : (teCfg s.live e).en = true) (hruns : s.dataPlane = .running)
    (hk : k < (teCfg s.live e).len) : ∃ u, exec (.engineFrameOverrun e k) s = .next (raiseFault fOverrun u) ∧
      u.mode = s.mode ∧ u.xb.abandon = (e, k) :: s.xb.abandon :=
  ⟨_, if_pos ⟨hen, hruns, hk⟩, rfl, rfl⟩

/-- A map that keeps the default applies to every entry, listed or not. -/
theorem tabGet_map {α : Type} {d : α} {f : α → α} (hf : f d = d) (k : Nat) :
    ∀ t : Tab α, tabGet d (t.map fun e => (e.1, f e.2)) k = f (tabGet d t k)
  | [] => hf.symm
  | (j, v) :: t => by
    simp only [List.map_cons, tabGet, tabGet_map hf k t]
    exact (apply_ite f _ _ _).symm

theorem pubMeter_ended {x : OpState} {c n : Nat} {a b : Int} (h : x.ended = some (a, b, c, n)) : pubMeter x =
    { x with ended := none, pMin := a, pMax := b, pSum := c, pCount := n, epoch := nextEpoch x.epoch } := by
  rw [pubMeter, h]

theorem pubMeter_unended {x : OpState} (h : x.ended = none) : pubMeter x = x := by
  rw [pubMeter, h]

theorem op_pubMeters (s : State) (k : Nat) : tabGet {} (pubMeters s).xb.op k = pubMeter (tabGet {} s.xb.op k) :=
  tabGet_map (d := ({} : OpState)) rfl k s.xb.op

/-! ### The statement -/

/-- Settles O25: a receiver's loss by `rxLose_rx`, an overrun by `raiseFault_entered`, a meter window by `op_pubMeters`. -/
theorem outputsAndEngines : Obligations.OutputsAndEngines := by
  unfold Obligations.OutputsAndEngines
  refine ⟨?rephase, ?ppsRise, ?ppsFall, ?rxLock, ?rxLoss, ?rxKept, ?overrun, ?asrc, ?published, ?unended⟩
  case rephase =>
    intro s o hsized ho hlive hmode hlock hres hwaits
    obtain ⟨hself, hothers⟩ := gate_modGate hsized ho (fun g => { g with aligned := some s.clock })
    exact ⟨_, congrArg Host.Outcome.next (if_pos ⟨ho, hlive, hmode, hlock, hres, hwaits⟩), hself, hothers, rfl⟩
  case ppsRise =>
    intro s t0 hfrom hstarted hruns hsecond htime hsafe hhush
    refine congrArg Host.Outcome.next (if_pos ⟨?_, hruns, hsecond, ?_, hsafe, hhush⟩)
    · simp [hfrom, hstarted]
    · simp [htime]
  case ppsFall =>
    intro s hhigh hwidth
    exact congrArg Host.Outcome.next (if_pos ⟨hhigh, hwidth⟩)
  case rxLock =>
    intro s n r hsized hn hruns hlow hhigh
    have hself := nth_modNth_self ({} : RxState) (fun x => { x with lock := true, rate := rxRate r })
      (l := s.dg.rx) (i := n) (by rw [Sized.rx hsized]; exact hn)
    exact ⟨_, if_pos ⟨hn, hruns, hlow, hhigh, Nat.le_refl 2⟩, congrArg RxState.lock hself, congrArg RxState.rate hself,
      fun m hm => nth_modNth_other ({} : RxState) _ hm, rfl⟩
  case rxLoss =>
    intro s n k e hsized hn hlock hbad
    have hself := nth_modNth_self ({} : RxState) (fun x => { x with lock := false, rate := 7 })
      (l := s.dg.rx) (i := n) (by rw [Sized.rx hsized]; exact hn)
    rw [← rxLose_rx hlock] at hself
    exact ⟨_, congrArg Host.Outcome.next (if_pos hbad), congrArg RxState.lock hself, congrArg RxState.rate hself⟩
  case rxKept =>
    intro s n k e hk he
    exact congrArg Host.Outcome.next (if_neg (by dsimp only; omega))
  case overrun =>
    intro s e k hen hruns hk hmode
    obtain ⟨u, hexec, hkept, habandon⟩ := exec_engineFrameOverrun hen hruns hk
    have hrunning : Running u.mode := hkept ▸ hmode
    have hentered := raiseFault_entered hrunning fOverrun
    have hxb := xb_of_audio (audio_raiseFault hrunning fOverrun)
    exact ⟨_, hexec, hentered.mode, hentered.cause, (congrArg XbState.abandon hxb).trans habandon⟩
  case asrc =>
    intro s n r hsized hn hlock hlow hhigh hruns huses
    exact ⟨_, if_pos ⟨hn, hlock, hlow, hhigh, hruns, huses⟩,
      nth_modNth_self ({} : AsrcState) _ (by rw [Sized.asrc hsized]; exact hn),
      fun m hm => nth_modNth_other ({} : AsrcState) _ hm, rfl⟩
  case published =>
    intro s k c n a b hended
    exact ⟨_, rfl, (op_pubMeters s k).trans (pubMeter_ended hended), rfl⟩
  case unended =>
    intro s k hended
    exact ⟨_, rfl, (op_pubMeters s k).trans (pubMeter_unended hended)⟩

end Sys2Proof.Proofs
end

section
/-! The jack, the identification of accessories, MICBIAS and the buttons (R314, R316 to R319). -/
namespace Sys2Proof.Proofs
open Sys2Proof.Machine Sys2Proof.Laws

/-! ### What answers, interrupts and lane messages leave of the front panel -/

theorem fp_of_plant {s t : State} (h : t.plant = s.plant) : t.fp = s.fp := by
  have hfp := congrArg State.fp h
  exact hfp

@[simp] theorem raiseIrq_fp (b : Nat) (s : State) : (raiseIrq b s).fp = s.fp := fp_of_plant (plant_raiseIrq b s)

@[simp] theorem respondTo_fp (n status : Nat) (res : Bytes) (s : State) : (respondTo n status res s).fp = s.fp :=
  fp_of_plant (plant_respondTo n status res s)

theorem LaneWrites.fp {s t : State} : LaneWrites s t → t.fp = s.fp := by
  rintro ⟨ms, n, rfl⟩
  rfl

theorem LaneWrites.mb {s t : State} : LaneWrites s t → t.mb = s.mb := by
  rintro ⟨ms, n, rfl⟩
  rfl

@[simp] theorem relayAcc_fp (s : State) : (relayAcc s).fp = s.fp := (laneWrites_relayAcc s).fp

@[simp] theorem relayAcc_mb (s : State) : (relayAcc s).mb = s.mb := (laneWrites_relayAcc s).mb

/-! ### Removal and the end of an identification -/

/-- A removal ends everything that the accessory had (R314). -/
theorem jackOut_fp (s : State) : (jackOut s).fp =
    { s.fp with jack := false, jackEvents := satInc 16 s.fp.jackEvents, acc := 0, identAt := none, identCmd := none,
                identWaits := false, bias := false, hold := true, releaseAt := none, btn := 0, btnNew := 0, btnRun := 0 } := by
  cases hcmd : s.fp.identCmd <;> simp [jackOut, hcmd, modFp]

/-- The front panel with the result of an identification (Sequence FP-2, step 6), before MICBIAS follows. -/
def identified (res : Nat) (s : State) : State :=
  modFp (fun f => { f with
    acc := res, identAt := none, identCmd := none,
    releaseAt := if accFrees res || !s.live.hp.automute then some (s.clock + 20 * uPerMs) else none }) s

theorem identEnd_fp (res : Nat) (s : State) : (identEnd res s).fp = (biasEval (identified res s)).fp := by
  cases hcmd : s.fp.identCmd <;> simp [identEnd, identified, hcmd]

/-- The host is notified of the result. -/
theorem identEnd_irq (res : Nat) (s : State) : nbit (identEnd res s).mb.irqStatus 2 = true := by
  have hirq : nbit (relayAcc (raiseIrq 2 (biasEval (identified res s)))).mb.irqStatus 2 = true := by
    rw [relayAcc_mb]
    exact raiseIrq_sets 2 _
  unfold identEnd
  dsimp only
  split
  · exact (mailKept_respondTo (.refl _) _ stDone _).irq 2 hirq
  · exact hirq

theorem exec_identificationComplete {s : State} {t0 : Nat} (hruns : s.fp.identAt = some t0)
    (hdue : t0 + 39 * uPerMs ≤ s.clock) (a b ld : Nat) : exec (.identificationComplete a b ld) s =
      .next (identEnd (identResult (biasBand s a) (biasBand s b) ld) s) := by
  simp only [exec, execIdentificationComplete, hruns]
  exact if_neg (Nat.not_lt.2 hdue)

/-! ### A confirmed level of JACK_DET -/

theorem exec_jackConfirmed {s : State} (hchange : jackIn s ≠ s.fp.jack)
    (hheld : s.fp.jackSince + s.live.jack.deb * uPerMs ≤ s.clock) (hreset : s.pw.inReset = false) :
    exec .jackConfirmed s = .next (if jackIn s then jackInserted s else jackOut s) :=
  congrArg Host.Outcome.next (if_pos ⟨hchange, hheld, hreset⟩)

theorem exec_jackConfirmed_in {s : State} (hin : jackIn s = true) (hjack : s.fp.jack = false)
    (hheld : s.fp.jackSince + s.live.jack.deb * uPerMs ≤ s.clock) (hreset : s.pw.inReset = false) :
    exec .jackConfirmed s = .next (jackInserted s) := by
  rw [exec_jackConfirmed (by simp [hin, hjack]) hheld hreset, if_pos hin]

theorem exec_jackConfirmed_out {s : State} (hin : jackIn s = false) (hjack : s.fp.jack = true)
    (hheld : s.fp.jackSince + s.live.jack.deb * uPerMs ≤ s.clock) (hreset : s.pw.inReset = false) :
    exec .jackConfirmed s = .next (jackOut s) := by
  rw [exec_jackConfirmed (by simp [hin, hjack]) hheld hreset, if_neg (by simp [hin])]

/-- Without identification the clamp waits for its release alone. -/
theorem jackInserted_plain {s : State} (hacc : s.live.jack.acc = false) : jackInserted s =
    { s with fp := { s.fp with jack := true, jackEvents := satInc 16 s.fp.jackEvents,
                               releaseAt := some (s.clock + 20 * uPerMs) } } := if_pos hacc

/-- The start of an identification changes the front panel alone. -/
theorem identStart_frame (cmd : Option Nat) (f : FpState → FpState) (s : State) :
    { identStart cmd (modFp f s) with fp := s.fp } = s := rfl

/-- With identification, outside HUSH and SAFE and with the fence open, Sequence FP-2 starts (R318). -/
theorem jackInserted_identifies {s : State} (hacc : s.live.jack.acc = true) (hhush : s.mode ≠ .hush) (hsafe : s.mode ≠ .safe)
    (hfence : s.fenceOpen = true) (hlive : s.firstLive = true) : jackInserted s =
      identStart none (modFp (fun f => { f with jack := true, jackEvents := satInc 16 f.jackEvents }) s) := by
  simp [jackInserted, hacc, modFp, hhush, hsafe, hfence, hlive]

/-! ### MICBIAS -/

theorem biasEval_on {s : State} (hwanted : biasWanted s = true) (hallowed : biasAllowed s = true) :
    biasEval s = { s with fp := { s.fp with bias := true } } := by
  simp [biasEval, modFp, hwanted, hallowed]

/-! ### Buttons -/

/-- A free value drawn between two limits lies between them. -/
theorem between_of_mod {a b m : Nat} (x : Nat) (hab : a ≤ b) (hb : b < m) :
    a ≤ (a + x % (b - a + 1)) % m ∧ (a + x % (b - a + 1)) % m ≤ b := by
  have hlt : x % (b - a + 1) < b - a + 1 := Nat.mod_lt _ (Nat.succ_pos _)
  rw [Nat.mod_eq_of_lt (by omega)]
  omega

theorem exec_buttonWindow_early {s : State} (hearly : apart s.fp.btnAt uPerMs s = false) (a b : Nat) :
    exec (.buttonWindow a b) s = .next s := by
  refine congrArg Host.Outcome.next (if_neg ?_)
  simp [hearly]

theorem buttonDeclared_declares {s : State} (hnew : s.fp.btnNew ≠ s.fp.btn) (hdeb : s.live.jack.btnDeb ≤ s.fp.btnRun) :
    buttonDeclared s = raiseIrq 2 (modFp (fun f => { f with
      btn := f.btnNew, presses := if f.btnNew = 0 then f.presses else satInc 16 f.presses }) s) := if_pos ⟨hnew, hdeb⟩

/-! ### The statement -/

/-- Settles O26: an insertion by the two laws of `jackInserted`, a removal and the end of an identification by what they
leave in the front panel, a window by `between_of_mod`. -/
theorem frontPanelJack : Obligations.FrontPanelJack := by
  unfold Obligations.FrontPanelJack
  refine ⟨?change, ?insert, ?identify, ?remove, ?identified, ?release, ?fenceOff, ?fenceOn, ?window, ?early, ?declared,
    ?undecided⟩
  case change => exact fun s l hl => congrArg Host.Outcome.next (if_neg hl)
  case insert =>
    intro s hin hjack hheld hreset hacc
    rw [exec_jackConfirmed_in hin hjack hheld hreset, jackInserted_plain hacc]
  case identify =>
    intro s hin hjack hheld hreset hacc hhush hsafe hfence hlive
    have hexec := exec_jackConfirmed_in hin hjack hheld hreset
    rw [jackInserted_identifies hacc hhush hsafe hfence hlive] at hexec
    exact ⟨_, hexec, rfl, rfl, rfl, rfl, identStart_frame none _ s⟩
  case remove =>
    intro s hin hjack hheld hreset
    refine ⟨_, exec_jackConfirmed_out hin hjack hheld hreset, ?_⟩
    dsimp only
    rw [jackOut_fp]
    exact ⟨rfl, rfl, rfl, rfl, rfl, rfl, rfl, mode_of_key (key_jackOut s)⟩
  case identified =>
    intro s t0 a b ld hruns hdue
    refine ⟨_, exec_identificationComplete hruns hdue a b ld, ?_⟩
    dsimp only
    rw [identEnd_fp]
    refine ⟨rfl, rfl, identEnd_irq _ s, ?_, mode_of_key (key_identEnd _ s)⟩
    simp [identified, biasEval, modFp]
  case release =>
    intro s t0 hat hdue
    simp only [exec, execHpClampRelease, hat]
    exact congrArg Host.Outcome.next (if_pos hdue)
  case fenceOff => exact fun s htwin hfence hclosed => congrArg Host.Outcome.next (if_pos ⟨htwin, hfence, hclosed⟩)
  case fenceOn =>
    intro s hwanted hfence hopened
    exact congrArg Host.Outcome.next (biasEval_on hwanted (by simp [biasAllowed, hfence, hopened]))
  case window =>
    intro s a b hapart hbtn hacc hbias hruns hab hb hband
    obtain ⟨hlow, hhigh⟩ := between_of_mod (Config.freeNat s.freeCount) hab hb
    exact ⟨_, congrArg Host.Outcome.next (if_pos ⟨hbtn, hacc, hbias, hruns, hab, hapart⟩),
      (if_pos hband.symm).trans hband.symm, rfl, hlow, hhigh, rfl, rfl⟩
  case early => exact fun s a b hearly => exec_buttonWindow_early hearly a b
  case declared =>
    intro s hnew hdeb
    refine ⟨_, congrArg Host.Outcome.next (buttonDeclared_declares hnew hdeb), ?_⟩
    dsimp only
    rw [raiseIrq_fp]
    exact ⟨rfl, rfl, raiseIrq_sets 2 _, mode_of_key (key_raiseIrq 2 _)⟩
  case undecided => exact fun s hsame => congrArg Host.Outcome.next (if_neg fun h => h.1 hsame)

end Sys2Proof.Proofs
end

section
/-! The headphone amplifier and the sentinel (R310, R312, R313, R323, R325, R326, R328). -/
namespace Sys2Proof.Proofs
open Sys2Proof.Machine Sys2Proof.Laws

/-! ### The amplifier -/

@[simp] theorem respondAll_fp (ns : List Nat) (status : Nat) (res : Bytes) (s : State) : (respondAll ns status res s).fp = s.fp :=
  fp_of_plant (plant_respondAll ns status res s)

/-- A machine without deferred requests rests in the state that its action reaches (R78). -/
theorem enDone_of_empty {m : EnMachine} (hqueue : m.queue = []) (now : Nat) :
    enDone now m = ({ m with on := enTarget m, run := none, owners := [], queue := [] }, m.owners) := by
  simp [enDone, hqueue, enNext]

/-- The amplifier rests, with the machine's clamp open, after an action that no request waits for (R312). -/
theorem hpFinish_rests {s : State} {up : Bool} (hrun : s.fp.hp.run = some up) (hqueue : s.fp.hp.queue = []) :
    (hpFinish s).fp.hp.on = up ∧ (hpFinish s).fp.hp.run = none ∧ (hpFinish s).fp.clamp = false := by
  simp [hpFinish, enDone_of_empty hqueue, modFp, enTarget, hrun]

theorem hpEvent_due {s : State} {up : Bool} (hrun : s.fp.hp.run = some up)
    (hdue : s.fp.hp.since + 20 * uPerMs ≤ s.clock) (hsafe : s.fp.hpSafe = false) : hpEvent up s = hpFinish s :=
  if_pos ⟨hrun, hdue, hsafe⟩

theorem hpEvent_rest {s : State} (hrun : s.fp.hp.run = none) (up : Bool) : hpEvent up s = s :=
  if_neg (by simp [hrun])

/-- The end of an enable and of a disable. -/
theorem hpEvent_completes {s : State} {up : Bool} (hrun : s.fp.hp.run = some up) (hqueue : s.fp.hp.queue = [])
    (hdue : s.fp.hp.since + 20 * uPerMs ≤ s.clock) (hsafe : s.fp.hpSafe = false) :
    (hpEvent up s).fp.hp.on = up ∧ (hpEvent up s).fp.hp.run = none ∧ (hpEvent up s).fp.clamp = false ∧
      (hpEvent up s).mode = s.mode := by
  obtain ⟨hon, hrests, hclamp⟩ := hpFinish_rests hrun hqueue
  rw [hpEvent_due hrun hdue hsafe]
  exact ⟨hon, hrests, hclamp, mode_of_key (key_hpFinish s)⟩

/-! ### A detection -/

theorem sn_of_plant {s t : State} (h : t.plant = s.plant) : t.sn = s.sn := by
  have hsn := congrArg State.sn h
  exact hsn

@[simp] theorem raiseIrq_sn (b : Nat) (s : State) : (raiseIrq b s).sn = s.sn := sn_of_plant (plant_raiseIrq b s)

@[simp] theorem raiseAlarm_sn (blk : Nat) (s : State) : (raiseAlarm blk s).sn = s.sn := sn_of_plant (plant_raiseAlarm blk s)

@[simp] theorem lgEvent_sn (code digest : Nat) (s : State) : (lgEvent code digest s).sn = s.sn :=
  sn_of_plant (plant_lgEvent code digest s)

@[simp] theorem wakeTrigger_sn (s : State) : (wakeTrigger s).sn = s.sn := by
  unfold wakeTrigger
  split <;> rfl

@[simp] theorem wakeTrigger_mb (s : State) : (wakeTrigger s).mb = s.mb := by
  unfold wakeTrigger
  split <;> rfl

theorem mailKept_raiseAlarm {m : MbState} {s : State} (h : MailKept m s.mb) (blk : Nat) : MailKept m (raiseAlarm blk s).mb := by
  unfold raiseAlarm
  refine mailKept_raiseIrq ?_ 2
  exact ⟨h.pend, h.staging, h.stageBytes, h.gen, h.irq⟩

/-- What a detection leaves in the sentinel (R326): ALARM_OUT, its hold, and the record. -/
theorem snDetect_sn (sig : Nat) (s : State) : (snDetect sig s).sn =
    { s.sn with alarmOut := true, last := sig, detections := satInc 16 s.sn.detections, lastTime := s.spindle,
                during := s.sn.during || s.mb.cmds.any (fun c => c.opcode == 0x0817),
                holdEnd := if s.live.sn.holdS = 0 then none else some (s.clock + s.live.sn.holdS * uPerS) } := by
  unfold snDetect
  dsimp only
  split <;> split <;> simp [modSn]

theorem snDetect_irq (sig : Nat) (s : State) : nbit (snDetect sig s).mb.irqStatus 6 = true := by
  unfold snDetect
  dsimp only
  generalize lgEvent 0xFF07 sig _ = u
  have hirq := raiseIrq_sets 6 u
  have halarm := (mailKept_raiseAlarm (.refl (raiseIrq 6 u).mb) blkSN).irq 6 hirq
  split <;> split <;> simp only [wakeTrigger_mb, hirq, halarm]

/-! ### A block -/

theorem contBlock_detections (present : Bool) (hz : Nat) (n : SnState) : (contBlock present hz n).detections = n.detections := by
  unfold contBlock
  repeat' split
  all_goals rfl

theorem glassBlock_detections (level : Int) (b : SentinelBlock) (n : SnState) :
    (glassBlock level b n).1.detections = n.detections := by
  unfold glassBlock
  dsimp only
  repeat' split
  all_goals rfl

/-- The sentinel after a block with audio, before temporal-three and the detections: continuous tone and glass-break. -/
def tonesHeard (b : SentinelBlock) (s : State) : SnState :=
  (glassBlock s.live.sn.level b (contBlock (tonePresent s.live.sn b) b.peakHz { s.sn with loss := 0 })).1

theorem tonesHeard_detections (b : SentinelBlock) (s : State) : (tonesHeard b s).detections = s.sn.detections :=
  (glassBlock_detections _ _ _).trans (contBlock_detections _ _ _)

/-- With temporal-three alone enabled, the block that completes it does nothing but the detection (R325). -/
theorem audioBlock_t3 {s : State} {b : SentinelBlock} (ht3 : s.live.sn.t3 = true) (hcont : s.live.sn.cont = false)
    (hglass : s.live.sn.glass = false) (hcomplete : t3Complete s.live.sn.groups (tonePresent s.live.sn b) s.sn = true) :
    audioBlock b s = snDetect 1 { s with sn := t3Restart s.live.sn.groups (tonesHeard b s) } := by
  have hheard : t3Complete s.live.sn.groups (tonePresent s.live.sn b) { s.sn with loss := 0 } = true := hcomplete
  simp [audioBlock, tonesHeard, ht3, hcont, hglass, hheard]

/-- The block of this instant is noted (R323). -/
def blockNoted (s : State) : State := modSn (fun n => { n with blockAt := some s.clock }) s

/-- A block is analysed where the sentinel works and 10 ms have passed since the last one (R323). -/
theorem snBlock_analysed {s : State} (hworks : snWorks s = true) (hapart : apart s.sn.blockAt (10 * uPerMs) s = true)
    (b : SentinelBlock) : snBlock b s =
      if b.audio then audioBlock b (blockNoted s) else modSn lossBlock (blockNoted s) :=
  if_neg (by simp [hworks, hapart])

theorem snBlock_idle {s : State} (hidle : snWorks s = false ∨ apart s.sn.blockAt (10 * uPerMs) s = false)
    (b : SentinelBlock) : snBlock b s = s := if_pos hidle

theorem snWorks_false {s : State} (h : s.mode = .boot ∨ s.mode = .configure ∨ s.live.sn.en = false) : snWorks s = false := by
  rcases h with h | h | h <;> simp [snWorks, h]

/-! ### The statement -/

/-- Settles O27: an action of the amplifier by `hpEvent_completes`, a detection by `audioBlock_t3` and what `snDetect`
leaves. -/
theorem headphoneAndSentinel : Obligations.HeadphoneAndSentinel := by
  unfold Obligations.HeadphoneAndSentinel
  refine ⟨fun s hrun hqueue hdue hsafe => ⟨_, rfl, hpEvent_completes hrun hqueue hdue hsafe⟩,
    fun s hrun hqueue hdue hsafe => ⟨_, rfl, hpEvent_completes hrun hqueue hdue hsafe⟩, ?rest, ?safe, ?limit, ?detection,
    ?silent, ?early, ?idle, ?hold⟩
  case rest =>
    intro s hrun
    exact ⟨congrArg Host.Outcome.next (hpEvent_rest hrun true), congrArg Host.Outcome.next (hpEvent_rest hrun false)⟩
  case safe =>
    intro s hsafe hdue
    refine ⟨_, congrArg Host.Outcome.next (if_pos ⟨hsafe, hdue⟩), ?_⟩
    dsimp only
    rw [respondAll_fp]
    exact ⟨rfl, rfl, mode_of_key (key_respondAll _ _ _ _)⟩
  case limit =>
    intro s r hon
    exact congrArg Host.Outcome.next (if_pos (by simp [hpPowered, hon]))
  case detection =>
    intro s b hworks hapart haudio ht3 hcont hglass hcomplete
    have hdetect := audioBlock_t3 (s := blockNoted s) ht3 hcont hglass hcomplete
    have hblock := (snBlock_analysed hworks hapart b).trans ((if_pos haudio).trans hdetect)
    refine ⟨_, congrArg Host.Outcome.next hblock, ?_⟩
    dsimp only
    rw [snDetect_sn]
    exact ⟨rfl, rfl, congrArg (satInc 16) (tonesHeard_detections b _), rfl, snDetect_irq 1 _, rfl, mode_of_key (key_snDetect 1 _)⟩
  case silent =>
    intro s b hworks hapart haudio
    exact congrArg Host.Outcome.next ((snBlock_analysed hworks hapart b).trans (if_neg (by simp [haudio])))
  case early => exact fun s b hearly => congrArg Host.Outcome.next (snBlock_idle (.inr hearly) b)
  case idle => exact fun s b hmode => congrArg Host.Outcome.next (snBlock_idle (.inl (snWorks_false hmode)) b)
  case hold =>
    intro s t0 hat hdue
    simp only [exec, execAlarmOutHoldExpiry, hat]
    exact congrArg Host.Outcome.next (if_pos hdue)

end Sys2Proof.Proofs
end

section
/-! A step runs the command at the front of the queue, and a row of a command acts only on the command that starts (R399):
what holds of the four kinds of command rows alike. -/
namespace Sys2Proof.Proofs
open Sys2Proof.Machine Sys2Proof.Laws

/-- Settles O1: the queue of the statement is the branch of `step` that takes a command. -/
theorem stepRunsFrontCommand : Obligations.StepRunsFrontCommand := by
  unfold Obligations.StepRunsFrontCommand
  intro s c q hqueue
  simp only [step, hqueue]

/-- The row of a command of opcode `op`, with the ordering class `k` whose next command it starts. -/
abbrev CommandRow (i : Instr) (k : OrdClass) (op : Nat) : Prop :=
  rowKind i = (k, .staged op) ∨ rowKind i = (k, .direct op) ∨ rowKind i = (k, .status op) ∨ rowKind i = (k, .immediate op)

section Row
variable {i : Instr} {k : OrdClass} {op : Nat}

/-- A command row of any kind but staged runs `startNow`. -/
theorem exec_startNow (s : State)
    (hi : rowKind i = (k, .direct op) ∨ rowKind i = (k, .status op) ∨ rowKind i = (k, .immediate op)) :
    ∃ run, exec i s = .next (startNow k op run s) := by
  rcases hi with hi | hi | hi
  · obtain ⟨_, hexec⟩ := exec_of_direct s hi
    exact ⟨_, hexec⟩
  · obtain ⟨_, _, hexec⟩ := exec_of_status s hi
    exact ⟨_, hexec⟩
  · obtain ⟨_, hexec, -⟩ := exec_of_immediate s hi
    exact ⟨_, hexec⟩

/-- Without a command of the opcode to start, the row changes nothing. -/
theorem exec_of_no_start {s : State} (hi : CommandRow i k op) (hnone : starting k op s = none) : exec i s = .next s := by
  rcases hi with hi | hi
  · obtain ⟨_, hexec⟩ := exec_of_staged s hi
    simp only [hexec, startStaged, hnone]
  · obtain ⟨_, hexec⟩ := exec_startNow s hi
    simp only [hexec, startNow, hnone]

/-- A command of the class that has not got its final or an intermediate response holds the others of its class back. -/
theorem starting_behind {s : State} {d : Cmd} {cs : List Cmd} (op : Nat) (hcmds : s.mb.cmds = d :: cs) (hclass : d.order = k)
    (hwaiting : d.phase ≠ .waiting) (hmid : d.phase ≠ .mid) : starting k op s = none := by
  have hfront : frontOf k s.mb.cmds = none := by
    rw [hcmds, frontOf, if_pos hclass]
    split
    · next h => exact absurd h hwaiting
    · next h => exact absurd h hmid
    · rfl
  simp [starting, hfront]

/-- Settles O38: in each of the three cases no command of the opcode starts. -/
theorem commandsStartInOrder : Obligations.CommandsStartInOrder := by
  unfold Obligations.CommandsStartInOrder
  refine ⟨?none, ?behind, ?away⟩
  case none => exact fun _ _ _ _ hi hnone => exec_of_no_start hi hnone
  case behind =>
    intro i k op s d cs hi hcmds hclass hwaiting hmid
    exact exec_of_no_start hi (starting_behind op hcmds hclass hwaiting hmid)
  case away =>
    intro i k op s hi haway
    exact exec_of_no_start hi (by simp [starting, haway])

/-- A command that starts and that mode or first commit keep from its rules is answered with that status (R397). -/
theorem exec_of_mode_gate {s : State} {c : Cmd} {status : Nat} (hi : CommandRow i k op) (hc : starting k op s = some c)
    (hroom : (lgLogged op 0 && lgBlocked op s) = false) (hgate : modeGate s op = some status) :
    exec i s = .next (respond c status [] s) := by
  have hstart : startGate s op = some status := by
    rw [startGate, if_neg (by simpa using hroom), hgate]
  rcases hi with hi | hi
  · obtain ⟨_, hexec⟩ := exec_of_staged s hi
    simp only [hexec, startStaged, hc, hgate]
  · obtain ⟨_, hexec⟩ := exec_startNow s hi
    simp only [hexec, startNow, hc, hstart]

/-- A command whose DONE would be logged is answered RESOURCE while the queue for flash is full (R463). -/
theorem exec_of_full_queue {s : State} {c : Cmd} (hi : rowKind i = (k, .direct op) ∨ rowKind i = (k, .immediate op))
    (hc : starting k op s = some c) (hlogged : lgLogged op 0 = true) (hfull : 4096 ≤ s.lg.queue.length) :
    exec i s = .next (respond c stResource [] s) := by
  have hblocked : lgBlocked op s = true := by simp [lgBlocked, hfull]
  have hstart : startGate s op = some stResource := if_pos ⟨hlogged, hblocked⟩
  obtain ⟨_, hexec⟩ := exec_startNow s (hi.imp_right .inr)
  simp only [hexec, startNow, hc, hstart]

/-- The row answers the command and does nothing else: only the mailbox, the ledger and the window change. -/
theorem next_of_respond {s : State} {c : Cmd} {status : Nat} (hready : HostReady s c)
    (hexec : exec i s = .next (respond c status [] s)) :
    Next i s fun t => Answered s t c status [] ∧ t.plant = s.plant ∧ t.mb.staging = s.mb.staging ∧ t.mb.pend = s.mb.pend :=
  have hkept := mailKept_respond (MailKept.refl s.mb) c status []
  ⟨_, hexec, answered_respond hready status [], plant_respond c status [] s, hkept.staging, hkept.pend⟩

end Row

/-- Settles O39: each case is a branch of `modeGate`, and the full queue one of `startGate`. -/
theorem commandsRefusedByMode : Obligations.CommandsRefusedByMode := by
  unfold Obligations.CommandsRefusedByMode
  refine ⟨?recovery, ?safe, ?firstCommit, ?fullQueue⟩
  case recovery =>
    intro i k op s c hi hc hmode hop hready hroom
    exact next_of_respond hready (exec_of_mode_gate hi hc hroom (if_pos ⟨hmode, hop⟩))
  case safe =>
    intro i k op s c hi hc hmode hop hready hroom
    refine next_of_respond hready (exec_of_mode_gate hi hc hroom ?_)
    rw [modeGate, if_neg (by simp [hmode]), if_pos ⟨hmode, hop⟩]
  case firstCommit =>
    intro i k op s c hi hc hboot hsafe hfirst hop hready hroom
    refine next_of_respond hready (exec_of_mode_gate hi hc hroom ?_)
    rw [modeGate, if_neg (by simp [hboot]), if_neg (by simp [hsafe]), if_pos ⟨hfirst, hop⟩]
  case fullQueue =>
    intro i k op s c hi hc hlogged hfull hready
    exact next_of_respond hready (exec_of_full_queue hi hc hlogged hfull)

end Sys2Proof.Proofs
end

section
/-! MB_CANCEL (R407): its last clause says of a commit at its boundary what O36 says, and fails in the same way. -/
namespace Sys2Proof.Proofs
open Sys2Proof.Machine

/-- Refutes O51: its last clause says that the committed tables are live word for word (`t.live = p.tables`). A commit that
builds the running LTC preset again leaves the frames that the firmware has written in the segments (`keepLtc`). -/
theorem not_cancelRow : ¬ Obligations.CancelRow := by
  unfold Obligations.CancelRow
  rintro ⟨-, -, -, commitGoesLive⟩
  obtain ⟨t, hexec, -, -, -, hlive⟩ := commitGoesLive ltcCommitDue ltcCommit rfl (by decide) (by decide) (.inl rfl)
  have ht : commitLive ltcCommitDue = t := Host.Outcome.next.inj hexec
  rw [← ht, commitLive_ltc_live] at hlive
  exact keepLtc_ne_committed hlive

end Sys2Proof.Proofs
end

section
/-! RING_TIME_DUE (R436) sends one TIME frame for each whole millisecond of Spindle time. -/
namespace Sys2Proof.Proofs
open Sys2Proof.Machine

/-- The Spindle master of a ring, that has sent TIME for the millisecond in which it is. -/
def masterTimeSent : State :=
  { pw := { inReset := false, boot := .done }, mode := .locked, role := .solo, timeValid := true, firstLive := true,
    live := { igMaster := 5 }, ig := { forwarding := true, addr := 5, pos := 3, timeMs := some 0 } }

/-- Nothing is due until the next millisecond. -/
theorem timeDue_sent : timeDue masterTimeSent = masterTimeSent := by
  simp only [timeDue]
  exact if_neg (by decide)

/-- Refutes O33: its first clause has the master send TIME whenever RING_TIME_DUE runs. A master sends it once for each
whole millisecond (R436): when that of this millisecond is out, the row changes nothing. The clause lacks the premise
`s.ig.timeMs ≠ some (s.spindle / uPerMs)`. -/
theorem not_ringTimeAndBarriers : ¬ Obligations.RingTimeAndBarriers := by
  unfold Obligations.RingTimeAndBarriers
  rintro ⟨masterSends, -⟩
  obtain ⟨t, hexec, hout, -, -⟩ := masterSends masterTimeSent (by decide) (by decide)
  have ht : timeDue masterTimeSent = t := Host.Outcome.next.inj hexec
  rw [← ht, timeDue_sent] at hout
  exact List.cons_ne_nil _ _ hout.symm

end Sys2Proof.Proofs
end

section
/-! PT_FW_ACTIVATE (R468, R470): a boot header whose count is the highest stays in force. -/
namespace Sys2Proof.Proofs
open Sys2Proof.Machine Sys2Proof.Laws

/-- The slot that PT_FW_ACTIVATE names: the one that is not running, or the running one. -/
def namedSlot (c : Cmd) (s : State) : Bool := if u8 c.payload 0 = 0 then !runningB s else runningB s

/-- A slot that no write has begun to change and that verifies is activated: the header names it. -/
theorem fwActivateRun_verified {c : Cmd} {s : State} (hslot : u8 c.payload 0 ≤ 1) (hroot : u8 c.payload 1 ≤ 3)
    (hidle : s.pt.writing = none) (himage : (fwSlot s (namedSlot c s)).image = none)
    (hverifies : (fwSlot s (namedSlot c s)).verifies = true) :
    fwActivateRun c s = respond c stDone [] (modPt (writeHeader (u8 c.payload 1) (namedSlot c s)) s) := by
  have hverdict : fwVerdict (fwSlot s (namedSlot c s)) = none := by simp [fwVerdict, himage, hverifies]
  have hfields : ¬ (u8 c.payload 0 > 1 ∨ u8 c.payload 1 > 3) := by omega
  unfold namedSlot at hverdict ⊢
  simp [fwActivateRun, hfields, hidle, hverdict]

theorem pt_of_plant {s t : State} (h : t.plant = s.plant) : t.pt = s.pt := by
  have hpt := congrArg State.pt h
  exact hpt

@[simp] theorem respond_pt (c : Cmd) (status : Nat) (res : Bytes) (s : State) : (respond c status res s).pt = s.pt :=
  pt_of_plant (plant_respond c status res s)

/-- The bytes of a boot header without its CRC: it prefers slot A, and its count is the highest that there is. -/
def highestHeaderBody : Bytes :=
  [0x56, 0x44, 0x42, 0x48] ++ le 2 1 ++ le 1 0 ++ le 1 0 ++ le 4 0xFFFFFFFF ++ zeros 16

/-- A good header with that body. -/
def highestHeader : Bytes := highestHeaderBody ++ le 4 (crc32 highestHeaderBody)

/-- PT_FW_ACTIVATE of the slot that is not running, which is B. -/
def activateSlotB : Cmd :=
  { n := 0, origin := 0, order := .zero, tag := 9, opcode := 0x0D11, expert := false, auth := false, cred := 0, seq := 1,
    sched := none, payload := [0, 0, 0, 0], phase := .waiting, ringNo := 0, mute := false, doomed := false }

/-- A device with that header, the command waiting. -/
def activateAtHighest : State :=
  { pw := { inReset := false, boot := .done }, mode := .freerun, role := .solo, pt := { hdr0 := highestHeader },
    mb := { cmds := [activateSlotB] } }

set_option maxRecDepth 20000 in
/-- The count of the new copy wraps to 0, and the old copy, which prefers slot A, stays in force. -/
theorem prefB_writeHeader_highest : prefB (writeHeader 0 true activateAtHighest.pt) = false := by decide

/-- Refutes O55: its third clause says that the boot header prefers the activated slot whatever its count was. The copy with
the higher count is in force (R468), and the count of a new copy wraps at 2^32: after the count 0xFFFFFFFF the copy that
PT_FW_ACTIVATE writes has the count 0 and is not in force. -/
theorem not_firmwareRows : ¬ Obligations.FirmwareRows := by
  unfold Obligations.FirmwareRows
  rintro ⟨-, -, activates, -, -, -, -⟩
  have hc : starting .zero 0x0D11 activateAtHighest = some activateSlotB := by decide
  have hgate : startGate activateAtHighest 0x0D11 = none := by decide
  obtain ⟨t, hexec, hpref, -⟩ := activates .zero activateAtHighest activateSlotB hc hgate (by decide) (by decide) rfl
    (by decide) (by decide) (by decide)
  have hrun : startNow .zero 0x0D11 fwActivateRun activateAtHighest = t := Host.Outcome.next.inj hexec
  rw [startNow_starting hc hgate, fwActivateRun_verified (by decide) (by decide) rfl (by decide) (by decide)] at hrun
  have hcode : u8 activateSlotB.payload 1 = 0 := by decide
  have hslot : namedSlot activateSlotB activateAtHighest = true := by decide
  have hpt : t.pt = writeHeader 0 true activateAtHighest.pt := by
    rw [← hrun, respond_pt, hcode, hslot, modPt]
  rw [hpt, prefB_writeHeader_highest] at hpref
  exact absurd hpref (by decide)

end Sys2Proof.Proofs
end

section
/-! The ledger (R460 to R466, R478): closing, storing and erasing entries, and LG_EXPORT and LG_FLUSH. -/
namespace Sys2Proof.Proofs
open Sys2Proof.Machine Sys2Proof.Laws

/-! ### Rules of the ledger's operations -/

/-- Without LG_RETAIN a closed entry of the unit's own finds a place while fewer than 4,096 wait (R463). -/
theorem lgPut_fits {s : State} (hroom : s.lg.queue.length < 4096) (hretain : s.pt.retain = false) (e : LgEntry) :
    lgPut e s = lgOwn e s := by
  simp [lgPut, hroom, lgReserveOut, lgLastPlace, lgOwn, hretain]

theorem lgPut_full {s : State} (hfull : 4096 ≤ s.lg.queue.length) (e : LgEntry) :
    lgPut e s = { s with lg := { s.lg with lost := satInc 16 s.lg.lost } } :=
  if_neg fun h => absurd h.1 (by omega)

/-- The ledger without open entries. -/
def noneOpen (s : State) : State := { s with lg := { s.lg with open_ := [] } }

/-- The one open entry closes when it is due. -/
theorem lgCloseDue_due {s : State} {o : OpenEntry} (hopen : s.lg.open_ = [o]) (hdue : o.first + 100 * uPerMs ≤ s.clock) :
    lgCloseDue s = lgPut o.e (noneOpen s) := by
  simp [lgCloseDue, hopen, lgDue, hdue, noneOpen]

theorem lgCloseDue_early {s : State} {o : OpenEntry} (hopen : s.lg.open_ = [o]) (hearly : s.clock < o.first + 100 * uPerMs) :
    lgCloseDue s = s := by
  have hdue : lgDue s o = false := by simp [lgDue, hearly]
  have hsame : { s with lg := { s.lg with open_ := [o] } } = s := by rw [← hopen]
  simp [lgCloseDue, hopen, hdue, hsame]

@[simp] theorem raiseAlarm_lg (blk : Nat) (s : State) : (raiseAlarm blk s).lg = s.lg := raiseIrq_lg 2 _

@[simp] theorem raiseAlarm_cmds (blk : Nat) (s : State) : (raiseAlarm blk s).mb.cmds = s.mb.cmds := raiseIrq_cmds 2 _

/-- What the ALARM at 90 % leaves of the ledger and of the command list. -/
theorem lgAlarm_kept (s : State) : (∃ b, (lgAlarm s).lg = { s.lg with alarmed := b }) ∧ (lgAlarm s).mb.cmds = s.mb.cmds := by
  unfold lgAlarm
  dsimp only
  split
  · exact ⟨⟨_, raiseAlarm_lg blkLG _⟩, raiseAlarm_cmds blkLG _⟩
  · exact ⟨⟨_, rfl⟩, rfl⟩

/-- The erasing ahead keeps the entry that was stored last (R464). -/
theorem lgWrap_kept {s : State} {e : LgEntry} {n : Nat} (hhead : s.lg.flash.head? = some (n, e)) (hnext : s.lg.next = n + 1) :
    ∃ oldest flash, lgWrap s = { s with lg := { s.lg with oldest, flash } } ∧ flash.head? = some (n, e) := by
  unfold lgWrap lgEraseTo
  split
  · split
    · exact ⟨_, _, rfl, hhead⟩
    · refine ⟨_, _, rfl, ?_⟩
      obtain ⟨es, hes⟩ := List.head?_eq_some_iff.1 hhead
      rw [hes, hnext, List.filter_cons_of_pos (by simp), List.head?_cons]
  · exact ⟨_, _, rfl, hhead⟩

/-- The state in which the entry that waits longest has its serial, before what follows from it. -/
def entryStored (e : LgEntry) (q : List LgEntry) (s : State) : State :=
  { s with lg := { s.lg with queue := q, flash := (s.lg.next, e) :: s.lg.flash, next := s.lg.next + 1 } }

/-- LEDGER_FLASH_WRITE without LG_RETAIN (R460, R464): apart from what the flush commands do, the ledger has one entry
more in flash. -/
theorem lgStore_flushStep {s : State} {e : LgEntry} {q : List LgEntry} (hreset : s.pw.inReset = false)
    (hqueue : s.lg.queue = e :: q) (hretain : s.pt.retain = false) :
    ∃ t oldest flash alarmed, lgStore s = lgFlushStep t ∧ flash.head? = some (s.lg.next, e) ∧
      t.lg = { s.lg with queue := q, next := s.lg.next + 1, oldest, flash, alarmed } ∧ t.mb.cmds = s.mb.cmds := by
  let sent := if twinPos (entryStored e q s) = true ∧ e.mirror = false then laneSend 6 (lgBytes e) (entryStored e q s)
    else entryStored e q s
  have hsent : sent.lg = (entryStored e q s).lg ∧ sent.mb = s.mb ∧ sent.pt = s.pt := by
    show (ite _ _ _ : State).lg = _ ∧ (ite _ _ _ : State).mb = _ ∧ (ite _ _ _ : State).pt = _
    split <;> exact ⟨rfl, rfl, rfl⟩
  obtain ⟨hlg, hmb, hpt⟩ := hsent
  obtain ⟨oldest, flash, hwrap, hhead⟩ := lgWrap_kept (s := sent) (e := e) (n := s.lg.next) (by rw [hlg]; rfl) (by rw [hlg]; rfl)
  obtain ⟨⟨alarmed, halarm⟩, hcmds⟩ := lgAlarm_kept (lgWrap sent)
  have hfull : ∀ was, lgFullEvent was (lgAlarm (lgWrap sent)) = lgAlarm (lgWrap sent) := by
    intro was
    have hpt' : (lgAlarm (lgWrap sent)).pt = s.pt := by
      rw [← hpt, hwrap]
      exact pt_of_plant (plant_lgAlarm _)
    simp [lgFullEvent, lgFull, hpt', hretain]
  refine ⟨lgAlarm (lgWrap sent), oldest, flash, alarmed, ?_, hhead, ?_, ?_⟩
  · rw [← hfull (lgFull s)]
    simp only [lgStore, hreset, hqueue]
    rfl
  · rw [halarm, hwrap, hlg]
    rfl
  · rw [hcmds, hwrap, ← hmb]

/-- No LG_FLUSH waits. -/
def noFlush (s : State) : State := { s with lg := { s.lg with flush := [] } }

/-! ### What the entry of a command leaves -/

/-- The commands LG_FLUSH that wait, and the highest serial returned. -/
def ledgerMarks (s : State) : List (Nat × Nat) × Nat := (s.lg.flush, s.lg.exported)

theorem marks_lgPut (e : LgEntry) (s : State) : ledgerMarks (lgPut e s) = ledgerMarks s := by
  unfold lgPut lgLastPlace
  split
  · split <;> rfl
  · rfl

theorem marks_foldl {α : Type} (f : State → α → State) (hf : ∀ t a, ledgerMarks (f t a) = ledgerMarks t) (l : List α) :
    ∀ s, ledgerMarks (l.foldl f s) = ledgerMarks s := by
  induction l with
  | nil => exact fun _ => rfl
  | cons a l ih => exact fun s => (ih (f s a)).trans (hf s a)

theorem marks_lgDirect (e : LgEntry) (key : Bytes) (s : State) : ledgerMarks (lgDirect e key s) = ledgerMarks s := by
  unfold lgDirect
  dsimp only
  split
  · exact marks_foldl (fun t x => lgPut x t) (fun t x => marks_lgPut x t) _ _
  · split
    · next o os _ =>
      split
      · exact marks_lgPut o.e { s with lg := { s.lg with open_ := os } }
      · rfl
    · rfl

theorem marks_lgCommand (c : Cmd) (status : Nat) (s : State) : ledgerMarks (lgCommand c status s) = ledgerMarks s := by
  unfold lgCommand
  split
  · rfl
  · dsimp only
    split
    · exact marks_lgDirect _ _ s
    · exact marks_lgPut _ s

theorem rspSend_kept (c : Cmd) (slot : Bytes) (s : State) :
    (rspSend c slot s).lg = s.lg ∧ (rspSend c slot s).mb.cmds = s.mb.cmds := by
  unfold rspSend
  split
  · exact ⟨rfl, rfl⟩
  · split
    · unfold ringSend
      split <;> exact ⟨rfl, rfl⟩
    · unfold rspHost
      split
      · exact ⟨rspWrite_lg slot s, rspWrite_cmds slot s⟩
      · exact ⟨rfl, rfl⟩

/-- A final response takes its command off the list and leaves the marks. -/
theorem respondFinal_kept (c : Cmd) (status : Nat) (res : Bytes) (s : State) :
    ledgerMarks (respondFinal c status res s) = ledgerMarks s ∧
      (respondFinal c status res s).mb.cmds = s.mb.cmds.filter (fun d => d.n != c.n) := by
  unfold respondFinal
  dsimp only
  obtain ⟨hlg, hcmds⟩ := rspSend_kept c (rspSlot s c.tag (if c.doomed then stFault else status) c.opcode true false false res) s
  refine ⟨?_, ?_⟩
  · exact (marks_lgCommand c _ _).trans (by simp [ledgerMarks, hlg])
  · simp [dropCmd, (ledgerOnly_lgCommand c _ _).mb, hcmds]

theorem marks_settleDrains : ∀ (n : Nat) (s : State), ledgerMarks (settleDrains n s) = ledgerMarks s
  | 0, _ => rfl
  | n + 1, s => by
    unfold settleDrains
    split
    · rfl
    · exact (marks_settleDrains n _).trans (respondFinal_kept _ _ _ s).1

theorem marks_respond (c : Cmd) (status : Nat) (res : Bytes) (s : State) :
    ledgerMarks (respond c status res s) = ledgerMarks s :=
  (marks_settleDrains _ _).trans (respondFinal_kept c status res s).1

/-- The answer of the only outstanding command: nothing is left, so no drain is due. -/
theorem respond_only {s : State} {c : Cmd} (hcmds : s.mb.cmds = [c]) (status : Nat) (res : Bytes) :
    respond c status res s = respondFinal c status res s ∧ (respond c status res s).mb.cmds = [] := by
  have hnone : (respondFinal c status res s).mb.cmds = [] := by
    rw [(respondFinal_kept c status res s).2, hcmds]
    simp
  have hresp : respond c status res s = respondFinal c status res s := by
    simp [respond, hnone, settleDrains]
  exact ⟨hresp, hresp ▸ hnone⟩

/-! ### The events -/

/-- Settles O34: closing by `lgCloseDue_due`, storing by `lgStore_flushStep`, erasing by the branches of `lgErase`. -/
theorem ledgerEvents : Obligations.LedgerEvents := by
  unfold Obligations.LedgerEvents
  refine ⟨?closes, ?stays, ?lost, ?stored, ?flushed, ?empty, ?erased, ?held⟩
  case closes =>
    intro s o hopen hdue hroom hretain
    refine ⟨_, congrArg Host.Outcome.next ((lgCloseDue_due hopen hdue).trans (lgPut_fits (s := noneOpen s) hroom hretain o.e)), ?_⟩
    exact ⟨rfl, rfl, rfl, rfl⟩
  case stays => exact fun s o hopen hearly => congrArg Host.Outcome.next (lgCloseDue_early hopen hearly)
  case lost =>
    intro s o hopen hdue hfull
    exact congrArg Host.Outcome.next ((lgCloseDue_due hopen hdue).trans (lgPut_full (s := noneOpen s) hfull o.e))
  case stored =>
    intro s e q hreset hqueue hretain hflush
    obtain ⟨t, oldest, flash, alarmed, hstore, hhead, hlg, -⟩ := lgStore_flushStep hreset hqueue hretain
    have hstep : lgFlushStep t = noFlush t := by simp [lgFlushStep, hlg, hflush, respondAll, noFlush]
    refine ⟨_, congrArg Host.Outcome.next (hstore.trans hstep), ?_⟩
    simp [noFlush, hlg, hhead]
  case flushed =>
    intro s e q c hreset hqueue hretain hflush hcmds _
    obtain ⟨t, oldest, flash, alarmed, hstore, -, hlg, htcmds⟩ := lgStore_flushStep hreset hqueue hretain
    have hstep : lgFlushStep t = respond c stDone [] (noFlush t) := by
      simp [lgFlushStep, hlg, hflush, respondAll, respondTo, htcmds, hcmds, noFlush]
    refine ⟨_, congrArg Host.Outcome.next (hstore.trans hstep), ?_⟩
    obtain ⟨-, hdone⟩ := respond_only (s := noFlush t) (htcmds.trans hcmds) stDone []
    exact ⟨congrArg Prod.fst (marks_respond c stDone [] (noFlush t)), hdone⟩
  case empty =>
    intro s hqueue
    refine congrArg Host.Outcome.next ?_
    cases hreset : s.pw.inReset <;> simp [lgStore, hreset, hqueue]
  case erased =>
    intro s n hreset hn hreleased hnext
    have herase : lgErase s = lgAlarm (lgEraseTo n s) := by
      simp only [lgErase, ← hn]
      exact if_pos ⟨hreset, hreleased, hnext⟩
    have hto : lgEraseTo n s = { s with lg := { s.lg with oldest := n, flash := s.lg.flash.filter (fun e => decide (n ≤ e.1)) } } :=
      if_neg (by omega)
    obtain ⟨⟨alarmed, halarm⟩, -⟩ := lgAlarm_kept (lgEraseTo n s)
    refine ⟨_, congrArg Host.Outcome.next herase, ?_⟩
    dsimp only
    rw [halarm, hto]
    exact ⟨rfl, rfl, rfl, rfl, rfl⟩
  case held =>
    intro s hheld
    refine congrArg Host.Outcome.next (if_neg ?_)
    omega

/-! ### LG_EXPORT and LG_FLUSH -/

theorem length_lgBytes (e : LgEntry) : (lgBytes e).length = 32 := by simp [lgBytes]

/-- A response lies in the response ring, below the bulk buffer: the bytes of the buffer stay (Table MB-2). -/
theorem bulk_respond {s : State} {c : Cmd} (hready : HostReady s c) (status : Nat) (res : Bytes) {a : Nat} (ha : 0x7000 ≤ a)
    (n : Nat) : memReadList (respond c status res s) a n = memReadList s a n := by
  obtain ⟨-, -, -, -, -, hwf, -⟩ := id hready
  have hmem : (respond c status res s).mem =
      (memWriteList (0x5000 + 32 * (s.mb.rspHead % 256)) (rspSlot s c.tag status c.opcode true false false res) s).mem := by
    rw [respond_of_ready hready]
    simp [(ledgerOnly_lgCommand c status _).mem]
  have hread : ∀ j, tabGet 0 (respond c status res s).mem (a + j) = tabGet 0 s.mem (a + j) := by
    intro j
    rw [hmem]
    exact memRead_memWriteList_other _ _ _ s hwf (.inr (by rw [length_rspSlot]; omega))
  unfold memReadList
  rw [tabRead_eq_map, tabRead_eq_map]
  exact List.map_congr_left fun j _ => hread j

theorem respond_exported (c : Cmd) (status : Nat) (res : Bytes) (s : State) :
    (respond c status res s).lg.exported = s.lg.exported := congrArg Prod.snd (marks_respond c status res s)

/-- Whether a response can be written depends on the mailbox and on the form of the window's bytes. -/
theorem hostReady_of_mailbox {s t : State} {c : Cmd} (hmb : t.mb = s.mb) (hwf : memWf t) (hready : HostReady s c) :
    HostReady t c := by
  obtain ⟨horigin, hmute, hdoomed, hnothing, hroom, -, hdrain⟩ := hready
  have hunread : rspUnread t = rspUnread s := by simp only [rspUnread, hmb]
  exact ⟨horigin, hmute, hdoomed, hmb ▸ hnothing, hunread ▸ hroom, hwf, hmb ▸ hdrain⟩

/-- The entry `e` has been copied to the place in the bulk buffer that LG_EXPORT names (R465). -/
def entryExported (c : Cmd) (e : LgEntry) (s : State) : State :=
  let s1 := memWriteList (0x8000 + u32 c.payload 8) (lgBytes e) s
  { s1 with lg := { s1.lg with exported := if s1.lg.exported < u32 c.payload 0 then u32 c.payload 0 else s1.lg.exported } }

/-- The window's bytes are those of the write. -/
theorem entryExported_mem (c : Cmd) (e : LgEntry) (s : State) :
    (entryExported c e s).mem = (memWriteList (0x8000 + u32 c.payload 8) (lgBytes e) s).mem := rfl

theorem entryExported_mb (c : Cmd) (e : LgEntry) (s : State) : (entryExported c e s).mb = s.mb := by simp [entryExported]

theorem plant_entryExported (c : Cmd) (e : LgEntry) (s : State) : (entryExported c e s).plant = s.plant := by
  simp [entryExported, State.plant, memWriteList]

theorem hostReady_entryExported {c : Cmd} {s : State} (hready : HostReady s c) (e : LgEntry) :
    HostReady (entryExported c e s) c := by
  have hwf : memWf (entryExported c e s) := by
    obtain ⟨-, -, -, -, -, hwf, -⟩ := hready
    rw [memWf, entryExported_mem]
    exact memWf_memWriteList _ _ s hwf
  exact hostReady_of_mailbox (s := s) (entryExported_mb c e s) hwf hready

theorem memReadList_entryExported {s : State} (hwf : memWf s) (c : Cmd) (e : LgEntry) :
    memReadList (entryExported c e s) (0x8000 + u32 c.payload 8) 32 = lgBytes e := by
  have hread := memReadList_memWriteList (0x8000 + u32 c.payload 8) (lgBytes e) s hwf
  rw [length_lgBytes] at hread
  rwa [memReadList, entryExported_mem]

/-- LG_EXPORT with a right region and a serial that is held, where one entry lies in the range. -/
theorem runLgExport_one {c : Cmd} {s : State} {e : LgEntry} (hsome : 1 ≤ u16 c.payload 4) (hmost : u16 c.payload 4 ≤ 2048)
    (halign : u32 c.payload 8 % 4 = 0) (hregion : u32 c.payload 8 + 32 * u16 c.payload 4 ≤ 65536)
    (hheld : s.lg.oldest ≤ u32 c.payload 0) (hgiven : u32 c.payload 0 < s.lg.next)
    (hrange : s.lg.flash.filter (fun e => decide (u32 c.payload 0 ≤ e.1) && decide (e.1 < u32 c.payload 0 + u16 c.payload 4)) =
      [(u32 c.payload 0, e)]) :
    ∃ res, runLgExport c s = respond c stDone res (entryExported c e s) := by
  refine ⟨le 4 (u32 c.payload 0) ++ le 2 1 ++ zeros 2 ++ le 4 (s.lg.next - 1), ?_⟩
  unfold runLgExport
  dsimp only
  rw [if_neg (by omega), hrange]
  simp only [List.reverse_singleton, List.length_singleton, List.flatMap_singleton, Nat.add_sub_cancel]
  rfl

theorem lgCloseAll_none {s : State} (hopen : s.lg.open_ = []) : lgCloseAll s = s := by
  have hsame : { s with lg := { s.lg with open_ := [] } } = s := by rw [← hopen]
  simp [lgCloseAll, hopen, hsame]

/-- Settles O54: the bytes of the bulk buffer by `bulk_respond`, the answers by the branches of `runLgExport` and
`runLgFlush`. -/
theorem ledgerCommandRows : Obligations.LedgerCommandRows := by
  unfold Obligations.LedgerCommandRows
  refine ⟨?exports, ?refused, ?flushIdle, ?flushWaits⟩
  case exports =>
    intro k s c e hc hgate hsome hmost halign hregion hheld hgiven hrange hready
    obtain ⟨res, hrun⟩ := runLgExport_one hsome hmost halign hregion hheld hgiven hrange
    refine ⟨_, congrArg Host.Outcome.next ((startNow_starting hc hgate _).trans hrun), ?_⟩
    obtain ⟨-, -, -, -, -, hwf, -⟩ := id hready
    have hready' := hostReady_entryExported hready e
    obtain ⟨-, hhead, -⟩ := answered_respond hready' stDone res
    rw [entryExported_mb] at hhead
    refine ⟨?_, respond_exported c stDone res _, hhead, (plant_respond c stDone res _).trans (plant_entryExported c e s)⟩
    rw [bulk_respond hready' stDone res (by omega : 0x7000 ≤ 0x8000 + u32 c.payload 8), memReadList_entryExported hwf]
  case refused =>
    intro k s c hc hgate hwrong hready
    have hrun : runLgExport c s = respond c stBad [] s := by
      unfold runLgExport
      dsimp only
      rw [if_pos (by omega)]
    refine ⟨_, congrArg Host.Outcome.next ((startNow_starting hc hgate _).trans hrun), ?_⟩
    exact ⟨answered_respond hready stBad [], respond_exported c stBad [] s, plant_respond c stBad [] s⟩
  case flushIdle =>
    intro k s c hc hgate hopen hqueue hready
    have hrun : runLgFlush c s = respond c stDone [] s := by simp [runLgFlush, lgCloseAll_none hopen, hqueue]
    refine ⟨_, congrArg Host.Outcome.next ((startNow_starting hc hgate _).trans hrun), ?_⟩
    exact ⟨answered_respond hready stDone [], plant_respond c stDone [] s⟩
  case flushWaits =>
    intro k s c hc hgate hopen hqueue
    have hrun : runLgFlush c s =
        setPhase c.n .running { s with lg := { s.lg with flush := s.lg.flush ++ [(c.n, s.lg.queue.length)] } } := by
      simp [runLgFlush, lgCloseAll_none hopen, hqueue]
    refine ⟨_, congrArg Host.Outcome.next ((startNow_starting hc hgate _).trans hrun), ?_⟩
    exact ⟨rfl, setPhase_phase, rfl, rfl⟩

end Sys2Proof.Proofs
end

section
/-! Protection (chapter 15): change records, two-party changes, and the locks of the credential slots. -/
namespace Sys2Proof.Proofs
open Sys2Proof.Machine Sys2Proof.Laws

/-! ### Change records (R457) -/

/-- What one record makes of the protection state. -/
def changedPt (key : Option Bytes) (seq : Nat) (p : PtState) (r : Rec) : PtState := (putChange key seq { pt := p } r).pt

/-- A record acts on the protection state, or on the released serial of the ledger, and on nothing else. -/
theorem putChange_eq (key : Option Bytes) (seq : Nat) (s : State) (r : Rec) :
    ∃ l, putChange key seq s r = { s with pt := changedPt key seq s.pt r, lg := l } := by
  unfold changedPt putChange
  dsimp only
  split <;> exact ⟨_, rfl⟩

theorem putChanges_eq (key : Option Bytes) (seq : Nat) (rs : List Rec) :
    ∀ s, ∃ l, putChanges key seq rs s = { s with pt := rs.foldl (changedPt key seq) s.pt, lg := l } := by
  induction rs with
  | nil => exact fun s => ⟨s.lg, rfl⟩
  | cons r rs ih =>
    intro s
    obtain ⟨l, hl⟩ := putChange_eq key seq s r
    obtain ⟨l', hl'⟩ := ih (putChange key seq s r)
    refine ⟨l', ?_⟩
    rw [putChanges, List.foldl_cons, List.foldl_cons, ← putChanges, hl', hl]

theorem putChanges_pt (key : Option Bytes) (seq : Nat) (rs : List Rec) (s : State) :
    (putChanges key seq rs s).pt = rs.foldl (changedPt key seq) s.pt := by
  obtain ⟨l, hl⟩ := putChanges_eq key seq rs s
  rw [hl]

/-- The next proposal takes the identifier after `n`; the one that expired last is forgotten (R458). -/
def proposalTaken (n : Nat) (p : PtState) : PtState := { p with nextProp := (n + 1) % 2 ^ 32, expired := none }

/-- No proposal is held. -/
def proposalClosed (p : PtState) : PtState := { p with proposal := none }

section Records
variable {key : Option Bytes} {seq : Nat}

theorem changedPt_proposalTaken (n : Nat) (p : PtState) (r : Rec) :
    changedPt key seq (proposalTaken n p) r = proposalTaken n (changedPt key seq p r) := by
  unfold changedPt putChange
  dsimp only
  split <;> rfl

theorem changedPt_proposalClosed (p : PtState) (r : Rec) :
    changedPt key seq (proposalClosed p) r = proposalClosed (changedPt key seq p r) := by
  unfold changedPt putChange
  dsimp only
  split <;> rfl

/-- No record touches the proposal or its numbers: applying records commutes with a change `g` of these. -/
theorem foldl_changedPt {g : PtState → PtState} (hg : ∀ p r, changedPt key seq (g p) r = g (changedPt key seq p r))
    (rs : List Rec) : ∀ p, rs.foldl (changedPt key seq) (g p) = g (rs.foldl (changedPt key seq) p) := by
  induction rs with
  | nil => exact fun _ => rfl
  | cons r rs ih =>
    intro p
    rw [List.foldl_cons, List.foldl_cons, hg, ih]

end Records

/-! ### PT_PROPOSE, PT_CONFIRM and PT_WITHDRAW (R458, R477) -/

/-- Records that are right, when no proposal is held. -/
structure RightProposal (c : Cmd) (s : State) (rs : List Rec) : Prop where
  recs : proposeRecs c.payload = some rs
  free : s.pt.proposal = none
  released : rs.all (releaseOk s) = true
  officers : officersOk rs s = true

/-- In a device that is not protected the records of an unauthenticated proposal apply at once (R451). -/
theorem proposeRun_applies {c : Cmd} {s : State} {rs : List Rec} (h : RightProposal c s rs)
    (hopen : isProtected s.pt.cred = false) (hauth : c.auth = false) :
    ∃ res, proposeRun c s =
      respond c stDone res (drawFree (putChanges none c.seq rs (modPt (proposalTaken s.pt.nextProp) s))).2 := by
  obtain ⟨hrecs, hfree, hreleased, hofficers⟩ := h
  simp only [proposeRun, hrecs, hfree, hreleased, hofficers, hopen, proposerKey, hauth]
  exact ⟨_, rfl⟩

/-- In a protected device they are held, for 120 s (R458). -/
theorem proposeRun_holds {c : Cmd} {s : State} {rs : List Rec} (h : RightProposal c s rs)
    (hprotected : isProtected s.pt.cred = true) :
    ∃ res, proposeRun c s = respond c stDone res (modPt (fun t => { proposalTaken s.pt.nextProp t with
      proposal := some { id := s.pt.nextProp, digest := digest64 (le 4 s.pt.nextProp ++ c.payload.drop 8), recs := rs,
                         slot := c.cred, origin := c.origin, seq := c.seq, until_ := s.clock + 120 * uPerS } }) s) := by
  obtain ⟨hrecs, hfree, hreleased, hofficers⟩ := h
  simp only [proposeRun, hrecs, hfree, hreleased, hofficers, hprotected]
  exact ⟨_, rfl⟩

/-- A confirmation by another slot that names the proposal, in its window, where the origins need not differ (R458). -/
theorem confirmRun_applies {c : Cmd} {s : State} {q : Proposal} (hheld : s.pt.proposal = some q) (hwindow : s.clock < q.until_)
    (hauth : c.auth = true) (hother : c.cred ≠ q.slot) (hsplit : s.pt.splitOrigin = false) (hid : u32 c.payload 0 = q.id)
    (hdigest : u64 c.payload 8 = q.digest) :
    confirmRun c s =
      respond c stDone [] (putChanges (some (credSlot s q.slot).secret) q.seq q.recs (modPt proposalClosed s)) := by
  have hsecond : ¬ (c.auth = false ∨ c.cred = q.slot ∨ (s.pt.splitOrigin = true ∧ c.origin = q.origin)) := by
    simp [hauth, hother, hsplit]
  have hnamed : ¬ (u32 c.payload 0 ≠ q.id ∨ u64 c.payload 8 ≠ q.digest) := by simp [hid, hdigest]
  simp only [confirmRun, hheld, if_neg (Nat.not_le.2 hwindow), if_neg hsecond, if_neg hnamed]
  rfl

/-- The proposing slot, or nobody, confirms nothing (R458). -/
theorem confirmRun_sameSlot {c : Cmd} {s : State} {q : Proposal} (hheld : s.pt.proposal = some q) (hwindow : s.clock < q.until_)
    (hparty : c.auth = false ∨ c.cred = q.slot) : confirmRun c s = respond c stAccess [] s := by
  simp only [confirmRun, hheld, if_neg (Nat.not_le.2 hwindow)]
  exact if_pos (hparty.imp_right .inl)

theorem cancelProposal_pt (s : State) : (cancelProposal s).pt = proposalClosed s.pt := by
  unfold cancelProposal
  split
  · next hnone => simp only [proposalClosed, ← hnone]
  · next q _ =>
    obtain ⟨l, hl⟩ := ledgerOnly_lgEvent 0xFF09 q.digest { s with pt := { s.pt with proposal := none } }
    rw [hl]
    rfl

theorem respond_mode (c : Cmd) (status : Nat) (res : Bytes) (s : State) : (respond c status res s).mode = s.mode :=
  mode_of_plant (plant_respond c status res s)

theorem respond_live (c : Cmd) (status : Nat) (res : Bytes) (s : State) : (respond c status res s).live = s.live :=
  live_of_plant (plant_respond c status res s)

/-- Settles O53: each clause is one branch of `proposeRun`, `confirmRun` or `withdrawRun`; records commute with the numbers
of the proposal by `foldl_changedPt`. -/
theorem proposalRows : Obligations.ProposalRows := by
  unfold Obligations.ProposalRows
  refine ⟨?applied, ?held, ?malformed, ?confirmed, ?sameSlot, ?nothing, ?late, ?withdrawn, ?noneHeld⟩
  case applied =>
    intro k s c rs hc hgate hrecs hfree hreleased hofficers hopen hauth
    obtain ⟨res, hrun⟩ := proposeRun_applies ⟨hrecs, hfree, hreleased, hofficers⟩ hopen hauth
    obtain ⟨l, hl⟩ := putChanges_eq none c.seq rs (modPt (proposalTaken s.pt.nextProp) s)
    rw [hl] at hrun
    refine ⟨_, congrArg Host.Outcome.next ((startNow_starting hc hgate _).trans hrun), ?_, respond_mode _ _ _ _, respond_live _ _ _ _⟩
    rw [respond_pt, putChanges_pt]
    exact foldl_changedPt (changedPt_proposalTaken s.pt.nextProp) rs s.pt
  case held =>
    intro k s c rs hc hgate hrecs hfree hreleased hofficers hprotected
    obtain ⟨res, hrun⟩ := proposeRun_holds ⟨hrecs, hfree, hreleased, hofficers⟩ hprotected
    refine ⟨_, congrArg Host.Outcome.next ((startNow_starting hc hgate _).trans hrun), ?_⟩
    dsimp only
    rw [respond_pt]
    exact ⟨rfl, rfl, rfl, rfl, rfl⟩
  case malformed =>
    intro k s c hc hgate hrecs hready
    have hrun : proposeRun c s = respond c stBad [] s := by simp only [proposeRun, hrecs]
    refine ⟨_, congrArg Host.Outcome.next ((startNow_starting hc hgate _).trans hrun), ?_⟩
    exact ⟨answered_respond hready stBad [], plant_respond c stBad [] s⟩
  case confirmed =>
    intro k s c q hc hgate hheld hwindow hauth hother hsplit hid hdigest
    have hrun := confirmRun_applies hheld hwindow hauth hother hsplit hid hdigest
    obtain ⟨l, hl⟩ := putChanges_eq (some (credSlot s q.slot).secret) q.seq q.recs (modPt proposalClosed s)
    rw [hl] at hrun
    refine ⟨_, congrArg Host.Outcome.next ((startNow_starting hc hgate _).trans hrun), ?_, respond_mode _ _ _ _, respond_live _ _ _ _⟩
    rw [respond_pt, putChanges_pt]
    exact foldl_changedPt changedPt_proposalClosed q.recs s.pt
  case sameSlot =>
    intro k s c q hc hgate hheld hwindow hparty hready
    have hrun := confirmRun_sameSlot hheld hwindow hparty
    refine ⟨_, congrArg Host.Outcome.next ((startNow_starting hc hgate _).trans hrun), ?_⟩
    exact ⟨answered_respond hready stAccess [], plant_respond c stAccess [] s⟩
  case nothing =>
    intro k s c hc hgate hfree hexpired hready
    have hrun : confirmRun c s = respond c stState [] s := by simp only [confirmRun, hfree, if_neg hexpired]
    refine ⟨_, congrArg Host.Outcome.next ((startNow_starting hc hgate _).trans hrun), ?_⟩
    exact ⟨answered_respond hready stState [], plant_respond c stState [] s⟩
  case late =>
    intro k s c hc hgate hfree hexpired hready
    have hrun : confirmRun c s = respond c stWindow [] s := by simp only [confirmRun, hfree, if_pos hexpired]
    refine ⟨_, congrArg Host.Outcome.next ((startNow_starting hc hgate _).trans hrun), ?_⟩
    exact ⟨answered_respond hready stWindow [], plant_respond c stWindow [] s⟩
  case withdrawn =>
    intro k s c q hc hgate hheld hid
    have hrun : withdrawRun c s = respond c stDone [] (cancelProposal s) := by simp only [withdrawRun, hheld, if_pos hid]
    refine ⟨_, congrArg Host.Outcome.next ((startNow_starting hc hgate _).trans hrun), ?_⟩
    obtain ⟨p, l, hframe⟩ := cancelProposal_frame s
    dsimp only
    rw [respond_pt, cancelProposal_pt, respond_live, respond_mode, hframe]
    exact ⟨rfl, rfl, rfl⟩
  case noneHeld =>
    intro k s c hc hgate hfree hready
    have hrun : withdrawRun c s = respond c stState [] s := by simp only [withdrawRun, hfree]
    refine ⟨_, congrArg Host.Outcome.next ((startNow_starting hc hgate _).trans hrun), ?_⟩
    exact ⟨answered_respond hready stState [], plant_respond c stState [] s⟩

/-! ### The end of a window, and of a lock (R454, R458) -/

/-- A function that leaves entry `i` as it is leaves the list as it is. -/
theorem modNth_of_fixed {α : Type} (d : α) {f : α → α} : ∀ {l : List α} {i : Nat}, f (nth d l i) = nth d l i → modNth f l i = l
  | [], _, _ => rfl
  | x :: xs, 0, h => congrArg (· :: xs) (h : f x = x)
  | x :: xs, i + 1, h => congrArg (x :: ·) (modNth_of_fixed d (l := xs) (i := i) h)

theorem length_cred {s : State} (h : Sized s) : s.pt.cred.length = 8 := by
  obtain ⟨_, _, _, _, _, _, _, _, _, _, _, _, _, _, _, hcred, _⟩ := h
  exact hcred

theorem credSlot_modCred_self {s : State} {i : Nat} (f : CredSlot → CredSlot) (hi : i < s.pt.cred.length) :
    credSlot (modCred i f s) i = f (credSlot s i) := nth_modNth_self ({} : CredSlot) f hi

theorem credSlot_modCred_other {i j : Nat} (f : CredSlot → CredSlot) (s : State) (hj : j ≠ i) :
    credSlot (modCred i f s) j = credSlot s j := nth_modNth_other ({} : CredSlot) f hj

theorem modCred_of_fixed {s : State} {i : Nat} {f : CredSlot → CredSlot} (hf : f (credSlot s i) = credSlot s i) :
    modCred i f s = s := by
  have hcred : modNth f s.pt.cred i = s.pt.cred := modNth_of_fixed ({} : CredSlot) hf
  simp only [modCred, hcred]

/-- A slot at the time `now`: a lock that has lasted 10 s is over (R454). -/
def unlockedSlot (now : Nat) (c : CredSlot) : CredSlot :=
  match c.lockedAt with
  | some t => if t + 10 * uPerS ≤ now then { c with lockedAt := none } else c
  | none => c

theorem slotUnlock_eq (i : Nat) (s : State) : slotUnlock i s = modCred i (unlockedSlot s.clock) s := rfl

theorem unlockedSlot_over {now n : Nat} {c : CredSlot} (hlocked : c.lockedAt = some n) (hover : n + 10 * uPerS ≤ now) :
    unlockedSlot now c = { c with lockedAt := none } := by
  simp only [unlockedSlot, hlocked, if_pos hover]

theorem unlockedSlot_early {now n : Nat} {c : CredSlot} (hlocked : c.lockedAt = some n) (hearly : now < n + 10 * uPerS) :
    unlockedSlot now c = c := by
  simp only [unlockedSlot, hlocked, if_neg (Nat.not_le.2 hearly)]

/-- Settles O35: the window by the branches of `proposalExpire`, a lock by what `modNth` leaves of the other slots. -/
theorem protectionEvents : Obligations.ProtectionEvents := by
  unfold Obligations.ProtectionEvents
  refine ⟨?expired, ?stays, ?unlocked, ?locked⟩
  case expired =>
    intro s q hheld hover
    have hexpire : proposalExpire s = modPt (fun t => { t with expired := some q.id }) (cancelProposal s) := by
      simp only [proposalExpire, hheld, if_pos hover]
    obtain ⟨p, l, hframe⟩ := cancelProposal_frame s
    have hpt : p = proposalClosed s.pt := by rw [← cancelProposal_pt, hframe]
    rw [hframe, hpt] at hexpire
    exact ⟨_, congrArg Host.Outcome.next hexpire, rfl, rfl, rfl⟩
  case stays =>
    intro s q hheld hopen
    refine congrArg Host.Outcome.next ?_
    simp only [proposalExpire, hheld, if_neg (Nat.not_le.2 hopen)]
  case unlocked =>
    intro s i n hsized hi hlocked hover
    have hslot : credSlot (modCred i (unlockedSlot s.clock) s) i = { credSlot s i with lockedAt := none } := by
      rw [credSlot_modCred_self _ (by rw [length_cred hsized]; exact hi), unlockedSlot_over hlocked hover]
    refine ⟨_, congrArg Host.Outcome.next (slotUnlock_eq i s), ?_⟩
    dsimp only
    rw [hslot]
    exact ⟨rfl, rfl, rfl, rfl, fun j _ hj => credSlot_modCred_other _ s hj, rfl⟩
  case locked =>
    intro s i n hlocked hearly
    have hsame : slotUnlock i s = s := (slotUnlock_eq i s).trans (modCred_of_fixed (unlockedSlot_early hlocked hearly))
    exact ⟨_, congrArg Host.Outcome.next hsame, hlocked, rfl⟩

end Sys2Proof.Proofs
end

section
/-! Session, staging and twin commands that act when they start (R376, R379, R381, R402, R408, R409, R419). -/
namespace Sys2Proof.Proofs
open Sys2Proof.Machine Sys2Proof.Laws

/-! ### What a response leaves of the mailbox -/

theorem raiseIrq_mb (b : Nat) (s : State) : ∃ irqStatus, (raiseIrq b s).mb = { s.mb with irqStatus } := by
  unfold raiseIrq
  split
  · exact ⟨s.mb.irqStatus, rfl⟩
  · exact ⟨_, rfl⟩

theorem rspWrite_mb (slot : Bytes) (s : State) : ∃ rspHead irqStatus, (rspWrite slot s).mb = { s.mb with rspHead, irqStatus } := by
  obtain ⟨irqStatus, hmb⟩ := raiseIrq_mb 0 { memWriteList (0x5000 + 32 * (s.mb.rspHead % 256)) slot s with
    mb := { s.mb with rspHead := (s.mb.rspHead + 1) % 65536 } }
  exact ⟨(s.mb.rspHead + 1) % 65536, irqStatus, hmb⟩

/-- A final response to the host port touches the command list, the head of the response ring and the interrupt bits. -/
theorem respond_mb_of_ready {s : State} {c : Cmd} (hready : HostReady s c) (status : Nat) (res : Bytes) :
    ∃ cmds rspHead irqStatus, (respond c status res s).mb = { s.mb with cmds, rspHead, irqStatus } := by
  rw [respond_of_ready hready]
  have hled := (ledgerOnly_lgCommand c status (rspWrite (rspSlot s c.tag status c.opcode true false false res) s)).mb
  obtain ⟨rspHead, irqStatus, hmb⟩ := rspWrite_mb (rspSlot s c.tag status c.opcode true false false res) s
  simp only [dropCmd, hled, hmb]
  exact ⟨_, _, _, rfl⟩

/-! ### The staging area -/

/-- The state with that staging area, its size and that partial image. -/
def withStaging (staging : Option Staging) (size : Nat) (image : Option (Nat × Bytes)) (s : State) : State :=
  { s with mb := { s.mb with staging, stageBytes := size, image } }

/-- A row that changes the staging area and answers. -/
theorem next_staging {i : Instr} {s : State} {c : Cmd} {status size : Nat} {staging : Option Staging}
    {image : Option (Nat × Bytes)} (hexec : exec i s = .next (respond c status [] (withStaging staging size image s)))
    (hready : HostReady s c) :
    Next i s fun t => t.mb.staging = staging ∧ t.mb.stageBytes = size ∧ t.mb.image = image ∧ Answered s t c status [] ∧
      t.plant = s.plant ∧ t.mb.pend = s.mb.pend := by
  have hready' : HostReady (withStaging staging size image s) c := hready
  obtain ⟨cmds, rspHead, irqStatus, hmb⟩ := respond_mb_of_ready hready' status []
  refine ⟨_, hexec, ?_, ?_, ?_, answered_respond hready' status [], plant_respond c status [] _, ?_⟩ <;> rw [hmb] <;> rfl

section Image
variable {k : OrdClass} {s : State} {c : Cmd} (hc : starting k 0x0214 s = some c) (hgate : startGate s 0x0214 = none)
include hc hgate

/-- An MB_IMAGE_LOAD that starts runs `runImageLoad`. -/
theorem exec_imageLoad {t : State} (hrun : runImageLoad c s = t) : exec (.mbImageLoad k) s = .next t :=
  congrArg Host.Outcome.next ((startNow_starting hc hgate _).trans hrun)

end Image

section Segment
variable {s : State} {c : Cmd} {n : Nat} {got : Bytes}

/-- The first segment of several discards any open staging and begins the image (R419). -/
theorem runImageLoad_first (hpos : u32 c.payload 0 = 0) (hmore : (c.payload.drop 8).length < u32 c.payload 4) :
    runImageLoad c s = respond c stDone [] (withStaging none 0 (some (u32 c.payload 4, c.payload.drop 8)) s) := by
  have hfits : ¬ (u32 c.payload 4 ≠ u32 c.payload 4 ∨ ([] : Bytes).length ≠ 0 ∨ (c.payload.drop 8).length > u32 c.payload 4) := by
    simp only [List.length_nil]
    omega
  simp only [runImageLoad, hpos, if_pos, if_neg hfits, Nat.zero_add, hmore, List.nil_append]
  rfl

variable (hpos : u32 c.payload 0 ≠ 0) (himage : s.mb.image = some (n, got))
include hpos himage

/-- A segment that continues the partial image and is not the last one. -/
theorem runImageLoad_next (htotal : n = u32 c.payload 4) (horder : got.length = u32 c.payload 0)
    (hmore : u32 c.payload 0 + (c.payload.drop 8).length < u32 c.payload 4) :
    runImageLoad c s = respond c stDone []
      (withStaging s.mb.staging s.mb.stageBytes (some (u32 c.payload 4, got ++ c.payload.drop 8)) s) := by
  have hfits : ¬ (n ≠ u32 c.payload 4 ∨ got.length ≠ u32 c.payload 0 ∨
      u32 c.payload 0 + (c.payload.drop 8).length > u32 c.payload 4) := by omega
  simp only [runImageLoad, if_neg hpos, himage, if_neg hfits, if_pos hmore]
  rfl

/-- A segment out of order discards the partial image. -/
theorem runImageLoad_disorder (hwrong : n ≠ u32 c.payload 4 ∨ got.length ≠ u32 c.payload 0 ∨
      n < u32 c.payload 0 + (c.payload.drop 8).length) :
    runImageLoad c s = respond c stBad [] (withStaging s.mb.staging s.mb.stageBytes none s) := by
  have hwrong' : n ≠ u32 c.payload 4 ∨ got.length ≠ u32 c.payload 0 ∨
      u32 c.payload 0 + (c.payload.drop 8).length > u32 c.payload 4 := by omega
  simp only [runImageLoad, if_neg hpos, himage, if_pos hwrong']
  rfl

/-- The last segment: the whole image is checked. -/
theorem runImageLoad_last (htotal : n = u32 c.payload 4) (horder : got.length = u32 c.payload 0)
    (hend : u32 c.payload 0 + (c.payload.drop 8).length = u32 c.payload 4) :
    runImageLoad c s = imageEnd c (got ++ c.payload.drop 8) s := by
  have hfits : ¬ (n ≠ u32 c.payload 4 ∨ got.length ≠ u32 c.payload 0 ∨
      u32 c.payload 0 + (c.payload.drop 8).length > u32 c.payload 4) := by omega
  have hlast : ¬ u32 c.payload 0 + (c.payload.drop 8).length < u32 c.payload 4 := by omega
  simp only [runImageLoad, if_neg hpos, himage, if_neg hfits, if_neg hlast]

end Segment

/-- Settles O49: each clause is one branch of the command; `next_staging` says what the answer leaves. -/
theorem stagingRows : Obligations.StagingRows := by
  unfold Obligations.StagingRows
  refine ⟨?begun, ?reserved, ?aborted, ?continued, ?first, ?disorder, ?failed, ?loaded⟩
  case begun =>
    intro k s c hc hgate hbase hready
    have hrun : runStageBegin c s =
        respond c stDone [] (withStaging (some { full := u8 c.payload 0 == 1, recs := [] }) 0 none s) :=
      if_neg (Nat.not_lt.2 hbase)
    exact next_staging (congrArg Host.Outcome.next ((startNow_starting hc hgate _).trans hrun)) hready
  case reserved =>
    intro k s c hc hgate hbase hready
    have hrun : runStageBegin c s = respond c stBad [] s := if_pos hbase
    refine ⟨_, congrArg Host.Outcome.next ((startNow_starting hc hgate _).trans hrun), ?_⟩
    exact ⟨(mailKept_respond (.refl s.mb) c stBad []).staging, answered_respond hready stBad [], plant_respond c stBad [] s⟩
  case aborted =>
    intro k s c hc hgate hready
    have hexec : exec (.mbStageAbort k) s = .next (respond c stDone [] (withStaging none 0 none s)) :=
      congrArg Host.Outcome.next (startNow_starting hc hgate _)
    exact next_staging hexec hready
  case continued =>
    intro k s c got hc hgate hpos himage horder hmore hready
    have hexec := exec_imageLoad hc hgate (runImageLoad_next hpos himage rfl horder hmore)
    obtain ⟨t, hnext, hstaging, -, himage', hanswered, hplant, -⟩ := next_staging hexec hready
    exact ⟨t, hnext, himage', hstaging, hanswered, hplant⟩
  case first =>
    intro k s c hc hgate hpos hmore hready
    have hexec := exec_imageLoad hc hgate (runImageLoad_first hpos hmore)
    obtain ⟨t, hnext, hstaging, -, himage, hanswered, hplant, -⟩ := next_staging hexec hready
    exact ⟨t, hnext, himage, hstaging, hanswered, hplant⟩
  case disorder =>
    intro k s c n got hc hgate hpos himage hwrong hready
    have hexec := exec_imageLoad hc hgate (runImageLoad_disorder hpos himage hwrong)
    obtain ⟨t, hnext, hstaging, -, himage', hanswered, hplant, -⟩ := next_staging hexec hready
    exact ⟨t, hnext, himage', hstaging, hanswered, hplant⟩
  case failed =>
    intro k s c got n hc hgate hpos himage horder hend hcheck hready
    have hrun : imageEnd c (got ++ c.payload.drop 8) s = respond c n [] (withStaging s.mb.staging s.mb.stageBytes none s) := by
      simp only [imageEnd, hcheck]
      rfl
    have hexec := exec_imageLoad hc hgate ((runImageLoad_last hpos himage rfl horder hend).trans hrun)
    obtain ⟨t, hnext, hstaging, -, himage', hanswered, hplant, -⟩ := next_staging hexec hready
    exact ⟨t, hnext, himage', hstaging, hanswered, hplant⟩
  case loaded =>
    intro k s c got rs hc hgate hpos himage horder hend hcheck hready
    have hrun : imageEnd c (got ++ c.payload.drop 8) s = respond c stAccepted []
        (withStaging (some { full := u8 (got ++ c.payload.drop 8) 8 == 1, recs := rs.reverse }) (recsSize rs) none s) := by
      simp only [imageEnd, hcheck]
      rfl
    have hexec := exec_imageLoad hc hgate ((runImageLoad_last hpos himage rfl horder hend).trans hrun)
    obtain ⟨t, hnext, hstaging, -, himage', hanswered, hplant, hpend⟩ := next_staging hexec hready
    exact ⟨t, hnext, himage', hstaging, hanswered, hplant, hpend⟩

/-! ### MB_HELLO, MB_SUMMARY and MB_DRAIN (R419) -/

/-- MB_ALARM_BLOCKS is clear. -/
def blocksCleared (s : State) : State := { s with mb := { s.mb with alarmBlocks := 0 } }

/-- The response of a command at the head of a ring with room, whatever else waits (R395, R396). -/
theorem answered_respondFinal {s : State} {c : Cmd} (horigin : c.origin ≠ 1) (hmute : c.mute = false) (hdoomed : c.doomed = false)
    (hheld : s.mb.held = []) (hroom : rspUnread s < 256) (hwf : memWf s) (status : Nat) (res : Bytes) :
    Answered s (respondFinal c status res s) c status res := by
  have hfinal : respondFinal c status res s =
      dropCmd c.n (lgCommand c status (rspWrite (rspSlot s c.tag status c.opcode true false false res) s)) := by
    simp [respondFinal, hdoomed, rspSend, rspHost, horigin, hmute, hheld, hroom]
  have hled := ledgerOnly_lgCommand c status (rspWrite (rspSlot s c.tag status c.opcode true false false res) s)
  refine ⟨?_, ?_, ?_⟩
  · have hread := memReadList_memWriteList (0x5000 + 32 * (s.mb.rspHead % 256))
      (rspSlot s c.tag status c.opcode true false false res) s hwf
    rw [length_rspSlot] at hread
    have hmem : (respondFinal c status res s).mem =
        (memWriteList (0x5000 + 32 * (s.mb.rspHead % 256)) (rspSlot s c.tag status c.opcode true false false res) s).mem := by
      rw [hfinal]
      simp [hled.mem]
    simpa only [memReadList, hmem] using hread
  · rw [hfinal]
    simp [dropCmd, hled.mb]
  · rw [(respondFinal_kept c status res s).2]
    intro d hd
    simpa using (List.mem_filter.1 hd).2

/-- An MB_DRAIN that is the only outstanding command is due as soon as it runs (R419). -/
theorem drain_alone {s : State} {c : Cmd} (hcmds : s.mb.cmds = [c]) (hop : c.opcode = 0x0111) :
    settleDrains s.mb.cmds.length (setPhase c.n .running s) =
      respondFinal { c with phase := .running } stDone [] (setPhase c.n .running s) := by
  have hrunning : (setPhase c.n .running s).mb.cmds = [{ c with phase := .running }] := by simp [setPhase, hcmds]
  have hdue : drainReady (setPhase c.n .running s) = some { c with phase := .running } := by
    simp [drainReady, hrunning, hop]
  simp [hcmds, settleDrains, hdue]

/-- An MB_DRAIN behind another command is not due. -/
theorem drain_behind {s : State} {c d : Cmd} (hcmds : s.mb.cmds = [d, c]) (hlater : d.n < c.n) (hop : d.opcode ≠ 0x0111) :
    settleDrains s.mb.cmds.length (setPhase c.n .running s) =
      { s with mb := { s.mb with cmds := [d, { c with phase := .running }] } } := by
  have hother : d.n ≠ c.n := Nat.ne_of_lt hlater
  have hrunning : (setPhase c.n .running s).mb.cmds = [d, { c with phase := .running }] := by
    simp [setPhase, hcmds, hother]
  have hnone : drainReady (setPhase c.n .running s) = none := by
    simp [drainReady, hrunning, hop, hlater]
  rw [settleDrains_of_none hnone, setPhase, hcmds]
  simp [hother]

/-- Settles O48: MB_HELLO and MB_SUMMARY answer at once, MB_DRAIN by `drain_alone` and `drain_behind`. -/
theorem sessionRows : Obligations.SessionRows := by
  unfold Obligations.SessionRows
  refine ⟨?hello, ?summary, ?drained, ?waits⟩
  case hello =>
    intro k s c hc hgate hready
    exact next_unlogged (congrArg Host.Outcome.next (startNow_starting hc hgate _)) hc hready rfl
  case summary =>
    intro k s c hc hgate hready
    have hready' : HostReady (blocksCleared s) c := hready
    have hexec : exec (.mbSummary k) s = .next (respond c stDone (summaryResult s) (blocksCleared s)) :=
      congrArg Host.Outcome.next (startNow_starting hc hgate _)
    obtain ⟨cmds, rspHead, irqStatus, hmb⟩ := respond_mb_of_ready hready' stDone (summaryResult s)
    refine ⟨_, hexec, answered_respond hready' stDone _, by rw [hmb]; rfl, plant_respond c stDone _ (blocksCleared s), ?_⟩
    exact respond_lg hready' (by rw [opcode_of_starting hc]; rfl) _
  case drained =>
    intro k s c hc hgate hcmds horigin hmute hdoomed hheld hroom hwf
    have hrun := drain_alone hcmds (opcode_of_starting hc)
    refine ⟨_, congrArg Host.Outcome.next ((startNow_starting hc hgate _).trans hrun), ?_⟩
    have hanswered := answered_respondFinal (s := setPhase c.n .running s) (c := { c with phase := .running })
      horigin hmute hdoomed hheld hroom hwf stDone []
    refine ⟨hanswered, ?_, ?_⟩
    · rw [(respondFinal_kept _ stDone [] _).2]
      simp [setPhase, hcmds]
    · rw [plant_respondFinal]
      rfl
  case waits =>
    intro k s c d hc hgate hcmds hlater hop
    exact congrArg Host.Outcome.next ((startNow_starting hc hgate _).trans (drain_behind hcmds hlater hop))

/-! ### TW_SWAP and TW_RESYNC (R376, R381, R382) -/

/-- The swap that TW_SWAP without a time arranges: at the frame boundary at or after 100 us from now (R379, R381). -/
def earliestSwap (c : Cmd) (s : State) : SwapState :=
  { at_ := frameAtOrAfter (f441 s) (s.spindle + 100 * uPerUs), cmd := c.n, acked := false, released := false, releasedAt := 0 }

theorem lanesUp_ne_nil {s : State} (h : s.tw.tsl0 = true ∨ s.tw.tsl1 = true) : lanesUp s ≠ [] := by
  rcases h with h | h <;> simp [lanesUp, h]

theorem twinPos_of_slot {s : State} (h : s.pw.slotSel ≠ 2) : twinPos s = true := by simp [twinPos, h]

theorem runSwap_arranged {s : State} {c : Cmd} (hslot : s.pw.slotSel ≠ 2) (hrole : s.role = .active) (htime : u64 c.payload 4 = 0)
    (hpeer : s.tw.peerRole = some .standby) (hhot : s.tw.peerHot = true) (hgen : s.tw.genMatch = true)
    (hlane : s.tw.tsl0 = true ∨ s.tw.tsl1 = true) (hidle : s.tw.swap = none) :
    runSwap c s = laneSend 7 (fullForm (earliestSwap c s).at_)
      (setPhase c.n .running (modTw (fun v => { v with swap := some (earliestSwap c s) }) s)) := by
  have hmay : ¬ (twinPos s = false ∨ s.role ≠ .active) := by simp [twinPos_of_slot hslot, hrole]
  have hready : s.tw.peerRole = some .standby ∧ s.tw.peerHot = true ∧ s.tw.genMatch = true ∧ lanesUp s ≠ [] ∧ s.tw.swap = none :=
    ⟨hpeer, hhot, hgen, lanesUp_ne_nil hlane, hidle⟩
  simp only [runSwap, if_neg hmay, if_pos htime, if_pos hready, if_neg (Nat.lt_irrefl _)]
  rfl

theorem resyncRestart_kept (s : State) :
    (resyncRestart s).mb = s.mb ∧ (resyncRestart s).role = s.role ∧ (resyncRestart s).live = s.live ∧
      (resyncRestart s).tw.resyncCmds = s.tw.resyncCmds := by
  unfold resyncRestart
  exact ⟨rfl, rfl, rfl, rfl⟩

/-- Settles O52: each clause is one branch of `runSwap` or `runResync`. -/
theorem twinCommandRows : Obligations.TwinCommandRows := by
  unfold Obligations.TwinCommandRows
  refine ⟨?arranged, ?notActive, ?resync, ?notStandby⟩
  case arranged =>
    intro k s c hc hgate hslot hrole htime hpeer hhot hgen hlane hidle
    have hrun := runSwap_arranged hslot hrole htime hpeer hhot hgen hlane hidle
    refine ⟨_, congrArg Host.Outcome.next ((startNow_starting hc hgate _).trans hrun), ?_⟩
    exact ⟨rfl, setPhase_phase, rfl, rfl, rfl⟩
  case notActive =>
    intro k s c hc hgate hrole hready
    have hrun : runSwap c s = respond c stState [] s := if_pos (.inr hrole)
    refine ⟨_, congrArg Host.Outcome.next ((startNow_starting hc hgate _).trans hrun), ?_⟩
    exact ⟨answered_respond hready stState [], plant_respond c stState [] s⟩
  case resync =>
    intro k s c hc hgate hslot hrole hlane
    have hmay : ¬ (twinPos s = false ∨ s.role ≠ .standby ∨ lanesUp s = []) := by
      simp [twinPos_of_slot hslot, hrole, lanesUp_ne_nil hlane]
    obtain ⟨-, hroleKept, hlive, hcmds⟩ := resyncRestart_kept s
    refine ⟨_, congrArg Host.Outcome.next ((startNow_starting hc hgate _).trans (if_neg hmay)), ?_⟩
    exact ⟨rfl, rfl, congrArg (· ++ [c.n]) hcmds, setPhase_phase, hroleKept, hlive⟩
  case notStandby =>
    intro k s c hc hgate hrole hready
    have hrun : runResync c s = respond c stState [] s := if_pos (.inr (.inl hrole))
    refine ⟨_, congrArg Host.Outcome.next ((startNow_starting hc hgate _).trans hrun), ?_⟩
    exact ⟨answered_respond hready stState [], plant_respond c stState [] s⟩

end Sys2Proof.Proofs
end

section
/-! The host window (R385 to R395): its bytes keep their canonical form, and the registers that the host writes keep what it
wrote while commands are consumed. -/
namespace Sys2Proof.Proofs
open Sys2Proof.Machine Sys2Proof.Laws

/-! ### What answering and consuming leave of the window -/

/-- The posts, the overflows and the response tail stay, and the bytes of the window keep their canonical form. -/
structure WindowKept (s t : State) : Prop where
  head : t.mb.cmdHead = s.mb.cmdHead
  overflows : t.mb.overflows = s.mb.overflows
  tail : t.mb.rspTail = s.mb.rspTail
  wf : memWf s → memWf t

theorem WindowKept.refl (s : State) : WindowKept s s := ⟨rfl, rfl, rfl, id⟩

theorem WindowKept.trans {s t u : State} (h : WindowKept s t) (h' : WindowKept t u) : WindowKept s u :=
  ⟨h'.head.trans h.head, h'.overflows.trans h.overflows, h'.tail.trans h.tail, h'.wf ∘ h.wf⟩

theorem windowKept_of_ledger {s t : State} (h : LedgerOnly s t) : WindowKept s t := by
  obtain ⟨l, rfl⟩ := h
  exact ⟨rfl, rfl, rfl, id⟩

theorem windowKept_raiseIrq (b : Nat) (s : State) : WindowKept s (raiseIrq b s) := by
  unfold raiseIrq
  split
  · exact .refl s
  · exact ⟨rfl, rfl, rfl, id⟩

theorem windowKept_rspWrite (slot : Bytes) (s : State) : WindowKept s (rspWrite slot s) := by
  unfold rspWrite
  refine WindowKept.trans ?_ (windowKept_raiseIrq 0 _)
  exact ⟨rfl, rfl, rfl, fun h => memWf_memWriteList _ slot s h⟩

theorem windowKept_ringSend (answers typ : Nat) (payload : Bytes) (s : State) :
    WindowKept s (ringSend answers typ payload s) := by
  unfold ringSend
  split <;> exact ⟨rfl, rfl, rfl, id⟩

theorem windowKept_rspSend (c : Cmd) (slot : Bytes) (s : State) : WindowKept s (rspSend c slot s) := by
  unfold rspSend
  split
  · exact .refl s
  · split
    · exact windowKept_ringSend _ _ _ s
    · unfold rspHost
      split
      · exact windowKept_rspWrite slot s
      · exact ⟨rfl, rfl, rfl, id⟩

theorem windowKept_dropCmd (n : Nat) (s : State) : WindowKept s (dropCmd n s) := ⟨rfl, rfl, rfl, id⟩

theorem windowKept_respondFinal (c : Cmd) (status : Nat) (res : Bytes) (s : State) :
    WindowKept s (respondFinal c status res s) := by
  unfold respondFinal
  dsimp only
  refine WindowKept.trans ?_ (windowKept_dropCmd c.n _)
  exact (windowKept_rspSend c _ s).trans (windowKept_of_ledger (ledgerOnly_lgCommand c _ _))

theorem windowKept_settleDrains : ∀ (n : Nat) (s : State), WindowKept s (settleDrains n s)
  | 0, s => .refl s
  | n + 1, s => by
    unfold settleDrains
    split
    · exact .refl s
    · exact (windowKept_respondFinal _ _ _ s).trans (windowKept_settleDrains n _)

theorem windowKept_respond (c : Cmd) (status : Nat) (res : Bytes) (s : State) : WindowKept s (respond c status res s) :=
  (windowKept_respondFinal c status res s).trans (windowKept_settleDrains _ _)

theorem windowKept_setSeq (origin n : Nat) (s : State) : WindowKept s (setSeq origin n s) := by
  unfold setSeq
  split <;> exact ⟨rfl, rfl, rfl, id⟩

/-- Check 3 of R397 touches the sequence numbers and the credential slots. -/
theorem windowKept_accessCheck (sl : Bytes) (c : Cmd) (s : State) : WindowKept s (accessCheck sl c s).2 := by
  have hseq := windowKept_setSeq c.origin c.seq s
  unfold accessCheck
  dsimp only
  split
  · split
    · exact hseq
    · exact .refl s
  · split
    · split
      · exact .refl s
      · split
        · exact ⟨rfl, rfl, rfl, id⟩
        · split
          · exact hseq.trans ⟨rfl, rfl, rfl, id⟩
          · exact .refl s
    · split
      · exact hseq
      · exact .refl s

theorem windowKept_takeSlot (sl : Bytes) (origin ringNo : Nat) (s : State) : WindowKept s (takeSlot sl origin ringNo s) := by
  unfold takeSlot
  extract_lets c m1 s1 a
  have hcounted : WindowKept s s1 := ⟨rfl, rfl, rfl, id⟩
  have hchecked : WindowKept s a.2 := hcounted.trans (windowKept_accessCheck sl c s1)
  split
  · exact hcounted.trans ((windowKept_rspSend c _ s1).trans (windowKept_of_ledger (ledgerOnly_lgCommand c _ _)))
  · split
    · exact hcounted.trans (windowKept_respond _ _ _ _)
    · split
      · exact hchecked.trans (windowKept_respond _ _ _ _)
      · split
        · exact hchecked.trans (windowKept_respond _ _ _ _)
        · exact hchecked.trans ⟨rfl, rfl, rfl, id⟩

theorem windowKept_takeHost (s : State) : WindowKept s (takeHost s) := by
  unfold takeHost
  extract_lets sl s1 mb2 s2
  have htaken : WindowKept s s2 := (windowKept_takeSlot sl (hostOrigin s) 0 s).trans ⟨rfl, rfl, rfl, id⟩
  split
  · have hnoted : WindowKept s2 { s2 with mb := { s2.mb with dropped := false } } := ⟨rfl, rfl, rfl, id⟩
    exact (htaken.trans hnoted).trans (windowKept_raiseIrq 1 _)
  · exact htaken

theorem windowKept_takeRing (s : State) : WindowKept s (takeRing s) := by
  unfold takeRing
  split
  · exact .refl s
  · next no sl q _ =>
    have hnext : WindowKept s { s with ig := { s.ig with queue := q }, mb := { s.mb with lastRing := true } } :=
      ⟨rfl, rfl, rfl, id⟩
    exact hnext.trans (windowKept_takeSlot sl 1 no _)

theorem windowKept_consumeGo : ∀ (n : Nat) (s : State), WindowKept s (consumeGo n s)
  | 0, s => .refl s
  | n + 1, s => by
    unfold consumeGo
    split
    · exact .refl s
    · split
      · exact (windowKept_takeRing s).trans (windowKept_consumeGo n _)
      · split
        · exact (windowKept_takeHost s).trans (windowKept_consumeGo n _)
        · exact .refl s

theorem windowKept_consume (s : State) : WindowKept s (consume s) := windowKept_consumeGo _ s

theorem windowKept_releaseHeld : ∀ (n : Nat) (s : State), WindowKept s (releaseHeld n s)
  | 0, s => .refl s
  | n + 1, s => by
    unfold releaseHeld
    split
    · exact .refl s
    · next sl rest _ =>
      split
      · have hnext : WindowKept s { s with mb := { s.mb with held := rest } } := ⟨rfl, rfl, rfl, id⟩
        exact (hnext.trans (windowKept_rspWrite sl _)).trans (windowKept_releaseHeld n _)
      · exact .refl s

/-! ### The rows that write bytes of the window -/

/-- The state with the response tail `t`. -/
def tailAt (t : Nat) (s : State) : State := { s with mb := { s.mb with rspTail := t } }

/-- A tail that moves forward lets held responses be written and commands be consumed (R395). -/
theorem rspTail_forward {v : Nat} {s : State} (hmay : ¬ (windowReady s = false ∨ s.mode = .hush ∨
    (v % 65536 + 65536 - s.mb.rspTail) % 65536 > rspUnread s)) :
    WindowKept (tailAt (v % 65536) s) (rspTail v s) := by
  have hrun : rspTail v s = consume (releaseHeld (tailAt (v % 65536) s).mb.held.length (tailAt (v % 65536) s)) := if_neg hmay
  rw [hrun]
  exact (windowKept_releaseHeld _ _).trans (windowKept_consume _)

theorem memWf_rspTail (v : Nat) (s : State) (h : memWf s) : memWf (rspTail v s) := by
  by_cases hmay : windowReady s = false ∨ s.mode = .hush ∨ (v % 65536 + 65536 - s.mb.rspTail) % 65536 > rspUnread s
  · have hsame : rspTail v s = s := if_pos hmay
    rwa [hsame]
  · exact (rspTail_forward hmay).wf h

theorem memWf_resetDone (s : State) (h : memWf s) : memWf (resetDone s) := by
  unfold resetDone
  split
  · exact h
  · next k _ =>
    have hover : WindowKept s { s with mb := { s.mb with resetBusy := none } } := ⟨rfl, rfl, rfl, id⟩
    have hslots := (hover.trans (windowKept_rspWrite (resetSlots k s).1 _)).trans (windowKept_rspWrite (resetSlots k s).2 _)
    have hring := (hslots.trans (windowKept_ringSend 0 0x04 (resetSlots k s).1 _)).trans
      (windowKept_ringSend 0 0x04 (resetSlots k s).2 _)
    dsimp only
    refine (windowKept_raiseIrq 8 _).wf ?_
    split
    · exact hring.wf h
    · exact hslots.wf h

/-- A scope clears the rings, or with the whole window (R68, R69). -/
theorem memWf_runScope (nn : Nat) (overRing : Bool) (s : State) (h : memWf s) : memWf (runScope nn overRing s) := by
  have hsession : ∀ k, memWf (scopeReset k overRing s) := by
    intro k
    obtain ⟨p, l, hframe⟩ := cancelProposal_frame s
    have hmem : (cancelProposal s).mem = s.mem := by rw [hframe]
    have hfiltered := memWf_filter (fun c => decide (c.1 < 0x1000) || decide (0x7000 ≤ c.1)) s h
    unfold memWf scopeReset
    dsimp only
    rw [hmem]
    exact hfiltered
  unfold runScope
  split
  · exact (rfl : tabWf (0 : Byte) [] = true)
  · split
    · exact h
    · exact hsession .session
  · split
    · exact h
    · exact hsession .control
  · exact h

theorem memWf_resetWrite (v : Nat) (s : State) (h : memWf s) : memWf (resetWrite v s) := by
  unfold resetWrite
  dsimp only
  split
  · exact h
  · split
    · exact h
    · split
      · split
        · exact memWf_runScope _ _ _ h
        · exact h
      · exact h

theorem memWf_ringWrite (f : RingFrame) (s : State) (h : memWf s) : memWf (ringWrite f s) := by
  unfold ringWrite
  dsimp only
  split
  · exact (windowKept_ringSend _ _ _ s).wf h
  · split
    · exact (windowKept_ringSend _ _ _ s).wf h
    · exact (windowKept_ringSend _ _ _ _).wf (memWf_memWriteList _ _ s h)

/-- A received frame keeps the form when what it does to this unit, and as a broadcast, keeps it. -/
theorem memWf_ringRow (typ : Nat) (f : RingFrame) {own : State → State} {cast : State → State × Option Bytes} (s : State)
    (hown : ∀ t, memWf t → memWf (own t)) (hcast : ∀ t, memWf t → memWf (cast t).1) (h : memWf s) :
    memWf (ringRow typ f own cast s) := by
  have hdrained : memWf (ringDrain s) := by
    obtain ⟨frames, out, hdrain⟩ := ringDrain_drained s
    rw [hdrain]
    exact h
  have hactedOut := hcast _ hdrained
  unfold ringRow
  dsimp only
  split
  · exact h
  · split
    · exact h
    · split
      · exact hdrained
      · split
        · split
          · exact hdrained
          · split <;> exact hactedOut
        · split
          · split
            · exact hown _ hdrained
            · exact hdrained
          · exact hdrained

/-- Settles O6: each row by the lemma of the one operation that it runs. -/
theorem memWfKept : Obligations.MemWfKept := by
  unfold Obligations.MemWfKept
  refine ⟨?hostWrite, ?ringWrite, ?rspTail, ?resetDone, ?session, ?control, ?full⟩
  case hostWrite =>
    intro s a d h
    refine ⟨_, rfl, ?_⟩
    split
    · exact h
    · exact memWf_winWrite d a s h
  case ringWrite =>
    intro s f h
    refine ⟨_, rfl, memWf_ringRow _ f s (memWf_ringWrite f) (fun t ht => ?_) h⟩
    unfold castRefused
    split
    · exact ht
    · exact (windowKept_ringSend _ _ _ t).wf ht
  case rspTail => exact fun s v h => ⟨_, rfl, memWf_rspTail v.toNat s h⟩
  case resetDone => exact fun s h => ⟨_, rfl, memWf_resetDone s h⟩
  case session | control | full => exact fun s v h => ⟨_, rfl, memWf_resetWrite v.toNat s h⟩

/-! ### Host writes -/

/-- A host write changes the bytes of the window and nothing else. -/
theorem winWrite_frame (bs : Bytes) : ∀ (a : Nat) (s : State), ∃ m, winWrite a bs s = { s with mem := m } := by
  induction bs with
  | nil => exact fun a s => ⟨s.mem, rfl⟩
  | cons b bs ih =>
    intro a s
    rw [winWrite]
    split
    · obtain ⟨m, hm⟩ := ih (a + 1) (memWrite a b s)
      exact ⟨m, hm⟩
    · exact ih (a + 1) s

/-- Bytes in the command ring and in the bulk buffer take the values written, every other byte stays (R385). -/
theorem memRead_winWrite (bs : Bytes) : ∀ (a : Nat) (s : State), memWf s → ∀ j, memRead (winWrite a bs s) j =
    if a ≤ j ∧ j < a + bs.length ∧ hostStores j = true then nth 0 bs (j - a) else memRead s j := by
  induction bs with
  | nil =>
    intro a s _ j
    rw [if_neg (by simp; omega)]
    rfl
  | cons b bs ih =>
    intro a s h j
    have hfirst : memRead (if hostStores a then memWrite a b s else s) j =
        if j = a ∧ hostStores j = true then b else memRead s j := by
      by_cases hj : j = a
      · subst hj
        cases hstores : hostStores j <;> simp [memRead_memWrite j j b s h]
      · cases hstores : hostStores a <;> simp [memRead_memWrite a j b s h, hj]
    have hwf : memWf (if hostStores a then memWrite a b s else s) := by
      split
      · exact memWf_memWrite a b s h
      · exact h
    rw [winWrite, ih _ _ hwf, hfirst, List.length_cons]
    by_cases hlow : a + 1 ≤ j
    · obtain ⟨i, rfl⟩ : ∃ i, j = a + 1 + i := ⟨j - (a + 1), by omega⟩
      have hne : ¬ a + 1 + i = a := by omega
      have hpos : a + 1 + i - a = i + 1 := by omega
      have hpos' : a + 1 + i - (a + 1) = i := by omega
      simp only [hne, hpos, hpos', nth, false_and, if_false]
      exact if_congr (and_congr (by omega) (and_congr (by omega) Iff.rfl)) rfl rfl
    · by_cases hj : j = a
      · subst hj
        simp [nth]
      · rw [if_neg (by omega), if_neg (by omega), if_neg (by omega)]

theorem hostStores_iff (a : Nat) : hostStores a = true ↔ 0x1000 ≤ a ∧ a < 0x5000 ∨ 0x8000 ≤ a ∧ a < 0x18000 := by
  simp [hostStores]

/-! ### Registers -/

/-- A wake trigger touches the power state alone (R76). -/
theorem wakeTrigger_frame (s : State) : ∃ p, wakeTrigger s = { s with pw := p } := by
  unfold wakeTrigger
  split <;> exact ⟨_, rfl⟩

section Doorbell
variable {s : State} {v : Nat} (hwindow : windowReady s = true) (hmode : s.mode ≠ .hush) (hbusy : s.mb.resetBusy = none)
include hwindow hmode hbusy

/-- A post that fits advances HW_CMD_HEAD (R394). -/
theorem doorbell_fits (hsome : 1 ≤ v % 512) (hmost : v % 512 ≤ 256)
    (hroom : (s.mb.cmdHead + 65536 - s.mb.cmdTail) % 65536 + v % 512 ≤ 256) :
    (doorbell v s).mb.cmdHead = (s.mb.cmdHead + v % 512) % 65536 ∧ (doorbell v s).mb.overflows = s.mb.overflows := by
  obtain ⟨p, hwake⟩ := wakeTrigger_frame s
  have hposted : ¬ (s.mode = .hush ∨ s.mb.resetBusy ≠ none ∨ v % 512 = 0) := by
    simp only [hmode, hbusy, ne_eq, not_true_eq_false, false_or]
    omega
  have hrun : doorbell v s =
      consume { s with pw := p, mb := { s.mb with cmdHead := (s.mb.cmdHead + v % 512) % 65536 } } := by
    simp only [doorbell, hwindow, hwake, if_neg hposted, cmdOccupancy, if_pos (And.intro hmost hroom)]
    rfl
  rw [hrun]
  have hkept := windowKept_consume { s with pw := p, mb := { s.mb with cmdHead := (s.mb.cmdHead + v % 512) % 65536 } }
  exact ⟨hkept.head, hkept.overflows⟩

/-- A post that does not fit is dropped whole (R394). -/
theorem doorbell_overflows
    (hover : 256 < v % 512 ∨ 1 ≤ v % 512 ∧ 256 < (s.mb.cmdHead + 65536 - s.mb.cmdTail) % 65536 + v % 512) :
    (doorbell v s).mb.cmdHead = s.mb.cmdHead ∧ (doorbell v s).mb.overflows = satInc 8 s.mb.overflows ∧
      nbit (doorbell v s).mb.irqStatus 7 = true := by
  obtain ⟨p, hwake⟩ := wakeTrigger_frame s
  have hposted : ¬ (s.mode = .hush ∨ s.mb.resetBusy ≠ none ∨ v % 512 = 0) := by
    simp only [hmode, hbusy, ne_eq, not_true_eq_false, false_or]
    omega
  have hfull : ¬ (v % 512 ≤ 256 ∧ (s.mb.cmdHead + 65536 - s.mb.cmdTail) % 65536 + v % 512 ≤ 256) := by omega
  have hrun : doorbell v s =
      raiseIrq 7 { s with pw := p, mb := { s.mb with overflows := satInc 8 s.mb.overflows, dropped := true } } := by
    simp only [doorbell, hwindow, hwake, if_neg hposted, cmdOccupancy, if_neg hfull]
    rfl
  rw [hrun]
  have hkept := windowKept_raiseIrq 7 { s with pw := p, mb := { s.mb with overflows := satInc 8 s.mb.overflows, dropped := true } }
  exact ⟨hkept.head, hkept.overflows, raiseIrq_sets 7 _⟩

end Doorbell

/-- Clearing the bits written as 1 (R390). -/
theorem nbit_cleared (n v : Nat) {b : Nat} (hb : b < 9) :
    nbit (Nat.land n (Nat.xor 511 (v % 512))) b = (nbit n b && !nbit v b) := by
  simp only [nbit_eq_testBit]
  have hland : Nat.land n (Nat.xor 511 (v % 512)) = n &&& (511 ^^^ v % 2 ^ 9) := rfl
  have hones : (511 : Nat) = 2 ^ 9 - 1 := rfl
  rw [hland, hones, Nat.testBit_and, Nat.testBit_xor, Nat.testBit_two_pow_sub_one, Nat.testBit_mod_two_pow]
  simp [hb]

/-- Settles O7: the bytes by `memRead_winWrite`, a post by the two lemmas of `doorbell`, the others by their definitions. -/
theorem hostWindow : Obligations.HostWindow := by
  unfold Obligations.HostWindow
  refine ⟨?bytes, ?fits, ?overflows, ?tail, ?backwards, ?status, ?enable, ?firstKey⟩
  case bytes =>
    intro s addr data hwindow hmode hwf
    obtain ⟨m, hframe⟩ := winWrite_frame data addr s
    have hexec : exec (.hostWindowWrite addr data) s = .next (winWrite addr data s) :=
      congrArg Host.Outcome.next (if_neg (by simp [hwindow, hmode]))
    refine ⟨_, hexec, fun a => ?_, by rw [hframe]⟩
    rw [memRead_winWrite data addr s hwf]
    simp only [hostStores_iff]
  case fits =>
    exact fun s v hwindow hmode hbusy hsome hmost hroom => ⟨_, rfl, doorbell_fits hwindow hmode hbusy hsome hmost hroom⟩
  case overflows => exact fun s v hwindow hmode hbusy hover => ⟨_, rfl, doorbell_overflows hwindow hmode hbusy hover⟩
  case tail =>
    intro s v hwindow hmode hforward
    have hmay : ¬ (windowReady s = false ∨ s.mode = .hush ∨
        (v.toNat % 65536 + 65536 - s.mb.rspTail) % 65536 > rspUnread s) := by
      simp only [hwindow, hmode, rspUnread, Bool.true_eq_false, false_or]
      omega
    exact ⟨_, rfl, (rspTail_forward hmay).tail⟩
  case backwards =>
    intro s v hwindow hpast
    exact congrArg Host.Outcome.next (if_pos (.inr (.inr hpast)))
  case status =>
    intro s v hwindow hmode
    refine ⟨_, congrArg Host.Outcome.next (if_neg (by simp [hwindow, hmode])), fun b hb => ?_, rfl⟩
    exact nbit_cleared s.mb.irqStatus v.toNat hb
  case enable =>
    intro s v hwindow hmode
    exact congrArg Host.Outcome.next (if_neg (by simp [hwindow, hmode]))
  case firstKey =>
    intro s nn hwindow hlo hhi
    have hvalue : (BitVec.ofNat 32 (0xA5A50000 + nn)).toNat = 0xA5A50000 + nn := by
      rw [BitVec.toNat_ofNat]
      omega
    have hscope : (0xA5A50000 + nn) % 256 = nn := by omega
    have hfirst : (0xA5A50000 + nn) / 256 = 0xA5A500 := by omega
    refine congrArg Host.Outcome.next ?_
    rw [hvalue]
    simp [resetWrite, hwindow, hscope, hfirst, hlo, hhi]

end Sys2Proof.Proofs
end

section
/-! ENUMERATE (R428, R430) on the unit that is the ring time master: its ring-time candidate is lost, and with it the mode. -/
namespace Sys2Proof.Proofs
open Sys2Proof.Machine Sys2Proof.Laws

/-- FP_IDENTIFY of the host, running. -/
def identifyRunning : Cmd :=
  { n := 0, origin := 0, order := .zero, tag := 9, opcode := 0x0814, expert := false, auth := false, cred := 0, seq := 1,
    sched := none, payload := [1, 0, 0, 0], phase := .running, ringNo := 0, mute := false, doomed := false }

/-- A unit of address 5, the ring time master, LOCKED to its own ring time, with an identification running. Its fence is open
though its role is FENCED. -/
def masterOpenFence : State :=
  { pw := { inReset := false, boot := .done }, mode := .locked, role := .fenced, fenceOpen := true, firstLive := true,
    live := { igMaster := 5, cand := [(2, { typ := 0x0B })] },
    tk := { selected := some 2, cand := [{}, {}, { st := .qualified }] ++ List.replicate 9 {} },
    fp := { identAt := some 0, identCmd := some 0 }, ig := { forwarding := true, addr := 5, pos := 1 },
    mb := { cmds := [identifyRunning] } }

/-- ENUMERATE from the head. -/
def enumerateFrame : RingFrame :=
  { rsv := (0, 0, 0), dst := 63, src := 0, typ := 1, hops := 0, len := 12, fseq := 0, payload := zeros 12, crcOk := true }

set_option maxRecDepth 20000 in
/-- The loss of the candidate ends LOCKED, the fence closes, and the identification is answered in the response ring. -/
theorem enumerate_answers_identify :
    (ringRow 0x01 enumerateFrame id (castOf 12 enumerateFrame (enumerate enumerateFrame)) masterOpenFence).mem.isEmpty = false := by
  decide

/-- Refutes O31: its clause of ENUMERATE on an addressed unit keeps the bytes of the window in every state. On the ring time
master ENUMERATE drops the ring-time candidate (R118); a unit that is LOCKED to it changes its mode, and the mode change
evaluates the fence (R17). The clause does not assume that the fence was open rightly (`FenceInv`): where it was not, it
closes now, which abandons a running identification, and its answer is written to the response ring. -/
theorem not_ringForwarding : ¬ Obligations.RingForwarding := by
  unfold Obligations.RingForwarding
  rintro ⟨-, -, -, -, addressedKeeps, -⟩
  obtain ⟨t, hexec, -, -, -, hmem⟩ := addressedKeeps masterOpenFence enumerateFrame (by decide) rfl rfl (by decide) (by decide)
    rfl rfl rfl rfl (by decide)
  have ht : ringRow 0x01 enumerateFrame id (castOf 12 enumerateFrame (enumerate enumerateFrame)) masterOpenFence = t :=
    Host.Outcome.next.inj hexec
  have hwritten := enumerate_answers_identify
  rw [ht, hmem] at hwritten
  exact absurd hwritten (by decide)

end Sys2Proof.Proofs
end

section
/-! The lease (R357 to R371): what a change of role, the fence and an answer leave of the lease and of the frames a unit sends,
and what the rows of the lease do with it. -/
namespace Sys2Proof.Proofs
open Sys2Proof.Machine Sys2Proof.Laws

/-! ### What a change of role leaves of the lease -/

/-- The twin without what a change of role sets: the acknowledgement, TW_HOT, the resynchronisation and an accepted swap. -/
def leaseTw (w : TwState) : TwState :=
  { w with ackSent := none, hot := false, alignSince := none, timeLoaded := false, resync := false, asked := false,
           needImage := false, needPend := false, pullImage := [], pullPend := [], pulled := false, pulledPend := false,
           resyncAt := none, ledgerInStep := false, swapTake := none }

/-- What the lease and its frames depend on beside the role, and the blocks that raised ALARMs. -/
structure Chuck where
  mode : Mode
  pw : PwState
  pt : PtState
  clock : Nat
  out : List OutMsg
  live : Tables
  tw : TwState
  alarms : Nat

def chuck (s : State) : Chuck := ⟨s.mode, s.pw, s.pt, s.clock, s.out, s.live, leaseTw s.tw, s.mb.alarmBlocks⟩

theorem chuck_of_plant {s t : State} (h : t.plant = s.plant) (halarms : t.mb.alarmBlocks = s.mb.alarmBlocks) :
    chuck t = chuck s := by
  have hplant := congrArg (fun u : State => Chuck.mk u.mode u.pw u.pt u.clock u.out u.live (leaseTw u.tw) s.mb.alarmBlocks) h
  rw [chuck, halarms]
  exact hplant

@[simp] theorem raiseIrq_alarmBlocks (b : Nat) (s : State) : (raiseIrq b s).mb.alarmBlocks = s.mb.alarmBlocks := by
  unfold raiseIrq
  split <;> rfl

theorem rspSend_alarmBlocks (c : Cmd) (slot : Bytes) (s : State) : (rspSend c slot s).mb.alarmBlocks = s.mb.alarmBlocks := by
  unfold rspSend
  split
  · rfl
  · split
    · unfold ringSend
      split <;> rfl
    · unfold rspHost
      split
      · simp only [rspWrite, raiseIrq_alarmBlocks]
        rfl
      · rfl

theorem respondFinal_alarmBlocks (c : Cmd) (status : Nat) (res : Bytes) (s : State) :
    (respondFinal c status res s).mb.alarmBlocks = s.mb.alarmBlocks := by
  unfold respondFinal
  dsimp only
  exact (congrArg MbState.alarmBlocks (ledgerOnly_lgCommand c _ _).mb).trans (rspSend_alarmBlocks c _ s)

theorem settleDrains_alarmBlocks : ∀ (n : Nat) (s : State), (settleDrains n s).mb.alarmBlocks = s.mb.alarmBlocks
  | 0, _ => rfl
  | n + 1, s => by
    unfold settleDrains
    split
    · rfl
    · exact (settleDrains_alarmBlocks n _).trans (respondFinal_alarmBlocks _ _ _ s)

theorem respondTo_alarmBlocks (n status : Nat) (res : Bytes) (s : State) :
    (respondTo n status res s).mb.alarmBlocks = s.mb.alarmBlocks := by
  unfold respondTo
  split
  · exact (settleDrains_alarmBlocks _ _).trans (respondFinal_alarmBlocks _ _ _ s)
  · rfl

theorem chuck_respondTo (n status : Nat) (res : Bytes) (s : State) : chuck (respondTo n status res s) = chuck s :=
  chuck_of_plant (plant_respondTo n status res s) (respondTo_alarmBlocks n status res s)

theorem chuck_identAbandon (s : State) : chuck (identAbandon s) = chuck s := by
  unfold identAbandon
  split
  · rfl
  · dsimp only
    split
    · exact chuck_respondTo _ _ _ _
    · rfl

theorem chuck_fenceEval (s : State) : chuck (fenceEval s) = chuck s := by
  unfold fenceEval
  dsimp only
  split
  · rfl
  · split
    · rfl
    · exact chuck_identAbandon _

/-- A change of role leaves the lease alone. -/
theorem chuck_setRole (r : Role) (s : State) : chuck (setRole r s) = chuck s := by
  unfold setRole
  split
  · exact chuck_fenceEval s
  · have hevent : chuck (raiseIrq 5 (lgEvent 0xFF04 (roleCode s.role + 256 * roleCode r + 65536 * s.tw.lastCause)
        { s with role := r })) = chuck s := by
      refine (chuck_of_plant (plant_raiseIrq _ _) (raiseIrq_alarmBlocks _ _)).trans ?_
      exact chuck_of_plant (s := { s with role := r }) (plant_lgEvent _ _ _)
        (congrArg MbState.alarmBlocks (ledgerOnly_lgEvent _ _ _).mb)
    dsimp only
    rw [chuck_fenceEval]
    generalize raiseIrq 5 _ = t at hevent ⊢
    rw [← hevent]
    repeat' split
    all_goals rfl

/-- The state without a swap in progress. -/
def swapDropped (s : State) : State := { s with tw := { s.tw with swap := none } }

theorem chuck_swapEnd (result : Nat) (s : State) : chuck (swapEnd result s) = chuck (swapDropped s) := by
  unfold swapEnd
  split
  · next h => rw [chuck, chuck, swapDropped, ← h]
  · exact chuck_respondTo _ _ _ _

theorem chuck_roleEval (s : State) : chuck (roleEval s) = chuck s := by
  unfold roleEval
  extract_lets swapping
  split
  · exact chuck_setRole .standby s
  · rfl

/-! ### The role -/

theorem role_of_duty {s t : State} (h : duty t = duty s) : t.role = s.role :=
  congrArg (fun d : Mode × Nat × Role × PwState => d.2.2.1) h

theorem role_setRole (r : Role) (s : State) : (setRole r s).role = r :=
  congrArg (fun d : Mode × Nat × Role × PwState => d.2.2.1) (duty_setRole r s)

/-- A holder stays what it is. -/
theorem roleEval_of_holds {s : State} (h : s.tw.holds = true) : roleEval s = s := by
  simp [roleEval, h]

/-! ### The fence -/

theorem fenceWanted_of_fkey {s t : State} (h : fkey t = fkey s) : fenceWanted t = fenceWanted s := by
  have hwant := congrArg (fun k : Role × Mode × Bool × Bool × Bool × Bool =>
    (k.1 == .active || k.1 == .solo) && k.2.1 != .hush && !(k.2.1 == .acquire && k.2.2.1) && !k.2.2.2.1 && !k.2.2.2.2.1) h
  exact hwant

theorem fenceOpen_of_fkey {s t : State} (h : fkey t = fkey s) : t.fenceOpen = s.fenceOpen :=
  congrArg (fun k : Role × Mode × Bool × Bool × Bool × Bool => k.2.2.2.2.2) h

/-- After FENCE_EVALUATE the fence is as R17 asks. -/
theorem fenceEval_fence (s : State) : (fenceEval s).fenceOpen = fenceWanted s ∧ fenceWanted (fenceEval s) = fenceWanted s := by
  unfold fenceEval
  dsimp only
  split
  · next h => exact ⟨h.symm, rfl⟩
  · split
    · next h => exact ⟨h.symm, rfl⟩
    · next h =>
      have hkey := key_identAbandon { s with fenceOpen := false, fp := { s.fp with fenceClosed := s.clock }, nw := noFollowUp s.nw }
      exact ⟨(fenceOpen_of_fkey hkey).trans (Bool.eq_false_iff.2 h).symm, (fenceWanted_of_fkey hkey).trans rfl⟩

theorem fenceEval_right (s : State) : (fenceEval s).fenceOpen = fenceWanted (fenceEval s) :=
  (fenceEval_fence s).1.trans (fenceEval_fence s).2.symm

theorem setRole_fence (r : Role) (s : State) : (setRole r s).fenceOpen = fenceWanted (setRole r s) := by
  unfold setRole
  split <;> exact fenceEval_right _

theorem fenceWanted_of_fenced {s : State} (h : s.role = .fenced) : fenceWanted s = false := by
  simp [fenceWanted, h]

theorem setRole_fenced_closed (s : State) : (setRole .fenced s).fenceOpen = false :=
  (setRole_fence .fenced s).trans (fenceWanted_of_fenced (role_setRole .fenced s))

/-! ### Frames sent -/

/-- What the frames of a unit are made from, and where they go. -/
def sender (s : State) : Mode × PwState × PtState × List OutMsg × Bool × Option Nat × Nat × Bool × Bool × Bool :=
  (s.mode, s.pw, s.pt, s.out, s.tw.holds, s.tw.level, s.tw.msgSeq, s.tw.tsl0, s.tw.tsl1, s.tw.witness)

theorem sender_of_chuck {s t : State} (h : chuck t = chuck s) : sender t = sender s := by
  have hsender := congrArg (fun k : Chuck =>
    (k.mode, k.pw, k.pt, k.out, k.tw.holds, k.tw.level, k.tw.msgSeq, k.tw.tsl0, k.tw.tsl1, k.tw.witness)) h
  exact hsender

theorem leaseOut_of_sender {s t : State} (h : sender t = sender s) (typ seq : Nat) (p : TwinPath) :
    leaseOut typ seq t p = leaseOut typ seq s p := by
  simp only [sender, Prod.mk.injEq] at h
  obtain ⟨hmode, hpw, hpt, -, hholds, hlevel, hmsg, -, -, -⟩ := h
  simp only [leaseOut, leaseFrame, eligible, unitLevel, hmode, hpw, hpt, hholds, hlevel, hmsg]

theorem pathUp_of_sender {s t : State} (h : sender t = sender s) (p : TwinPath) : pathUp t p = pathUp s p := by
  simp only [sender, Prod.mk.injEq] at h
  obtain ⟨-, -, -, -, -, -, -, h0, h1, hwitness⟩ := h
  cases p <;> simp only [pathUp, h0, h1, hwitness]

theorem pathsUp_of_sender {s t : State} (h : sender t = sender s) : pathsUp t = pathsUp s := by
  simp only [pathsUp, funext (pathUp_of_sender h)]

/-- Every path named carries the frame. -/
theorem leaseSend_mem {p : TwinPath} {paths : List TwinPath} (hp : p ∈ paths) (typ seq : Nat) (s : State) :
    leaseOut typ seq s p ∈ (leaseSend paths typ seq s).out := by
  simp only [leaseSend, List.foldl_flip_cons_eq_append, List.mem_append, List.mem_reverse, List.mem_map]
  exact .inl ⟨p, hp, rfl⟩

/-- The same, as the sender `s` makes it. -/
theorem leaseSend_paths {s t : State} (h : sender t = sender s) (typ seq : Nat) :
    ∀ p ∈ pathsUp s, leaseOut typ seq s p ∈ (leaseSend (pathsUp t) typ seq t).out := by
  intro p hp
  rw [← leaseOut_of_sender h, ← pathsUp_of_sender h] at *
  exact leaseSend_mem hp typ seq t

/-- The RENEW before, if still not acknowledged, is counted as missed. -/
def missCounted (s : State) : State :=
  if s.tw.unacked.isSome then modTw (fun w => { w with ackMissed := satInc 16 w.ackMissed }) s else s

/-- A RENEW goes out on every path in service, takes the next number, and waits for its ACK (R364). -/
theorem renewSend_sent {s r : State} (h : sender r = sender s) (hseq : r.tw.seq = s.tw.seq) :
    ∀ p ∈ pathsUp s, leaseOut 1 s.tw.seq s p ∈ (renewSend r).out := by
  have hcounted : sender (missCounted r) = sender s ∧ (missCounted r).tw.seq = s.tw.seq := by
    unfold missCounted
    split
    · exact ⟨h, hseq⟩
    · exact ⟨h, hseq⟩
  rw [← hcounted.2]
  exact leaseSend_paths hcounted.1 1 (missCounted r).tw.seq

theorem renewSend_tw (s : State) : (renewSend s).tw.unacked = some s.clock ∧ (renewSend s).tw.seq = (s.tw.seq + 1) % 64 ∧
    (renewSend s).tw.holds = s.tw.holds ∧ (renewSend s).tw.leaseEnd = s.tw.leaseEnd ∧
    (renewSend s).tw.takeovers = s.tw.takeovers ∧ (renewSend s).tw.lastCause = s.tw.lastCause ∧
    (renewSend s).tw.claiming = s.tw.claiming := by
  unfold renewSend
  dsimp only
  split <;> exact ⟨rfl, rfl, rfl, rfl, rfl, rfl, rfl⟩

theorem renewSend_role (s : State) : (renewSend s).role = s.role :=
  congrArg (fun k : Role × Mode × Bool × Bool × Bool × Bool => k.1) (key_renewSend s)

/-! ### Taking the Chuck (R367) -/

/-- The time since the last RENEW, in ns. -/
def renewGap (s : State) : Nat := (s.clock - s.tw.lastRenew) / uPerNs

/-- The lease of a unit that takes the Chuck. -/
def chuckTaken (cause : Nat) (leaseEnd : Option Nat) (s : State) : State :=
  modTw (fun w =>
    { w with holds := true, claiming := false, leaseEnd, lastCause := cause, ackSent := none, unacked := none, swapTake := none,
             takeovers := satInc 16 w.takeovers, lastGap := if renewGap s > 65535 then 65535 else renewGap s,
             stepPs := if (lanesUp s).isEmpty && decide (s.tw.laneLostAt + 10 * uPerMs ≤ s.clock) then w.stepPs
               else satInt 16 w.alignPs }) s

theorem chuck_carryMove (m : MirrorMsg) (g : Group) (s : State) : chuck (carryMove m g s) = chuck s := by
  unfold carryMove
  extract_lets o back s1
  have hs1 : chuck s1 = chuck s := by
    obtain ⟨h, hmoved⟩ := hsOnly_groupMove o none .kept g (s := s) (t := s) ⟨s.hs, rfl⟩
    simp only [s1, hmoved]
    rfl
  split
  · exact hs1
  · exact hs1

/-- The unit that takes has the role named and the fence that R17 asks for. -/
theorem takeChuck_taken (cause : Nat) (role : Role) (leaseEnd : Option Nat) (s : State) :
    chuck (takeChuck cause role leaseEnd s) = chuck (chuckTaken cause leaseEnd s) ∧
      (takeChuck cause role leaseEnd s).role = role ∧
      (takeChuck cause role leaseEnd s).fenceOpen = fenceWanted (takeChuck cause role leaseEnd s) := by
  unfold takeChuck
  extract_lets gap from_ unmeasured s1 s2
  have hs1 : s1 = chuckTaken cause leaseEnd s := by simp only [s1, gap, unmeasured, chuckTaken, renewGap]; rfl
  have hs2 : chuck s2 = chuck (chuckTaken cause leaseEnd s) := hs1 ▸ chuck_setRole role s1
  have hrole : s2.role = role := role_setRole role s1
  have hfence : s2.fenceOpen = fenceWanted s2 := setRole_fence role s1
  split
  · next m _ _ =>
    have hkey : fkey (carryMove m .network (carryMove m .video (carryMove m .media s2))) = fkey s2 := by simp
    refine ⟨?_, (congrArg (fun k : Role × Mode × Bool × Bool × Bool × Bool => k.1) hkey).trans hrole, ?_⟩
    · rw [chuck_carryMove, chuck_carryMove, chuck_carryMove, hs2]
    · rw [fenceOpen_of_fkey hkey, fenceWanted_of_fkey hkey, hfence]
  · exact ⟨hs2, hrole, hfence⟩

/-- A unit that takes the Chuck renews at once (R367). -/
structure TakenAndRenewed (cause : Nat) (s t : State) : Prop where
  role : t.role = .solo
  holds : t.tw.holds = true
  leaseEnd : t.tw.leaseEnd = none
  unacked : t.tw.unacked = some s.clock
  takeovers : t.tw.takeovers = satInc 16 s.tw.takeovers
  lastCause : t.tw.lastCause = cause
  fence : t.fenceOpen = fenceWanted t
  sent : ∀ q ∈ pathsUp s, leaseOut 1 s.tw.seq { s with tw := { s.tw with holds := true } } q ∈ t.out

theorem renewSend_takeChuck (cause : Nat) (s : State) :
    TakenAndRenewed cause s (renewSend (takeChuck cause .solo none s)) := by
  obtain ⟨hchuck, hrole, hfence⟩ := takeChuck_taken cause .solo none s
  generalize takeChuck cause .solo none s = t at hchuck hrole hfence ⊢
  obtain ⟨hunacked, -, hholds, hend, htakeovers, hcause, -⟩ := renewSend_tw t
  have hkey := key_renewSend t
  have hsender : sender t = sender { s with tw := { s.tw with holds := true } } := (sender_of_chuck hchuck).trans rfl
  exact {
    role := (renewSend_role t).trans hrole
    holds := hholds.trans (congrArg (fun k : Chuck => k.tw.holds) hchuck)
    leaseEnd := hend.trans (congrArg (fun k : Chuck => k.tw.leaseEnd) hchuck)
    unacked := hunacked.trans (congrArg (fun k : Chuck => some k.clock) hchuck)
    takeovers := htakeovers.trans (congrArg (fun k : Chuck => k.tw.takeovers) hchuck)
    lastCause := hcause.trans (congrArg (fun k : Chuck => k.tw.lastCause) hchuck)
    fence := by rw [fenceOpen_of_fkey hkey, fenceWanted_of_fkey hkey, hfence]
    sent := renewSend_sent hsender (congrArg (fun k : Chuck => k.tw.seq) hchuck) }

/-! ### The rows of the end of a lease, takeovers and the swap -/

theorem mayTake_holds {s : State} (h : mayTake s = true) : s.role = .standby ∧ s.tw.holds = false := by
  simp only [mayTake, Bool.and_eq_true, beq_iff_eq, Bool.not_eq_true'] at h
  obtain ⟨⟨⟨⟨-, hrole⟩, -⟩, -⟩, hholds⟩ := h
  exact ⟨hrole, hholds⟩

/-- The Chuck given up, for the cause named, before the role and the swap follow. -/
def chuckGone (cause : Nat) (s : State) : State :=
  modTw (fun w => { w with holds := false, leaseEnd := none, lastCause := cause, unacked := none }) s

/-- Without a pending commit none becomes live. -/
theorem commitLive_of_no_pend {s : State} (h : s.mb.pend = none) : commitLive s = s := by
  unfold commitLive
  rw [h]

/-- Giving up the Chuck closes the fence and sends RELEASE on every path in service. -/
theorem releaseChuck_released (cause : Nat) (s : State) :
    (releaseChuck cause s).tw.holds = false ∧ (releaseChuck cause s).role = .fenced ∧
      (releaseChuck cause s).fenceOpen = false ∧ (releaseChuck cause s).tw.swap = s.tw.swap ∧
      ∀ p ∈ pathsUp s, leaseOut 3 0 { s with tw := { s.tw with holds := false } } p ∈ (releaseChuck cause s).out := by
  unfold releaseChuck
  extract_lets w s1 s2
  have hchuck : chuck s2 = chuck s1 := chuck_setRole .fenced s1
  have hsender : sender s2 = sender { s with tw := { s.tw with holds := false } } := (sender_of_chuck hchuck).trans rfl
  refine ⟨congrArg (fun k : Chuck => k.tw.holds) hchuck, role_setRole .fenced s1, setRole_fenced_closed s1,
    congrArg (fun k : Chuck => k.tw.swap) hchuck, leaseSend_paths hsender 3 0⟩

/-- Settles O29: each row reaches a change of role, a taking, or a giving up of the Chuck, and these leave the lease as it was
set before them. -/
theorem takeoversAndFence : Obligations.TakeoversAndFence := by
  unfold Obligations.TakeoversAndFence
  refine ⟨?leaseEnd, ?notYet, ?expiry, ?mayNot, ?claim, ?parting, ?swap, ?swapEnds, ?takeTimeout, ?hotTimeout⟩
  case leaseEnd =>
    intro s e hholds hend hle
    have hover : leaseOver s = setRole .fenced (swapEnd 3 (raiseAlarm blkTW (chuckGone 8 s))) := by
      simp only [leaseOver, hholds, hend, hle, if_true]
      rfl
    have hchuck : chuck (leaseOver s) = chuck (swapDropped (raiseAlarm blkTW (chuckGone 8 s))) := by
      rw [hover, chuck_setRole, chuck_swapEnd]
    have htw : (raiseAlarm blkTW (chuckGone 8 s)).tw = (chuckGone 8 s).tw :=
      (pairing_iff.1 (pairing_of_plant (plant_raiseAlarm blkTW (chuckGone 8 s)))).2.1
    have hmode : (raiseAlarm blkTW (chuckGone 8 s)).mode = s.mode := raiseAlarm_mode blkTW (chuckGone 8 s)
    refine ⟨leaseOver s, rfl, ?_, ?_, ?_, ?_, ?_, ?_⟩
    · exact (congrArg (fun k : Chuck => k.tw.holds) hchuck).trans (congrArg TwState.holds htw)
    · rw [hover]; exact role_setRole .fenced _
    · rw [hover]; exact setRole_fenced_closed _
    · rw [show (leaseOver s).mb.alarmBlocks = _ from congrArg Chuck.alarms hchuck]
      exact raiseAlarm_sets blkTW (chuckGone 8 s)
    · exact (congrArg (fun k : Chuck => k.tw.lastCause) hchuck).trans (congrArg TwState.lastCause htw)
    · exact (congrArg Chuck.mode hchuck).trans hmode
  case notYet =>
    intro s e hend hlt
    refine congrArg Host.Outcome.next ?_
    have hnot : ¬ e ≤ s.clock := by omega
    cases hholds : s.tw.holds <;> simp [leaseOver, hholds, hend, hnot]
  case expiry =>
    intro s a hmay hsent hover hlast
    have hrun : expiryTake s = renewSend (takeChuck 2 .solo none s) := by
      simp only [expiryTake, hsent]
      exact if_pos ⟨hmay, hover, hlast⟩
    have htaken := renewSend_takeChuck 2 s
    rw [← hrun] at htaken
    exact ⟨_, rfl, htaken.holds, htaken.role, htaken.fence, htaken.lastCause, htaken.unacked⟩
  case mayNot =>
    intro s hmay
    refine ⟨congrArg Host.Outcome.next ?_, congrArg Host.Outcome.next ?_⟩
    · unfold expiryTake
      split
      · rfl
      · exact if_neg (by simp [hmay])
    · unfold arbitrate
      split
      · rfl
      · exact if_neg (by simp [hmay])
  case claim =>
    intro s h hmay hhealthy hover hquiet hpeer hnot hwins
    have hrun : arbitrate s = renewSend (modTw (fun w => { w with claiming := true }) s) := by
      simp only [arbitrate, hhealthy]
      exact if_pos ⟨hmay, hnot, hover, by simp [hquiet], hpeer, hwins⟩
    have hkey := key_renewSend (modTw (fun w => { w with claiming := true }) s)
    obtain ⟨hunacked, -, hholds, -, -, -, hclaiming⟩ := renewSend_tw (modTw (fun w => { w with claiming := true }) s)
    have hpaths := renewSend_sent (s := s) (r := modTw (fun w => { w with claiming := true }) s) rfl rfl
    rw [← hrun] at hkey hunacked hholds hclaiming hpaths
    exact ⟨_, rfl, hclaiming, hholds.trans (mayTake_holds hmay).2, hunacked, fenceOpen_of_fkey hkey, hpaths⟩
  case parting =>
    intro s
    have hchuck : chuck (partingTrip s) = chuck (modTw (fun w => { w with partingTool := true }) s) := chuck_fenceEval _
    have hwant : fenceWanted (modTw (fun w => { w with partingTool := true }) s) = false := by simp [fenceWanted]
    exact ⟨_, rfl, congrArg (fun k : Chuck => k.tw.partingTool) hchuck, (fenceEval_fence _).1.trans hwant,
      role_of_duty (duty_fenceEval _), congrArg Chuck.mode hchuck⟩
  case swap =>
    intro s w hswap hnot hacked hreached hpend hholds hready
    have hrun : swapInstant s = releaseChuck 4
        (modTw (fun v => { v with swap := some { w with released := true, releasedAt := s.clock } }) s) := by
      simp [swapInstant, hswap, hnot, hacked, commitLive_of_no_pend hpend, hholds, hready, Nat.not_lt.2 hreached]
    have hreleased := releaseChuck_released 4
      (modTw (fun v => { v with swap := some { w with released := true, releasedAt := s.clock } }) s)
    rw [← hrun] at hreleased
    obtain ⟨hgone, hrole, hfence, hstate, hsent⟩ := hreleased
    exact ⟨_, rfl, hgone, hrole, hfence, hstate, hsent⟩
  case swapEnds =>
    intro s w hswap hnot hacked hreached hpend
    have hrun : swapInstant s = swapEnd 3 s := by
      simp [swapInstant, hswap, hnot, hacked, commitLive_of_no_pend hpend, Nat.not_lt.2 hreached]
    have hchuck := chuck_swapEnd 3 s
    have hkey := key_swapEnd 3 s
    have hrole := role_of_duty (duty_swapEnd 3 s)
    rw [← hrun] at hchuck hkey hrole
    exact ⟨_, rfl, congrArg (fun k : Chuck => k.tw.swap) hchuck, congrArg (fun k : Chuck => k.tw.holds) hchuck, hrole,
      fenceOpen_of_fkey hkey⟩
  case takeTimeout =>
    intro s w hswap hreleased hover
    have hrun : swapTimeout s =
        roleEval (swapEnd 1 (modTw (fun v => { v with takeFailed := true, takeFailedAt := s.clock }) s)) := by
      simp only [swapTimeout, hswap]
      exact if_pos ⟨hreleased, hover⟩
    have hchuck := (chuck_roleEval _).trans
      (chuck_swapEnd 1 (modTw (fun v => { v with takeFailed := true, takeFailedAt := s.clock }) s))
    rw [← hrun] at hchuck
    exact ⟨_, rfl, congrArg (fun k : Chuck => k.tw.swap) hchuck, congrArg (fun k : Chuck => k.tw.takeFailed) hchuck,
      congrArg (fun k : Chuck => k.tw.takeFailedAt) hchuck⟩
  case hotTimeout =>
    intro s hlanes hrole hover
    have hrun : hotTimeout s = modTw (fun w =>
        { w with hot := false, alignSince := none, stepPs := toSigned 16 (drawFree s).1 }) (drawFree s).2 :=
      if_pos ⟨hlanes, hrole, hover⟩
    refine ⟨_, congrArg Host.Outcome.next hrun, rfl, rfl, hrole, rfl⟩

end Sys2Proof.Proofs
end

section
/-! The frames of the lease (R357 to R370): each row first notes the frame and what it says of the partner, and neither changes
the duty of this unit. -/
namespace Sys2Proof.Proofs
open Sys2Proof.Machine Sys2Proof.Laws

/-! ### Paths in service (R357) -/

/-- The paths, the mode and the blocks that raised ALARMs. -/
def service (s : State) : Bool × Bool × Bool × Mode × Nat :=
  (s.tw.tsl0, s.tw.tsl1, s.tw.witness, s.mode, s.mb.alarmBlocks)

theorem pathUp_of_service {s t : State} (h : service t = service s) (p : TwinPath) : pathUp t p = pathUp s p := by
  simp only [service, Prod.mk.injEq] at h
  obtain ⟨h0, h1, hwitness, -, -⟩ := h
  cases p <;> simp only [pathUp, h0, h1, hwitness]

theorem mode_of_service {s t : State} (h : service t = service s) : t.mode = s.mode :=
  congrArg (fun k : Bool × Bool × Bool × Mode × Nat => k.2.2.2.1) h

theorem alarms_of_service {s t : State} (h : service t = service s) : t.mb.alarmBlocks = s.mb.alarmBlocks :=
  congrArg (fun k : Bool × Bool × Bool × Mode × Nat => k.2.2.2.2) h

theorem service_roleEval (s : State) : service (roleEval s) = service s := by
  have hservice := congrArg (fun k : Chuck => (k.tw.tsl0, k.tw.tsl1, k.tw.witness, k.mode, k.alarms)) (chuck_roleEval s)
  exact hservice

theorem service_linkEval (s : State) : service (linkEval s) = service s := by
  unfold linkEval
  split <;> rfl

theorem service_unreachable (s : State) : service (unreachable s) = service s := by
  unfold unreachable
  split <;> rfl

theorem pathUp_setPath (p : TwinPath) (up : Bool) (s : State) (q : TwinPath) :
    pathUp (setPath p up s) q = if q = p then up else pathUp s q := by
  cases p <;> cases q <;> rfl

theorem mode_setPath (p : TwinPath) (up : Bool) (s : State) : (setPath p up s).mode = s.mode := by cases p <;> rfl

/-- The path as it is from now on, with the instant at which the last lane went. -/
def pathPut (p : TwinPath) (up : Bool) (s : State) : State :=
  if lanesUp (setPath p up s) = [] ∧ lanesUp s ≠ [] then modTw (fun w => { w with laneLostAt := s.clock }) (setPath p up s)
  else setPath p up s

theorem service_pathPut (p : TwinPath) (up : Bool) (s : State) : service (pathPut p up s) = service (setPath p up s) := by
  unfold pathPut
  split <;> rfl

theorem pathSet_service {p : TwinPath} {up : Bool} {s : State} (h : pathUp s p ≠ up) :
    service (pathSet p up s) = service (if up then pathPut p up s else raiseAlarm blkTW (pathPut p up s)) := by
  unfold pathSet
  rw [if_neg h]
  exact (service_roleEval _).trans ((service_linkEval _).trans (service_unreachable _))

/-- An ALARM leaves the paths. -/
theorem pathUp_raiseAlarm (blk : Nat) (s : State) (q : TwinPath) : pathUp (raiseAlarm blk s) q = pathUp s q := by
  have htw := (pairing_iff.1 (pairing_of_plant (plant_raiseAlarm blk s))).2.1
  cases q <;> simp only [pathUp, htw]

/-! ### A frame sent when its time has come -/

theorem sender_linkEval (s : State) : sender (linkEval s) = sender s := by
  unfold linkEval
  split <;> rfl

theorem sender_claimEval (s : State) : sender (claimEval s) = sender s := by
  unfold claimEval
  split <;> rfl

/-- The numbers of the lease and its claim over the evaluation of the link and of the role. -/
theorem chuck_linkEval (s : State) :
    chuck (linkEval s) = chuck { s with tw := { s.tw with healthySince := (linkEval s).tw.healthySince } } := by
  unfold linkEval
  split <;> rfl

theorem claimEval_of_idle {s : State} (h : s.tw.claiming = false) : claimEval s = s := by
  simp [claimEval, h]

/-- The link, the role and the claim, as RENEW_DUE judges them. -/
def judged (s : State) : State := claimEval (roleEval (linkEval s))

theorem sender_judged (s : State) : sender (judged s) = sender s :=
  (sender_claimEval _).trans ((sender_of_chuck (chuck_roleEval _)).trans (sender_linkEval s))

theorem judged_kept (s : State) : (judged s).tw.seq = s.tw.seq ∧ (judged s).clock = s.clock := by
  have hrole := chuck_roleEval (linkEval s)
  have hlink := chuck_linkEval s
  have hclaim : (judged s).tw.seq = (roleEval (linkEval s)).tw.seq ∧ (judged s).clock = (roleEval (linkEval s)).clock := by
    unfold judged claimEval
    split <;> exact ⟨rfl, rfl⟩
  obtain ⟨hseq, hclock⟩ := hclaim
  exact ⟨hseq.trans ((congrArg (fun k : Chuck => k.tw.seq) hrole).trans (congrArg (fun k : Chuck => k.tw.seq) hlink)),
    hclock.trans ((congrArg Chuck.clock hrole).trans (congrArg Chuck.clock hlink))⟩

theorem holds_of_sender {s t : State} (h : sender t = sender s) : t.tw.holds = s.tw.holds := by
  simp only [sender, Prod.mk.injEq] at h
  obtain ⟨-, -, -, -, hholds, -⟩ := h
  exact hholds

theorem out_of_sender {s t : State} (h : sender t = sender s) : t.out = s.out := by
  simp only [sender, Prod.mk.injEq] at h
  obtain ⟨-, -, -, hout, -⟩ := h
  exact hout

/-- A holder keeps its role. -/
theorem role_judged {s : State} (h : s.tw.holds = true) : (judged s).role = s.role := by
  have hclaim : ∀ t : State, (claimEval t).role = t.role := by
    intro t
    unfold claimEval
    split <;> rfl
  have hlink : (linkEval s).role = s.role := by
    unfold linkEval
    split <;> rfl
  unfold judged
  rw [hclaim, roleEval_of_holds ((holds_of_sender (sender_linkEval s)).trans h), hlink]

/-- A unit that claims nothing goes on so. -/
theorem claiming_judged {s : State} (h : s.tw.claiming = false) : (judged s).tw.claiming = false := by
  have hidle : (roleEval (linkEval s)).tw.claiming = false :=
    (congrArg (fun k : Chuck => k.tw.claiming) ((chuck_roleEval _).trans (chuck_linkEval s))).trans h
  unfold judged
  rw [claimEval_of_idle hidle, hidle]

theorem renewDue_due {s : State} (hruns : leaseRuns s = true) (hnow : renewNow s = true) (ctl data : Nat) :
    renewDue ctl data s = if (judged s).tw.holds || (judged s).tw.claiming then
        (if ctl ≤ 1500 ∧ data ≤ 1500 then renewSend (judged s) else judged s)
      else modTw (fun w => { w with sentAt := some (judged s).clock }) (leaseSend (pathsUp (judged s)) 0 0 (judged s)) :=
  if_neg (by simp [hruns, hnow])

/-! ### A frame received -/

theorem frameIn_new {typ : Nat} {p : TwinPath} {f : LeaseBits} {s : State} (hruns : leaseRuns s = true)
    (hnew : frameCopy typ p f s = false) (act : State → State) : frameIn typ p f act s = act (frameNote typ p f s) := by
  simp [frameIn, hruns, hnew]

theorem frameIn_copy {typ : Nat} {p : TwinPath} {f : LeaseBits} {s : State} (hruns : leaseRuns s = true)
    (hcopy : frameCopy typ p f s = true) (act : State → State) : frameIn typ p f act s = frameNote typ p f s := by
  simp [frameIn, hruns, hcopy]

/-- What a valid frame of a partner in the other slot says of it. -/
def partnerSays (renew : Bool) (f : LeaseBits) (s : State) : State :=
  modTw (fun w => { w with peerH := f.h, peerE := f.e, peerHoldAt := if f.h || renew then s.clock else w.peerHoldAt }) s

theorem leaseIn_partner {f : LeaseBits} {s : State} (h : f.slotB ≠ (s.pw.slotSel == 1)) (renew : Bool) :
    leaseIn renew f s = partnerSays renew f s := by
  unfold leaseIn
  exact if_neg h

/-- The state once a frame of the partner is noted. -/
def noted (typ : Nat) (p : TwinPath) (renew : Bool) (f : LeaseBits) (s : State) : State :=
  partnerSays renew f (frameNote typ p f s)

theorem leaseIn_noted {typ : Nat} {p : TwinPath} {f : LeaseBits} {s : State} (h : f.slotB ≠ (s.pw.slotSel == 1)) (renew : Bool) :
    leaseIn renew f (frameNote typ p f s) = noted typ p renew f s :=
  leaseIn_partner (s := frameNote typ p f s) h renew

/-- The ACK of a RENEW on the path on which it came (R365). -/
theorem sendAck_sent {p : TwinPath} {s : State} (hup : pathUp s p = true) (hmode : s.mode ≠ .boot) (f : LeaseBits) :
    sendAck p f s = modTw (fun w => { w with ackSent := some s.clock }) (leaseSend [p] 2 f.seq s) :=
  if_pos ⟨hup, fun h => absurd h hmode⟩

/-- The state once a RENEW of the partner is stored. -/
def renewStored (p : TwinPath) (f : LeaseBits) (s : State) : State :=
  modTw (fun w => { w with lastRenew := s.clock }) (noted 1 p true f s)

/-- A RENEW of the partner that reaches a unit that neither holds nor claims, with no swap under way, is stored (R365). -/
theorem renewAct_stored {p : TwinPath} {f : LeaseBits} {s : State} (hslot : f.slotB ≠ (s.pw.slotSel == 1))
    (hholds : s.tw.holds = false) (hclaim : s.tw.claiming = false) (hclash : s.tw.slotClash = false) (hswap : s.tw.swap = none) :
    renewAct f (frameNote 1 p f s) = renewStored p f s := by
  have h1 : (noted 1 p true f s).tw.holds = false := hholds
  have h2 : (noted 1 p true f s).tw.claiming = false := hclaim
  have h3 : (noted 1 p true f s).tw.slotClash = false := hclash
  have h4 : (noted 1 p true f s).tw.swap = none := hswap
  have hclock : (noted 1 p true f s).clock = s.clock := rfl
  unfold renewAct renewStored
  rw [leaseIn_noted hslot]
  generalize noted 1 p true f s = n at h1 h2 h3 h4 hclock ⊢
  simp [h1, h2, h3, swapTaken, h4, hclock]

/-- A unit that neither holds nor claims, outside a slot clash, acknowledges each copy of a RENEW. -/
theorem renewIn_acks {p : TwinPath} {f : LeaseBits} {s t : State} (hruns : leaseRuns s = true)
    (hact : frameIn 1 p f (renewAct f) s = t) (hs : acksRenew s = true) (ht : acksRenew t = true) :
    renewIn p f s = sendAck p f t := by
  unfold renewIn
  dsimp only
  rw [if_neg (by simp [hruns]), hact, if_pos hs, if_pos ht]

theorem acksRenew_iff {s : State} (hholds : s.tw.holds = false) (hclaim : s.tw.claiming = false) (hclash : s.tw.slotClash = false) :
    acksRenew s = true := by
  simp [acksRenew, hholds, hclaim, hclash]

/-- The ACK leaves on its path alone, and is noted; nothing but the twin and what goes out changes. -/
structure AckSent (p : TwinPath) (f : LeaseBits) (w : TwState) (s t : State) : Prop where
  out : t.out = leaseOut 2 f.seq s p :: s.out
  ackSent : t.tw.ackSent = some s.clock
  lastRenew : t.tw.lastRenew = w.lastRenew
  peerH : t.tw.peerH = w.peerH
  peerE : t.tw.peerE = w.peerE
  rest : { t with tw := s.tw, out := s.out } = s

theorem sendAck_only {p : TwinPath} {s : State} {w : TwState} (hsender : sender { s with tw := w } = sender s)
    (hup : pathUp s p = true) (hmode : s.mode ≠ .boot) (f : LeaseBits) :
    AckSent p f w s (sendAck p f { s with tw := w }) := by
  rw [sendAck_sent ((pathUp_of_sender hsender p).trans hup) hmode f]
  refine ⟨?_, rfl, rfl, rfl, rfl, rfl⟩
  rw [← leaseOut_of_sender hsender]
  rfl

/-- A new RENEW of the partner is stored and acknowledged (R365). -/
theorem renewIn_new {p : TwinPath} {f : LeaseBits} {s : State} (hruns : leaseRuns s = true) (hnew : frameCopy 1 p f s = false)
    (hslot : f.slotB ≠ (s.pw.slotSel == 1)) (hholds : s.tw.holds = false) (hclaim : s.tw.claiming = false)
    (hclash : s.tw.slotClash = false) (hswap : s.tw.swap = none) (hup : pathUp s p = true) (hmode : s.mode ≠ .boot) :
    AckSent p f (renewStored p f s).tw s (renewIn p f s) := by
  have hrun : renewIn p f s = sendAck p f (renewStored p f s) :=
    renewIn_acks hruns ((frameIn_new hruns hnew _).trans (renewAct_stored hslot hholds hclaim hclash hswap))
      (acksRenew_iff hholds hclaim hclash) (acksRenew_iff hholds hclaim hclash)
  rw [hrun]
  exact sendAck_only (s := s) (w := (renewStored p f s).tw) rfl hup hmode f

/-- A further copy of a RENEW is acknowledged on its own path. -/
theorem renewIn_copy {p : TwinPath} {f : LeaseBits} {s : State} (hruns : leaseRuns s = true) (hcopy : frameCopy 1 p f s = true)
    (hholds : s.tw.holds = false) (hclaim : s.tw.claiming = false) (hclash : s.tw.slotClash = false) (hup : pathUp s p = true)
    (hmode : s.mode ≠ .boot) : AckSent p f (frameNote 1 p f s).tw s (renewIn p f s) := by
  have hrun : renewIn p f s = sendAck p f (frameNote 1 p f s) :=
    renewIn_acks hruns (frameIn_copy hruns hcopy _) (acksRenew_iff hholds hclaim hclash)
      (acksRenew_iff hholds hclaim hclash)
  rw [hrun]
  exact sendAck_only (s := s) (w := (frameNote 1 p f s).tw) rfl hup hmode f

/-! ### A holder that receives a RENEW (R369) -/

/-- A holder acts on a RENEW as on a conflict, and acknowledges nothing. -/
theorem renewIn_holder {p : TwinPath} {f : LeaseBits} {s : State} (hruns : leaseRuns s = true) (hnew : frameCopy 1 p f s = false)
    (hholds : s.tw.holds = true) (hslot : f.slotB ≠ (s.pw.slotSel == 1)) :
    renewIn p f s = renewConflict f (noted 1 p true f s) := by
  have hnoted : (noted 1 p true f s).tw.holds = true := hholds
  have hacks : acksRenew s = false := by simp [acksRenew, hholds]
  unfold renewIn
  dsimp only
  rw [if_neg (by simp [hruns]), frameIn_new hruns hnew, hacks]
  unfold renewAct
  rw [leaseIn_noted hslot]
  simp [hnoted]

/-- Slot B gives up the Chuck: its fence closes, with the ALARM. -/
theorem renewConflict_fences {f : LeaseBits} {s : State} (h : s.pw.slotSel = 1) :
    (renewConflict f s).tw.holds = false ∧ (renewConflict f s).role = .fenced ∧ (renewConflict f s).fenceOpen = false ∧
      nbit (renewConflict f s).mb.alarmBlocks 9 = true := by
  have hpw : (raiseAlarm blkTW s).pw = s.pw := congrArg (fun d : Mode × Nat × Role × PwState => d.2.2.2) (duty_raiseAlarm blkTW s)
  have hrun : renewConflict f s = conflictFence (raiseAlarm blkTW s) := by
    unfold renewConflict
    exact if_pos (.inl (by rw [hpw, h]))
  have hchuck : chuck (renewConflict f s) = chuck (swapDropped (chuckGone 7 (raiseAlarm blkTW s))) := by
    rw [hrun]
    exact (chuck_setRole _ _).trans (chuck_swapEnd _ _)
  refine ⟨congrArg (fun k : Chuck => k.tw.holds) hchuck, ?_, ?_, ?_⟩
  · rw [hrun]; exact role_setRole .fenced _
  · rw [hrun]; exact setRole_fenced_closed _
  · rw [show (renewConflict f s).mb.alarmBlocks = (raiseAlarm blkTW s).mb.alarmBlocks from congrArg Chuck.alarms hchuck]
    exact raiseAlarm_sets blkTW s

/-- Slot A goes on, with the ALARM. -/
theorem renewConflict_goesOn {f : LeaseBits} {s : State} (h : s.pw.slotSel = 0) (hslot : f.slotB = true) :
    renewConflict f s = raiseAlarm blkTW s := by
  have hpw : (raiseAlarm blkTW s).pw = s.pw := congrArg (fun d : Mode × Nat × Role × PwState => d.2.2.2) (duty_raiseAlarm blkTW s)
  unfold renewConflict
  exact if_neg (by simp [hpw, h, hslot])

/-! ### ACK, RELEASE and WAIVE (R366 to R368) -/

/-- The ACK of the last RENEW, sent at `u`: nothing is unacknowledged, and a late one is counted. -/
def acked (u : Nat) (s : State) : State :=
  modTw (fun w =>
    { w with unacked := none,
             ackMissed := if decide (u + uPerUs < s.clock) then satInc 16 w.ackMissed else w.ackMissed }) s

/-- The ACK of its last RENEW makes a holder ACTIVE with a new lease end. -/
theorem ackAct_holder {f : LeaseBits} {s : State} {u : Nat} (hslot : f.slotB ≠ (s.pw.slotSel == 1)) (hholds : s.tw.holds = true)
    (hclaim : s.tw.claiming = false) (hunacked : s.tw.unacked = some u) (hseq : f.seq = (s.tw.seq + 63) % 64) :
    ackAct f s = setRole .active (modTw (fun w => { w with leaseEnd := some (s.clock + leaseEff s * uPerUs) })
      (acked u (partnerSays false f s))) := by
  have h1 : (partnerSays false f s).tw.claiming = false := hclaim
  have h2 : (partnerSays false f s).tw.unacked = some u := hunacked
  have h3 : (partnerSays false f s).tw.seq = s.tw.seq := rfl
  have h4 : (acked u (partnerSays false f s)).tw.holds = true := hholds
  unfold ackAct
  rw [leaseIn_partner hslot, claimEval_of_idle h1]
  dsimp only
  rw [h2, h3, if_pos hseq]
  exact if_pos h4

/-- The row of the ACK does so once the frame is noted (R366). -/
theorem ackIn_active {p : TwinPath} {f : LeaseBits} {s : State} {u : Nat} (hruns : leaseRuns s = true)
    (hnew : frameCopy 2 p f s = false) (hholds : s.tw.holds = true) (hclaim : s.tw.claiming = false)
    (hslot : f.slotB ≠ (s.pw.slotSel == 1)) (hunacked : s.tw.unacked = some u) (hseq : f.seq = (s.tw.seq + 63) % 64) :
    (ackIn p f s).role = .active ∧ (ackIn p f s).tw.holds = true ∧ (ackIn p f s).tw.unacked = none ∧
      (ackIn p f s).tw.leaseEnd = some (s.clock + leaseEff s * uPerUs) ∧
      (ackIn p f s).tw.ackMissed = if u + uPerUs < s.clock then satInc 16 s.tw.ackMissed else s.tw.ackMissed := by
  have hrun : ackIn p f s = setRole .active (modTw (fun w => { w with leaseEnd := some (s.clock + leaseEff s * uPerUs) })
      (acked u (noted 2 p false f s))) :=
    (frameIn_new hruns hnew (ackAct f)).trans (ackAct_holder (s := frameNote 2 p f s) hslot hholds hclaim hunacked hseq)
  have hmissed : (acked u (noted 2 p false f s)).tw.ackMissed =
      if u + uPerUs < s.clock then satInc 16 s.tw.ackMissed else s.tw.ackMissed := by
    simp only [acked, modTw, decide_eq_true_eq]
    rfl
  have hkept : (acked u (noted 2 p false f s)).tw.holds = true := hholds
  have hnone : (acked u (noted 2 p false f s)).tw.unacked = none := rfl
  rw [hrun]
  generalize acked u (noted 2 p false f s) = t at hmissed hkept hnone ⊢
  have hchuck := chuck_setRole .active (modTw (fun w => { w with leaseEnd := some (s.clock + leaseEff s * uPerUs) }) t)
  exact ⟨role_setRole .active _, (congrArg (fun k : Chuck => k.tw.holds) hchuck).trans hkept,
    (congrArg (fun k : Chuck => k.tw.unacked) hchuck).trans hnone, congrArg (fun k : Chuck => k.tw.leaseEnd) hchuck,
    (congrArg (fun k : Chuck => k.tw.ackMissed) hchuck).trans hmissed⟩

/-- A RELEASE lets a STANDBY that may take do so, and it renews at once. -/
theorem releaseAct_taken {f : LeaseBits} {s : State} (hslot : f.slotB ≠ (s.pw.slotSel == 1)) (hmay : mayTake s = true) :
    ∃ cause, releaseAct f s = renewSend (takeChuck cause .solo none (partnerSays false f s)) := by
  have hmay' : mayTake (partnerSays false f s) = true := hmay
  unfold releaseAct
  rw [leaseIn_partner hslot]
  dsimp only
  rw [if_pos hmay']
  exact ⟨_, rfl⟩

/-- A WAIVE takes the end off the lease of a holder. -/
theorem waiveAct_holder {f : LeaseBits} {s : State} (hslot : f.slotB ≠ (s.pw.slotSel == 1)) (hholds : s.tw.holds = true) :
    (waiveAct f s).role = .solo ∧ (waiveAct f s).tw.holds = true ∧ (waiveAct f s).tw.leaseEnd = none := by
  have hholds' : (partnerSays false f s).tw.holds = true := hholds
  have hrun : waiveAct f s = setRole .solo (swapEnd 3
      (modTw (fun w => { w with leaseEnd := none, lastCause := 6, unacked := none }) (partnerSays false f s))) := by
    unfold waiveAct
    rw [leaseIn_partner hslot]
    exact if_pos hholds'
  have hchuck := (chuck_setRole .solo _).trans (chuck_swapEnd 3
    (modTw (fun w => { w with leaseEnd := none, lastCause := 6, unacked := none }) (partnerSays false f s)))
  rw [hrun]
  exact ⟨role_setRole .solo _, (congrArg (fun k : Chuck => k.tw.holds) hchuck).trans hholds,
    congrArg (fun k : Chuck => k.tw.leaseEnd) hchuck⟩

/-- The slot clash, first seen by a STANDBY: an ALARM, and the role FENCED (R370). -/
theorem leaseIn_clash {f : LeaseBits} {s : State} (hslot : f.slotB = (s.pw.slotSel == 1)) (hclash : s.tw.slotClash = false)
    (hrole : s.role = .standby) (renew : Bool) :
    leaseIn renew f s = setRole .fenced (modTw (fun w => { w with claiming := false })
      (raiseAlarm blkTW (modTw (fun w => { w with slotClash := true, clashAt := s.clock }) (partnerSays renew f s)))) := by
  have hraised : (raiseAlarm blkTW (modTw (fun w => { w with slotClash := true, clashAt := s.clock })
      (partnerSays renew f s))).role = .standby := (role_of_duty (duty_raiseAlarm blkTW _)).trans hrole
  unfold leaseIn
  extract_lets s1 again s2 s3
  have hagain : again = true := by simp [again, s1, hclash]
  have hs3 : s3 = raiseAlarm blkTW (modTw (fun w => { w with slotClash := true, clashAt := s.clock }) (partnerSays renew f s)) := by
    simp only [s3, s2, hagain, if_true]
    rfl
  rw [if_pos hslot, if_pos (hs3 ▸ hraised), hs3]

theorem leaseIn_clash_seen {f : LeaseBits} {s : State} (hslot : f.slotB = (s.pw.slotSel == 1)) (hclash : s.tw.slotClash = false)
    (hrole : s.role = .standby) (renew : Bool) :
    (leaseIn renew f s).tw.slotClash = true ∧ (leaseIn renew f s).role = .fenced ∧
      nbit (leaseIn renew f s).mb.alarmBlocks 9 = true := by
  rw [leaseIn_clash hslot hclash hrole]
  generalize hc : modTw (fun w => { w with slotClash := true, clashAt := s.clock }) (partnerSays renew f s) = c
  have hclashed : c.tw.slotClash = true := hc ▸ rfl
  have htw := (pairing_iff.1 (pairing_of_plant (plant_raiseAlarm blkTW c))).2.1
  have hchuck := chuck_setRole .fenced (modTw (fun w => { w with claiming := false }) (raiseAlarm blkTW c))
  refine ⟨?_, role_setRole .fenced _, ?_⟩
  · exact (congrArg (fun k : Chuck => k.tw.slotClash) hchuck).trans ((congrArg TwState.slotClash htw).trans hclashed)
  · rw [show (setRole .fenced (modTw (fun w => { w with claiming := false }) (raiseAlarm blkTW c))).mb.alarmBlocks =
      (raiseAlarm blkTW c).mb.alarmBlocks from congrArg Chuck.alarms hchuck]
    exact raiseAlarm_sets blkTW c

/-- Settles O28: every row notes the frame, evaluates what it says of the partner, and then acts; the frames and the lease do
not depend on what lies between. -/
theorem leaseFrames : Obligations.LeaseFrames := by
  unfold Obligations.LeaseFrames
  refine ⟨?leaves, ?enters, ?renews, ?dead, ?null, ?acked, ?ackedCopy, ?conflictB, ?conflictA, ?ackIn, ?releaseIn, ?waiveIn,
    ?nullIn, ?nullCopy, ?clash⟩
  case leaves =>
    intro s p d hpos hup hserves
    have hrun : (if twinPos s then pathChange p d s else s) = pathSet p false s := by rw [if_pos hpos, pathChange, hserves]
    have hservice : service (pathSet p false s) = service (raiseAlarm blkTW (pathPut p false s)) :=
      pathSet_service (by simp [hup])
    have hpath : ∀ q, pathUp (pathSet p false s) q = if q = p then false else pathUp s q := by
      intro q
      rw [pathUp_of_service hservice, pathUp_raiseAlarm, pathUp_of_service (service_pathPut p false s), pathUp_setPath]
    refine ⟨_, congrArg Host.Outcome.next hrun, by simp [hpath], ?_, fun q _ hq => by simp [hpath, hq], ?_⟩
    · rw [alarms_of_service hservice]
      exact raiseAlarm_sets blkTW _
    · rw [mode_of_service hservice, raiseAlarm_mode, mode_of_service (service_pathPut p false s), mode_setPath]
  case enters =>
    intro s p d hpos hup hserves
    have hrun : (if twinPos s then pathChange p d s else s) = pathSet p true s := by rw [if_pos hpos, pathChange, hserves]
    have hservice : service (pathSet p true s) = service (setPath p true s) :=
      (pathSet_service (by simp [hup])).trans (service_pathPut p true s)
    refine ⟨_, congrArg Host.Outcome.next hrun, ?_, ?_⟩
    · rw [pathUp_of_service hservice, pathUp_setPath, if_pos rfl]
    · rw [mode_of_service hservice, mode_setPath]
  case renews =>
    intro s c d hruns hnow hholds hc hd
    have hjudged : (judged s).tw.holds = true := (holds_of_sender (sender_judged s)).trans hholds
    have hrun : renewDue c d s = renewSend (judged s) := by simp [renewDue_due hruns hnow, hjudged, hc, hd]
    obtain ⟨hseq, hclock⟩ := judged_kept s
    obtain ⟨hunacked, hnext, -⟩ := renewSend_tw (judged s)
    refine ⟨_, congrArg Host.Outcome.next hrun, renewSend_sent (sender_judged s) hseq, ?_, ?_, ?_⟩
    · rw [hnext, hseq]
    · rw [hunacked, hclock]
    · rw [renewSend_role, role_judged hholds]
  case dead =>
    intro s c d hruns hnow hholds hlate
    have hjudged : (judged s).tw.holds = true := (holds_of_sender (sender_judged s)).trans hholds
    have hnot : ¬ (c ≤ 1500 ∧ d ≤ 1500) := by omega
    have hrun : renewDue c d s = judged s := by simp [renewDue_due hruns hnow, hjudged, hnot]
    exact ⟨_, congrArg Host.Outcome.next hrun, out_of_sender (sender_judged s), role_judged hholds⟩
  case null =>
    intro s c d hruns hnow hholds hclaim
    have hjudged : (judged s).tw.holds = false := (holds_of_sender (sender_judged s)).trans hholds
    have hrun : renewDue c d s = modTw (fun w => { w with sentAt := some (judged s).clock })
        (leaseSend (pathsUp (judged s)) 0 0 (judged s)) := by
      simp [renewDue_due hruns hnow, hjudged, claiming_judged hclaim]
    obtain ⟨hseq, hclock⟩ := judged_kept s
    exact ⟨_, congrArg Host.Outcome.next hrun, leaseSend_paths (sender_judged s) 0 0, hseq, congrArg some hclock⟩
  case acked =>
    intro s p f hruns hnew hholds hclaim hclash hswap hslot hup hmode
    have hack := renewIn_new hruns hnew hslot hholds hclaim hclash hswap hup hmode
    exact ⟨_, rfl, hack.out, hack.ackSent, hack.lastRenew, hack.peerH, hack.peerE, hack.rest⟩
  case ackedCopy =>
    intro s p f hruns hcopy hholds hclaim hclash hup hmode
    have hack := renewIn_copy hruns hcopy hholds hclaim hclash hup hmode
    exact ⟨_, rfl, hack.out, hack.ackSent, hack.lastRenew, hack.rest⟩
  case conflictB =>
    intro s p f hruns hnew hholds hslotB hf
    exact ⟨_, congrArg Host.Outcome.next (renewIn_holder hruns hnew hholds (by simp [hslotB, hf])), renewConflict_fences hslotB⟩
  case conflictA =>
    intro s p f hruns hnew hholds hslotA hf
    have hrun : renewIn p f s = raiseAlarm blkTW (noted 1 p true f s) :=
      (renewIn_holder hruns hnew hholds (by simp [hslotA, hf])).trans (renewConflict_goesOn hslotA hf)
    have htw := (pairing_iff.1 (pairing_of_plant (plant_raiseAlarm blkTW (noted 1 p true f s)))).2.1
    exact ⟨_, congrArg Host.Outcome.next hrun, (congrArg TwState.holds htw).trans hholds,
      role_of_duty (duty_raiseAlarm blkTW _), fenceOpen_of_fkey (key_raiseAlarm blkTW _), raiseAlarm_sets blkTW _⟩
  case ackIn =>
    intro s p f u hruns hnew hholds hclaim hslot hunacked hseq
    exact ⟨_, rfl, ackIn_active hruns hnew hholds hclaim hslot hunacked hseq⟩
  case releaseIn =>
    intro s p f hruns hnew hslot hmay
    have hrun : releaseIn p f s = releaseAct f (frameNote 3 p f s) := frameIn_new hruns hnew _
    obtain ⟨cause, hact⟩ := releaseAct_taken (s := frameNote 3 p f s) hslot hmay
    have htaken := renewSend_takeChuck cause (noted 3 p false f s)
    exact ⟨_, congrArg Host.Outcome.next (hrun.trans hact), htaken.role, htaken.holds, htaken.leaseEnd, htaken.unacked,
      htaken.takeovers, htaken.fence, htaken.sent⟩
  case waiveIn =>
    intro s p f hruns hnew hslot hholds
    have hrun : waiveIn p f s = waiveAct f (frameNote 4 p f s) := frameIn_new hruns hnew _
    exact ⟨_, congrArg Host.Outcome.next hrun, waiveAct_holder (s := frameNote 4 p f s) hslot hholds⟩
  case nullIn =>
    intro s p f hruns hnew hslot
    have hrun : nullIn p f s = noted 0 p false f s :=
      (frameIn_new hruns hnew (leaseIn false f)).trans (leaseIn_noted hslot false)
    exact ⟨_, congrArg Host.Outcome.next hrun, rfl, rfl, rfl, rfl⟩
  case nullCopy =>
    intro s p f hruns hcopy
    have hrun : nullIn p f s = frameNote 0 p f s := frameIn_copy hruns hcopy (leaseIn false f)
    exact ⟨_, congrArg Host.Outcome.next hrun, rfl⟩
  case clash =>
    intro s p f hruns hnew hslot hclash hrole
    have hrun : nullIn p f s = leaseIn false f (frameNote 0 p f s) := frameIn_new hruns hnew _
    obtain ⟨hseen, hfenced, halarm⟩ := leaseIn_clash_seen (s := frameNote 0 p f s) hslot hclash hrole false
    exact ⟨_, congrArg Host.Outcome.next hrun, hseen, hfenced, halarm⟩

end Sys2Proof.Proofs
end

section
/-! Direct commands and the committed configuration (R411): what each of them does leaves the generation and the digest, and a
table write changes the live tables and copies what it changes into the pending ones. -/
namespace Sys2Proof.Proofs
open Sys2Proof.Machine Sys2Proof.Laws

/-! ### The committed generation over the operations of the direct commands -/

theorem committed_of_mb {s t : State} (h : t.mb = s.mb) : committed t = committed s := by rw [committed, committed, h]

theorem committed_of_hsOnly {s t : State} : HsOnly s t → committed t = committed s := by
  rintro ⟨h, rfl⟩
  rfl

theorem committed_respond (c : Cmd) (status : Nat) (res : Bytes) (s : State) : committed (respond c status res s) = committed s :=
  (committed_settleDrains _ _).trans (committed_respondFinal c status res s)

theorem committed_setPhase (n : Nat) (ph : CmdPhase) (s : State) : committed (setPhase n ph s) = committed s := rfl

/-- The answer of a command that a SNAPSHOT image remembers. -/
theorem committed_noted (c : Cmd) (res : Bytes) (s : State) : committed (respond c stDone res (noteDirect c s)) = committed s :=
  committed_respond c stDone res (noteDirect c s)

theorem committed_respondMid (c : Cmd) (status : Nat) (res : Bytes) (s : State) :
    committed (respondMid c status res s) = committed s := by
  unfold respondMid
  extract_lets s1 s2
  have hs1 : committed s1 = committed s := committed_rspSend c _ s
  have hs2 : committed s2 = committed s1 := by
    simp only [s2]
    split
    · exact committed_of_ledger (ledgerOnly_lgCommand _ _ _)
    · rfl
  exact hs2.trans hs1

theorem committed_raiseAlarm (blk : Nat) (s : State) : committed (raiseAlarm blk s) = committed s :=
  committed_raiseIrq 2 _

theorem committed_enAnswer (c : Cmd) (a : Nat) (s : State) : committed (enAnswer c a s) = committed s := by
  unfold enAnswer
  split
  · exact committed_respond c _ _ s
  · split
    · rfl
    · split
      · exact committed_respondMid c _ _ s
      · exact committed_respond c _ _ s

/-! Stopping the data plane and the synthesisers -/

theorem committed_modSeq (inj : Bool) (f : SeqRun → SeqRun) (s : State) : committed (modSeq inj f s) = committed s := by
  cases inj <;> rfl

theorem committed_endPass (inj : Bool) (s : State) : committed (endPass inj s) = committed s := by
  unfold endPass
  extract_lets q s1 s2 next
  have hs1 : committed s1 = committed s := by
    simp only [s1]
    split
    · rfl
    · split
      · rfl
      · exact committed_modSeq inj _ s
  have hs2 : committed s2 = committed s := (committed_modSeq inj _ s1).trans hs1
  clear_value s2
  split <;> exact hs2

/-- What runs on the clocks is no part of it. -/
theorem committed_upd (s : State) (plane : DataPlane) (dg : DgState) (ad : AdState) (da : DaState) (ps : List PsState)
    (xb : XbState) (nw : NwState) : committed { s with dataPlane := plane, dg, ad, da, ps, xb, nw } = committed s := rfl

theorem committed_stopVclk (s : State) : committed (stopVclk s) = committed s := committed_upd s _ _ _ _ _ _ _

theorem committed_stopPlane (k : DataPlane) (s : State) : committed (stopPlane k s) = committed s := by
  have hmclk (t : State) : committed (stopMclk t) = committed t :=
    (committed_upd (endPass false (endPass true t)) _ _ _ _ _ _ _).trans ((committed_endPass false _).trans (committed_endPass true t))
  unfold stopPlane
  split
  · rfl
  · exact (hmclk _).trans (committed_upd s _ _ _ _ _ _ _)

theorem committed_startLock (x : Syn) (s : State) : committed (startLock x s) = committed s := by
  have hband : committed (bandSearch x s) = committed s := committed_modSyn x _ (drawFree s).2
  exact (committed_modSyn x _ (drawFree (bandSearch x s)).2).trans hband

theorem committed_closeGates (x : Syn) (s : State) : committed (closeGates x s) = committed s := by
  unfold closeGates
  split <;> rfl

theorem committed_startRelock (x : Syn) (w : Nat) (k : DataPlane) (s : State) : committed (startRelock x w k s) = committed s := by
  unfold startRelock
  extract_lets s1 s2
  have hs2 : committed s2 = committed s :=
    (committed_modSyn x _ s1).trans ((committed_startLock x _).trans (committed_closeGates x s))
  split
  · exact (committed_stopPlane k s2).trans hs2
  · split
    · exact (committed_stopVclk s2).trans hs2
    · exact hs2

theorem committed_applyWord (x : Syn) (w : Nat) (s : State) : committed (applyWord x w s) = committed s := by
  unfold applyWord
  extract_lets y s1
  have hs1 : committed s1 = committed s := committed_modSyn x _ s
  split
  · exact (committed_modSyn x _ s1).trans hs1
  · split
    · exact (committed_startRelock x w .relock s1).trans hs1
    · split <;> exact (committed_modSyn x _ s1).trans hs1

theorem committed_rootSwitch (r : RootId) (s : State) : committed (rootSwitch r s) = committed s :=
  committed_of_mb (congrArg (fun k : RootInput × RootInput × Option RootId × Mode × Tables × MbState => k.2.2.2.2.2)
    (rootKey_rootSwitch r s))

theorem committed_preferRoot (s : State) : committed (preferRoot s) = committed s :=
  committed_of_mb (congrArg (fun k : RootInput × RootInput × Option RootId × Mode × Tables × MbState => k.2.2.2.2.2)
    (rootKey_preferRoot s))

theorem committed_startMove (x : Syn) (p : Int) (fixed : Option Nat) (kind : MoveKind) (s : State) :
    committed (startMove x p fixed kind s) = committed s :=
  committed_of_hsOnly (hsOnly_startMove x p fixed kind ⟨s.hs, rfl⟩)

theorem committed_groupMove (ps : Int) (fixed : Option Nat) (kind : MoveKind) (g : Group) (s : State) :
    committed (groupMove ps fixed kind g s) = committed s :=
  committed_of_hsOnly (hsOnly_groupMove ps fixed kind g ⟨s.hs, rfl⟩)

theorem committed_cancelLoopMoves (s : State) : committed (cancelLoopMoves s) = committed s :=
  committed_of_hsOnly (hsOnly_cancelLoopMoves s)

theorem committed_selectCand (i : Nat) (s : State) : committed (selectCand i s) = committed s := rfl

theorem committed_hitlessSwitch (i : Nat) (s : State) : committed (hitlessSwitch i s) = committed s := by
  rw [hitlessSwitch, committed_of_hsOnly (hsOnly_moveGroups _ _ _), committed_selectCand, committed_cancelLoopMoves]

/-! The Spindle step, triggers, strobes and enable machines -/

theorem committed_leapNow (s : State) : committed (leapNow s) = committed s := by
  have htk (k : TkState) : committed { s with tk := k } = committed s := rfl
  unfold leapNow
  dsimp only
  split
  · exact (committed_of_ledger (ledgerOnly_lgEvent _ _ _)).trans (htk _)
  · rfl

theorem committed_loadCounter (t : Nat) (setValid : Bool) (s : State) : committed (loadCounter t setValid s) = committed s := by
  have hload (u : State) (n : Nat) (b : Bool) (h : HsState) (k : TkState) :
      committed { u with spindle := n, timeValid := b, hs := h, tk := k } = committed u := rfl
  have hvclk : committed (stepVclk t s) = committed s := rfl
  unfold loadCounter
  exact (committed_leapNow _).trans ((hload (stepVclk t s) _ _ _ _).trans hvclk)

theorem committed_residualMove (s : State) (g : Group) : committed (residualMove s g) = committed s := by
  unfold residualMove
  dsimp only
  split
  · exact committed_startMove _ _ _ _ s
  · rfl

theorem committed_spindleStep (q : StepReq) (s : State) : committed (spindleStep q s) = committed s := by
  have hwaits (u : State) (k : TkState) (n : Nat) : committed (setPhase n .running { u with tk := k }) = committed u := rfl
  unfold spindleStep
  extract_lets t s1 s2 s3
  have hs1 : committed s1 = committed s := by
    simp only [s1]
    split
    · exact (committed_raiseAlarm _ _).trans (committed_of_ledger (ledgerOnly_lgEvent _ _ s))
    · rfl
  have hs2 : committed s2 = committed s := (committed_loadCounter _ _ s1).trans hs1
  have hs3 : committed s3 = committed s :=
    (committed_foldl residualMove committed_residualMove _ (gateStep (stopPlane .second s2))).trans
      ((committed_stopPlane .second s2).trans hs2)
  split
  · split
    · exact hs2
    · exact (committed_respondTo _ _ _ s2).trans hs2
  · split
    · exact hs3
    · exact (hwaits s3 _ _).trans hs3

theorem committed_adTrigger (inj : Bool) (s : State) : committed (adTrigger inj s) = committed s := by
  have hlost : committed (triggerLost inj s.clock s) = committed s := by cases inj <;> rfl
  unfold adTrigger
  rcases adTriggerAt_cases inj s.clock s with ⟨hno, -⟩ | ⟨hstart, -⟩ | hdropped | halarm
  · rw [hno]
  · rw [hstart]
    exact committed_modSeq inj _ s
  · rw [hdropped]
    exact hlost
  · rw [halarm]
    exact (committed_raiseAlarm _ _).trans hlost

theorem committed_holdStrobe (g : Nat) (s : State) : committed (holdStrobe g s) = committed s := by
  obtain ⟨d, hd⟩ := daOnly_holdStrobe g s
  rw [hd]
  rfl

theorem committed_hpAsk (up : Bool) (cmd : Option Nat) (s : State) : committed (hpAsk up cmd s).1 = committed s := by
  unfold hpAsk
  dsimp only
  split <;> rfl

/-! The mode and the role -/

theorem committed_identAbandon (s : State) : committed (identAbandon s) = committed s := by
  unfold identAbandon
  split
  · rfl
  · dsimp only
    split
    · exact committed_respondTo _ _ _ _
    · rfl

theorem committed_fenceEval (s : State) : committed (fenceEval s) = committed s := by
  unfold fenceEval
  dsimp only
  split
  · rfl
  · split
    · rfl
    · exact committed_identAbandon _

theorem committed_setRole (r : Role) (s : State) : committed (setRole r s) = committed s := by
  unfold setRole
  split
  · exact committed_fenceEval s
  · have hevent : committed (raiseIrq 5 (lgEvent 0xFF04 (roleCode s.role + 256 * roleCode r + 65536 * s.tw.lastCause)
        { s with role := r })) = committed s :=
      (committed_raiseIrq 5 _).trans (committed_of_ledger (s := { s with role := r }) (ledgerOnly_lgEvent _ _ _))
    dsimp only
    rw [committed_fenceEval]
    generalize raiseIrq 5 _ = t at hevent ⊢
    rw [← hevent]
    repeat' split
    all_goals rfl

theorem committed_setMode (m : Mode) (s : State) : committed (setMode m s) = committed s := by
  have hmode : committed { s with mode := m } = committed s := rfl
  unfold setMode
  split
  · rfl
  · exact (committed_fenceEval _).trans ((committed_raiseIrq 4 _).trans
      ((committed_of_ledger (ledgerOnly_lgEvent _ _ _)).trans hmode))

/-! A domain that starts or stops: the loss of the candidate of a PTP port -/

theorem committed_inOrder (rank : Nat) (s : State) : committed (inOrder rank s) = committed s := by
  unfold inOrder
  split <;> rfl

theorem committed_holdoverEntry (from6 : Bool) (s : State) : committed (holdoverEntry from6 s) = committed s := by
  have hclear (k : TkState) : committed (cancelLoopMoves { s with tk := k }) = committed s := committed_cancelLoopMoves { s with tk := k }
  have hcoast (u : State) (k : TkState) : committed (setMode .holdover { u with tk := k }) = committed u :=
    committed_setMode .holdover { u with tk := k }
  unfold holdoverEntry
  dsimp only
  split
  · exact (hcoast _ _).trans (hclear _)
  · exact (committed_setMode _ _).trans (hclear _)

theorem committed_selectedLost (declared from6 : Bool) (s : State) :
    committed (selectedLost declared from6 s) = committed s := by
  unfold selectedLost
  dsimp only
  split
  · exact committed_inOrder rankLoss s
  · split
    · exact (committed_hitlessSwitch _ _).trans (committed_inOrder rankLoss s)
    · exact (committed_holdoverEntry _ _).trans (committed_inOrder rankLoss s)

theorem committed_loseCand (i : Nat) (s : State) : committed (loseCand i s) = committed s := by
  have hnone (t : State) : committed (toNoSignal i t) = committed t := by
    unfold toNoSignal
    dsimp only
    split <;> rfl
  unfold loseCand
  split
  · rfl
  · rfl
  · extract_lets tk s1 s2
    have hs2 : committed s2 = committed s := (committed_raiseAlarm blkTK s1).trans (hnone _)
    split
    · exact (committed_selectedLost _ _ s2).trans hs2
    · exact hs2

theorem committed_modPtp (n : Nat) (f : PtpState → PtpState) (s : State) : committed (modPtp n f s) = committed s := by
  unfold modPtp
  split <;> rfl

theorem committed_ptpEnter (n st : Nat) (s : State) : committed (ptpEnter n st s) = committed s := by
  unfold ptpEnter
  extract_lets old clear s1
  have hs1 : committed s1 = committed s := committed_modPtp n clear s
  split
  · rfl
  · split
    · unfold losePtp
      split
      · exact (committed_loseCand _ s1).trans hs1
      · exact hs1
    · exact hs1

theorem committed_ptpStart (n : Nat) (s : State) : committed (ptpStart n s) = committed s :=
  (committed_modPtp n _ _).trans (committed_ptpEnter n _ s)

theorem committed_portStart (n : Nat) (s : State) : committed (portStart n s) = committed s := by
  have hport (f : PortState → PortState) : committed (modPort n f s) = committed s := by
    unfold modPort
    split <;> rfl
  unfold portStart
  split
  · exact hport _
  · exact hport _

theorem committed_domStarts (d : Nat) (up : Bool) (s : State) : committed (domStarts d up s) = committed s := by
  unfold domStarts
  split
  case h_5 => split <;> rfl
  case h_6 =>
    split
    · exact (committed_modSyn _ _ _).trans (committed_startLock _ s)
    · exact (committed_modSyn _ _ _).trans ((committed_stopVclk _).trans (committed_closeGates _ s))
  case h_7 => exact (committed_ptpStart _ _).trans (committed_portStart _ s)
  case h_8 => exact (committed_ptpStart _ _).trans (committed_portStart _ s)
  case h_9 => rfl
  all_goals split <;> rfl

theorem committed_domAsk (d : Nat) (up : Bool) (c : Cmd) (s : State) : committed (domAsk d up c s) = committed s := by
  unfold domAsk
  extract_lets m x s1
  have hs1 : committed s1 = committed s := committed_enAnswer c x.2 (setDom d x.1 s)
  split
  · exact (committed_domStarts d up s1).trans hs1
  · exact hs1

/-! Taking the Chuck -/

theorem committed_carryMove (m : MirrorMsg) (g : Group) (s : State) : committed (carryMove m g s) = committed s := by
  unfold carryMove
  extract_lets o back s1
  have hs1 : committed s1 = committed s := committed_groupMove o none .kept g s
  split
  · exact hs1
  · exact hs1

theorem committed_takeChuck (cause : Nat) (role : Role) (leaseEnd : Option Nat) (s : State) :
    committed (takeChuck cause role leaseEnd s) = committed s := by
  unfold takeChuck
  extract_lets gap from_ unmeasured s1 s2
  have hs2 : committed s2 = committed s := committed_setRole role s1
  split
  · exact (committed_carryMove _ _ _).trans ((committed_carryMove _ _ _).trans ((committed_carryMove _ _ s2).trans hs2))
  · exact hs2

/-! ### Every direct command (R411) -/

theorem committed_atFrame {check : Bytes → State → Option Nat} {run : Cmd → State → State} (c : Cmd) (s : State)
    (hrun : committed (run c s) = committed s) : committed (atFrame check run c s) = committed s := by
  unfold atFrame
  split
  · exact committed_respond c _ _ s
  · exact hrun

theorem committed_applyRootSelect (c : Cmd) (s : State) : committed (applyRootSelect c s) = committed s := by
  unfold applyRootSelect
  split
  · exact (committed_respond c _ _ _).trans (committed_rootSwitch .a _)
  · exact (committed_respond c _ _ _).trans (committed_rootSwitch .b _)
  · exact (committed_respond c _ _ _).trans (committed_preferRoot _)

theorem committed_applySetFrac (c : Cmd) (s : State) : committed (applySetFrac c s) = committed s := by
  unfold applySetFrac
  split
  · exact committed_respond c _ _ s
  · exact (committed_noted c _ _).trans (committed_applyWord _ _ s)

theorem committed_applyFreqOffset (c : Cmd) (s : State) : committed (applyFreqOffset c s) = committed s := by
  unfold applyFreqOffset
  split
  · exact committed_respond c _ _ s
  · exact (committed_noted c _ _).trans (committed_applyWord _ _ s)

theorem committed_applyMove (c : Cmd) (s : State) : committed (applyMove c s) = committed s := by
  unfold applyMove
  dsimp only
  split
  · exact (committed_respond c _ _ _).trans (committed_startMove _ _ _ _ s)
  · rfl

theorem committed_applyRelock (c : Cmd) (s : State) : committed (applyRelock c s) = committed s := by
  unfold applyRelock
  exact (committed_setPhase _ _ _).trans ((committed_modSyn _ _ _).trans (committed_startRelock _ _ _ s))

theorem committed_applySetTime (c : Cmd) (s : State) : committed (applySetTime c s) = committed s := by
  unfold applySetTime
  split
  · exact committed_spindleStep _ s
  · exact committed_respond c _ _ s

theorem committed_applyLeap (c : Cmd) (s : State) : committed (applyLeap c s) = committed s := by
  unfold applyLeap
  dsimp only
  refine (committed_respond c _ _ _).trans ?_
  split <;> rfl

theorem committed_applyRefSelect (c : Cmd) (s : State) : committed (applyRefSelect c s) = committed s := by
  have htk (t : State) (k : TkState) : committed { t with tk := k } = committed t := rfl
  unfold applyRefSelect
  dsimp only
  split
  · refine (committed_respond c _ _ _).trans ?_
    split
    · split
      · exact (committed_hitlessSwitch _ _).trans (htk s _)
      · exact htk s _
    · exact htk s _
  · refine (committed_respond c _ _ _).trans ((htk _ _).trans ?_)
    split
    · rfl
    · exact committed_hitlessSwitch _ s

theorem committed_applyRealign (c : Cmd) (s : State) : committed (applyRealign c s) = committed s := by
  have htk (t : State) (k : TkState) : committed { t with tk := k } = committed t := rfl
  unfold applyRealign
  dsimp only
  split
  · split
    · exact (committed_respond c _ _ _).trans ((htk _ _).trans (committed_groupMove _ _ _ _ s))
    · rfl
  · exact committed_respond c _ _ s

theorem committed_applyAdTrigger (c : Cmd) (s : State) : committed (applyAdTrigger c s) = committed s := by
  unfold applyAdTrigger
  dsimp only
  split
  · exact committed_respond c _ _ s
  · exact (committed_respond c _ _ _).trans (committed_adTrigger _ s)

theorem committed_applyAdClear (c : Cmd) (s : State) : committed (applyAdClear c s) = committed s := by
  unfold applyAdClear
  dsimp only
  refine (committed_respond c _ _ _).trans ?_
  split <;> rfl

theorem committed_applyDaLoad (c : Cmd) (s : State) : committed (applyDaLoad c s) = committed s := by
  have hone (b : Bool) (g : Nat) (t : State) : committed (if b then holdStrobe g t else t) = committed t := by
    split
    · exact committed_holdStrobe g t
    · rfl
  unfold applyDaLoad
  dsimp only
  split
  · rfl
  · exact (committed_respond c _ _ _).trans ((hone _ 1 _).trans (hone _ 0 s))

theorem committed_paramWrite {c : Cmd} {f : State → State} {s : State} (hf : committed (f s) = committed s) :
    committed (paramWrite c f s) = committed s := by
  unfold paramWrite
  split
  · exact (committed_noted c _ _).trans hf
  · rfl

theorem committed_applyHpEnable (c : Cmd) (s : State) : committed (applyHpEnable c s) = committed s :=
  (committed_enAnswer c _ _).trans (committed_hpAsk _ _ s)

theorem committed_applyForceSolo (c : Cmd) (s : State) : committed (applyForceSolo c s) = committed s := by
  unfold applyForceSolo
  split
  · exact committed_respond c _ _ s
  · exact (committed_respond c _ _ _).trans (committed_takeChuck 5 .solo none s)

theorem committed_applyHush (c : Cmd) (s : State) : committed (applyHush c s) = committed s := by
  have hpw (t : State) (w : PwState) (f : FpState → FpState) : committed (modFp f { t with pw := w }) = committed t := rfl
  unfold applyHush
  exact (committed_setPhase _ _ _).trans ((hpw _ _ _).trans (committed_inOrder rankHost s))

/-- No direct command changes the committed generation. -/
theorem committed_applyDirect (c : Cmd) (s : State) : committed (applyDirect c s) = committed s := by
  unfold applyDirect
  split
  case h_1 => exact committed_atFrame c s (committed_applyRootSelect c s)
  case h_2 => exact committed_atFrame c s (committed_applySetFrac c s)
  case h_3 => exact committed_atFrame c s (committed_applyFreqOffset c s)
  case h_4 => exact committed_atFrame c s (committed_applyMove c s)
  case h_5 => exact committed_atFrame c s (committed_applyMove c s)
  case h_6 => exact committed_atFrame c s ((committed_noted c _ _).trans (committed_modSyn _ _ s))
  case h_7 => exact committed_atFrame c s ((committed_noted c _ _).trans (committed_setSpread _ s))
  case h_8 => exact committed_atFrame c s (committed_applyRelock c s)
  case h_9 => exact committed_atFrame c s (committed_applySetTime c s)
  case h_10 => exact committed_atFrame c s (committed_applyLeap c s)
  case h_11 => exact committed_atFrame c s (committed_applyRefSelect c s)
  case h_12 => exact committed_atFrame c s (committed_applyRealign c s)
  case h_13 => exact committed_atFrame c s (committed_respond c _ _ _)
  case h_14 => exact committed_atFrame c s (committed_applyAdTrigger c s)
  case h_15 => exact committed_atFrame c s ((committed_noted c _ _).trans (committed_setDiag _ _ s))
  case h_16 => exact committed_atFrame c s ((committed_noted c _ _).trans (committed_micGain _ s))
  case h_17 => exact committed_atFrame c s (committed_applyAdClear c s)
  case h_18 => exact committed_atFrame c s (committed_noted c _ s)
  case h_19 => exact committed_atFrame c s (committed_applyDaLoad c s)
  case h_20 => exact committed_atFrame c s ((committed_noted c _ _).trans (committed_writeParam _ _ _ s))
  case h_21 => exact committed_atFrame c s ((committed_noted c _ _).trans (committed_writeTables _ s))
  case h_22 => exact committed_atFrame c s (committed_paramWrite (committed_writeParam _ _ _ s))
  case h_23 => exact committed_atFrame c s (committed_paramWrite (committed_writeRun _ _ _ s))
  case h_24 => exact committed_atFrame c s (committed_paramWrite (committed_writeTables _ s))
  case h_25 => exact committed_atFrame c s (committed_paramWrite (committed_writeTables _ s))
  case h_26 => exact committed_atFrame c s (committed_paramWrite (committed_writeTables _ s))
  case h_27 => exact committed_atFrame c s (committed_paramWrite (committed_writeTables _ s))
  case h_28 => exact committed_atFrame c s ((committed_noted c _ _).trans (committed_flowEnable _ s))
  case h_29 => exact committed_atFrame c s (committed_respond c _ _ s)
  case h_30 => exact committed_atFrame c s (committed_applyHpEnable c s)
  case h_31 => exact committed_atFrame c s ((committed_noted c _ _).trans (committed_writeTables _ s))
  case h_32 => exact committed_atFrame c s (committed_setPhase c.n .running (identStart (some c.n) s))
  case h_33 => exact committed_atFrame c s (committed_respond c _ _ _)
  case h_34 => exact committed_atFrame c s (committed_applyForceSolo c s)
  case h_35 => exact committed_atFrame c s (committed_respond c _ _ _)
  case h_36 => exact committed_atFrame c s (committed_respond c _ _ _)
  case h_37 => exact committed_atFrame c s (committed_applyHush c s)
  case h_38 => exact committed_atFrame c s (committed_domAsk _ _ c s)
  case h_39 => rfl

theorem gen_of_committed {s t : State} (h : committed t = committed s) : t.mb.gen = s.mb.gen ∧ t.mb.digest = s.mb.digest :=
  Prod.mk.inj h

end Sys2Proof.Proofs
end

section
/-! Direct writes of tables (R411, R12): the live tables take the write, and the pending ones what it changes where the
parameter exists there. -/
namespace Sys2Proof.Proofs
open Sys2Proof.Machine Sys2Proof.Laws

/-! ### What an answered write leaves -/

theorem pend_noted (c : Cmd) (s : State) : (respond c stDone [] (noteDirect c s)).mb.pend = s.mb.pend :=
  (mailKept_respond (.refl (noteDirect c s).mb) c stDone []).pend

/-- The pending commit with the tables that `f` makes of its own, where the parameter exists (R12). -/
def pendWritten (has : Rec → Bool) (f : Tables → Tables) (p : PendCommit) : PendCommit :=
  if pendHas has p then { p with tables := f p.tables } else p

/-- A direct command that writes `t` and is answered DONE: the tables of `t`, its pending commit, and the generation. -/
theorem direct_written {c : Cmd} {s t : State} (hrun : applyDirect c s = respond c stDone [] (noteDirect c t)) :
    (applyDirect c s).plant = t.plant ∧ (applyDirect c s).mb.pend = t.mb.pend ∧
      (applyDirect c s).mb.gen = s.mb.gen ∧ (applyDirect c s).mb.digest = s.mb.digest := by
  refine ⟨?_, ?_, gen_of_committed (committed_applyDirect c s)⟩
  · rw [hrun]; exact plant_respond_noted c stDone [] t
  · rw [hrun]; exact pend_noted c t

/-- The engines take a parameter write at once while they run (R293). -/
theorem paramWrite_running {s : State} (h : s.dataPlane = .running) (c : Cmd) (f : State → State) :
    paramWrite c f s = respond c stDone [] (noteDirect c (f s)) := if_pos h

theorem paramWrite_stopped {s : State} (h : s.dataPlane ≠ .running) (c : Cmd) (f : State → State) : paramWrite c f s = s :=
  if_neg h

/-! ### The words of the engines -/

/-- A run of words goes into the live tables whole. -/
theorem plant_writeRun (e w : Nat) (vs : List Nat) (s : State) :
    (writeRun e w vs s).plant = { s with live := putWords e w vs s.live }.plant :=
  plant_foldl _ _ _ fun _ _ => rfl

/-- One word goes into the tables of a pending DELTA commit. -/
theorem pend_writeRun_one {s : State} {p : PendCommit} (hpend : s.mb.pend = some p) (hfull : p.full = false) (e w v : Nat) :
    (writeRun e w [v] s).mb.pend = some { p with tables := putWords e w [v] p.tables } := by
  have hone : (writeRun e w [v] s).mb.pend = s.mb.pend.map (pendWritten (givesCoef e (w + 0)) (putWords e (w + 0) [v])) := rfl
  rw [hone, hpend]
  simp [pendWritten, pendHas, hfull]

/-- The words of an entry go to the place that the live tables give it. -/
theorem plant_writeEntry {p : Bytes} {at_ : Tables → Option Nat} {s : State} {w : Nat} (hat : at_ s.live = some w) (vs : List Nat) :
    (writeEntry p at_ vs s).plant = { s with live := putWords (u8 p 0) w vs s.live }.plant := by
  have hlive : (writeEntry p at_ vs s).live = putWords (u8 p 0) w vs s.live := by
    simp only [writeEntry, writeTables, writeParam, hat]
  rw [← hlive]
  rfl

/-- A pending DELTA commit takes them at its own entry. -/
theorem pend_writeEntry {p : Bytes} {at_ : Tables → Option Nat} {s : State} {q : PendCommit} {k : Nat}
    (hpend : s.mb.pend = some q) (hfull : q.full = false) (hat : at_ q.tables = some k) (vs : List Nat) :
    (writeEntry p at_ vs s).mb.pend = some { q with tables := putWords (u8 p 0) k vs q.tables } := by
  simp only [writeEntry, writeTables, writeParam, hpend, Option.map_some, pendHas, hfull, hat, Bool.not_false, Bool.true_or,
    if_true]

/-! ### Flows and microphone gains -/

theorem flowEnable_live (p : Bytes) (s : State) : (flowEnable p s).live = setFlowEn p s.live := by
  unfold flowEnable
  dsimp only
  split
  · rfl
  · split <;> rfl

theorem flowEnable_pend (p : Bytes) (s : State) : (flowEnable p s).mb.pend = s.mb.pend.map (pendWritten (fun _ => true) (setFlowEn p)) := by
  unfold flowEnable
  dsimp only
  split
  · rfl
  · split <;> rfl

/-- The tables with the microphone gain of one ADC. -/
def micSet (p : Bytes) (t : Tables) : Tables := { t with adc := tabMod {} t.adc (u8 p 0) (fun a => { a with mic := u8 p 1 }) }

theorem micGain_tables (p : Bytes) (s : State) : (micGain p s).live = micSet p s.live ∧
    (micGain p s).mb.pend = s.mb.pend.map (pendWritten (fun _ => true) (micSet p)) := ⟨rfl, rfl⟩

/-- Settles O45: each write is the live one and its copy, the answer keeps both, and no direct command reaches the
generation. -/
theorem directTableWrites : Obligations.DirectTableWrites := by
  unfold Obligations.DirectTableWrites
  refine ⟨?dp, ?coef, ?enables, ?gain, ?band, ?tap, ?atten, ?seg, ?zone, ?flow, ?mic, ?every, ?stopped⟩
  case dp =>
    intro s c hop hcheck hruns
    have hrun : applyDirect c s = applyXbDpSet c s := applyDirect_passed hop (fun _ _ => rfl) rfl hcheck
    exact direct_written (t := writeDp c.payload s) (hrun.trans (paramWrite_running hruns c _))
  case coef =>
    intro s c hop hcheck hruns
    have hrun : applyDirect c s = applyTeCoef c s := applyDirect_passed hop (fun _ _ => rfl) rfl hcheck
    obtain ⟨hplant, hpend, hgen⟩ := direct_written (t := writeCoef c.payload s) (hrun.trans (paramWrite_running hruns c _))
    refine ⟨hplant.trans (plant_writeRun _ _ _ s), fun p hp hfull hone => ?_, hgen⟩
    rw [hpend, writeCoef, hone]
    exact pend_writeRun_one hp hfull _ _ _
  case enables =>
    intro s c hop hcheck hruns
    have hrun : applyDirect c s = applyTeEnable c s := applyDirect_passed hop (fun _ _ => rfl) rfl hcheck
    exact direct_written (t := writeTables (putEnables c.payload) s) (hrun.trans (paramWrite_running hruns c _))
  case gain =>
    intro s c w hop hcheck hruns hat
    have hrun : applyDirect c s = applyTeGainDb c s := applyDirect_passed hop (fun _ _ => rfl) rfl hcheck
    obtain ⟨hplant, hpend, hgen⟩ := direct_written (t := writeGain c.payload s) (hrun.trans (paramWrite_running hruns c _))
    refine ⟨hplant.trans (plant_writeEntry ((if_pos rfl).trans hat) _), fun p k hp hfull hkat hkind => ?_, hgen⟩
    exact hpend.trans (pend_writeEntry hp hfull ((if_pos hkind).trans hkat) _)
  case band =>
    intro s c w hop hcheck hruns hat
    have hrun : applyDirect c s = applyTeEqBand c s := applyDirect_passed hop (fun _ _ => rfl) rfl hcheck
    obtain ⟨hplant, hpend, hgen⟩ := direct_written (t := writeBand c.payload s) (hrun.trans (paramWrite_running hruns c _))
    exact ⟨hplant.trans (plant_writeEntry hat _), fun p k hp hfull hkat => hpend.trans (pend_writeEntry hp hfull hkat _), hgen⟩
  case tap =>
    intro s c w hop hcheck hruns hat
    have hrun : applyDirect c s = applyTeDelaySet c s := applyDirect_passed hop (fun _ _ => rfl) rfl hcheck
    obtain ⟨hplant, hpend, hgen⟩ := direct_written (t := writeTap c.payload s) (hrun.trans (paramWrite_running hruns c _))
    exact ⟨hplant.trans (plant_writeEntry hat _), fun p k hp hfull hkat => hpend.trans (pend_writeEntry hp hfull hkat _), hgen⟩
  case atten =>
    intro s c hop hcheck
    have hrun : applyDirect c s = applyHpAttenSet c s := applyDirect_passed hop (fun _ _ => rfl) rfl hcheck
    exact direct_written (t := writeTables (fun t => { t with hp := { t.hp with atten := u8 c.payload 0 } }) s) hrun
  case seg =>
    intro s c hop hcheck
    have hrun : applyDirect c s = applyPsSegWrite c s := applyDirect_passed hop (fun _ _ => rfl) rfl hcheck
    exact direct_written (t := writeSeg c.payload s) hrun
  case zone =>
    intro s c hop hcheck
    have hrun : applyDirect c s = applyPsLtcZone c s := applyDirect_passed hop (fun _ _ => rfl) rfl hcheck
    exact direct_written (t := writeTables (setZone (u8 c.payload 0) (i16 c.payload 2)) s) hrun
  case flow =>
    intro s c hop hcheck
    have hrun : applyDirect c s = applyFlowEnable c s := applyDirect_passed hop (fun _ _ => rfl) rfl hcheck
    obtain ⟨hplant, hpend, hgen⟩ := direct_written (t := flowEnable c.payload s) hrun
    exact ⟨(live_of_plant hplant).trans (flowEnable_live c.payload s), hpend.trans (flowEnable_pend c.payload s), hgen⟩
  case mic =>
    intro s c hop hcheck
    have hrun : applyDirect c s = applyAdMicGain c s := applyDirect_passed hop (fun _ _ => rfl) rfl hcheck
    obtain ⟨hplant, hpend, hgen⟩ := direct_written (t := micGain c.payload s) hrun
    obtain ⟨hlive, hcopy⟩ := micGain_tables c.payload s
    exact ⟨(live_of_plant hplant).trans hlive, hpend.trans hcopy, hgen⟩
  case every =>
    intro s c _
    exact gen_of_committed (committed_applyDirect c s)
  case stopped =>
    intro s c hop hcheck hstopped
    simp only [List.contains_eq_mem, decide_eq_true_eq, List.mem_cons, List.not_mem_nil, or_false] at hop
    rcases hop with hop | hop | hop | hop | hop | hop
    · exact (applyDirect_passed (run := applyXbDpSet) hop (fun _ _ => rfl) rfl hcheck).trans (paramWrite_stopped hstopped c _)
    · exact (applyDirect_passed (run := applyTeCoef) hop (fun _ _ => rfl) rfl hcheck).trans (paramWrite_stopped hstopped c _)
    · exact (applyDirect_passed (run := applyTeEnable) hop (fun _ _ => rfl) rfl hcheck).trans (paramWrite_stopped hstopped c _)
    · exact (applyDirect_passed (run := applyTeGainDb) hop (fun _ _ => rfl) rfl hcheck).trans (paramWrite_stopped hstopped c _)
    · exact (applyDirect_passed (run := applyTeEqBand) hop (fun _ _ => rfl) rfl hcheck).trans (paramWrite_stopped hstopped c _)
    · exact (applyDirect_passed (run := applyTeDelaySet) hop (fun _ _ => rfl) rfl hcheck).trans (paramWrite_stopped hstopped c _)

end Sys2Proof.Proofs
end
